-- ==== Sys2Proof/Word.lean ====
section
/-! DEFINITION. The word types of the block and the plainest arithmetic on them. -/

namespace Sys2Proof

/-- A byte of an addressed memory. -/
abbrev Byte := BitVec 8

/-- A register word (R86: registers are 32 bits wide). -/
abbrev Word := BitVec 32

/-- A 64-byte line: commands, completions and descriptors are lines of bytes, lowest address first. -/
abbrev Bytes := List Byte

end Sys2Proof
end

