-- ==== Sys2Proof/Syntax.lean ====
section
/-! DEFINITION. The commands of the block: one constructor per row of spec/opcode_table.json, with the row's operands. -/

namespace Sys2Proof

/-- Who issues a register access: the master code of R85 and, for a command list, its queue (0 for other masters). -/
structure Writer where
  master : Nat
  qid : Nat
  deriving DecidableEq, Repr

/-- One write of a cycle to one register: its issuer, its width in bytes (4 or 8 are register accesses, R86) and its value. -/
structure RegWrite where
  by_ : Writer
  width : Nat
  value : Nat
  deriving DecidableEq, Repr

/-- A hardware update that meets the writes of a cycle: the field's lowest bit and the value; for a counter, the increment. -/
structure HwUpdate where
  lsb : Nat
  value : Nat
  deriving DecidableEq, Repr

/-- What an Announce message carries that best-master selection and the calendar use (R192, R217). -/
structure Announce where
  gm : Nat
  prio1 : Nat
  clockClass : Nat
  accuracy : Nat
  variance : Nat
  prio2 : Nat
  steps : Nat
  sender : Nat
  domain : Nat
  utcOffset : Nat
  utcValid : Bool
  leap61 : Bool
  leap59 : Bool
  deriving DecidableEq, Repr

/-- An FS packet of CSI-2: its unit and virtual channel, its frame number, what its header's ECC showed (0 right, 1 corrected, 2 lost), and
whether the unit's data and clock lanes have been seen in the stop state (R166, R225, R233). -/
structure FrameStart where
  unit : Nat
  vc : Nat
  number : Nat
  ecc : Nat
  stop : Bool
  deriving DecidableEq, Repr

/-- A CAN frame received without error: identifier in the header layout, format bits, DLC, payload, and how many ns ago its
SOF edge reached the ball. -/
structure CanFrame where
  id : Nat
  xtd : Bool
  rtr : Bool
  fdf : Bool
  brs : Bool
  esi : Bool
  dlc : Nat
  data : Bytes
  sofAgo : Nat
  deriving DecidableEq, Repr

/-- A data-ring packet at an observation point of a probe (R348, R316): `point` 0 INJECT, 1 EJECT, 2 TRANSIT_CW,
3 TRANSIT_CCW. -/
structure Packet where
  point : Nat
  typ : Nat
  rt : Bool
  oc : Nat
  spid : Nat
  dpid : Nat
  tag : Nat
  len : Nat
  clen : Nat
  tid : Nat
  status : Nat
  poison : Bool
  addr : Nat
  deriving DecidableEq, Repr

/-- The commands: operations and events that come to the block from outside. The docstring of each is its row. -/
inductive Instr where
  /-- VAON_LOSS: Loss of VAON clears every stored class, the AON queue and WAKE_CAUSE, and the next start is a COLD with AONLOSS set. (R12) -/
  | vaonLoss
  /-- PRESENCE_QUALIFIED: PRSNT_N has been low for 20 ms with EJECT_N high, so the AON island drives PEN_MEM high. (R165) -/
  | presenceQualified
  /-- PGOOD_MEM_RISE: PGOOD_MEM rises and the AON island drives PEN_MAIN high. (R130) -/
  | pgoodMemRise
  /-- PGOOD_MAIN_RISE: PGOOD_MAIN rises, which starts the 2 ms hold before islands are released. (R130) -/
  | pgoodMainRise
  /-- PG_TIMEOUT: A power-good does not rise within PG_TIMEOUT, so both enables drop and the attempt is counted; after three attempts PG_FAIL is set. (R131) -/
  | pgTimeout
  /-- PG_RETRY: The 100 ms wait after a failed power-good ends and power-up is tried again. (R131) -/
  | pgRetry
  /-- PGOOD_MAIN_FALL: PGOOD_MAIN falls in RUN or DOZE: PEN_MAIN drops, outputs go safe, and the AON island waits 100 ms and powers up again. (R133) -/
  | pgoodMainFall
  /-- PGOOD_MEM_FALL: PGOOD_MEM falls in RUN or DOZE: both enables drop, outputs go safe, and a COLD power-up follows. (R134) -/
  | pgoodMemFall
  /-- COLD_RESET: The islands are released 2 ms after PGOOD_MAIN, which is a COLD reset with straps sampled. (R130) -/
  | coldReset (mode chip : Nat) (hostlink test : Bool)
  /-- PIN_RESET: RESET_N low is accepted after 10 µs and a PIN reset begins with outputs safe. (R782) -/
  | pinReset
  /-- RESET_RELEASE: The reset hold time ends, the straps are sampled where due, and the islands are released to the boot ROM. (R135) -/
  | resetRelease (mode chip : Nat) (hostlink test : Bool)
  /-- SYS_RESET: GLB_CTL.SYSRST written with KEY 0xA5 requests a SYS reset. (R135) -/
  | sysReset (w : Writer) (v : Nat)
  /-- WDG_RESET: The Steward watchdog expires and a WDG reset is performed. (R135) -/
  | wdgReset
  /-- ISL_RESET: RST_ISL.GO with KEY 0x5A resets one island, or is DENIED for AON, Steward, Safety or a missing island. (R137) -/
  | islReset (w : Writer) (v : Nat)
  /-- ISL_REAPPLY_DONE: The Steward finishes re-applying the island's REAPPLY records and RST_ISL.BUSY clears. (R138) -/
  | islReapplyDone
  /-- LNK_RESET: Hot reset, FLR, PERST# assertion or surprise down clears class L and V fields of the PCIe block and discards unforwarded host accesses. (R727) -/
  | lnkReset (kind : Nat)
  /-- SLOT_SELECTION: The boot ROM reads state sectors and headers, orders candidates by GEN, clears a TRIES bit and starts an attempt. (R59) -/
  | slotSelection (a b : Bool)
  /-- FLASH_READ_TIMEOUT: A flash read is not answered within 100 µs and is retried, and after three retries the slot fails with code 0x0E. (R56) -/
  | flashReadTimeout (a : Nat := 0)
  /-- PREFIX_VERIFIED: The prefix read completes and PSIG and the FW signature are checked before PLAT is applied. (R58) -/
  | prefixVerified (trained : Bool)
  /-- IMAGE_VERIFIED: The remainder has streamed and the image signature is checked; on failure the slot is rejected and the next candidate is tried. (R58) -/
  | imageVerified
  /-- REG_POLL_TIMEOUT: A REG poll entry is not satisfied within 1 ms and the image fails with code 0x0F. (R53) -/
  | regPollTimeout
  /-- SEAL: Apply completes: PAGE_OWN is written from the OWN record, RWL fields lock and SEALED is set. (R70) -/
  | sealBoot
  /-- HOSTGO: BOOT_CTL.HOSTGO releases the host hold or starts a host-delivered image. (R66) -/
  | hostgo (w : Writer) (master : Bool)
  /-- CONFIRM: BOOT_CTL.CONFIRM confirms the trial image, raising the OTP counter first where due. (R60) -/
  | confirm (w : Writer)
  /-- AUTO_CONFIRM: CONFIRM_CYCLES clean major cycles pass with CONFIRM_AUTO set and the trial image is confirmed. (R60) -/
  | autoConfirm
  /-- RETRY: BOOT_CTL.RETRY in RECOVERY re-runs slot selection. (R69) -/
  | retry (w : Writer)
  /-- PTP_GATE_TIMEOUT: PTP_WAIT_MS expires before lock, so the first rotation starts in holdover. (R67) -/
  | ptpGateTimeout
  /-- EXTP_GO: EXTP_CTL.GO starts the hash of an external payload region. (R77) -/
  | extpGo (w : Writer) (v : Nat)
  /-- EXTP_HASH_DONE: The payload hash ends: it becomes visible atomically on a match, or stays invisible and counts FAILED. (R78) -/
  | extpHashDone
  /-- REGISTER_WRITE: A register write with no row of its own is checked for width and ownership, then applied under precedence and Collide class. (R98) -/
  | registerWrite (a : Nat) (l : List RegWrite) (hw : List HwUpdate) (rst : Option Nat := none)
  /-- PAIR_LO_READ: A read of a _LO register latches _HI into the reading master's shadow. (R88) -/
  | pairLoRead (w : Writer) (a : Nat) (width : Nat := 4) (l : List RegWrite := [])
  /-- REFCLK_GATE_END: A 1 ms monitor gate ends and the REFCLK monitor state advances on the count. (R123) -/
  | refclkGateEnd (count : Nat) (stop : Bool)
  /-- REFCLK_GLITCH: A short REFCLK phase is detected, counted, and moves the monitor to LOST on a second glitch. (R122) -/
  | refclkGlitch
  /-- REFCLK_STOP: No REFCLK rising edge arrives for 120 ns and the monitor enters LOST. (R122) -/
  | refclkStop
  /-- LOST_CUTOFF: A command still running 500 µs after LOST is cut off and completes ABORTED. (R125) -/
  | lostCutoff
  /-- XTAL_FAIL: The AON crystal gives no edge for 2 ms, so the RTC runs from the RC oscillator. (R115) -/
  | xtalFail
  /-- XTAL_RESTORE: After 1 s of continuous crystal edges the RTC returns to the crystal. (R115) -/
  | xtalRestore
  /-- BOSC_TRIM: Once a second the AON island trims BOSC against the crystal. (R116) -/
  | boscTrim (trim : Nat)
  /-- ISLAND_CLOCK_FAULT: A PLL loses lock while REFCLK is VALID: the island stops, its commands complete ABORTED and its node fences it. (R120) -/
  | islandClockFault (k : Nat)
  /-- DVFS_SWITCH: The idle PLL has locked and the island switches frequency at a command boundary. (R118) -/
  | dvfsSwitch (k : Nat)
  /-- RUN_REQUEST: PWR_CTL.REQ = RUN asks to leave DOZE. (R141) -/
  | runRequest (w : Writer)
  /-- DOZE_REQUEST: PWR_CTL.REQ = DOZE is accepted if DOZE_OK is set, or completes BUSY. (R141) -/
  | dozeRequest (w : Writer)
  /-- FOLD_REQUEST: PWR_CTL.REQ = FOLD is accepted only with FOLD_OK set and the link in L2 or absent. (R148) -/
  | foldRequest (w : Writer)
  /-- OFF_REQUEST: PWR_CTL.REQ = OFF is accepted if OFF_OK is set. (R141) -/
  | offRequest (w : Writer)
  /-- POWER_TRANSITION: At the next major-cycle boundary after a granted request, the idle reaction is applied, outputs disarm and entry begins. (R143) -/
  | powerTransition
  /-- FOLD_SNAPSHOT_COMMIT: Step F4 writes the CRC and commit word, then DRAM enters self-refresh and PEN_MAIN drops. (R150) -/
  | foldSnapshotCommit
  /-- WAKE_LATCH: An enabled wake source is latched into WAKE_CAUSE and starts the exit, or is recorded in WAKE_LATE. (R157) -/
  | wakeLatch (l : List Nat)
  /-- DOZE_EXIT: Gated islands power up, leave retention and run, and PWR_STATE reads RUN. (R147) -/
  | dozeExit (us : Nat)
  /-- FOLD_EXIT: After REFCLK qualifies, PLLs lock, DRAM retrains and the snapshot is checked and restored. (R153) -/
  | foldExit (us : Nat) (good : Bool)
  /-- EJECT_ACCEPT: EJECT_N is accepted low and the eject drain starts. (R167) -/
  | ejectAccept
  /-- DRAINED: The drain steps finish: transmitters idle, STATE reads DRAINED and the drain time is written. (R167) -/
  | drained (us : Nat)
  /-- EJECT_RELEASE: EJECT_N is accepted high, which lets a held start go on to strap sampling. (R170) -/
  | ejectRelease
  /-- SURPRISE_REMOVAL: PRSNT_N rises outside DRAINING or DRAINED, so STATE reads SURPRISE and the drain runs from D2. (R173) -/
  | surpriseRemoval
  /-- STREAM_IDLE_RELEASE: A stream slot gets no frame for IDLE_MS and is released with its buffers. (R174) -/
  | streamIdleRelease (n : Nat)
  /-- CAN_PEER_AGEOUT: A CAN peer is not seen for AGE_MS and its entry is released. (R174) -/
  | canPeerAgeout (n id : Nat) (xtd : Bool)
  /-- PTP_FOREIGN_AGEOUT: A foreign master is not heard for 4 announce intervals and its entry is removed. (R174) -/
  | ptpForeignAgeout (n sender : Nat)
  /-- PDELAY_NEIGHBOUR_LOSS: The peer-delay neighbour misses 3 responses and its entry is released. (R174) -/
  | pdelayNeighbourLoss (n : Nat)
  /-- TIME_STEP: TK_STEP_CTL.GO steps device time, or defers the step inside the gap. (R187) -/
  | timeStep (w : Writer)
  /-- DEFERRED_STEP: The step gap ends and a deferred step is applied. (R184) -/
  | deferredStep
  /-- PTP_SYNC: The servo computes the offset from a Sync and slews, steps or changes state. (R185) -/
  | ptpSync (n origin : Nat) (corr : Int) (ago : Nat)
  /-- SYNC_LOSS: No Sync arrives for 3 intervals and the servo enters HOLDOVER. (R188) -/
  | syncLoss
  /-- PTP_ANNOUNCE: An Announce updates best-master selection and the foreign-master table. (R192) -/
  | ptpAnnounce (n : Nat) (a : Announce)
  /-- PTP_PDELAY_RESP: A Pdelay_Resp updates the peer-delay neighbour and the link delay. (R174) -/
  | ptpPdelayResp (n sender round turn : Nat)
  /-- TXTS_NS_READ: A read of TXTS_NS returns the oldest TX stamp and removes it. (R197) -/
  | txtsNsRead (w : Writer) (n : Nat)
  /-- TK_TIME_READ: A read of TK_TIME_NS latches the SEC and FRAC words for the reading master. (R88) -/
  | tkTimeRead (w : Writer)
  /-- TOUT_ARM: TOUT_CTL.ARM commits the staging registers and starts the mode, or sets BADCFG or LATE. (R201) -/
  | toutArm (w : Writer) (n v : Nat)
  /-- TOUT_EDGE: A timed output's scheduled edge falls due; the pulse is produced and stamped, and it counts as a camera trigger. (R204) -/
  | toutEdge (n : Nat)
  /-- TCAP_EDGE: A filtered capture edge is stamped into the FIFO, or is lost and OVF is set. (R206) -/
  | tcapEdge (n : Nat) (rising : Bool) (ago : Nat)
  /-- TCAP_NS_READ: A read of TCAP_NS returns the oldest capture and removes it. (R207) -/
  | tcapNsRead (w : Writer) (n : Nat)
  /-- LAUNCH_GRID_ARM: LG_CTL.EN arms a launch grid and its instants are computed onto MONO. (R210) -/
  | launchGridArm (w : Writer) (g v : Nat)
  /-- LAUNCH_INSTANT: A launch-table entry's instant arrives and its frame is released to its controller, subject to the guard. (R211) -/
  | launchInstant
  /-- LEAP_SCHEDULE: A CAL_LEAP write with PENDING set is accepted or rejected with INVALID. (R216) -/
  | leapSchedule (w : Writer) (v : Nat)
  /-- LEAP_SECOND: At the end of the leap second, CAL_OFFSET changes and PENDING clears. (R215) -/
  | leapSecond
  /-- CAL_SET: CAL_CTL.SET checks the date, then steps time, or sets INVALID or BLOCKED. (R220) -/
  | calSet (w : Writer) (v : Nat)
  /-- CAL_DATE_READ: A read of CAL_DATE latches CAL_TIME for the reading master. (R221) -/
  | calDateRead (w : Writer)
  /-- RTC_REALIGN: At each second boundary of device time in LOCKED, the AON real-time clock is realigned. (R222) -/
  | rtcRealign
  /-- AON_ALARM: The RTC reaches AON_ALARM: FIRED is set and wake source 0 is latched. (R223) -/
  | aonAlarm
  /-- FRAME_START: A CSI-2 FS is checked, a buffer is allocated, the frame is stamped and triggers are matched. (R233) -/
  | frameStart (u v fn ecc : Nat) (stop : Bool := true) (more : List FrameStart := [])
  /-- LINE_PACKET: A long packet is written to the frame, prepared, and checked for length and CRC. (R234) -/
  | linePacket (u v dt ecc : Nat) (crcOk : Bool) (data : Bytes)
  /-- FRAME_END: An FE is stamped; sentinels are checked, statistics written and caching begun. (R235) -/
  | frameEnd (u v ecc : Nat) (bad1 bad2 : Bool)
  /-- LINE_TIMEOUT: No packet arrives for LINE_TO_US, so the open frame is truncated. (R227) -/
  | lineTimeout (u v : Nat)
  /-- CLOCK_LANE_LOSS: The continuous clock lane leaves HS for more than 1 µs and the open frame is truncated. (R227) -/
  | clockLaneLoss (u : Nat)
  /-- GVSP_LEADER: A matching GVSP leader is checked, allocated a buffer and stamped as frame start. (R233) -/
  | gvspLeader
  /-- GVSP_PAYLOAD: A GVSP payload packet is placed by packet ID, or counted unmatched. (R230) -/
  | gvspPayload (bad1 bad2 : Bool := false)
  /-- GVSP_TRAILER: A GVSP trailer stamps the frame end and closes the block. (R235) -/
  | gvspTrailer (bad1 bad2 : Bool := false)
  /-- GVSP_BLOCK_TIMEOUT: A packet is still missing WAIT_US after the trailer and the block is INCOMPLETE. (R231) -/
  | gvspBlockTimeout (n : Nat)
  /-- JPEG_DECODE_DONE: A JPEG payload finishes decoding, or is dropped with DECERR. (R244) -/
  | jpegDecodeDone (n : Nat) (bad1 bad2 : Bool := false)
  /-- SAMPLE_READY: The prepared tensor and descriptor are written and the sample enters its batch group queue. (R247) -/
  | sampleReady (l : List Nat)
  /-- SAMPLE_STALE: A queued sample exceeds STALE_MS and is released STALE, and the ND counter advances. (R253) -/
  | sampleStale (n : Nat)
  /-- REPLAY_GO: REPLAY_CTL.GO queues a replay of a cached SID, or is refused. (R259) -/
  | replayGo (w : Writer) (v : Nat)
  /-- REPLAY_READY: A replay is decoded and prepared and its descriptor is queued, or EVICTED is reported. (R259) -/
  | replayReady
  /-- CCI_GO: SCRIPT_CTL.GO starts a group-hold CCI transaction. (R266) -/
  | cciGo (w : Writer) (n v : Nat)
  /-- CCI_COMMIT: The release write ends, EXPGEN and AE_ECUR are committed, or CCI_FAIL is set. (R268) -/
  | cciCommit (b : Nat) (fails : List (List Bool)) (release : List Bool)
  /-- AUTO_EXPOSURE: A qualifying statistics record computes E_NEW and starts a transaction. (R273) -/
  | autoExposure (n : Nat)
  /-- MC_READ: A controller checks windows and inline ECC on a read and corrects, poisons or answers. (R293) -/
  | mcRead (p oc tid addr n : Nat) (rt : Bool) (dead : List Nat) (errs : List (Nat × Nat))
  /-- MC_WRITE: A controller checks windows and writes a unit with a fresh code, merging a partial write. (R294) -/
  | mcWrite (p oc tid addr : Nat) (b : Bytes) (rt : Bool) (dead : List Nat) (errs : List (Nat × Nat))
  /-- REFRESH: Per-bank refresh falls due at the MR4 rate; HOT is reported at 85 °C or above. (R296) -/
  | refresh (c : Nat) (hot : Bool)
  /-- REFRESH_SHADOW: A refresh shadow runs ZQ, tracking and all-bank refresh, and may request retraining. (R297) -/
  | refreshShadow (m drift : Nat) (beyond : Bool) (c : Nat := 0)
  /-- MC_RETRAIN_REQ: MC_RETRAIN_CTL.REQ requests a full retraining in the next MAINT slot. (R298) -/
  | mcRetrainReq (w : Writer) (m v : Nat)
  /-- RETRAIN_TIMEOUT: No MAINT slot takes a retraining within two major cycles; it completes BUSY and is logged. (R298) -/
  | retrainTimeout (m : Nat)
  /-- PATROL_SCRUB: The patrol reads a unit and treats it as a read. (R299) -/
  | patrolScrub (m kind : Nat)
  /-- LINK_REPLAY: A failed link check asks for a replay of the beat. (R319) -/
  | linkReplay (n ring : Nat) (good : Bool)
  /-- FABRIC_TIMEOUT: A request timer expires: TIMEOUT is synthesised, the tag is quarantined and a TONOTE is sent. (R334) -/
  | fabricTimeout (p tag : Nat)
  /-- TONOTE: A TONOTE reaches the target node and advances CONSEC. (R338) -/
  | tonote
  /-- FENCE_SET: A write of FAB_FENCE_SET fences a target. (R338) -/
  | fenceSet (w : Writer) (k v : Nat)
  /-- FENCE_LIFT: A write of 1 to FAB_FENCE lifts a fence. (R341) -/
  | fenceLift (w : Writer) (k v : Nat)
  /-- FABRIC_RESPONSE: A response is delivered in stream order, or discarded under quarantine, or absorbed by a fence. (R336) -/
  | fabricResponse (p tag tgt : Nat) (fromTarget : Bool)
  /-- SYNC_REQUEST: A SYNC request completes with SYNCACK once earlier requests are answered. (R328) -/
  | syncRequest (p tgt oc : Nat) (typ : Nat := 4)
  /-- PROBE_OBSERVE: A packet passes a probe point; matching filters count it and may trace it. (R349) -/
  | probeObserve (n flits : Nat) (l : List Packet)
  /-- WINDOW_TICK: A sampling window tick swaps the live and readable banks and advances WIN_SEQ. (R352) -/
  | windowTick
  /-- PRB_CLEAR: PRB_CTL.CLEAR clears every counter and FROZEN. (R353) -/
  | prbClear (w : Writer) (ticked : Bool)
  /-- TRACE_SYNC: MONO[31] changes and a probe emits a SYNC record. (R361) -/
  | traceSync
  /-- TRACE_LOSS: The FIFO has room again after losses; a LOSS and a SYNC record are emitted. (R361) -/
  | traceLoss (n : Nat)
  /-- BIND: Q_CTL.BIND checks and binds a queue, or records BIND_ERR. (R369) -/
  | bind (w : Writer) (q : Nat)
  /-- UNBIND: Q_CTL.UNBIND stops dispatch, aborts commands in flight and unbinds the queue. (R372) -/
  | unbind (w : Writer) (q : Nat)
  /-- RESUME: Q_CTL.RESUME moves a STOPPED queue to ACTIVE. (R378) -/
  | resume (w : Writer) (q : Nat)
  /-- SQ_DB: The submission doorbell advances TAIL, or the sum is discarded with DBOVF. (R373) -/
  | sqDb (q : Nat) (l : List (Writer × Nat))
  /-- CQ_DB: The completion doorbell advances CQ_HEAD, or the sum is discarded. (R374) -/
  | cqDb (q : Nat) (l : List (Writer × Nat))
  /-- FETCH_ERROR: A command fetch answered ECC, FENCED or TIMEOUT writes a FETCHERR completion and stops the queue. (R391) -/
  | fetchError (q : Nat)
  /-- COMMAND_COMPLETE: A command finishes; its completion is written in order, ledgers merge and interrupts are evaluated. (R384) -/
  | commandComplete (q : Nat)
  /-- IRQ_TIMER: IRQ_TIME_US elapses since the oldest unsignalled eligible completion and the vector is raised. (R394) -/
  | irqTimer (q : Nat)
  /-- NOP: NOP completes OK at once. (R381) -/
  | nop (q : Nat)
  /-- REGWR: REGWR writes a register, read-modify-write under a mask. (R381) -/
  | regwr (q : Nat)
  /-- REGRD: REGRD reads a register into AUX. (R381) -/
  | regrd (q : Nat)
  /-- REGPOLL: REGPOLL waits until the masked register equals VALUE. (R381) -/
  | regpoll (q : Nat)
  /-- REGPOLL_TIMEOUT: REGPOLL reaches TO_US and completes BUSY. (R381) -/
  | regpollTimeout (q : Nat)
  /-- SIGNAL: SIGNAL advances an event and merges the carried ledger into it, satisfying waits. (R387) -/
  | signalEvent (q : Nat)
  /-- WAIT: WAIT blocks the queue until the event value reaches TARGET. (R388) -/
  | waitEvent (q : Nat)
  /-- WAIT_TIMEOUT: A WAIT's TO_US expires unsatisfied and it completes BUSY. (R388) -/
  | waitTimeout (q : Nat)
  /-- EVSET: EVSET sets an event's value and empties its ledger and reference. (R381) -/
  | evset (q : Nat)
  /-- MAJOR_BOUNDARY: A major-cycle boundary passes and clean cycles are counted. (R404) -/
  | majorBoundary (check : Nat)
  /-- ROTATION_START: The rotation is started, its first boundary computed and armed chains cleared. (R405) -/
  | rotationStart
  /-- FIXED_CLAIM_START: A FIXED entry claims its columns and announces its queue. (R402) -/
  | fixedClaimStart (e : Nat)
  /-- HEAD_FIRE: A HEAD at its START fires if samples wait and its group is free, arming chains and announcing, or counts SKIP. (R406) -/
  | headFire (e : Nat)
  /-- CHAIN_CLAIM_START: An armed CHAIN claims its columns and announces its queue. (R402) -/
  | chainClaimStart (e : Nat)
  /-- MAINT_CLAIM_START: A MAINT claim begins and takes pending maintenance requests that fit. (R431) -/
  | maintClaimStart (e : Nat)
  /-- CLAIM_END: A claim ends, or is held until its running commands complete. (R411) -/
  | claimEnd (e : Nat)
  /-- SERVING_DISPATCH: A free column is given to the chosen serving queue or flock. (R414) -/
  | servingDispatch (c : Nat)
  /-- SERVING_OVERRUN: A serving command passes its validated duration and SRV_OVERRUN is raised. (R412) -/
  | servingOverrun (c : Nat)
  /-- FLOCK_STEP_START: An engine step of a flock selects sequences and writes its batch descriptor. (R418) -/
  | flockStepStart (f c : Nat)
  /-- FLOCK_STEP_END: The last step-list command completes and the sequences advance or leave. (R421) -/
  | flockStepEnd (c : Nat)
  /-- FLOCK_ADMIT_TIMEOUT: A RELAXED sequence QUEUED for ADMIT_MS is refused with BUSY. (R425) -/
  | flockAdmitTimeout (i : Nat)
  /-- MAINT_EXPIRY: A maintenance request untaken for 2 × MAJOR completes BUSY, or is forced. (R431) -/
  | maintExpiry (q : Nat)
  /-- FORCED_RUN: The forced column drains and the request runs. (R618) -/
  | forcedRun (q : Nat)
  /-- GEMM: GEMM computes an integer or BF16 matrix product with requantisation. (R453) -/
  | gemm (q c : Nat)
  /-- CONV: CONV computes a convolution as an implicit GEMM. (R456) -/
  | conv (q c : Nat)
  /-- REQ: REQ requantises a stored accumulator tensor. (R457) -/
  | req (q c : Nat)
  /-- COPY: COPY moves rows between layouts, decoding coded sources. (R458) -/
  | copy (q c : Nat)
  /-- FILL: FILL writes a repeated pattern. (R459) -/
  | fill (q c : Nat)
  /-- SIGCHK: SIGCHK compares a CRC with SENT_SP3_SIG and raises SENT_SP3 on mismatch. (R460) -/
  | sigchk (q c : Nat)
  /-- PASTURE_SCRUB: The patrol scrub reads and corrects pasture words in idle cycles. (R446) -/
  | pastureScrub (e : Nat) (errs : List (Nat × Bool)) (pass : Bool)
  /-- ACT: ACT evaluates a function element by element. (R471) -/
  | act (q c : Nat)
  /-- GLU: GLU computes f(g) × u. (R482) -/
  | glu (q c : Nat)
  /-- ROWSTAT: ROWSTAT writes the maximum, sum and sum of squares per row. (R484) -/
  | rowstat (q c : Nat)
  /-- LNORM: LNORM applies layer normalisation per row. (R486) -/
  | lnorm (q c : Nat)
  /-- RMSNORM: RMSNORM applies RMS normalisation per row. (R485) -/
  | rmsnorm (q c : Nat)
  /-- SOFTMAX: SOFTMAX computes the soft maximum per row. (R487) -/
  | softmax (q c : Nat)
  /-- ATTN: ATTN computes attention over paged key-value cache, fused, staged or SELECT. (R508) -/
  | attn (q c : Nat)
  /-- KVAPPEND: KVAPPEND stores keys and values and writes index entries of full pages. (R502) -/
  | kvappend (q c : Nat)
  /-- KVTOK: KVTOK gathers or scatters token identifiers for a flock step. (R519) -/
  | kvtok (q c : Nat)
  /-- FLOCKREQ: FLOCKREQ takes a sequence entry and queues the sequence in its flock. (R515) -/
  | flockreq (q : Nat)
  /-- VRESIZE: VRESIZE crops and resizes an image. (R534) -/
  | vresize (q c : Nat)
  /-- VFILT: VFILT applies an integer filter. (R534) -/
  | vfilt (q c : Nat)
  /-- VSTEREO: VSTEREO computes a SAD disparity map. (R534) -/
  | vstereo (q c : Nat)
  /-- VPCLOUD: VPCLOUD converts disparities to transformed points. (R535) -/
  | vpcloud (q c : Nat)
  /-- VBOXFIT: VBOXFIT fits a minimum-area box by angle sweep. (R537) -/
  | vboxfit (q c : Nat)
  /-- VBOXPCA: VBOXPCA fits a box on principal axes. (R538) -/
  | vboxpca (q c : Nat)
  /-- VNMS: VNMS suppresses overlapping boxes. (R539) -/
  | vnms (q c : Nat)
  /-- VSORT: VSORT sorts records stably. (R539) -/
  | vsort (q c : Nat)
  /-- VTOPK: VTOPK writes the first K records of the stable order. (R539) -/
  | vtopk (q c : Nat)
  /-- VARGMAX: VARGMAX writes the top two values and index per row. (R539) -/
  | vargmax (q c : Nat)
  /-- VIK: VIK solves inverse kinematics with flags and residual. (R540) -/
  | vik (q c : Nat)
  /-- VJERK: VJERK generates jerk-limited motion profiles. (R540) -/
  | vjerk (q c : Nat)
  /-- VMATMUL: VMATMUL computes a BF16 matrix product by sequential FMA. (R542) -/
  | vmatmul (q c : Nat)
  /-- VACT: VACT evaluates a function in shared mode. (R542) -/
  | vact (q c : Nat)
  /-- CLUSTER_SCRUB: The patrol scrub reads and corrects cluster memory words. (R527) -/
  | clusterScrub (v : Nat) (errs : List (Nat × Bool)) (pass : Bool)
  /-- INDEX_CHECK: A LOADED slot is checked, made VALID and copied into table memory, or its ERR is set. (R548) -/
  | indexCheck (x : Nat)
  /-- GL_LOAD: GL_LOAD.GO starts a reload of an inactive slot with signature and generation checks. (R549) -/
  | glLoad (w : Writer) (v : Nat)
  /-- GL_SWAP: GL_SWAP.GO makes a VALID slot active, or sets REFUSED. (R551) -/
  | glSwap (w : Writer) (v : Nat)
  /-- GSEARCH: GSEARCH runs an IVF-PQ nearest-vector search. (R555) -/
  | gsearch (q : Nat)
  /-- GSEARCH_DEADLINE: DEADLINE_US passes, so no further list starts, and cut queries set DCUT and advance ND. (R560) -/
  | gsearchDeadline (q : Nat) (scanned : List Nat)
  /-- DCOMPARE: DCOMPARE checks both decision records and releases the template or applies the safe reaction. (R574) -/
  | dcompare (q : Nat)
  /-- DSAFE: DSAFE applies an actuator's safe reaction. (R585) -/
  | dsafe (q : Nat)
  /-- FAULT_REPORT: A fault reaches the collector and the reaction of its level is applied. (R592) -/
  | faultReport (l : List (Nat × Nat))
  /-- SF_FLT_CLR: SF_FLT_CLR with KEY 0xC3 clears a level-3 latch. (R593) -/
  | sfFltClr (w : Writer) (clr key : Nat)
  /-- SAFE_TOGGLE: Every HALF_US while ARMED, SAFE_A and SAFE_B toggle in anti-phase. (R586) -/
  | safeToggle
  /-- SAFE_OUTPUT_READBACK: Every 1 µs the safe output balls are read back, and SAFEOUT_FB is raised after 4 mismatches. (R588) -/
  | safeOutputReadback (a b m : Bool)
  /-- START_LATE: No command of an instance has started by START_MAX_US. (R602) -/
  | startLate (q : Nat)
  /-- END_LATE: An instance has not closed by END_MAX_US. (R602) -/
  | endLate (q : Nat)
  /-- BUDGET: An instance's busy time exceeds BUDGET_US. (R602) -/
  | budget (q : Nat)
  /-- HEARTBEAT: A write to SHP_HB records a heartbeat, checking HB_EARLY and FLOW. (R606) -/
  | heartbeat (w : Writer) (v : Nat)
  /-- HB_LATE: No heartbeat arrives within HB_MAX_US. (R607) -/
  | hbLate (q : Nat)
  /-- LBIST: LBIST requests a logic self-test of a column. (R612) -/
  | lbist (q : Nat)
  /-- MBIST: MBIST requests a transparent memory test of granules. (R612) -/
  | mbist (q : Nat)
  /-- RETRAIN: RETRAIN requests a full retraining of a controller. (R612) -/
  | retrain (q : Nat)
  /-- MAINT_REQUEST_DONE: A maintenance request finishes and MNT_RESULT is written. (R614) -/
  | maintRequestDone (req : Nat) (pass : Bool) (granule : Nat)
  /-- INJECT_RAISE: SHP_INJ of KIND RAISE raises a chosen code as a real fault. (R621) -/
  | injectRaise (w : Writer) (v : Nat)
  /-- INJECT_TASK: SHP_INJ of KIND TASK makes the next instance judged with zero limits. (R621) -/
  | injectTask (w : Writer) (v : Nat)
  /-- BARRIER_POINT: A device reaches the barrier point and releases SYNC_OUT or waits. (R638) -/
  | barrierPoint
  /-- BELLWETHER_RELEASE: SYNC_IN is high for 8 cycles and the bellwether drives the release. (R639) -/
  | bellwetherRelease
  /-- FOLLOWER_RELEASE: A follower receives a release pulse and forms its release instant. (R640) -/
  | followerRelease (ago : Nat)
  /-- BARRIER_TIMEOUT: WAIT_MS elapses, so the device starts ALONE or holds. (R643) -/
  | barrierTimeout
  /-- MSYNC_RETRY: MSYNC_CTL.RETRY re-enters the barrier. (R643) -/
  | msyncRetry (w : Writer) (v : Nat)
  /-- MARKER_SEND: The bellwether drives a boundary marker. (R644) -/
  | markerSend
  /-- MARKER_RECEIVE: A follower measures marker skew and flags SKEW. (R644) -/
  | markerReceive (ago : Nat)
  /-- MARKER_MISS: An expected marker does not arrive and MISS is set. (R644) -/
  | markerMiss
  /-- CAN_RECEIVE: A received frame is filtered and stored, queued in the FIFO, or discarded, and peers are refreshed. (R654) -/
  | canReceive (n : Nat) (f : CanFrame)
  /-- CAN_SHADOW_GO: CAN_SHD_CTL.GO copies an object to the master's shadow. (R660) -/
  | canShadowGo (w : Writer) (n o : Nat)
  /-- CAN_SHADOW_POP: CAN_SHD_CTL.POP copies and removes the oldest FIFO entry. (R660) -/
  | canShadowPop (w : Writer) (n : Nat)
  /-- CANTX: CANTX writes an object and requests transmission at once or at a launch time. (R664) -/
  | cantx (q : Nat)
  /-- CANRD: CANRD copies received objects or FIFO entries to memory. (R669) -/
  | canrd (q : Nat)
  /-- CAN_TX_ATTEMPT: A controller may start a frame and picks the highest-ranked ready request. (R666) -/
  | canTxAttempt (n : Nat)
  /-- CAN_TX_DONE: A transmission reaches end of EOF without error and its CANTX completes. (R667) -/
  | canTxDone (n : Nat)
  /-- CAN_TX_ERROR: Lost arbitration or an error leads to a retry and error counting. (R667) -/
  | canTxError (n : Nat) (arb : Bool) (kind : Nat)
  /-- CAN_TX_WINDOW_CLOSE: L + WIN_US passes and the request is abandoned BUSY. (R667) -/
  | canTxWindowClose (o : Nat)
  /-- CAN_RECOVER: CAN_CTL.RECOVER starts bus-off recovery. (R672) -/
  | canRecover (w : Writer) (n : Nat)
  /-- CAN_RECOVERY_DONE: 128 runs of 11 recessive bits end bus-off. (R672) -/
  | canRecoveryDone (n : Nat)
  /-- CAN_INTEGRATED: 11 recessive bits are seen and the controller joins, restricted if JOINR. (R673) -/
  | canIntegrated (n : Nat)
  /-- CAN_SLEEP: CAN_CTL.SLEEP stops the controller after its current frame. (R675) -/
  | canSleep (n : Nat)
  /-- CAN_AUTOWAKE: A dominant bit wakes a sleeping controller with AUTOWAKE. (R675) -/
  | canAutowake (n : Nat)
  /-- CAN_WAKE_DOMINANT: CAN_RX sense stays low for FILT and the wake source is latched. (R678) -/
  | canWakeDominant (n : Nat)
  /-- CAN_WAKE_FRAME: The AON decoder decodes a frame and latches on a matching wake frame or on error count 32. (R679) -/
  | canWakeFrame (n : Nat) (f : Option CanFrame)
  /-- JSP_FRAME_START: A port starts an encoder frame on its period or trigger, or skips. (R685) -/
  | jspFrameStart (n : Nat)
  /-- JSP_FRAME_END: A frame is checked, decoded and written to the ring. (R687) -/
  | jspFrameEnd (n : Nat) (ready : Bool) (raw : Nat)
  /-- JSP_STALE: STALE_US elapses since the last GOOD frame and the position is no longer VALID. (R689) -/
  | jspStale (n : Nat)
  /-- QEI_COUNT_CHANGE: A quadrature state change updates the count, is stamped and fires compares. (R690) -/
  | qeiCountChange (k : Nat) (up illegal : Bool)
  /-- QEI_SNAP: QEI_CTL.SNAP or a trigger latches count and stamp. (R691) -/
  | qeiSnap (w : Writer) (k : Nat)
  /-- QEI_INDEX: An index pulse captures the count and may clear it. (R691) -/
  | qeiIndex (k : Nat)
  /-- MO_OVR_GO: MO_OVR.GO sends the override template or is refused. (R695) -/
  | moOvrGo (w : Writer) (m : Nat)
  /-- ETH_RECEIVE: A received frame is checked, filtered, classified and delivered to a ring, the Steward or the Intake. (R700) -/
  | ethReceive (n : Nat) (b : Bytes) (fcsOk : Bool) (ago : Nat)
  /-- RXQ_DB: RXQ_DB advances a receive queue's head. (R703) -/
  | rxqDb (w : Writer) (n q v : Nat)
  /-- ETHTX: ETHTX copies a frame into the buffer and queues or books it. (R708) -/
  | ethtx (q : Nat)
  /-- ETH_TX_DONE: A frame's last byte leaves and its ETHTX completes OK. (R708) -/
  | ethTxDone (n ago : Nat)
  /-- ETH_TX_ABANDON: A frame misses its window and its ETHTX completes BUSY. (R710) -/
  | ethTxAbandon (h : Nat)
  /-- LINK_TRAIN_START: The backoff delay ends and the port enters TRAIN. (R712) -/
  | linkTrainStart (n : Nat)
  /-- LINK_UP: Lock and negotiation succeed and the link is UP. (R712) -/
  | linkUp (n : Nat)
  /-- LINK_TRAIN_TIMEOUT: TRAIN lasts 500 ms without success. (R712) -/
  | linkTrainTimeout (n : Nat)
  /-- LINK_DOWN: A link fault drops the link, and FLAP_MAX may move it to HELD. (R712) -/
  | linkDown (n fault : Nat)
  /-- ETH_RESTART: ETH_CTL.RESTART leaves HELD with the backoff reset. (R712) -/
  | ethRestart (w : Writer) (n : Nat)
  /-- HOST_DOORBELL: A BAR2 doorbell page access is applied as a HOST doorbell. (R717) -/
  | hostDoorbell (q off v : Nat) (write : Bool)
  /-- HOST_APERTURE: A BAR4 access reaches device memory under the slot's tenant. (R718) -/
  | hostAperture (off n : Nat) (write : Bool) (b : Bytes)
  /-- MSIX_UNMASK: Clearing an MSI-X mask sends a pending message. (R722) -/
  | msixUnmask (v addr data : Nat) (mask enable func : Bool)
  /-- PME_TURN_OFF: PME_Turn_Off drains host accesses and moves the link toward L2. (R725) -/
  | pmeTurnOff
  /-- FLASH_UPDATE: HL_UPD_CTL.GO with KEY 0x3C starts a flash image replacement, or refuses it. (R730) -/
  | flashUpdate (w : Writer) (v : Nat)
  /-- UPDATE_STEP_DONE: An update step ends and the next begins, or the update reaches DONE or FAILED. (R730) -/
  | updateStepDone (ok : Bool)
  /-- SENSOR_UPDATE: Sensors update their readings and validity. (R733) -/
  | sensorUpdate (l : List (Nat × Nat × Nat × Bool))
  /-- STEWARD_DECIDE: At DECIDE_US the Steward advances, holds or retreats throttling. (R737) -/
  | stewardDecide
  /-- THERMAL_TRIP: A sensor reaches the trip temperature; the AON island drops PEN_MAIN with outputs safe. (R740) -/
  | thermalTrip (n : Nat)
  /-- THERMTRIP_RESTART: 10 s after a trip, power-up begins again. (R740) -/
  | thermtripRestart
  /-- TELEM: The mailbox TELEM request returns telemetry. (R743) -/
  | telem (k : Nat)
  /-- LOGREAD: The mailbox LOGREAD request returns a committed record. (R743) -/
  | logread (k : Nat)
  /-- LOGINFO: The mailbox LOGINFO request returns the log extent and fold counters. (R743) -/
  | loginfo (k : Nat)
  /-- CAPDUTY: The mailbox CAPDUTY request caps the serving duty. (R743) -/
  | capduty (k : Nat)
  /-- POST: The mailbox POST request posts a USER event. (R743) -/
  | postUser (k : Nat)
  /-- EVENT_POST: An event reaches the AON island and is queued, or is folded when the queue is full. (R746) -/
  | eventPost (code src : Nat) (args : List Nat)
  /-- LOG_BATCH_START: The Steward takes a batch of records, a LOSS first where due, and programs them. (R750) -/
  | logBatchStart
  /-- LOG_BATCH_DONE: Commit words are programmed, records leave the queue, and erase may begin. (R750) -/
  | logBatchDone (ok : Bool)
  /-- SEC_REVOKE: SEC_REVOKE with KEY 0x5E burns an owner slot's REVOKE bit, or is DENIED. (R760) -/
  | secRevoke (w : Writer) (v : Nat)
  /-- OTP_PROGRAM_DONE: An OTP program finishes and the next may start. (R761) -/
  | otpProgramDone
  /-- DEBUG_CHALLENGE: The device issues a fresh debug nonce. (R762) -/
  | debugChallenge
  /-- DEBUG_RESPONSE: A signed response grants a debug level, or fails and starts the refusal period. (R762) -/
  | debugResponse (level keysel resv : Nat) (sig : Bytes)
  /-- DEBUG_REFUSE_END: The 1 s refusal after a failed response ends. (R763) -/
  | debugRefuseEnd
  /-- DEBUG_END: SEC_DBG.END ends a debug grant. (R765) -/
  | debugEnd (w : Writer)
  /-- MC_LAT_MAX_READ: A read of MC_LAT_MAX returns the value and clears it. (R10) -/
  | mcLatMaxRead (w : Writer) (m : Nat)
  /-- FU_ERRMAX_READ: A read of FU_ERRMAX returns the value and clears it. (R10) -/
  | fuErrmaxRead (w : Writer) (e : Nat)
  /-- ATT_SELMAX_READ: A read of ATT_SELMAX returns the value and clears it. (R10) -/
  | attSelmaxRead (w : Writer) (e : Nat)
  /-- GL_LAT_MAX_READ: A read of GL_LAT_MAX returns the value and clears it. (R10) -/
  | glLatMaxRead (w : Writer)
  /-- SHP_TASK_MAXEND_READ: A read of SHP_TASK_MAXEND returns the value and clears it. (R10) -/
  | shpTaskMaxendRead (w : Writer) (q : Nat)
  /-- MSYNC_SKEW_MAX_READ: A read of MSYNC_SKEW_MAX returns the value and clears it. (R10) -/
  | msyncSkewMaxRead (w : Writer)
  /-- AON_RAILS_GOOD: VAON and VAON_IO come into their windows; the AON island starts its crystal and drives SAFE_A, SAFE_B and MINH_N safe and PEN_MEM and PEN_MAIN low. (R163) -/
  | aonRailsGood
  /-- PLL_LOCK: The island PLLs finish relocking, to BOSC after LOST or to REFCLK after recovery, and the controllers may start frames again while the rotation waits for its boundary. (R125) -/
  | pllLock
  /-- CAN_RX_ERROR: A controller detects an error while receiving; it signals it, raises its receive error counter, may enter error-passive, and restarts the join count. (R670) -/
  | canRxError (n kind : Nat) (heavy : Bool)
  /-- CACHE_ENCODE_DONE: JPEG-LS encoding of a frame ends; the entry is added under its SID and older entries are evicted, or it is counted in SKIP. (R258) -/
  | cacheEncodeDone (late : Bool)
  /-- RELOAD_VERIFY_DONE: The hash and signature check of a reloaded Gleaner slot ends; the slot becomes LOADED and is checked, or ERR 0x09 is set. (R549) -/
  | reloadVerifyDone (x : Nat)
  /-- SYNC_IN_GLITCH: A high pulse of 4 or 5 sync cycles on SYNC_IN is counted in MSYNC_ERR.GLITCH and ignored. (R639) -/
  | syncInGlitch
  /-- PCIE_LINK_TRAINED: The PCIe link finishes training to L0 after a reset, PERST# or surprise down, and WAKE# is released if still asserted. (R728) -/
  | pcieLinkTrained (speed width : Nat)
  /-- PTP_MESSAGE_INTERVAL: A port's Sync, Announce, Delay_Req or Pdelay_Req interval expires and the port sends that PTP message, one-step stamped where configured. (R192) -/
  | ptpMessageInterval (n kind turn : Nat)
  /-- SECTOR_ERASE_DONE: The erase of the next log sector ends, EVL_OLDEST and EVL_ERASES advance, or the failure is counted in EVL_ERR. (R750) -/
  | sectorEraseDone (ok : Bool)
  /-- TM_CPM_READ: A read of TM_CPM returns the margin and restarts the smallest-since-last-read field. (R733) -/
  | tmCpmRead (w : Writer) (r : Nat)
  deriving DecidableEq, Repr

end Sys2Proof
end

