-- ==== Sys2Proof/Config.lean ====
section
/-! DEFINITION. What an implementation fixes and the spec does not state, as constants without a body: nothing can be proved
of their values. -/

namespace Sys2Proof

/-- The free values: the nth value the spec leaves open in a run. -/
opaque Config.freeValue : Nat → Nat

/-- The inverse DCT of a block of dequantised coefficients in zigzag order: sample `i` in raster order, after the level shift
(R244). -/
opaque Config.idct : List Int → Nat → Nat

/-- The device's own PTP clock: class, accuracy, variance and identity (R192). -/
opaque Config.ownClock : Nat × Nat × Nat × Nat

/-- The ROM coefficients of the shared-mode polynomials, by `48 · primitive + 6 · segment + power` (R475). -/
opaque Config.fuCoef : Nat → Nat

/-- VIK (R540): the analytic candidates in their order, the three refinement steps on the chosen one, the residual of the joints written,
and whether the wrist is singular, each a function of the parameter block's and the target's words. -/
opaque Config.ikCandidates : List Nat → List (List Nat)
opaque Config.ikRefine : List Nat → List Nat → List Nat
opaque Config.ikResidual : List Nat → List Nat → Nat
opaque Config.ikSingular : List Nat → Bool

/-- VJERK (R540): the samples before the last beyond the first, and the word of a sample, from the parameter block's words. -/
opaque Config.jerkCount : List Nat → Nat
opaque Config.jerkSample : List Nat → Nat → Nat → Nat

/-- The Myell ROM keys by MKID, `x` then `y` (R759). -/
opaque Config.myellKey : Nat → Bytes

/-- What a PLAT payload says, whose layout the spec does not give (R52, R285, R290): 0 the capacity of a channel (0, 1, 2 for 2, 4, 8 GiB),
1 two ranks, 2 inline ECC, 3 SNAP_BASE, 4 SNAP_SIZE in MiB, 5 the size of the staging area in MiB. -/
opaque Config.plat : Bytes → Nat → Nat

/-- A bit pattern that a command's result holds and the spec does not state: a function of what the result is computed from, so that one command
on one input gives one result wherever and whenever it runs (R4, R38). -/
opaque Config.openResult : List Nat → Nat

/-- The check codes of inline ECC (R292), whose matrices the spec does not give: of a half of a unit, and of a unit's number. -/
opaque Config.secDed : Bytes → Nat
opaque Config.addressCheck : Nat → Nat

/-- The bytes of a FOLD snapshot (R149), whose layout the spec does not give: from the firmware, the register fields, the memory parameters and the
resident memory by column. -/
opaque Config.snapshotBytes : Bytes → List (Nat × Nat) → Bytes → List (Nat × List (Nat × Byte)) → Bytes

/-- What stands in the staging area (R64), whose layout the spec does not give: from the payloads written to it. -/
opaque Config.stagingBytes : List Bytes → Bytes

/-- Myell's PCIe vendor identifier, which the spec names and does not state (R714). -/
opaque Config.vendorId : Nat

end Sys2Proof
end

