-- ==== Sys2Proof/Machine/Bits.lean ====
section
/-! DEFINITION. Bit fields, little-endian words (R8), two's complement, CRC-32 (R49) and lists of bytes. -/

namespace Sys2Proof.Machine

/-- Bits `lo + w - 1` down to `lo` of a number. -/
def bits (n lo w : Nat) : Nat := n / 2 ^ lo % 2 ^ w

/-- Bit `i` of a number. -/
def bit (n i : Nat) : Bool := n / 2 ^ i % 2 == 1

/-- A truth value as a bit. -/
def ofBool (b : Bool) : Nat := if b then 1 else 0

/-- Set or clear bit `i`. -/
def setBit (n i : Nat) (b : Bool) : Nat :=
  if bit n i then (if b then n else n - 2 ^ i) else (if b then n + 2 ^ i else n)

/-- Replace bits `lo + w - 1` down to `lo` of a number. -/
def setBits (n lo w v : Nat) : Nat := n - bits n lo w * 2 ^ lo + (v % 2 ^ w) * 2 ^ lo

/-- The signed value of a `w`-bit word. -/
def signed (w n : Nat) : Int := if n % 2 ^ w < 2 ^ (w - 1) then (n % 2 ^ w : Nat) else (n % 2 ^ w : Nat) - (2 ^ w : Nat)

/-- The `w`-bit two's complement word of an integer. -/
def unsigned (w : Nat) (i : Int) : Nat := (i % (2 ^ w : Nat)).toNat

/-- Little-endian value of a list of bytes (R8). -/
def leNat : Bytes → Nat
  | [] => 0
  | b :: bs => b.toNat + 256 * leNat bs

/-- The `k` little-endian bytes of a number (R8). -/
def leBytes : Nat → Nat → Bytes
  | 0, _ => []
  | k + 1, n => BitVec.ofNat 8 n :: leBytes k (n / 256)

/-- `k` bytes of a line from offset `o`. -/
def slice (b : Bytes) (o k : Nat) : Bytes := (b.drop o).take k

/-- Byte, half word, word and double word of a line at an offset. -/
def u8 (b : Bytes) (o : Nat) : Nat := leNat (slice b o 1)
def u16 (b : Bytes) (o : Nat) : Nat := leNat (slice b o 2)
def u32 (b : Bytes) (o : Nat) : Nat := leNat (slice b o 4)
def u64 (b : Bytes) (o : Nat) : Nat := leNat (slice b o 8)

/-- Zero bytes. -/
def zeros (k : Nat) : Bytes := List.replicate k 0

/-- Fill up with zero bytes to a length. -/
def padTo (k : Nat) (b : Bytes) : Bytes := b ++ zeros (k - b.length)

/-- Round up a quotient. -/
def ceilDiv (a b : Nat) : Nat := (b - 1 + a) / b

/-- A sum that saturates at the largest `w`-bit value. -/
def satAdd (w a b : Nat) : Nat := min (a + b) (2 ^ w - 1)

/-- One bit of the reflected CRC-32 (R49). -/
def crcBit (c : Nat) : Nat := if c % 2 = 1 then (c / 2) ^^^ 0xEDB88320 else c / 2

/-- One byte of the reflected CRC-32 (R49). -/
def crcByte (c : Nat) (b : Byte) : Nat := Nat.repeat crcBit 8 (c ^^^ b.toNat)

/-- CRC-32 (R49): IEEE 802.3, initial value and final XOR all ones. -/
def crc32 (bs : Bytes) : Nat := bs.foldl crcByte 0xFFFFFFFF ^^^ 0xFFFFFFFF

/-- The largest of a list, 0 for none. -/
def maxOf (l : List Nat) : Nat := l.foldl max 0

/-- The first `n` numbers that pass a test. -/
def firstWhere (n : Nat) (p : Nat → Bool) : Option Nat := (List.range n).find? p

end Sys2Proof.Machine
end

