-- ==== Sys2Proof/Machine/Fp.lean ====
section
/-! DEFINITION. Exact binary floating point: values as sign, magnitude and exponent, exact sums and products, and one rounding
to FP32 or BF16. Subnormal inputs read as zero and subnormal results become zero, both with their sign kept (R450, R469). -/

namespace Sys2Proof.Machine

/-- A value: NaN, an infinity, or (-1)^neg · n · 2^e with the sign of a zero kept. -/
inductive Num where
  | nan
  | inf (neg : Bool)
  | fin (neg : Bool) (n : Nat) (e : Int)
  deriving DecidableEq, Repr

namespace Num

def isNan : Num → Bool | nan => true | _ => false
def isInf : Num → Bool | inf _ => true | _ => false
def isFinite : Num → Bool | fin .. => true | _ => false
def isZero : Num → Bool | fin _ n _ => n == 0 | _ => false
def neg? : Num → Bool | nan => false | inf s => s | fin s _ _ => s

/-- Negation; NaN stays. -/
def negate : Num → Num | nan => nan | inf s => inf !s | fin s n e => fin (!s) n e

/-- Magnitude. -/
def abs : Num → Num | nan => nan | inf _ => inf false | fin _ n e => fin false n e

/-- An integer as a value. -/
def ofInt (i : Int) : Num := fin (decide (i < 0)) i.natAbs 0

/-- The signed significand of a finite value at a smaller exponent. -/
def at_ (s : Bool) (n : Nat) (e lo : Int) : Int :=
  let m : Int := n * 2 ^ (e - lo).toNat
  if s then -m else m

/-- Exact sum. An exact zero sum of values of different sign is +0. -/
def add : Num → Num → Num
  | nan, _ => nan
  | _, nan => nan
  | inf a, inf b => if a = b then inf a else nan
  | inf a, _ => inf a
  | _, inf b => inf b
  | fin a n e, fin b m f =>
    let lo := min e f
    let v := at_ a n e lo + at_ b m f lo
    if v = 0 then fin (a && b) 0 0 else fin (decide (v < 0)) v.natAbs lo

/-- Exact difference. -/
def sub (a b : Num) : Num := add a b.negate

/-- Exact product; 0 times infinity is NaN. -/
def mul : Num → Num → Num
  | nan, _ => nan
  | _, nan => nan
  | inf a, inf b => inf (a != b)
  | inf a, fin b m _ => if m = 0 then nan else inf (a != b)
  | fin a n _, inf b => if n = 0 then nan else inf (a != b)
  | fin a n e, fin b m f => fin (a != b) (n * m) (e + f)

/-- Strict order of values that are no NaN; +0 and -0 are equal. -/
def lt : Num → Num → Bool
  | nan, _ => false
  | _, nan => false
  | inf a, inf b => a && !b
  | inf a, _ => a
  | _, inf b => !b
  | fin a n e, fin b m f => decide (at_ a n e (min e f) < at_ b m f (min e f))

/-- Order of values that are no NaN. -/
def le (a b : Num) : Bool := !a.isNan && !b.isNan && !lt b a

/-- Equality of values; NaN equals nothing. -/
def eq (a b : Num) : Bool := le a b && le b a

end Num

/-- Rounding: to nearest even, toward +Inf, toward -Inf, to nearest with ties away from zero, toward zero. -/
inductive Mode where
  | rne | up | down | rna | zero
  deriving DecidableEq, Repr

/-- A quotient `n / d` rounded to a whole number; `neg` is the sign of the value whose magnitude it is. -/
def roundNat (mode : Mode) (neg : Bool) (n d : Nat) : Nat :=
  let q := n / d
  let r := n % d
  let up := match mode with
    | .rne => decide (d < 2 * r) || (decide (2 * r = d) && q % 2 == 1)
    | .up => decide (r ≠ 0) && !neg
    | .down => decide (r ≠ 0) && neg
    | .rna => decide (d ≤ 2 * r)
    | .zero => false
  if up then q + 1 else q

/-- The exponent `e` with 2^e ≤ n/d < 2^(e+1), for positive n and d. -/
def floorLog (n d : Nat) : Int :=
  let e : Int := (Nat.log2 n : Int) - (Nat.log2 d : Int)
  if 0 ≤ e then (if n < d * 2 ^ e.toNat then e - 1 else e)
  else (if n * 2 ^ (-e).toNat < d then e - 1 else e)

/-- Round a positive rational n/d · 2^x to a format of `p` significant bits and least normal exponent `emin`: significand and
exponent. -/
def roundSig (p : Nat) (emin : Int) (mode : Mode) (neg : Bool) (n d : Nat) (x : Int) : Nat × Int :=
  let e := floorLog n d + x
  let q := max e emin - ((p : Int) - 1)
  let k := q - x
  (if 0 ≤ k then roundNat mode neg n (d * 2 ^ k.toNat) else roundNat mode neg (n * 2 ^ (-k).toNat) d, q)

/-- The bit pattern, in a format of `p` significant bits and 8 exponent bits, of a rounded significand; a subnormal result is a
zero of its sign, a result beyond the range an infinity. -/
def pack (p : Nat) (neg : Bool) (r : Nat × Int) : Nat :=
  let s := if neg then 2 ^ (p + 7) else 0
  let k := if r.1 = 2 ^ p then 2 ^ (p - 1) else r.1
  let q := if r.1 = 2 ^ p then r.2 + 1 else r.2
  if k < 2 ^ (p - 1) then s
  else
    let be := q + ((p : Int) - 1) + 127
    if 255 ≤ be then s + 255 * 2 ^ (p - 1) else s + be.toNat * 2 ^ (p - 1) + (k - 2 ^ (p - 1))

/-- One rounding of an exact value to `p` significant bits with 8 exponent bits; NaN becomes the canonical NaN (R477). -/
def roundTo (p : Nat) (mode : Mode) : Num → Nat
  | .nan => 255 * 2 ^ (p - 1) + 2 ^ (p - 2)
  | .inf s => (if s then 2 ^ (p + 7) else 0) + 255 * 2 ^ (p - 1)
  | .fin s n e => if n = 0 then (if s then 2 ^ (p + 7) else 0) else pack p s (roundSig p (-126) mode s n 1 e)

/-- The value of a pattern of `p` significant bits; subnormals read as zero with their sign (R450, R469). -/
def decodeTo (p n : Nat) : Num :=
  let s := bit n (p + 7)
  let be := bits n (p - 1) 8
  let f := bits n 0 (p - 1)
  if be = 255 then (if f = 0 then .inf s else .nan)
  else if be = 0 then .fin s 0 0
  else .fin s (f + 2 ^ (p - 1)) ((be : Int) - 127 - ((p : Int) - 1))

/-- The value of a pattern with its subnormals. -/
def decodeFull (p n : Nat) : Num :=
  if bits n (p - 1) 8 = 0 then .fin (bit n (p + 7)) (bits n 0 (p - 1)) (-126 - ((p : Int) - 1)) else decodeTo p n

/-- FP32 and BF16. -/
def f32 (n : Nat) : Num := decodeTo 24 n
def bf16 (n : Nat) : Num := decodeTo 8 n
def rne32 (x : Num) : Nat := roundTo 24 .rne x
def rne16 (x : Num) : Nat := roundTo 8 .rne x

/-- The canonical NaN of FP32, its infinities, one. -/
def nan32 : Nat := 0x7FC00000
def inf32 : Nat := 0x7F800000
def ninf32 : Nat := 0xFF800000
def one32 : Nat := 0x3F800000

/-- FP32 operations on patterns, one rounding each. -/
def fadd (a b : Nat) : Nat := rne32 ((f32 a).add (f32 b))
def fsub (a b : Nat) : Nat := rne32 ((f32 a).sub (f32 b))
def fmul (a b : Nat) : Nat := rne32 ((f32 a).mul (f32 b))
/-- a · b + c with one rounding. -/
def ffma (a b c : Nat) : Nat := rne32 (((f32 a).mul (f32 b)).add (f32 c))
def fneg (a : Nat) : Nat := rne32 (f32 a).negate
def fabs (a : Nat) : Nat := rne32 (f32 a).abs
def flt (a b : Nat) : Bool := (f32 a).lt (f32 b)
def fle (a b : Nat) : Bool := (f32 a).le (f32 b)

/-- A quotient of two values, with one rounding. x / 0 is an infinity, 0 / 0 and Inf / Inf are NaN. -/
def divTo (p : Nat) (mode : Mode) : Num → Num → Nat
  | .nan, _ => roundTo p mode .nan
  | _, .nan => roundTo p mode .nan
  | .inf a, .inf _ => roundTo p mode .nan
  | .inf a, .fin b _ _ => roundTo p mode (.inf (a != b))
  | .fin a _ _, .inf b => roundTo p mode (.fin (a != b) 0 0)
  | .fin a n e, .fin b m f =>
    if m = 0 then (if n = 0 then roundTo p mode .nan else roundTo p mode (.inf (a != b)))
    else if n = 0 then roundTo p mode (.fin (a != b) 0 0)
    else pack p (a != b) (roundSig p (-126) mode (a != b) n m (e - f))
def fdiv (a b : Nat) : Nat := divTo 24 .rne (f32 a) (f32 b)

/-- A quotient of values of one sign rounded toward +Inf; a positive one below the normal range becomes the least normal value, so that
it stays an upper bound (log 63). -/
def divUp (p : Nat) (a b : Num) : Nat :=
  let r := divTo p .up a b
  if r = 0 ∧ !a.isZero ∧ a.isFinite ∧ b.isFinite then 2 ^ (p - 1) else r

/-- A value rounded toward +Inf, and toward -Inf. -/
def roundUp (p : Nat) (a : Num) : Nat := divUp p a (.fin false 1 0)
def roundDown (p : Nat) (a : Num) : Nat := roundTo p .down a

/-- Integer square root by halving from above, `fuel` bits. -/
def isqrtAux : Nat → Nat → Nat → Nat
  | 0, _, r => r
  | k + 1, n, r => isqrtAux k n (if (r + 2 ^ k) * (r + 2 ^ k) ≤ n then r + 2 ^ k else r)
def isqrt (n : Nat) : Nat := isqrtAux (Nat.log2 n / 2 + 1) n 0

/-- A square root with one rounding; of a negative value NaN, of a zero the zero. 80 extra bits and a sticky bit decide the
rounding exactly. -/
def sqrtTo (p : Nat) (mode : Mode) : Num → Nat
  | .nan => roundTo p mode .nan
  | .inf s => roundTo p mode (if s then .nan else .inf false)
  | .fin s n e =>
    if n = 0 then roundTo p mode (.fin s 0 0)
    else if s then roundTo p mode .nan
    else
      let odd := e % 2 ≠ 0
      let m := (if odd then 2 * n else n) * 2 ^ 160
      let e2 := (if odd then e - 1 else e) / 2 - 80
      let r := isqrt m
      let sticky := ofBool (decide (r * r ≠ m))
      pack p false (roundSig p (-126) mode false (2 * r + sticky) 1 (e2 - 1))
def fsqrt (a : Nat) : Nat := sqrtTo 24 .rne (f32 a)

/-- The whole number nearest a value, by a mode; saturates nothing. -/
def toInt (mode : Mode) : Num → Int
  | .fin s n e =>
    let m : Nat := if 0 ≤ e then n * 2 ^ e.toNat else roundNat mode s n (2 ^ (-e).toNat)
    if s then -(m : Int) else m
  | _ => 0

/-- The greatest whole number no greater than a value. -/
def floorInt (x : Num) : Int := toInt .down x

end Sys2Proof.Machine
end

