-- ==== Sys2Proof/Machine/FuncUnit.lean ====
section
/-! DEFINITION. The evaluators of the function unit (16.4 to 16.8): the primitives in both modes, the composed functions, special values,
and the bounds that go into the ledger. The attention path and the vector clusters use them too. -/

namespace Sys2Proof.Machine

/-- What evaluations leave behind: full-rate and shared primitive evaluations, results given by R478, whether a full-rate evaluation
of an evaluated function was made, and the largest bound as a BF16 pattern (R481). -/
structure Fu where
  pwl : Nat := 0
  shr : Nat := 0
  sat : Nat := 0
  did : Bool := false
  err : Nat := 0
  deriving DecidableEq, Repr

/-- Results collected side by side. -/
def Fu.add (a b : Fu) : Fu := ⟨a.pwl + b.pwl, a.shr + b.shr, a.sat + b.sat, a.did || b.did, max a.err b.err⟩

/-! ### Constants (R472 to R474); the nodes' values are the FP32 roundings of g (R473) -/

def l2e : Nat := 0x3FB8AA3B
def ln2 : Nat := 0x3F317218
def geluC2 : Nat := 0x3FCC422A
def geluC3 : Nat := 0x3D372713
def invSqrt2 : Nat := 0x3F3504F3
def half32 : Nat := 0x3F000000
def two32 : Nat := 0x40000000

/-- N[k] of R473, by primitive: 0 EXP, 1 LOG, 2 RECIP, 3 SQRT, 4 RSQRT. -/
def nodeValues (p : Nat) : List Nat :=
  if p = 0 then [0x3F800000, 0x3F8B95C2, 0x3F9837F0, 0x3FA5FED7, 0x3FB504F3, 0x3FC5672A, 0x3FD744FD, 0x3FEAC0C7, 0x40000000]
  else if p = 1 then [0, 0x3DF1383B, 0x3E647FBE, 0x3EA30C5E, 0x3ECF991F, 0x3EF8947B, 0x3F0F42FB, 0x3F20EC7F, 0x3F317218]
  else if p = 2 then [0x3F800000, 0x3F638E39, 0x3F4CCCCD, 0x3F3A2E8C, 0x3F2AAAAB, 0x3F1D89D9, 0x3F124925, 0x3F088889, 0x3F000000]
  else if p = 3 then [0x3F800000, 0x3F8F1BBD, 0x3F9CC471, 0x3FA953FD, 0x3FB504F3, 0x3FCA62C2, 0x3FDDB3D7, 0x3FEF7751, 0x40000000]
  else [0x3F800000, 0x3F64F92E, 0x3F5105EC, 0x3F41848F, 0x3F3504F3, 0x3F21E89B, 0x3F13CD3A, 0x3F08D677, 0x3F000000]

def nodeAt (p k : Nat) : Nat := (nodeValues p).getD k 0

/-- Coefficient j of segment k of a primitive (R475); the first of segment 0 of the primitives 0 to 4 is the value R479 requires
(log 60). -/
def coef (p k j : Nat) : Nat := if k = 0 ∧ j = 0 ∧ p < 5 then nodeAt p 0 else Config.fuCoef (48 * p + 6 * k + j) % 2 ^ 32

/-! ### Segments (R472, R473, R475) -/

/-- Segment and offset in a domain of eight equal segments of width 2^-j from `lo`: `w - lo` as a multiple of 2^-x. -/
def segmentOf (j : Nat) (n : Nat) (x : Nat) : Nat × Num :=
  let k := n * 2 ^ j / 2 ^ x
  (k, .fin false (n * 2 ^ j - k * 2 ^ x) (-(x : Int)))

/-- The line of full-rate mode (R473). -/
def lineAt (p k : Nat) (u : Num) : Nat := rne32 ((f32 (nodeAt p k)).add ((f32 (fsub (nodeAt p (k + 1)) (nodeAt p k))).mul u))

/-- The polynomial of shared mode (R475); at u = 0 it is its first coefficient (R479). -/
def polyAt (p k : Nat) (u : Num) : Nat :=
  if u.isZero then rne32 (f32 (coef p k 0)) else
  let step := fun (c acc : Nat) => rne32 ((f32 c).add (u.mul (f32 acc)))
  step (coef p k 0) (step (coef p k 1) (step (coef p k 2) (step (coef p k 3) (step (coef p k 4) (coef p k 5)))))

/-- A primitive's value at a segment and offset, in a mode. -/
def primAt (sh : Bool) (p k : Nat) (u : Num) : Nat := if sh then polyAt p k u else lineAt p k u

/-- A value scaled by a power of two. -/
def scaleBy (y : Nat) (e : Int) : Nat := rne32 (match f32 y with | .fin s n x => .fin s n (x + e) | v => v)

/-- Magnitude and exponent of a positive finite value as `n · 2^(e - log2 n)`, `2^e ≤ value < 2^(e+1)`. -/
def magExp : Num → Nat × Int
  | .fin _ n x => (n, (Nat.log2 n : Int) + x)
  | _ => (1, 0)

/-- EXP at a finite argument inside the range R478 leaves (R472, R473). -/
def expAt (sh : Bool) (x : Nat) : Nat :=
  let t := f32 (fmul x l2e)
  let n := floorInt t
  match t.sub (Num.ofInt n) with
  | .fin _ m e =>
    let r := segmentOf 3 (if 0 ≤ e then m * 2 ^ e.toNat else m) (-e).toNat
    scaleBy (primAt sh 0 r.1 r.2) n
  | _ => nan32

/-- LOG, RECIP, SQRT and RSQRT at a positive finite argument. -/
def logAt (sh : Bool) (x : Nat) : Nat :=
  let (n, e) := magExp (f32 x)
  let r := segmentOf 3 (n - 2 ^ Nat.log2 n) (Nat.log2 n)
  rne32 (((Num.ofInt e).mul (f32 ln2)).add (f32 (primAt sh 1 r.1 r.2)))

def recipAt (sh : Bool) (x : Nat) : Nat :=
  let (n, e) := magExp (f32 x)
  let r := segmentOf 3 (n - 2 ^ Nat.log2 n) (Nat.log2 n)
  let y := scaleBy (primAt sh 2 r.1 r.2) (-e)
  if (f32 x).neg? then fneg y else y

/-- The reduction x = 4^e · m with m in [1, 4), and its segment (R472). -/
def rootSegment (x : Nat) : Int × Nat × Num :=
  let (n, e) := magExp (f32 x)
  let h := e / 2
  let l := Nat.log2 n
  if e % 2 = 0 then let r := segmentOf 2 (n - 2 ^ l) l; (h, r.1, r.2)
  else let r := segmentOf 1 (2 * n - 2 * 2 ^ l) l; (h, 4 + r.1, r.2)

def sqrtAt (sh : Bool) (x : Nat) : Nat := let (e, k, u) := rootSegment x; scaleBy (primAt sh 3 k u) e
def rsqrtAt (sh : Bool) (x : Nat) : Nat := let (e, k, u) := rootSegment x; scaleBy (primAt sh 4 k u) (-e)

/-- ERF at a finite argument below 4 in magnitude (R475). -/
def erfAt (x : Nat) : Nat :=
  match f32 x with
  | .fin s n e =>
    let r := segmentOf 1 (if 0 ≤ e then n * 2 ^ e.toNat else n) (-e).toNat
    let y := polyAt 5 r.1 r.2
    if s then fneg y else y
  | _ => nan32

/-! ### Special values and saturation (R477, R478) -/

/-- Function codes (R471). -/
abbrev Fn := Nat

def isNan32 (x : Nat) : Bool := (f32 x).isNan
def isZero32 (x : Nat) : Bool := (f32 x).isZero
def neg32 (x : Nat) : Bool := (f32 x).neg?

/-- x as FP32 with a subnormal taken as zero. -/
def plain32 (x : Nat) : Nat := rne32 (f32 x)

/-- The result R478 gives for a function at an argument that is no NaN. -/
def saturates (fn : Fn) (x : Nat) : Option Nat :=
  let ge := fun c => fle c x
  let le := fun c => fle x c
  let zer := if neg32 x then 0x80000000 else 0
  let inf := if neg32 x then ninf32 else inf32
  let one := if neg32 x then 0xBF800000 else one32
  if fn = 0x0A then (if ge 0x42B17218 then some inf32 else if flt x 0xC2AEAC50 then some 0 else none)
  else if fn = 0x0B then
    (if isZero32 x then some ninf32 else if neg32 x then some nan32 else if x = inf32 then some inf32 else none)
  else if fn = 0x0C then (if isZero32 x then some inf else if flt 0x7E800000 (fabs x) then some zer else none)
  else if fn = 0x0D then
    (if isZero32 x then some inf else if neg32 x then some nan32 else if x = inf32 then some 0 else none)
  else if fn = 0x0E then
    (if isZero32 x then some zer else if neg32 x then some nan32 else if x = inf32 then some inf32 else none)
  else if fn = 0x03 then (if ge 0x41900000 then some one32 else if le 0xC2B00000 then some 0 else none)
  else if fn = 0x04 then (if fle 0x41200000 (fabs x) then some one else none)
  else if fn = 0x08 then (if fle 0x40800000 (fabs x) then some one else none)
  else if fn = 0x05 then (if ge 0x41900000 then some x else if le 0xC2B00000 then some 0x80000000 else none)
  else if fn = 0x06 then (if ge 0x41900000 then some x else if le 0xC1300000 then some 0x80000000 else none)
  else if fn = 0x07 then (if ge 0x40C00000 then some x else if le 0xC1600000 then some 0x80000000 else none)
  else if fn = 0x09 then (if ge 0x41900000 then some x else if le 0xC2B00000 then some 0 else none)
  else none

/-! ### Bounds (R480, R481) -/

/-- EA of full-rate mode in units of 10^-5, and ER as (n, e): n · 10^-5 where e is 0, or 2^-e where n is 0. -/
def boundOf (fn : Fn) : Nat × Nat × Nat :=
  if fn = 0x0A then (0, 95, 0) else if fn = 0x0B then (197, 0, 22) else if fn = 0x0C then (0, 391, 0)
  else if fn = 0x0E then (0, 196, 0) else if fn = 0x0D then (0, 587, 0) else if fn = 0x03 then (0, 540, 0)
  else if fn = 0x04 then (490, 0, 0) else if fn = 0x05 then (0, 550, 0) else if fn = 0x06 then (0, 560, 0)
  else if fn = 0x09 then (250, 0, 23) else (0, 0, 0)

/-- EA + ER · |y| rounded toward +Inf to BF16 (R481). -/
def boundAt (fn : Fn) (y : Nat) : Nat :=
  let (ea, n, e) := boundOf fn
  let er : Num := if e = 0 then .fin false n 0 else .fin false 100000 (-(e : Int))
  divUp 8 ((Num.fin false ea 0).add (er.mul (f32 y).abs)) (.fin false 100000 0)

/-- A full-rate evaluation with its bound; results that are infinite or NaN contribute no bound. -/
def noteEval (sh : Bool) (fn : Fn) (y : Nat) (t : Fu) : Fu :=
  if sh then t else { t with did := true, err := if (f32 y).isFinite then max t.err (boundAt fn y) else t.err }

/-! ### Primitives and functions -/

/-- A primitive: NaN, the results of R478, or an evaluation. -/
def prim (sh : Bool) (fn : Fn) (x : Nat) : Nat × Fu :=
  if isNan32 x then (nan32, {})
  else match saturates fn x with
    | some y => (y, { sat := 1 })
    | none =>
      let y := if fn = 0x0A then expAt sh x else if fn = 0x0B then logAt sh x else if fn = 0x0C then recipAt sh x
        else if fn = 0x0E then sqrtAt sh x else if fn = 0x0D then rsqrtAt sh x else erfAt x
      (y, noteEval sh fn y { pwl := if sh then 0 else 1, shr := if sh then 1 else 0 })

def expF (sh : Bool) (x : Nat) : Nat × Fu := prim sh 0x0A x
def recipF (sh : Bool) (x : Nat) : Nat × Fu := prim sh 0x0C x
def rsqrtF (sh : Bool) (x : Nat) : Nat × Fu := prim sh 0x0D x

/-- SIGMOID by its composition (R474), or the result of R478. -/
def sigmoidF (sh : Bool) (x : Nat) : Nat × Fu :=
  if isNan32 x then (nan32, {})
  else match saturates 0x03 x with
    | some y => (y, { sat := 1 })
    | none =>
      let e := expF sh (fneg (fabs x))
      let r := recipF sh (fadd one32 e.1)
      let y := if flt x 0 then fmul e.1 r.1 else r.1
      (y, noteEval sh 0x03 y (e.2.add r.2))

/-- The composition of an evaluated function (R474). -/
def composed (sh : Bool) (fn : Fn) (x : Nat) : Nat × Fu :=
  if fn = 0x04 then
    if flt (fabs x) 0x3D800000 then (plain32 x, {})
    else
      let e := expF sh (fmul two32 (fabs x))
      let r := recipF sh (fadd one32 e.1)
      let y := fsub one32 (fmul two32 r.1)
      (if neg32 x then fneg y else y, e.2.add r.2)
  else if fn = 0x05 then let g := sigmoidF sh x; (fmul x g.1, g.2)
  else if fn = 0x06 then
    let z := fmul geluC2 (fadd x (fmul geluC3 (fmul (fmul x x) x)))
    let g := sigmoidF sh z
    (fmul x g.1, g.2)
  else if fn = 0x07 then
    let g := prim sh 0x08 (fmul x invSqrt2)
    (fmul x (fmul half32 (fadd one32 g.1)), g.2)
  else
    let e := expF sh (fneg (fabs x))
    let l := prim sh 0x0B (fadd one32 e.1)
    (fadd (if flt 0 x then x else 0) l.1, e.2.add l.2)

/-- A function of R471 at an FP32 argument, `p0` the slope of LEAKY. -/
def evalFn (sh : Bool) (fn : Fn) (p0 x : Nat) : Nat × Fu :=
  if isNan32 x then (nan32, {})
  else if fn = 0x00 then (plain32 x, {})
  else if fn = 0x01 then (if flt 0 x then plain32 x else 0, {})
  else if fn = 0x02 then (if fle 0 x then plain32 x else fmul p0 x, {})
  else if fn = 0x03 then sigmoidF sh x
  else if fn = 0x08 ∨ 0x0A ≤ fn then prim sh fn x
  else match saturates fn x with
    | some y => (plain32 y, { sat := 1 })
    | none => let r := composed sh fn x; (r.1, noteEval sh fn r.1 r.2)

end Sys2Proof.Machine
end

