-- ==== Sys2Proof/Machine/Codec.lean ====
section
/-! DEFINITION. The two lossless codecs of the data path (10.8 and 10.9): weight-stream decoding and zero-run coding. -/

namespace Sys2Proof.Machine

/-! ### Weight-stream coding (R306 to R308) -/

/-- A bit stream read least significant bit first: the bits ahead as a number, and how many there are. -/
structure BitStream where
  ahead : Nat
  left : Nat
  deriving DecidableEq, Repr

/-- Read `k` bits. -/
def BitStream.take (b : BitStream) (k : Nat) : Option (Nat × BitStream) :=
  if b.left < k then none else some (b.ahead % 2 ^ k, ⟨b.ahead / 2 ^ k, b.left - k⟩)

/-- The number of 1 bits before the next 0 bit. -/
def BitStream.ones : Nat → BitStream → Option (Nat × BitStream)
  | 0, _ => none
  | fuel + 1, b =>
    match b.take 1 with
    | none => none
    | some (1, c) => (c.ones fuel).map fun r => (r.1 + 1, r.2)
    | some (_, c) => some (0, c)

/-- Undo the zigzag of R307, as a `w`-bit word. -/
def unzigzag (w z : Nat) : Nat := unsigned w (if z % 2 = 0 then (z / 2 : Nat) else -((z / 2 : Nat) : Int) - 1)

/-- One symbol of a group with parameter `k` (R307). -/
def riceSymbol (w k : Nat) (b : BitStream) : Option (Nat × BitStream) :=
  if k = 15 then b.take w
  else match b.ones (b.left + 1) with
    | none => none
    | some (q, c) => (c.take k).map fun r => (unzigzag w (q * 2 ^ k + r.1), r.2)

/-- `n` symbols of a group. -/
def riceSymbols (w k : Nat) : Nat → BitStream → Option (List Nat × BitStream)
  | 0, b => some ([], b)
  | n + 1, b =>
    match riceSymbol w k b with
    | none => none
    | some (x, c) => (riceSymbols w k n c).map fun r => (x :: r.1, r.2)

/-- The groups of a tile of `n` symbols (R307). -/
def riceGroups (w : Nat) : Nat → Nat → BitStream → Option (List Nat × BitStream)
  | 0, _, b => some ([], b)
  | fuel + 1, n, b =>
    if n = 0 then some ([], b)
    else match b.take 4 with
      | none => none
      | some (k, c) =>
        if k ≠ 15 ∧ w ≤ k then none
        else match riceSymbols w k (min 32 n) c with
          | none => none
          | some (xs, d) => (riceGroups w fuel (n - min 32 n) d).map fun r => (xs ++ r.1, r.2)

/-- Two 4-bit symbols a byte, the first in bits 3:0 (R307). -/
def packNibbles : List Nat → Bytes
  | a :: b :: l => BitVec.ofNat 8 (a + 16 * b) :: packNibbles l
  | [a] => [BitVec.ofNat 8 a]
  | [] => []

/-- Decode one coded tile: its raw bytes and the stream behind it; none is a decode error (R306 to R308). -/
def decodeTile (b : Bytes) : Option (Bytes × Bytes) :=
  let h := u64 b 0
  let n := bits h 0 12 + 1
  let mode := bits h 12 2
  let clen := bits h 16 16
  let payload := slice b 8 clen
  let s : BitStream := ⟨leNat payload, 8 * payload.length⟩
  let raw : Option (Bytes × BitStream) :=
    if mode = 0 then (s.take (8 * n)).map fun r => (leBytes n r.1, r.2)
    else if mode = 1 then (riceGroups 4 (2 * n) (2 * n) s).map fun r => (packNibbles r.1, r.2)
    else if mode = 2 then (riceGroups 8 n n s).map fun r => (r.1.map (BitVec.ofNat 8), r.2)
    else none
  if b.length < 8 ∨ bits h 14 2 ≠ 0 ∨ 4096 < clen then none
  else match raw with
    | none => none
    | some (r, rest) =>
      if rest.ahead ≠ 0 ∨ crc32 r ≠ u32 b 4 then none else some (r, b.drop (8 + ceilDiv clen 8 * 8))

/-- Decode a coded stream (R306). -/
def decodeStream : Nat → Bytes → Option Bytes
  | 0, _ => none
  | fuel + 1, b =>
    if b = [] then some []
    else match decodeTile b with
      | none => none
      | some (r, rest) => (decodeStream fuel rest).map (r ++ ·)

/-- Decode the first `n` raw bytes of a coded stream, tile by tile (R306). -/
def decodePrefix : Nat → Nat → Bytes → Option Bytes
  | 0, _, _ => none
  | fuel + 1, n, b =>
    if n = 0 then some []
    else match decodeTile b with
      | none => none
      | some (r, rest) =>
        if n ≤ r.length then some (r.take n) else (decodePrefix fuel (n - r.length) rest).map (r ++ ·)

/-! ### Zero-run coding (R310, R311) -/

/-- The mask of a block: bit i is 1 where raw byte i is not zero. -/
def zrMask : Bytes → Nat
  | [] => 0
  | x :: l => (if x = 0 then 0 else 1) + 2 * zrMask l

/-- A coded block (R310). -/
def zrBlock (l : Bytes) : Bytes := leBytes 8 (zrMask l) ++ l.filter (· != 0)

/-- The blocks of a payload, one for each 64 raw bytes (R310). -/
def zrBlocks : Nat → Bytes → Bytes
  | 0, _ => []
  | n + 1, l => zrBlock (l.take 64) ++ zrBlocks n (l.drop 64)

/-- The coded payload: the blocks, padded to a multiple of 64 bytes (R310). -/
def zrEncode (l : Bytes) : Bytes :=
  let c := zrBlocks (ceilDiv l.length 64) l
  padTo (ceilDiv c.length 64 * 64) c

/-- Place the listed bytes where the mask says; the rest of the list follows. -/
def zrPlace : Nat → Nat → Bytes → Bytes × Bytes
  | 0, _, l => ([], l)
  | n + 1, m, l =>
    if m % 2 = 1 then
      match l with
      | x :: l => let r := zrPlace n (m / 2) l; (x :: r.1, r.2)
      | [] => let r := zrPlace n (m / 2) []; (0 :: r.1, r.2)
    else let r := zrPlace n (m / 2) l; (0 :: r.1, r.2)

/-- Restore `n` raw blocks of 64 bytes (R311). -/
def zrDecode : Nat → Bytes → Bytes
  | 0, _ => []
  | n + 1, c =>
    let r := zrPlace 64 (leNat (c.take 8)) (c.drop 8)
    r.1 ++ zrDecode n r.2

/-- The ring beats of a payload: coded only where that is shorter (R311). -/
def ringBeats (zr : Bool) (payload : Bytes) : Nat :=
  let raw := ceilDiv payload.length 64
  let coded := (zrEncode payload).length / 64
  if zr && decide (coded < raw) then coded else raw

end Sys2Proof.Machine
end

