-- ==== Sys2Proof/Machine/RegReset.lean ====
section
/-! DEFINITION. Reset values that a register table gives by name and not by number: the nominal frequency code and the
bottom of the range of each island (R110, R117), and the default fault levels (R591). -/

namespace Sys2Proof.Machine

/-- The nominal FCODE of island `k`: its nominal frequency in steps of 25 MHz (R110, R117), 0 for an island without one. DESIGN CHOICE
(log 134): rounded down where the nominal frequency is no multiple of 25 MHz. -/
def nominalFcode (k : Nat) : Nat :=
  if k = 1 then 32 else if k = 2 then 50 else if k = 3 then 20 else if k = 4 then 40 else if k = 5 then 40
  else if k = 6 then 40 else if 0x10 ≤ k ∧ k ≤ 0x17 then 50 else if 0x18 ≤ k ∧ k ≤ 0x1B then 40
  else if 0x20 ≤ k ∧ k ≤ 0x37 then 64 else if 0x40 ≤ k ∧ k ≤ 0x45 then 42 else if k = 0x48 then 16
  else if k = 0x49 then 3 else if k = 0x4A then 8 else if k = 0x4B then 20 else if k = 0x4C then 16
  else if k = 0x4D then 16 else 0

/-- The voltage of a DVFS island at an FCODE, in mV (R161). -/
def voltPoint (k f : Nat) : Nat :=
  if 0x10 ≤ k ∧ k ≤ 0x17 then (if f < 30 then 620 else if f < 38 then 680 else if f < 45 then 750 else 820)
  else if f < 30 then 620 else if f < 40 then 700 else 750

/-- The bottom of the DVFS range of island `k` (R110); fixed islands read nominal (CLK_ISL.FLOOR). -/
def floorFcode (k : Nat) : Nat :=
  if k = 6 then 20 else if 0x10 ≤ k ∧ k ≤ 0x17 then 24 else if 0x18 ≤ k ∧ k ≤ 0x1B then 20 else nominalFcode k

/-- The default level of a fault code (R591), and of the Shepherd codes (R609); 0 for a reserved code. -/
def faultDefault (c : Nat) : Nat :=
  if c = 0x04 ∨ c = 0x20 ∨ c = 0x21 then 4
  else if c = 0x22 ∨ c = 0x18 then 3
  else if c = 0x09 ∨ c = 0x12 ∨ c = 0x15 then 1
  else if c = 0x06 ∨ c = 0x17 then 0
  else if (0x01 ≤ c ∧ c ≤ 0x0D) ∨ (0x10 ≤ c ∧ c ≤ 0x19) then 2
  else 0

/-- SF_FLT_LVL[k]: code 8k + j in bits 4j + 2 : 4j. -/
def faultLevelReset (k : Nat) : Nat :=
  (List.range 8).foldl (fun a j => a + faultDefault (8 * k + j) * 16 ^ j) 0

end Sys2Proof.Machine
end

