-- ==== Sys2Proof/Machine/RegField.lean ====
section
/-! DEFINITION. What a register field is (R10 access codes, R12 Keep classes, R17 Collide classes), how fields lie in the
register space (R84), and the sparse store that holds their values: a list of key and value pairs, keys strictly rising,
that lists no field standing at its reset value. -/

namespace Sys2Proof.Machine

/-- Access codes (R10). -/
inductive Access where
  | RW | RO | W1C | W1S | WO | RC | RWL
  deriving DecidableEq, Repr

/-- Keep classes (R12); `N` is a field that stores nothing. -/
inductive Keep where
  | A | W | S | I | L | V | N
  deriving DecidableEq, Repr

/-- Collide classes (R17, R102). -/
inductive Collide where
  | HS | HC | HK | CT | HV | SW
  deriving DecidableEq, Repr

/-- One field of one register: byte address of the register, lowest bit, width, reset value and the three classes. -/
structure Field where
  addr : Nat
  lsb : Nat
  width : Nat
  reset : Nat
  acc : Access
  keep : Keep
  col : Collide
  deriving DecidableEq, Repr

/-- A register (or an array of registers at up to three strides) and its fields. -/
structure Group where
  base : Nat
  dims : List (Nat × Nat)
  fields : Nat → Nat → Nat → List Field

/-- The store's key of a field: no two fields of the register space share one. -/
def Field.key (f : Field) : Nat := f.addr * 32 + f.lsb

/-- A sparse map from Nat keys, keys strictly rising in every state a step reaches. -/
abbrev Sparse (α : Type) := List (Nat × α)

namespace Sparse

/-- The value listed at a key. -/
def find {α : Type} : Sparse α → Nat → Option α
  | [], _ => none
  | (k, v) :: m, j => if j = k then some v else find m j

/-- List a value at a key, in the key's place. -/
def insert {α : Type} : Sparse α → Nat → α → Sparse α
  | [], j, x => [(j, x)]
  | (k, v) :: m, j, x =>
    if j < k then (j, x) :: (k, v) :: m
    else if j = k then (j, x) :: m
    else (k, v) :: insert m j x

/-- List nothing at a key. -/
def erase {α : Type} : Sparse α → Nat → Sparse α
  | [], _ => []
  | (k, v) :: m, j => if j = k then erase m j else (k, v) :: erase m j

/-- Store a value at a key whose unlisted value is `d`. -/
def put {α : Type} [DecidableEq α] (m : Sparse α) (d : α) (j : Nat) (x : α) : Sparse α :=
  if x = d then m.erase j else m.insert j x

/-- Read a key whose unlisted value is `d`. -/
def get {α : Type} (m : Sparse α) (d : α) (j : Nat) : α := (m.find j).getD d

/-- Keep the entries whose key passes a test. -/
def keep {α : Type} (m : Sparse α) (p : Nat → Bool) : Sparse α := List.filter (fun e => p e.1) m

/-- Keys strictly rising. -/
def sorted {α : Type} : Sparse α → Bool
  | [] => true
  | [_] => true
  | (k, _) :: (j, y) :: m => decide (k < j) && sorted ((j, y) :: m)

end Sparse

/-- The register store: the value of every field that does not stand at its reset value, by field key. -/
abbrev RegStore := Sparse Nat

namespace RegStore

/-- The value of a field. -/
def rd (r : RegStore) (f : Field) : Nat := (Sparse.find r f.key).getD f.reset

/-- Write a field: the value is cut to the field's width, and a field back at its reset value is not listed. -/
def wr (r : RegStore) (f : Field) (v : Nat) : RegStore :=
  Sparse.put r f.reset f.key (v % 2 ^ f.width)

end RegStore

end Sys2Proof.Machine
end

