-- ==== Sys2Proof/Machine/RegsBus.lean ====
section
/-! DEFINITION. The fields of the CAN, motion, Ethernet and host link registers (chapters 23 to 26), one definition per field: address,
lowest bit, width, reset value, access code, Keep class and Collide class as the spec's register tables give them
(a register of one field bears the register's name). -/

namespace Sys2Proof.Machine.Reg

/-- CAN_CTL (23_can_fd). -/
def CAN_CTL_EN (n : Nat) : Field := ⟨0x340000 + 0x1000 * n, 0, 1, 0, .RWL, .I, .SW⟩
def CAN_CTL_MODE (n : Nat) : Field := ⟨0x340000 + 0x1000 * n, 1, 2, 0, .RW, .S, .SW⟩
def CAN_CTL_SLEEP (n : Nat) : Field := ⟨0x340000 + 0x1000 * n, 3, 1, 0, .RW, .S, .SW⟩
def CAN_CTL_AUTOWAKE (n : Nat) : Field := ⟨0x340000 + 0x1000 * n, 4, 1, 0, .RW, .S, .SW⟩
def CAN_CTL_RECOVER (n : Nat) : Field := ⟨0x340000 + 0x1000 * n, 5, 1, 0, .WO, .S, .HC⟩
def CAN_CTL_AUTOREC (n : Nat) : Field := ⟨0x340000 + 0x1000 * n, 6, 1, 0, .RWL, .I, .SW⟩
def CAN_CTL_PXHD (n : Nat) : Field := ⟨0x340000 + 0x1000 * n, 7, 1, 0, .RWL, .I, .SW⟩
def CAN_CTL_JOINR (n : Nat) : Field := ⟨0x340000 + 0x1000 * n, 8, 1, 0, .RWL, .I, .SW⟩
/-- CAN_NBT (23_can_fd). -/
def CAN_NBT_NBRP (n : Nat) : Field := ⟨0x340004 + 0x1000 * n, 0, 9, 0, .RWL, .I, .SW⟩
def CAN_NBT_NTSEG1 (n : Nat) : Field := ⟨0x340004 + 0x1000 * n, 9, 8, 0x3e, .RWL, .I, .SW⟩
def CAN_NBT_NTSEG2 (n : Nat) : Field := ⟨0x340004 + 0x1000 * n, 17, 7, 0xf, .RWL, .I, .SW⟩
def CAN_NBT_NSJW (n : Nat) : Field := ⟨0x340004 + 0x1000 * n, 24, 7, 0xf, .RWL, .I, .SW⟩
/-- CAN_DBT (23_can_fd). -/
def CAN_DBT_DBRP (n : Nat) : Field := ⟨0x340008 + 0x1000 * n, 0, 5, 0, .RWL, .I, .SW⟩
def CAN_DBT_DTSEG1 (n : Nat) : Field := ⟨0x340008 + 0x1000 * n, 5, 5, 6, .RWL, .I, .SW⟩
def CAN_DBT_DTSEG2 (n : Nat) : Field := ⟨0x340008 + 0x1000 * n, 10, 4, 1, .RWL, .I, .SW⟩
def CAN_DBT_DSJW (n : Nat) : Field := ⟨0x340008 + 0x1000 * n, 14, 4, 1, .RWL, .I, .SW⟩
def CAN_DBT_TDC_EN (n : Nat) : Field := ⟨0x340008 + 0x1000 * n, 18, 1, 1, .RWL, .I, .SW⟩
def CAN_DBT_TDCO (n : Nat) : Field := ⟨0x340008 + 0x1000 * n, 19, 7, 8, .RWL, .I, .SW⟩
/-- CAN_TDC (23_can_fd). -/
def CAN_TDC_TDCF (n : Nat) : Field := ⟨0x34000c + 0x1000 * n, 0, 7, 0, .RWL, .I, .SW⟩
def CAN_TDC_TDCV (n : Nat) : Field := ⟨0x34000c + 0x1000 * n, 16, 7, 0, .RO, .V, .HV⟩
/-- CAN_STATUS (23_can_fd). -/
def CAN_STATUS_STATE (n : Nat) : Field := ⟨0x340010 + 0x1000 * n, 0, 3, 0, .RO, .V, .HV⟩
def CAN_STATUS_RESTRICTED (n : Nat) : Field := ⟨0x340010 + 0x1000 * n, 3, 1, 0, .RO, .V, .HV⟩
def CAN_STATUS_MONITOR (n : Nat) : Field := ⟨0x340010 + 0x1000 * n, 4, 1, 0, .RO, .V, .HV⟩
def CAN_STATUS_EWARN (n : Nat) : Field := ⟨0x340010 + 0x1000 * n, 5, 1, 0, .RO, .V, .HV⟩
def CAN_STATUS_LASTERR (n : Nat) : Field := ⟨0x340010 + 0x1000 * n, 6, 3, 0, .RO, .V, .HV⟩
/-- CAN_ERRCNT (23_can_fd). -/
def CAN_ERRCNT_TEC (n : Nat) : Field := ⟨0x340014 + 0x1000 * n, 0, 9, 0, .RO, .V, .HV⟩
def CAN_ERRCNT_REC (n : Nat) : Field := ⟨0x340014 + 0x1000 * n, 16, 8, 0, .RO, .V, .HV⟩
/-- CAN_ERR (23_can_fd). -/
def CAN_ERR_BOFF (n : Nat) : Field := ⟨0x340018 + 0x1000 * n, 0, 1, 0, .W1C, .V, .HS⟩
def CAN_ERR_EPASS (n : Nat) : Field := ⟨0x340018 + 0x1000 * n, 1, 1, 0, .W1C, .V, .HS⟩
def CAN_ERR_EWARN (n : Nat) : Field := ⟨0x340018 + 0x1000 * n, 2, 1, 0, .W1C, .V, .HS⟩
def CAN_ERR_PXE (n : Nat) : Field := ⟨0x340018 + 0x1000 * n, 3, 1, 0, .W1C, .V, .HS⟩
def CAN_ERR_TDC_SAT (n : Nat) : Field := ⟨0x340018 + 0x1000 * n, 4, 1, 0, .W1C, .V, .HS⟩
def CAN_ERR_MSGLOST (n : Nat) : Field := ⟨0x340018 + 0x1000 * n, 5, 1, 0, .W1C, .V, .HS⟩
def CAN_ERR_FIFOOVF (n : Nat) : Field := ⟨0x340018 + 0x1000 * n, 6, 1, 0, .W1C, .V, .HS⟩
/-- CAN_TXOK (23_can_fd). -/
def CAN_TXOK (n : Nat) : Field := ⟨0x340020 + 0x1000 * n, 0, 32, 0, .RW, .V, .CT⟩
/-- CAN_RXOK (23_can_fd). -/
def CAN_RXOK (n : Nat) : Field := ⟨0x340024 + 0x1000 * n, 0, 32, 0, .RW, .V, .CT⟩
/-- CAN_ARBLOST (23_can_fd). -/
def CAN_ARBLOST (n : Nat) : Field := ⟨0x340028 + 0x1000 * n, 0, 32, 0, .RW, .V, .CT⟩
/-- CAN_ERRDET (23_can_fd). -/
def CAN_ERRDET (n : Nat) : Field := ⟨0x34002c + 0x1000 * n, 0, 32, 0, .RW, .V, .CT⟩
/-- CAN_BOFFCNT (23_can_fd). -/
def CAN_BOFFCNT_BOFF (n : Nat) : Field := ⟨0x340030 + 0x1000 * n, 0, 16, 0, .RW, .V, .CT⟩
def CAN_BOFFCNT_RECOV (n : Nat) : Field := ⟨0x340030 + 0x1000 * n, 16, 16, 0, .RW, .V, .CT⟩
/-- CAN_NOMATCH (23_can_fd). -/
def CAN_NOMATCH (n : Nat) : Field := ⟨0x340034 + 0x1000 * n, 0, 32, 0, .RW, .V, .CT⟩
/-- CAN_TXABAND (23_can_fd). -/
def CAN_TXABAND (n : Nat) : Field := ⟨0x340038 + 0x1000 * n, 0, 32, 0, .RW, .V, .CT⟩
/-- CAN_FIFOLOST (23_can_fd). -/
def CAN_FIFOLOST (n : Nat) : Field := ⟨0x34003c + 0x1000 * n, 0, 32, 0, .RW, .V, .CT⟩
/-- CAN_FIFO (23_can_fd). -/
def CAN_FIFO_FIFO_FIRST (n : Nat) : Field := ⟨0x340040 + 0x1000 * n, 0, 11, 0, .RWL, .I, .SW⟩
def CAN_FIFO_FIFO_COUNT (n : Nat) : Field := ⟨0x340040 + 0x1000 * n, 12, 10, 0, .RWL, .I, .SW⟩
def CAN_FIFO_OVWR (n : Nat) : Field := ⟨0x340040 + 0x1000 * n, 31, 1, 0, .RWL, .I, .SW⟩
/-- CAN_FIFO_STAT (23_can_fd). -/
def CAN_FIFO_STAT_LEVEL (n : Nat) : Field := ⟨0x340044 + 0x1000 * n, 0, 10, 0, .RO, .V, .HV⟩
def CAN_FIFO_STAT_OLDEST (n : Nat) : Field := ⟨0x340044 + 0x1000 * n, 12, 9, 0, .RO, .V, .HV⟩
/-- CAN_REST (23_can_fd). -/
def CAN_REST_REST_OK (n : Nat) : Field := ⟨0x340048 + 0x1000 * n, 0, 8, 4, .RWL, .I, .SW⟩
/-- CAN_IRQ (23_can_fd). -/
def CAN_IRQ_VEC (n : Nat) : Field := ⟨0x34004c + 0x1000 * n, 0, 10, 0, .RWL, .I, .SW⟩
def CAN_IRQ_EN_RX (n : Nat) : Field := ⟨0x34004c + 0x1000 * n, 16, 1, 0, .RWL, .I, .SW⟩
def CAN_IRQ_EN_FIFO (n : Nat) : Field := ⟨0x34004c + 0x1000 * n, 17, 1, 0, .RWL, .I, .SW⟩
def CAN_IRQ_EN_BOFF (n : Nat) : Field := ⟨0x34004c + 0x1000 * n, 18, 1, 0, .RWL, .I, .SW⟩
def CAN_IRQ_EN_EPASS (n : Nat) : Field := ⟨0x34004c + 0x1000 * n, 19, 1, 0, .RWL, .I, .SW⟩
def CAN_IRQ_FIFO_WM (n : Nat) : Field := ⟨0x34004c + 0x1000 * n, 20, 10, 0, .RWL, .I, .SW⟩
/-- FLT_ID (23_can_fd). -/
def FLT_ID_ID (n : Nat) (f : Nat) : Field := ⟨0x340100 + 0x1000 * n + 0x10 * f, 0, 29, 0, .RWL, .I, .SW⟩
def FLT_ID_XTD (n : Nat) (f : Nat) : Field := ⟨0x340100 + 0x1000 * n + 0x10 * f, 29, 1, 0, .RWL, .I, .SW⟩
def FLT_ID_ACTION (n : Nat) (f : Nat) : Field := ⟨0x340100 + 0x1000 * n + 0x10 * f, 30, 2, 0, .RWL, .I, .SW⟩
/-- FLT_MASK (23_can_fd). -/
def FLT_MASK (n : Nat) (f : Nat) : Field := ⟨0x340104 + 0x1000 * n + 0x10 * f, 0, 29, 0, .RWL, .I, .SW⟩
/-- FLT_TGT (23_can_fd). -/
def FLT_TGT_OBJ (n : Nat) (f : Nat) : Field := ⟨0x340108 + 0x1000 * n + 0x10 * f, 0, 11, 0, .RWL, .I, .SW⟩
def FLT_TGT_PEER (n : Nat) (f : Nat) : Field := ⟨0x340108 + 0x1000 * n + 0x10 * f, 16, 1, 0, .RWL, .I, .SW⟩
def FLT_TGT_PIN (n : Nat) (f : Nat) : Field := ⟨0x340108 + 0x1000 * n + 0x10 * f, 17, 1, 0, .RWL, .I, .SW⟩
/-- FLT_SRC (23_can_fd). -/
def FLT_SRC (n : Nat) (f : Nat) : Field := ⟨0x34010c + 0x1000 * n + 0x10 * f, 0, 29, 0, .RWL, .I, .SW⟩
/-- CAN_SHD_CTL (23_can_fd). -/
def CAN_SHD_CTL_OBJ (n : Nat) : Field := ⟨0x340400 + 0x1000 * n, 0, 11, 0, .RW, .V, .SW⟩
def CAN_SHD_CTL_GO (n : Nat) : Field := ⟨0x340400 + 0x1000 * n, 16, 1, 0, .WO, .V, .HC⟩
def CAN_SHD_CTL_POP (n : Nat) : Field := ⟨0x340400 + 0x1000 * n, 17, 1, 0, .WO, .V, .HC⟩
/-- CAN_SHD_HDR0 (23_can_fd). -/
def CAN_SHD_HDR0 (n : Nat) : Field := ⟨0x340404 + 0x1000 * n, 0, 32, 0, .RO, .V, .HV⟩
/-- CAN_SHD_HDR1 (23_can_fd). -/
def CAN_SHD_HDR1 (n : Nat) : Field := ⟨0x340408 + 0x1000 * n, 0, 32, 0, .RO, .V, .HV⟩
/-- CAN_SHD_TS_SEC (23_can_fd). -/
def CAN_SHD_TS_SEC (n : Nat) : Field := ⟨0x34040c + 0x1000 * n, 0, 32, 0, .RO, .V, .HV⟩
/-- CAN_SHD_TS_NS (23_can_fd). -/
def CAN_SHD_TS_NS (n : Nat) : Field := ⟨0x340410 + 0x1000 * n, 0, 32, 0, .RO, .V, .HV⟩
/-- CAN_SHD_FLAG (23_can_fd). -/
def CAN_SHD_FLAG_VALID (n : Nat) : Field := ⟨0x340414 + 0x1000 * n, 0, 1, 0, .RO, .V, .HV⟩
def CAN_SHD_FLAG_NEWDAT (n : Nat) : Field := ⟨0x340414 + 0x1000 * n, 1, 1, 0, .RO, .V, .HV⟩
def CAN_SHD_FLAG_MSGLOST (n : Nat) : Field := ⟨0x340414 + 0x1000 * n, 2, 1, 0, .RO, .V, .HV⟩
def CAN_SHD_FLAG_EMPTY (n : Nat) : Field := ⟨0x340414 + 0x1000 * n, 3, 1, 0, .RO, .V, .HV⟩
def CAN_SHD_FLAG_ESI (n : Nat) : Field := ⟨0x340414 + 0x1000 * n, 4, 1, 0, .RO, .V, .HV⟩
/-- CAN_SHD_DATA (23_can_fd). -/
def CAN_SHD_DATA (n : Nat) (j : Nat) : Field := ⟨0x340420 + 0x1000 * n + 4 * j, 0, 32, 0, .RO, .V, .HV⟩
/-- PEER_IDX (23_can_fd). -/
def PEER_IDX_IDX (n : Nat) : Field := ⟨0x340600 + 0x1000 * n, 0, 7, 0, .RW, .V, .SW⟩
/-- PEER_ENT0 (23_can_fd). -/
def PEER_ENT0_ID (n : Nat) : Field := ⟨0x340604 + 0x1000 * n, 0, 29, 0, .RO, .V, .HV⟩
def PEER_ENT0_XTD (n : Nat) : Field := ⟨0x340604 + 0x1000 * n, 29, 1, 0, .RO, .V, .HV⟩
def PEER_ENT0_PINNED (n : Nat) : Field := ⟨0x340604 + 0x1000 * n, 30, 1, 0, .RO, .V, .HV⟩
def PEER_ENT0_VALID (n : Nat) : Field := ⟨0x340604 + 0x1000 * n, 31, 1, 0, .RO, .V, .HV⟩
/-- PEER_ENT1 (23_can_fd). -/
def PEER_ENT1_CTRL (n : Nat) : Field := ⟨0x340608 + 0x1000 * n, 0, 3, 0, .RO, .V, .HV⟩
def PEER_ENT1_MS (n : Nat) : Field := ⟨0x340608 + 0x1000 * n, 16, 16, 0, .RO, .V, .HV⟩
/-- CAN_WK_CFG (23_can_fd). -/
def CAN_WK_CFG_MODE (n : Nat) : Field := ⟨0x340e00 + 0x1000 * n, 0, 2, 0, .RW, .W, .SW⟩
def CAN_WK_CFG_RATE (n : Nat) : Field := ⟨0x340e00 + 0x1000 * n, 2, 2, 0, .RW, .W, .SW⟩
def CAN_WK_CFG_WK_XTD (n : Nat) : Field := ⟨0x340e00 + 0x1000 * n, 4, 1, 0, .RW, .W, .SW⟩
def CAN_WK_CFG_ERRWAKE (n : Nat) : Field := ⟨0x340e00 + 0x1000 * n, 5, 1, 0, .RW, .W, .SW⟩
def CAN_WK_CFG_WK_DLC (n : Nat) : Field := ⟨0x340e00 + 0x1000 * n, 6, 4, 0, .RW, .W, .SW⟩
def CAN_WK_CFG_FILT (n : Nat) : Field := ⟨0x340e00 + 0x1000 * n, 10, 6, 2, .RW, .W, .SW⟩
/-- CAN_WK_ID (23_can_fd). -/
def CAN_WK_ID (n : Nat) : Field := ⟨0x340e04 + 0x1000 * n, 0, 29, 0, .RW, .W, .SW⟩
/-- CAN_WK_MASK (23_can_fd). -/
def CAN_WK_MASK (n : Nat) : Field := ⟨0x340e08 + 0x1000 * n, 0, 29, 0, .RW, .W, .SW⟩
/-- CAN_WK_DMASK_LO (23_can_fd). -/
def CAN_WK_DMASK_LO (n : Nat) : Field := ⟨0x340e0c + 0x1000 * n, 0, 32, 0, .RW, .W, .SW⟩
/-- CAN_WK_DMASK_HI (23_can_fd). -/
def CAN_WK_DMASK_HI (n : Nat) : Field := ⟨0x340e10 + 0x1000 * n, 0, 32, 0, .RW, .W, .SW⟩
/-- CAN_WK_STAT (23_can_fd). -/
def CAN_WK_STAT_ERRCNT (n : Nat) : Field := ⟨0x340e14 + 0x1000 * n, 0, 6, 0, .RO, .W, .HV⟩
def CAN_WK_STAT_WOKE (n : Nat) : Field := ⟨0x340e14 + 0x1000 * n, 8, 1, 0, .W1C, .W, .HS⟩
def CAN_WK_STAT_ERRW (n : Nat) : Field := ⟨0x340e14 + 0x1000 * n, 9, 1, 0, .W1C, .W, .HS⟩
/-- JSP_CFG (24_motion_io). -/
def JSP_CFG_MODE (n : Nat) : Field := ⟨0x360000 + 0x100 * n, 0, 2, 0, .RWL, .I, .SW⟩
def JSP_CFG_NBITS (n : Nat) : Field := ⟨0x360000 + 0x100 * n, 2, 7, 0, .RWL, .I, .SW⟩
def JSP_CFG_CPOL (n : Nat) : Field := ⟨0x360000 + 0x100 * n, 9, 1, 0, .RWL, .I, .SW⟩
def JSP_CFG_CPHA (n : Nat) : Field := ⟨0x360000 + 0x100 * n, 10, 1, 0, .RWL, .I, .SW⟩
def JSP_CFG_GRAY (n : Nat) : Field := ⟨0x360000 + 0x100 * n, 11, 1, 0, .RWL, .I, .SW⟩
def JSP_CFG_SIGNED (n : Nat) : Field := ⟨0x360000 + 0x100 * n, 12, 1, 0, .RWL, .I, .SW⟩
def JSP_CFG_CHK (n : Nat) : Field := ⟨0x360000 + 0x100 * n, 13, 2, 0, .RWL, .I, .SW⟩
def JSP_CFG_TRIG_TOUT (n : Nat) : Field := ⟨0x360000 + 0x100 * n, 15, 1, 0, .RWL, .I, .SW⟩
def JSP_CFG_TOUTSEL (n : Nat) : Field := ⟨0x360000 + 0x100 * n, 16, 4, 0, .RWL, .I, .SW⟩
def JSP_CFG_CLKDIV (n : Nat) : Field := ⟨0x360000 + 0x100 * n, 24, 8, 0, .RWL, .I, .SW⟩
/-- JSP_FIELD (24_motion_io). -/
def JSP_FIELD_POS_LSB (n : Nat) : Field := ⟨0x360004 + 0x100 * n, 0, 6, 0, .RWL, .I, .SW⟩
def JSP_FIELD_POS_W (n : Nat) : Field := ⟨0x360004 + 0x100 * n, 6, 6, 0, .RWL, .I, .SW⟩
def JSP_FIELD_ERRBIT (n : Nat) : Field := ⟨0x360004 + 0x100 * n, 12, 7, 0, .RWL, .I, .SW⟩
def JSP_FIELD_CRCPOLY (n : Nat) : Field := ⟨0x360004 + 0x100 * n, 19, 8, 0, .RWL, .I, .SW⟩
/-- JSP_TIME (24_motion_io). -/
def JSP_TIME_PERIOD_US (n : Nat) : Field := ⟨0x360008 + 0x100 * n, 0, 16, 0, .RWL, .I, .SW⟩
def JSP_TIME_TM_US (n : Nat) : Field := ⟨0x360008 + 0x100 * n, 16, 8, 0, .RWL, .I, .SW⟩
def JSP_TIME_DELAY (n : Nat) : Field := ⟨0x360008 + 0x100 * n, 24, 8, 0, .RWL, .I, .SW⟩
/-- JSP_CMD (24_motion_io). -/
def JSP_CMD_CMD (n : Nat) : Field := ⟨0x36000c + 0x100 * n, 0, 16, 0, .RWL, .I, .SW⟩
def JSP_CMD_CMDLEN (n : Nat) : Field := ⟨0x36000c + 0x100 * n, 16, 5, 0, .RWL, .I, .SW⟩
/-- JSP_STALE (24_motion_io). -/
def JSP_STALE_STALE_US (n : Nat) : Field := ⟨0x360010 + 0x100 * n, 0, 16, 0x1f4, .RWL, .I, .SW⟩
/-- JSP_RING_LO (24_motion_io). -/
def JSP_RING_LO (n : Nat) : Field := ⟨0x360014 + 0x100 * n, 0, 32, 0, .RWL, .I, .SW⟩
/-- JSP_RING_HI (24_motion_io). -/
def JSP_RING_HI (n : Nat) : Field := ⟨0x360018 + 0x100 * n, 0, 32, 0, .RWL, .I, .SW⟩
/-- JSP_STATUS (24_motion_io). -/
def JSP_STATUS_VALID (n : Nat) : Field := ⟨0x36001c + 0x100 * n, 0, 1, 0, .RO, .V, .HV⟩
def JSP_STATUS_STALE (n : Nat) : Field := ⟨0x36001c + 0x100 * n, 1, 1, 0, .RO, .V, .HV⟩
def JSP_STATUS_OUTCOME (n : Nat) : Field := ⟨0x36001c + 0x100 * n, 2, 2, 0, .RO, .V, .HV⟩
/-- JSP_SEQ (24_motion_io). -/
def JSP_SEQ (n : Nat) : Field := ⟨0x360020 + 0x100 * n, 0, 32, 0, .RO, .V, .HV⟩
/-- JSP_POS_LO (24_motion_io). -/
def JSP_POS_LO (n : Nat) : Field := ⟨0x360024 + 0x100 * n, 0, 32, 0, .RO, .V, .HV⟩
/-- JSP_POS_HI (24_motion_io). -/
def JSP_POS_HI (n : Nat) : Field := ⟨0x360028 + 0x100 * n, 0, 32, 0, .RO, .V, .HV⟩
/-- JSP_ERR (24_motion_io). -/
def JSP_ERR_BAD (n : Nat) : Field := ⟨0x36002c + 0x100 * n, 0, 16, 0, .RW, .V, .CT⟩
def JSP_ERR_CONSEC (n : Nat) : Field := ⟨0x36002c + 0x100 * n, 16, 8, 0, .RW, .V, .CT⟩
def JSP_ERR_SKIP (n : Nat) : Field := ⟨0x36002c + 0x100 * n, 24, 8, 0, .RW, .V, .CT⟩
/-- QEI_CFG (24_motion_io). -/
def QEI_CFG_EN (k : Nat) : Field := ⟨0x361000 + 0x40 * k, 0, 1, 0, .RWL, .I, .SW⟩
def QEI_CFG_DIR (k : Nat) : Field := ⟨0x361000 + 0x40 * k, 1, 1, 0, .RWL, .I, .SW⟩
def QEI_CFG_ZRST (k : Nat) : Field := ⟨0x361000 + 0x40 * k, 2, 1, 0, .RWL, .I, .SW⟩
def QEI_CFG_SNAP_TOUT (k : Nat) : Field := ⟨0x361000 + 0x40 * k, 3, 1, 0, .RWL, .I, .SW⟩
def QEI_CFG_TOUTSEL (k : Nat) : Field := ⟨0x361000 + 0x40 * k, 4, 4, 0, .RWL, .I, .SW⟩
def QEI_CFG_FILT (k : Nat) : Field := ⟨0x361000 + 0x40 * k, 8, 8, 0, .RWL, .I, .SW⟩
/-- QEI_COUNT (24_motion_io). -/
def QEI_COUNT (k : Nat) : Field := ⟨0x361004 + 0x40 * k, 0, 32, 0, .RO, .V, .HV⟩
/-- QEI_CTL (24_motion_io). -/
def QEI_CTL_SNAP (k : Nat) : Field := ⟨0x361008 + 0x40 * k, 0, 1, 0, .WO, .V, .HC⟩
/-- QEI_SNAP_CNT (24_motion_io). -/
def QEI_SNAP_CNT (k : Nat) : Field := ⟨0x36100c + 0x40 * k, 0, 32, 0, .RO, .V, .HV⟩
/-- QEI_SNAP_SEC (24_motion_io). -/
def QEI_SNAP_SEC (k : Nat) : Field := ⟨0x361010 + 0x40 * k, 0, 32, 0, .RO, .V, .HV⟩
/-- QEI_SNAP_NS (24_motion_io). -/
def QEI_SNAP_NS (k : Nat) : Field := ⟨0x361014 + 0x40 * k, 0, 32, 0, .RO, .V, .HV⟩
/-- QEI_SNAP_IDX (24_motion_io). -/
def QEI_SNAP_IDX (k : Nat) : Field := ⟨0x361018 + 0x40 * k, 0, 32, 0, .RO, .V, .HV⟩
/-- QEI_ILLEGAL (24_motion_io). -/
def QEI_ILLEGAL (k : Nat) : Field := ⟨0x36101c + 0x40 * k, 0, 32, 0, .RW, .V, .CT⟩
/-- MO_CFG (24_motion_io). -/
def MO_CFG_EN (m : Nat) : Field := ⟨0x362000 + 0x40 * m, 0, 1, 0, .RWL, .I, .SW⟩
def MO_CFG_TYPE (m : Nat) : Field := ⟨0x362000 + 0x40 * m, 1, 1, 0, .RWL, .I, .SW⟩
def MO_CFG_UNIT (m : Nat) : Field := ⟨0x362000 + 0x40 * m, 2, 3, 0, .RWL, .I, .SW⟩
def MO_CFG_OVR_EN (m : Nat) : Field := ⟨0x362000 + 0x40 * m, 5, 1, 0, .RWL, .I, .SW⟩
def MO_CFG_GUARD_EN (m : Nat) : Field := ⟨0x362000 + 0x40 * m, 6, 1, 0, .RWL, .I, .SW⟩
def MO_CFG_GUARD (m : Nat) : Field := ⟨0x362000 + 0x40 * m, 7, 3, 0, .RWL, .I, .SW⟩
/-- MO_OVR (24_motion_io). -/
def MO_OVR_GO (m : Nat) : Field := ⟨0x362004 + 0x40 * m, 0, 1, 0, .WO, .V, .HC⟩
/-- MO_OVR_DATA (24_motion_io). -/
def MO_OVR_DATA (m : Nat) (j : Nat) : Field := ⟨0x362008 + 0x40 * m + 4 * j, 0, 32, 0, .RW, .V, .SW⟩
/-- MO_STAT (24_motion_io). -/
def MO_STAT_ROLL (m : Nat) : Field := ⟨0x36201c + 0x40 * m, 0, 8, 0, .RO, .V, .HV⟩
def MO_STAT_BOOKED (m : Nat) : Field := ⟨0x36201c + 0x40 * m, 8, 1, 0, .RO, .V, .HV⟩
/-- MO_CNT (24_motion_io). -/
def MO_CNT_MO_GUARDED (m : Nat) : Field := ⟨0x362020 + 0x40 * m, 0, 16, 0, .RW, .V, .CT⟩
def MO_CNT_MO_OVRREF (m : Nat) : Field := ⟨0x362020 + 0x40 * m, 16, 16, 0, .RW, .V, .CT⟩
/-- ETH_CFG (25_ethernet). -/
def ETH_CFG_MODE (n : Nat) : Field := ⟨0x300000 + 0x10000 * n, 0, 3, 0, .RWL, .I, .SW⟩
def ETH_CFG_AN_EN (n : Nat) : Field := ⟨0x300000 + 0x10000 * n, 3, 1, 0, .RWL, .I, .SW⟩
def ETH_CFG_MAXFRAME (n : Nat) : Field := ⟨0x300000 + 0x10000 * n, 4, 14, 0x1ee0, .RWL, .I, .SW⟩
def ETH_CFG_PROMISC (n : Nat) : Field := ⟨0x300000 + 0x10000 * n, 18, 1, 1, .RWL, .I, .SW⟩
def ETH_CFG_BCAST (n : Nat) : Field := ⟨0x300000 + 0x10000 * n, 19, 1, 0, .RWL, .I, .SW⟩
def ETH_CFG_LGUARD (n : Nat) : Field := ⟨0x300000 + 0x10000 * n, 20, 1, 0, .RWL, .I, .SW⟩
def ETH_CFG_DEFQ (n : Nat) : Field := ⟨0x300000 + 0x10000 * n, 21, 3, 0, .RWL, .I, .SW⟩
def ETH_CFG_FLAP_MAX (n : Nat) : Field := ⟨0x300000 + 0x10000 * n, 24, 8, 0, .RWL, .I, .SW⟩
/-- ETH_CTL (25_ethernet). -/
def ETH_CTL_RESTART (n : Nat) : Field := ⟨0x300004 + 0x10000 * n, 0, 1, 0, .WO, .V, .HC⟩
/-- ETH_STATUS (25_ethernet). -/
def ETH_STATUS_STATE (n : Nat) : Field := ⟨0x300008 + 0x10000 * n, 0, 2, 0, .RO, .V, .HV⟩
def ETH_STATUS_RFAULT (n : Nat) : Field := ⟨0x300008 + 0x10000 * n, 2, 1, 0, .RO, .V, .HV⟩
def ETH_STATUS_LASTFAULT (n : Nat) : Field := ⟨0x300008 + 0x10000 * n, 3, 3, 0, .RO, .V, .HV⟩
def ETH_STATUS_AN_DONE (n : Nat) : Field := ⟨0x300008 + 0x10000 * n, 6, 1, 0, .RO, .V, .HV⟩
/-- ETH_EQ (25_ethernet). -/
def ETH_EQ_CTLE (n : Nat) : Field := ⟨0x30000c + 0x10000 * n, 0, 8, 0, .RWL, .I, .SW⟩
def ETH_EQ_DFE (n : Nat) : Field := ⟨0x30000c + 0x10000 * n, 8, 8, 0, .RWL, .I, .SW⟩
/-- ETH_MAC_LO (25_ethernet). -/
def ETH_MAC_LO (n : Nat) : Field := ⟨0x300010 + 0x10000 * n, 0, 32, 0, .RWL, .I, .SW⟩
/-- ETH_MAC_HI (25_ethernet). -/
def ETH_MAC_HI (n : Nat) : Field := ⟨0x300014 + 0x10000 * n, 0, 16, 0, .RWL, .I, .SW⟩
/-- ETH_PCPMAP (25_ethernet). -/
def ETH_PCPMAP (n : Nat) : Field := ⟨0x300018 + 0x10000 * n, 0, 32, 0, .RWL, .I, .SW⟩
/-- ETH_MCAST_LO (25_ethernet). -/
def ETH_MCAST_LO (n : Nat) (k : Nat) : Field := ⟨0x300100 + 0x10000 * n + 8 * k, 0, 32, 0, .RWL, .I, .SW⟩
/-- ETH_MCAST_HI (25_ethernet). -/
def ETH_MCAST_HI_MAC (n : Nat) (k : Nat) : Field := ⟨0x300104 + 0x10000 * n + 8 * k, 0, 16, 0, .RWL, .I, .SW⟩
def ETH_MCAST_HI_EN (n : Nat) (k : Nat) : Field := ⟨0x300104 + 0x10000 * n + 8 * k, 31, 1, 0, .RWL, .I, .SW⟩
/-- RXQ_BASE_LO (25_ethernet). -/
def RXQ_BASE_LO (n : Nat) (q : Nat) : Field := ⟨0x301000 + 0x10000 * n + 0x20 * q, 0, 32, 0, .RWL, .I, .SW⟩
/-- RXQ_BASE_HI (25_ethernet). -/
def RXQ_BASE_HI (n : Nat) (q : Nat) : Field := ⟨0x301004 + 0x10000 * n + 0x20 * q, 0, 32, 0, .RWL, .I, .SW⟩
/-- RXQ_DATA_LO (25_ethernet). -/
def RXQ_DATA_LO (n : Nat) (q : Nat) : Field := ⟨0x301008 + 0x10000 * n + 0x20 * q, 0, 32, 0, .RWL, .I, .SW⟩
/-- RXQ_DATA_HI (25_ethernet). -/
def RXQ_DATA_HI (n : Nat) (q : Nat) : Field := ⟨0x30100c + 0x10000 * n + 0x20 * q, 0, 32, 0, .RWL, .I, .SW⟩
/-- RXQ_CFG (25_ethernet). -/
def RXQ_CFG_SZ (n : Nat) (q : Nat) : Field := ⟨0x301010 + 0x10000 * n + 0x20 * q, 0, 4, 0, .RWL, .I, .SW⟩
def RXQ_CFG_SLOT (n : Nat) (q : Nat) : Field := ⟨0x301010 + 0x10000 * n + 0x20 * q, 4, 2, 0, .RWL, .I, .SW⟩
def RXQ_CFG_EN (n : Nat) (q : Nat) : Field := ⟨0x301010 + 0x10000 * n + 0x20 * q, 6, 1, 0, .RWL, .I, .SW⟩
def RXQ_CFG_ENIRQ (n : Nat) (q : Nat) : Field := ⟨0x301010 + 0x10000 * n + 0x20 * q, 7, 1, 0, .RWL, .I, .SW⟩
def RXQ_CFG_VEC (n : Nat) (q : Nat) : Field := ⟨0x301010 + 0x10000 * n + 0x20 * q, 8, 10, 0, .RWL, .I, .SW⟩
/-- RXQ_PTR (25_ethernet). -/
def RXQ_PTR_WRITTEN (n : Nat) (q : Nat) : Field := ⟨0x301014 + 0x10000 * n + 0x20 * q, 0, 16, 0, .RO, .V, .HV⟩
def RXQ_PTR_HEAD (n : Nat) (q : Nat) : Field := ⟨0x301014 + 0x10000 * n + 0x20 * q, 16, 16, 0, .RO, .V, .HV⟩
/-- RXQ_DB (25_ethernet). -/
def RXQ_DB_ADD (n : Nat) (q : Nat) : Field := ⟨0x301018 + 0x10000 * n + 0x20 * q, 0, 16, 0, .WO, .N, .SW⟩
/-- TXQ_CFG (25_ethernet). -/
def TXQ_CFG_EN (n : Nat) (q : Nat) : Field := ⟨0x302000 + 0x10000 * n + 0x10 * q, 0, 1, 0, .RWL, .I, .SW⟩
/-- TXQ_STAT (25_ethernet). -/
def TXQ_STAT_HELD (n : Nat) (q : Nat) : Field := ⟨0x302004 + 0x10000 * n + 0x10 * q, 0, 12, 0, .RO, .V, .HV⟩
/-- RX_FRAMES (25_ethernet). -/
def RX_FRAMES (n : Nat) : Field := ⟨0x303000 + 0x10000 * n, 0, 32, 0, .RW, .V, .CT⟩
/-- RX_BYTES (25_ethernet). -/
def RX_BYTES (n : Nat) : Field := ⟨0x303004 + 0x10000 * n, 0, 32, 0, .RW, .V, .CT⟩
/-- RX_FCSERR (25_ethernet). -/
def RX_FCSERR (n : Nat) : Field := ⟨0x303008 + 0x10000 * n, 0, 32, 0, .RW, .V, .CT⟩
/-- RX_LENERR (25_ethernet). -/
def RX_LENERR (n : Nat) : Field := ⟨0x30300c + 0x10000 * n, 0, 32, 0, .RW, .V, .CT⟩
/-- RX_FILTERED (25_ethernet). -/
def RX_FILTERED (n : Nat) : Field := ⟨0x303010 + 0x10000 * n, 0, 32, 0, .RW, .V, .CT⟩
/-- RX_NOBUF (25_ethernet). -/
def RX_NOBUF (n : Nat) : Field := ⟨0x303014 + 0x10000 * n, 0, 32, 0, .RW, .V, .CT⟩
/-- RX_RINGFULL (25_ethernet). -/
def RX_RINGFULL (n : Nat) : Field := ⟨0x303018 + 0x10000 * n, 0, 32, 0, .RW, .V, .CT⟩
/-- RX_PAUSE (25_ethernet). -/
def RX_PAUSE (n : Nat) : Field := ⟨0x30301c + 0x10000 * n, 0, 32, 0, .RW, .V, .CT⟩
/-- GV_BADCSUM (25_ethernet). -/
def GV_BADCSUM (n : Nat) : Field := ⟨0x303020 + 0x10000 * n, 0, 32, 0, .RW, .V, .CT⟩
/-- TX_FRAMES (25_ethernet). -/
def TX_FRAMES (n : Nat) : Field := ⟨0x303024 + 0x10000 * n, 0, 32, 0, .RW, .V, .CT⟩
/-- TX_BYTES (25_ethernet). -/
def TX_BYTES (n : Nat) : Field := ⟨0x303028 + 0x10000 * n, 0, 32, 0, .RW, .V, .CT⟩
/-- TX_ABAND (25_ethernet). -/
def TX_ABAND (n : Nat) : Field := ⟨0x30302c + 0x10000 * n, 0, 32, 0, .RW, .V, .CT⟩
/-- LINK_DOWN (25_ethernet). -/
def LINK_DOWN (n : Nat) : Field := ⟨0x303030 + 0x10000 * n, 0, 32, 0, .RW, .V, .CT⟩
/-- BLOCK_ERR (25_ethernet). -/
def BLOCK_ERR (n : Nat) : Field := ⟨0x303034 + 0x10000 * n, 0, 32, 0, .RW, .V, .CT⟩
/-- PB_ACCT (25_ethernet). -/
def PB_ACCT_MIN (n : Nat) (a : Nat) : Field := ⟨0x308000 + 0x10000 * n + 8 * a, 0, 13, 0, .RWL, .I, .SW⟩
def PB_ACCT_MAX (n : Nat) (a : Nat) : Field := ⟨0x308000 + 0x10000 * n + 8 * a, 16, 13, 0, .RWL, .I, .SW⟩
/-- PB_USE (25_ethernet). -/
def PB_USE_CELLS (n : Nat) (a : Nat) : Field := ⟨0x308004 + 0x10000 * n + 8 * a, 0, 14, 0, .RO, .V, .HV⟩
/-- PB_FREE (25_ethernet). -/
def PB_FREE_CELLS (n : Nat) : Field := ⟨0x308400 + 0x10000 * n, 0, 14, 0, .RO, .V, .HV⟩
/-- HL_ID (26_host_link). -/
def HL_ID_VENDOR : Field := ⟨0x370000, 0, 16, 0, .RO, .A, .HV⟩
def HL_ID_DEVICE : Field := ⟨0x370000, 16, 16, 0, .RO, .A, .HV⟩
/-- HL_LINK (26_host_link). -/
def HL_LINK_STATE : Field := ⟨0x370004, 0, 3, 0, .RO, .V, .HV⟩
def HL_LINK_SPEED : Field := ⟨0x370004, 3, 4, 0, .RO, .V, .HV⟩
def HL_LINK_WIDTH : Field := ⟨0x370004, 7, 3, 0, .RO, .V, .HV⟩
def HL_LINK_DSTATE : Field := ⟨0x370004, 10, 2, 0, .RO, .V, .HV⟩
/-- HL_CFG (26_host_link). -/
def HL_CFG_T0_EN : Field := ⟨0x370008, 0, 1, 0, .RWL, .I, .SW⟩
def HL_CFG_ASPM_L1_OK : Field := ⟨0x370008, 1, 1, 0, .RWL, .I, .SW⟩
/-- HL_LNKCNT (26_host_link). -/
def HL_LNKCNT_LNK : Field := ⟨0x37000c, 0, 16, 0, .RW, .S, .CT⟩
def HL_LNKCNT_SURPRISE : Field := ⟨0x37000c, 16, 16, 0, .RW, .S, .CT⟩
/-- HL_ERR (26_host_link). -/
def HL_ERR_DENY : Field := ⟨0x370010, 0, 16, 0, .RW, .S, .CT⟩
def HL_ERR_CA : Field := ⟨0x370010, 16, 16, 0, .RW, .S, .CT⟩
/-- HL_ERRCAP (26_host_link). -/
def HL_ERRCAP_CODE : Field := ⟨0x370014, 0, 4, 0, .RO, .S, .HV⟩
def HL_ERRCAP_BAR : Field := ⟨0x370014, 4, 2, 0, .RO, .S, .HV⟩
def HL_ERRCAP_WRITE : Field := ⟨0x370014, 6, 1, 0, .RO, .S, .HV⟩
def HL_ERRCAP_VALID : Field := ⟨0x370014, 31, 1, 0, .W1C, .S, .HS⟩
/-- HL_ERRADDR (26_host_link). -/
def HL_ERRADDR : Field := ⟨0x370018, 0, 32, 0, .RO, .S, .HV⟩
/-- HL_DROP (26_host_link). -/
def HL_DROP : Field := ⟨0x37001c, 0, 32, 0, .RW, .S, .CT⟩
/-- HL_DBEN (26_host_link). -/
def HL_DBEN (k : Nat) : Field := ⟨0x370100 + 4 * k, 0, 32, 0, .RW, .L, .SW⟩
/-- HL_AP_LO (26_host_link). -/
def HL_AP_LO_BASE (s : Nat) : Field := ⟨0x370200 + 8 * s, 0, 28, 0, .RW, .L, .SW⟩
/-- HL_AP_HI (26_host_link). -/
def HL_AP_HI_TID (s : Nat) : Field := ⟨0x370204 + 8 * s, 0, 10, 0, .RW, .L, .SW⟩
def HL_AP_HI_R (s : Nat) : Field := ⟨0x370204 + 8 * s, 10, 1, 0, .RW, .L, .SW⟩
def HL_AP_HI_W (s : Nat) : Field := ⟨0x370204 + 8 * s, 11, 1, 0, .RW, .L, .SW⟩
def HL_AP_HI_EN (s : Nat) : Field := ⟨0x370204 + 8 * s, 31, 1, 0, .RW, .L, .SW⟩
/-- HL_IMG_ADDR_LO (26_host_link). -/
def HL_IMG_ADDR_LO : Field := ⟨0x371000, 0, 32, 0, .RW, .S, .SW⟩
/-- HL_IMG_ADDR_HI (26_host_link). -/
def HL_IMG_ADDR_HI : Field := ⟨0x371004, 0, 32, 0, .RW, .S, .SW⟩
/-- HL_IMG_LEN_LO (26_host_link). -/
def HL_IMG_LEN_LO : Field := ⟨0x371008, 0, 32, 0, .RW, .S, .SW⟩
/-- HL_IMG_LEN_HI (26_host_link). -/
def HL_IMG_LEN_HI : Field := ⟨0x37100c, 0, 32, 0, .RW, .S, .SW⟩
/-- HL_UPD_ADDR_LO (26_host_link). -/
def HL_UPD_ADDR_LO : Field := ⟨0x371020, 0, 32, 0, .RW, .S, .SW⟩
/-- HL_UPD_ADDR_HI (26_host_link). -/
def HL_UPD_ADDR_HI : Field := ⟨0x371024, 0, 32, 0, .RW, .S, .SW⟩
/-- HL_UPD_LEN_LO (26_host_link). -/
def HL_UPD_LEN_LO : Field := ⟨0x371028, 0, 32, 0, .RW, .S, .SW⟩
/-- HL_UPD_LEN_HI (26_host_link). -/
def HL_UPD_LEN_HI : Field := ⟨0x37102c, 0, 32, 0, .RW, .S, .SW⟩
/-- HL_UPD_CTL (26_host_link). -/
def HL_UPD_CTL_SLOT : Field := ⟨0x371030, 0, 1, 0, .RW, .S, .SW⟩
def HL_UPD_CTL_GO : Field := ⟨0x371030, 8, 1, 0, .WO, .S, .HC⟩
def HL_UPD_CTL_KEY : Field := ⟨0x371030, 16, 8, 0, .WO, .S, .SW⟩
/-- HL_UPD_STAT (26_host_link). -/
def HL_UPD_STAT_STATE : Field := ⟨0x371034, 0, 3, 0, .RO, .S, .HV⟩
def HL_UPD_STAT_CODE : Field := ⟨0x371034, 8, 8, 0, .RO, .S, .HV⟩
def HL_UPD_STAT_PROGRESS : Field := ⟨0x371034, 16, 16, 0, .RO, .S, .HV⟩
/-- OBJ (23_can_fd). -/
def OBJ_ID (o : Nat) : Field := ⟨0x350000 + 8 * o, 0, 29, 0, .RWL, .I, .HV⟩
def OBJ_XTD (o : Nat) : Field := ⟨0x350000 + 8 * o, 29, 1, 0, .RWL, .I, .HV⟩
def OBJ_RTR (o : Nat) : Field := ⟨0x350000 + 8 * o, 30, 1, 0, .RWL, .I, .HV⟩
/-- OBJ (23_can_fd). -/
def OBJ_DPTR (o : Nat) : Field := ⟨0x350004 + 8 * o, 0, 13, 0, .RWL, .I, .SW⟩
def OBJ_DSIZE (o : Nat) : Field := ⟨0x350004 + 8 * o, 13, 2, 0, .RWL, .I, .SW⟩
def OBJ_DLC (o : Nat) : Field := ⟨0x350004 + 8 * o, 16, 4, 0, .RW, .I, .HV⟩
def OBJ_FDF (o : Nat) : Field := ⟨0x350004 + 8 * o, 20, 1, 0, .RWL, .I, .HV⟩
def OBJ_BRS (o : Nat) : Field := ⟨0x350004 + 8 * o, 21, 1, 0, .RWL, .I, .HV⟩
def OBJ_DIR (o : Nat) : Field := ⟨0x350004 + 8 * o, 22, 1, 0, .RWL, .I, .SW⟩
def OBJ_OWNER (o : Nat) : Field := ⟨0x350004 + 8 * o, 23, 3, 0, .RWL, .I, .SW⟩
def OBJ_EN (o : Nat) : Field := ⟨0x350004 + 8 * o, 26, 1, 0, .RWL, .I, .SW⟩
def OBJ_NEWDAT (o : Nat) : Field := ⟨0x350004 + 8 * o, 27, 1, 0, .RO, .V, .HV⟩
def OBJ_MSGLOST (o : Nat) : Field := ⟨0x350004 + 8 * o, 28, 1, 0, .RO, .V, .HV⟩
def OBJ_PEND (o : Nat) : Field := ⟨0x350004 + 8 * o, 29, 1, 0, .RO, .V, .HV⟩
/-- POOL_DATA (23_can_fd). -/
def POOL_DATA (j : Nat) : Field := ⟨0x354000 + 4 * j, 0, 32, 0, .RW, .I, .HV⟩

/-- Where these registers lie, and the fields of each. -/
def groupsBus0 : List Group := [
  ⟨0x340000, [(0x1000, 8)], fun i _ _ => [CAN_CTL_EN i, CAN_CTL_MODE i, CAN_CTL_SLEEP i, CAN_CTL_AUTOWAKE i, CAN_CTL_RECOVER i, CAN_CTL_AUTOREC i, CAN_CTL_PXHD i, CAN_CTL_JOINR i]⟩,
  ⟨0x340004, [(0x1000, 8)], fun i _ _ => [CAN_NBT_NBRP i, CAN_NBT_NTSEG1 i, CAN_NBT_NTSEG2 i, CAN_NBT_NSJW i]⟩,
  ⟨0x340008, [(0x1000, 8)], fun i _ _ => [CAN_DBT_DBRP i, CAN_DBT_DTSEG1 i, CAN_DBT_DTSEG2 i, CAN_DBT_DSJW i, CAN_DBT_TDC_EN i, CAN_DBT_TDCO i]⟩,
  ⟨0x34000c, [(0x1000, 8)], fun i _ _ => [CAN_TDC_TDCF i, CAN_TDC_TDCV i]⟩,
  ⟨0x340010, [(0x1000, 8)], fun i _ _ => [CAN_STATUS_STATE i, CAN_STATUS_RESTRICTED i, CAN_STATUS_MONITOR i, CAN_STATUS_EWARN i, CAN_STATUS_LASTERR i]⟩,
  ⟨0x340014, [(0x1000, 8)], fun i _ _ => [CAN_ERRCNT_TEC i, CAN_ERRCNT_REC i]⟩,
  ⟨0x340018, [(0x1000, 8)], fun i _ _ => [CAN_ERR_BOFF i, CAN_ERR_EPASS i, CAN_ERR_EWARN i, CAN_ERR_PXE i, CAN_ERR_TDC_SAT i, CAN_ERR_MSGLOST i, CAN_ERR_FIFOOVF i]⟩,
  ⟨0x340020, [(0x1000, 8)], fun i _ _ => [CAN_TXOK i]⟩,
  ⟨0x340024, [(0x1000, 8)], fun i _ _ => [CAN_RXOK i]⟩,
  ⟨0x340028, [(0x1000, 8)], fun i _ _ => [CAN_ARBLOST i]⟩,
  ⟨0x34002c, [(0x1000, 8)], fun i _ _ => [CAN_ERRDET i]⟩,
  ⟨0x340030, [(0x1000, 8)], fun i _ _ => [CAN_BOFFCNT_BOFF i, CAN_BOFFCNT_RECOV i]⟩,
  ⟨0x340034, [(0x1000, 8)], fun i _ _ => [CAN_NOMATCH i]⟩,
  ⟨0x340038, [(0x1000, 8)], fun i _ _ => [CAN_TXABAND i]⟩,
  ⟨0x34003c, [(0x1000, 8)], fun i _ _ => [CAN_FIFOLOST i]⟩,
  ⟨0x340040, [(0x1000, 8)], fun i _ _ => [CAN_FIFO_FIFO_FIRST i, CAN_FIFO_FIFO_COUNT i, CAN_FIFO_OVWR i]⟩,
  ⟨0x340044, [(0x1000, 8)], fun i _ _ => [CAN_FIFO_STAT_LEVEL i, CAN_FIFO_STAT_OLDEST i]⟩,
  ⟨0x340048, [(0x1000, 8)], fun i _ _ => [CAN_REST_REST_OK i]⟩,
  ⟨0x34004c, [(0x1000, 8)], fun i _ _ => [CAN_IRQ_VEC i, CAN_IRQ_EN_RX i, CAN_IRQ_EN_FIFO i, CAN_IRQ_EN_BOFF i, CAN_IRQ_EN_EPASS i, CAN_IRQ_FIFO_WM i]⟩,
  ⟨0x340100, [(0x1000, 8), (0x10, 32)], fun i j _ => [FLT_ID_ID i j, FLT_ID_XTD i j, FLT_ID_ACTION i j]⟩,
  ⟨0x340104, [(0x1000, 8), (0x10, 32)], fun i j _ => [FLT_MASK i j]⟩,
  ⟨0x340108, [(0x1000, 8), (0x10, 32)], fun i j _ => [FLT_TGT_OBJ i j, FLT_TGT_PEER i j, FLT_TGT_PIN i j]⟩,
  ⟨0x34010c, [(0x1000, 8), (0x10, 32)], fun i j _ => [FLT_SRC i j]⟩,
  ⟨0x340400, [(0x1000, 8)], fun i _ _ => [CAN_SHD_CTL_OBJ i, CAN_SHD_CTL_GO i, CAN_SHD_CTL_POP i]⟩,
  ⟨0x340404, [(0x1000, 8)], fun i _ _ => [CAN_SHD_HDR0 i]⟩,
  ⟨0x340408, [(0x1000, 8)], fun i _ _ => [CAN_SHD_HDR1 i]⟩,
  ⟨0x34040c, [(0x1000, 8)], fun i _ _ => [CAN_SHD_TS_SEC i]⟩,
  ⟨0x340410, [(0x1000, 8)], fun i _ _ => [CAN_SHD_TS_NS i]⟩,
  ⟨0x340414, [(0x1000, 8)], fun i _ _ => [CAN_SHD_FLAG_VALID i, CAN_SHD_FLAG_NEWDAT i, CAN_SHD_FLAG_MSGLOST i, CAN_SHD_FLAG_EMPTY i, CAN_SHD_FLAG_ESI i]⟩,
  ⟨0x340420, [(0x1000, 8), (4, 16)], fun i j _ => [CAN_SHD_DATA i j]⟩,
  ⟨0x340600, [(0x1000, 8)], fun i _ _ => [PEER_IDX_IDX i]⟩,
  ⟨0x340604, [(0x1000, 8)], fun i _ _ => [PEER_ENT0_ID i, PEER_ENT0_XTD i, PEER_ENT0_PINNED i, PEER_ENT0_VALID i]⟩,
  ⟨0x340608, [(0x1000, 8)], fun i _ _ => [PEER_ENT1_CTRL i, PEER_ENT1_MS i]⟩,
  ⟨0x340e00, [(0x1000, 8)], fun i _ _ => [CAN_WK_CFG_MODE i, CAN_WK_CFG_RATE i, CAN_WK_CFG_WK_XTD i, CAN_WK_CFG_ERRWAKE i, CAN_WK_CFG_WK_DLC i, CAN_WK_CFG_FILT i]⟩,
  ⟨0x340e04, [(0x1000, 8)], fun i _ _ => [CAN_WK_ID i]⟩,
  ⟨0x340e08, [(0x1000, 8)], fun i _ _ => [CAN_WK_MASK i]⟩,
  ⟨0x340e0c, [(0x1000, 8)], fun i _ _ => [CAN_WK_DMASK_LO i]⟩,
  ⟨0x340e10, [(0x1000, 8)], fun i _ _ => [CAN_WK_DMASK_HI i]⟩,
  ⟨0x340e14, [(0x1000, 8)], fun i _ _ => [CAN_WK_STAT_ERRCNT i, CAN_WK_STAT_WOKE i, CAN_WK_STAT_ERRW i]⟩,
  ⟨0x360000, [(0x100, 8)], fun i _ _ => [JSP_CFG_MODE i, JSP_CFG_NBITS i, JSP_CFG_CPOL i, JSP_CFG_CPHA i, JSP_CFG_GRAY i, JSP_CFG_SIGNED i, JSP_CFG_CHK i, JSP_CFG_TRIG_TOUT i, JSP_CFG_TOUTSEL i, JSP_CFG_CLKDIV i]⟩]

/-- Where these registers lie, and the fields of each. -/
def groupsBus1 : List Group := [
  ⟨0x360004, [(0x100, 8)], fun i _ _ => [JSP_FIELD_POS_LSB i, JSP_FIELD_POS_W i, JSP_FIELD_ERRBIT i, JSP_FIELD_CRCPOLY i]⟩,
  ⟨0x360008, [(0x100, 8)], fun i _ _ => [JSP_TIME_PERIOD_US i, JSP_TIME_TM_US i, JSP_TIME_DELAY i]⟩,
  ⟨0x36000c, [(0x100, 8)], fun i _ _ => [JSP_CMD_CMD i, JSP_CMD_CMDLEN i]⟩,
  ⟨0x360010, [(0x100, 8)], fun i _ _ => [JSP_STALE_STALE_US i]⟩,
  ⟨0x360014, [(0x100, 8)], fun i _ _ => [JSP_RING_LO i]⟩,
  ⟨0x360018, [(0x100, 8)], fun i _ _ => [JSP_RING_HI i]⟩,
  ⟨0x36001c, [(0x100, 8)], fun i _ _ => [JSP_STATUS_VALID i, JSP_STATUS_STALE i, JSP_STATUS_OUTCOME i]⟩,
  ⟨0x360020, [(0x100, 8)], fun i _ _ => [JSP_SEQ i]⟩,
  ⟨0x360024, [(0x100, 8)], fun i _ _ => [JSP_POS_LO i]⟩,
  ⟨0x360028, [(0x100, 8)], fun i _ _ => [JSP_POS_HI i]⟩,
  ⟨0x36002c, [(0x100, 8)], fun i _ _ => [JSP_ERR_BAD i, JSP_ERR_CONSEC i, JSP_ERR_SKIP i]⟩,
  ⟨0x361000, [(0x40, 4)], fun i _ _ => [QEI_CFG_EN i, QEI_CFG_DIR i, QEI_CFG_ZRST i, QEI_CFG_SNAP_TOUT i, QEI_CFG_TOUTSEL i, QEI_CFG_FILT i]⟩,
  ⟨0x361004, [(0x40, 4)], fun i _ _ => [QEI_COUNT i]⟩,
  ⟨0x361008, [(0x40, 4)], fun i _ _ => [QEI_CTL_SNAP i]⟩,
  ⟨0x36100c, [(0x40, 4)], fun i _ _ => [QEI_SNAP_CNT i]⟩,
  ⟨0x361010, [(0x40, 4)], fun i _ _ => [QEI_SNAP_SEC i]⟩,
  ⟨0x361014, [(0x40, 4)], fun i _ _ => [QEI_SNAP_NS i]⟩,
  ⟨0x361018, [(0x40, 4)], fun i _ _ => [QEI_SNAP_IDX i]⟩,
  ⟨0x36101c, [(0x40, 4)], fun i _ _ => [QEI_ILLEGAL i]⟩,
  ⟨0x362000, [(0x40, 32)], fun i _ _ => [MO_CFG_EN i, MO_CFG_TYPE i, MO_CFG_UNIT i, MO_CFG_OVR_EN i, MO_CFG_GUARD_EN i, MO_CFG_GUARD i]⟩,
  ⟨0x362004, [(0x40, 32)], fun i _ _ => [MO_OVR_GO i]⟩,
  ⟨0x362008, [(0x40, 32), (4, 5)], fun i j _ => [MO_OVR_DATA i j]⟩,
  ⟨0x36201c, [(0x40, 32)], fun i _ _ => [MO_STAT_ROLL i, MO_STAT_BOOKED i]⟩,
  ⟨0x362020, [(0x40, 32)], fun i _ _ => [MO_CNT_MO_GUARDED i, MO_CNT_MO_OVRREF i]⟩,
  ⟨0x300000, [(0x10000, 4)], fun i _ _ => [ETH_CFG_MODE i, ETH_CFG_AN_EN i, ETH_CFG_MAXFRAME i, ETH_CFG_PROMISC i, ETH_CFG_BCAST i, ETH_CFG_LGUARD i, ETH_CFG_DEFQ i, ETH_CFG_FLAP_MAX i]⟩,
  ⟨0x300004, [(0x10000, 4)], fun i _ _ => [ETH_CTL_RESTART i]⟩,
  ⟨0x300008, [(0x10000, 4)], fun i _ _ => [ETH_STATUS_STATE i, ETH_STATUS_RFAULT i, ETH_STATUS_LASTFAULT i, ETH_STATUS_AN_DONE i]⟩,
  ⟨0x30000c, [(0x10000, 4)], fun i _ _ => [ETH_EQ_CTLE i, ETH_EQ_DFE i]⟩,
  ⟨0x300010, [(0x10000, 4)], fun i _ _ => [ETH_MAC_LO i]⟩,
  ⟨0x300014, [(0x10000, 4)], fun i _ _ => [ETH_MAC_HI i]⟩,
  ⟨0x300018, [(0x10000, 4)], fun i _ _ => [ETH_PCPMAP i]⟩,
  ⟨0x300100, [(0x10000, 4), (8, 16)], fun i j _ => [ETH_MCAST_LO i j]⟩,
  ⟨0x300104, [(0x10000, 4), (8, 16)], fun i j _ => [ETH_MCAST_HI_MAC i j, ETH_MCAST_HI_EN i j]⟩,
  ⟨0x301000, [(0x10000, 4), (0x20, 8)], fun i j _ => [RXQ_BASE_LO i j]⟩,
  ⟨0x301004, [(0x10000, 4), (0x20, 8)], fun i j _ => [RXQ_BASE_HI i j]⟩,
  ⟨0x301008, [(0x10000, 4), (0x20, 8)], fun i j _ => [RXQ_DATA_LO i j]⟩,
  ⟨0x30100c, [(0x10000, 4), (0x20, 8)], fun i j _ => [RXQ_DATA_HI i j]⟩,
  ⟨0x301010, [(0x10000, 4), (0x20, 8)], fun i j _ => [RXQ_CFG_SZ i j, RXQ_CFG_SLOT i j, RXQ_CFG_EN i j, RXQ_CFG_ENIRQ i j, RXQ_CFG_VEC i j]⟩,
  ⟨0x301014, [(0x10000, 4), (0x20, 8)], fun i j _ => [RXQ_PTR_WRITTEN i j, RXQ_PTR_HEAD i j]⟩,
  ⟨0x301018, [(0x10000, 4), (0x20, 8)], fun i j _ => [RXQ_DB_ADD i j]⟩]

/-- Where these registers lie, and the fields of each. -/
def groupsBus2 : List Group := [
  ⟨0x302000, [(0x10000, 4), (0x10, 8)], fun i j _ => [TXQ_CFG_EN i j]⟩,
  ⟨0x302004, [(0x10000, 4), (0x10, 8)], fun i j _ => [TXQ_STAT_HELD i j]⟩,
  ⟨0x303000, [(0x10000, 4)], fun i _ _ => [RX_FRAMES i]⟩,
  ⟨0x303004, [(0x10000, 4)], fun i _ _ => [RX_BYTES i]⟩,
  ⟨0x303008, [(0x10000, 4)], fun i _ _ => [RX_FCSERR i]⟩,
  ⟨0x30300c, [(0x10000, 4)], fun i _ _ => [RX_LENERR i]⟩,
  ⟨0x303010, [(0x10000, 4)], fun i _ _ => [RX_FILTERED i]⟩,
  ⟨0x303014, [(0x10000, 4)], fun i _ _ => [RX_NOBUF i]⟩,
  ⟨0x303018, [(0x10000, 4)], fun i _ _ => [RX_RINGFULL i]⟩,
  ⟨0x30301c, [(0x10000, 4)], fun i _ _ => [RX_PAUSE i]⟩,
  ⟨0x303020, [(0x10000, 4)], fun i _ _ => [GV_BADCSUM i]⟩,
  ⟨0x303024, [(0x10000, 4)], fun i _ _ => [TX_FRAMES i]⟩,
  ⟨0x303028, [(0x10000, 4)], fun i _ _ => [TX_BYTES i]⟩,
  ⟨0x30302c, [(0x10000, 4)], fun i _ _ => [TX_ABAND i]⟩,
  ⟨0x303030, [(0x10000, 4)], fun i _ _ => [LINK_DOWN i]⟩,
  ⟨0x303034, [(0x10000, 4)], fun i _ _ => [BLOCK_ERR i]⟩,
  ⟨0x308000, [(0x10000, 4), (8, 68)], fun i j _ => [PB_ACCT_MIN i j, PB_ACCT_MAX i j]⟩,
  ⟨0x308004, [(0x10000, 4), (8, 68)], fun i j _ => [PB_USE_CELLS i j]⟩,
  ⟨0x308400, [(0x10000, 4)], fun i _ _ => [PB_FREE_CELLS i]⟩,
  ⟨0x370000, [], fun _ _ _ => [HL_ID_VENDOR, HL_ID_DEVICE]⟩,
  ⟨0x370004, [], fun _ _ _ => [HL_LINK_STATE, HL_LINK_SPEED, HL_LINK_WIDTH, HL_LINK_DSTATE]⟩,
  ⟨0x370008, [], fun _ _ _ => [HL_CFG_T0_EN, HL_CFG_ASPM_L1_OK]⟩,
  ⟨0x37000c, [], fun _ _ _ => [HL_LNKCNT_LNK, HL_LNKCNT_SURPRISE]⟩,
  ⟨0x370010, [], fun _ _ _ => [HL_ERR_DENY, HL_ERR_CA]⟩,
  ⟨0x370014, [], fun _ _ _ => [HL_ERRCAP_CODE, HL_ERRCAP_BAR, HL_ERRCAP_WRITE, HL_ERRCAP_VALID]⟩,
  ⟨0x370018, [], fun _ _ _ => [HL_ERRADDR]⟩,
  ⟨0x37001c, [], fun _ _ _ => [HL_DROP]⟩,
  ⟨0x370100, [(4, 32)], fun i _ _ => [HL_DBEN i]⟩,
  ⟨0x370200, [(8, 64)], fun i _ _ => [HL_AP_LO_BASE i]⟩,
  ⟨0x370204, [(8, 64)], fun i _ _ => [HL_AP_HI_TID i, HL_AP_HI_R i, HL_AP_HI_W i, HL_AP_HI_EN i]⟩,
  ⟨0x371000, [], fun _ _ _ => [HL_IMG_ADDR_LO]⟩,
  ⟨0x371004, [], fun _ _ _ => [HL_IMG_ADDR_HI]⟩,
  ⟨0x371008, [], fun _ _ _ => [HL_IMG_LEN_LO]⟩,
  ⟨0x37100c, [], fun _ _ _ => [HL_IMG_LEN_HI]⟩,
  ⟨0x371020, [], fun _ _ _ => [HL_UPD_ADDR_LO]⟩,
  ⟨0x371024, [], fun _ _ _ => [HL_UPD_ADDR_HI]⟩,
  ⟨0x371028, [], fun _ _ _ => [HL_UPD_LEN_LO]⟩,
  ⟨0x37102c, [], fun _ _ _ => [HL_UPD_LEN_HI]⟩,
  ⟨0x371030, [], fun _ _ _ => [HL_UPD_CTL_SLOT, HL_UPD_CTL_GO, HL_UPD_CTL_KEY]⟩,
  ⟨0x371034, [], fun _ _ _ => [HL_UPD_STAT_STATE, HL_UPD_STAT_CODE, HL_UPD_STAT_PROGRESS]⟩]

/-- Where these registers lie, and the fields of each. -/
def groupsBus3 : List Group := [
  ⟨0x350000, [(8, 2048)], fun i _ _ => [OBJ_ID i, OBJ_XTD i, OBJ_RTR i]⟩,
  ⟨0x350004, [(8, 2048)], fun i _ _ => [OBJ_DPTR i, OBJ_DSIZE i, OBJ_DLC i, OBJ_FDF i, OBJ_BRS i, OBJ_DIR i, OBJ_OWNER i, OBJ_EN i, OBJ_NEWDAT i, OBJ_MSGLOST i, OBJ_PEND i]⟩,
  ⟨0x354000, [(4, 12288)], fun i _ _ => [POOL_DATA i]⟩]

/-- Every register of this file. -/
def groupsBus : List Group := groupsBus0 ++ groupsBus1 ++ groupsBus2 ++ groupsBus3

end Sys2Proof.Machine.Reg
end

