-- ==== Sys2Proof/Machine/RegsEngine.lean ====
section
/-! DEFINITION. The fields of the engine, cluster and Gleaner registers (chapters 15 to 19), one definition per field: address,
lowest bit, width, reset value, access code, Keep class and Collide class as the spec's register tables give them
(a register of one field bears the register's name). -/

namespace Sys2Proof.Machine.Reg

/-- TE_ID (15_tensor_engines). -/
def TE_ID_PHYS (n : Nat) : Field := ⟨0x100000 + 0x10000 * n, 0, 3, 0, .RO, .A, .HV⟩
def TE_ID_NODE (n : Nat) : Field := ⟨0x100000 + 0x10000 * n, 8, 5, 0, .RO, .A, .HV⟩
/-- TE_STATUS (15_tensor_engines). -/
def TE_STATUS_STATE (n : Nat) : Field := ⟨0x100004 + 0x10000 * n, 0, 2, 0, .RO, .V, .HV⟩
def TE_STATUS_BIST (n : Nat) : Field := ⟨0x100004 + 0x10000 * n, 2, 1, 0, .RO, .V, .HV⟩
def TE_STATUS_DOZE (n : Nat) : Field := ⟨0x100004 + 0x10000 * n, 3, 1, 0, .RO, .V, .HV⟩
def TE_STATUS_QID (n : Nat) : Field := ⟨0x100004 + 0x10000 * n, 16, 10, 0, .RO, .V, .HV⟩
/-- TE_CFG (15_tensor_engines). -/
def TE_CFG_WC_GBPS (n : Nat) : Field := ⟨0x100008 + 0x10000 * n, 0, 16, 0x100, .RWL, .I, .SW⟩
/-- TE_CMDS (15_tensor_engines). -/
def TE_CMDS (n : Nat) : Field := ⟨0x100010 + 0x10000 * n, 0, 32, 0, .RW, .V, .CT⟩
/-- TE_BLOCKS_LO (15_tensor_engines). -/
def TE_BLOCKS_LO (n : Nat) : Field := ⟨0x100014 + 0x10000 * n, 0, 32, 0, .RO, .V, .HV⟩
/-- TE_BLOCKS_HI (15_tensor_engines). -/
def TE_BLOCKS_HI (n : Nat) : Field := ⟨0x100018 + 0x10000 * n, 0, 32, 0, .RO, .V, .HV⟩
/-- TE_BUSY (15_tensor_engines). -/
def TE_BUSY (n : Nat) : Field := ⟨0x10001c + 0x10000 * n, 0, 32, 0, .RO, .V, .HV⟩
/-- TE_NAN (15_tensor_engines). -/
def TE_NAN (n : Nat) : Field := ⟨0x100020 + 0x10000 * n, 0, 32, 0, .RW, .V, .CT⟩
/-- TE_OVRUN (15_tensor_engines). -/
def TE_OVRUN (n : Nat) : Field := ⟨0x100024 + 0x10000 * n, 0, 32, 0, .RW, .V, .CT⟩
/-- PAST_CORR (15_tensor_engines). -/
def PAST_CORR (n : Nat) : Field := ⟨0x100030 + 0x10000 * n, 0, 32, 0, .RW, .V, .CT⟩
/-- PAST_UNC (15_tensor_engines). -/
def PAST_UNC (n : Nat) : Field := ⟨0x100034 + 0x10000 * n, 0, 32, 0, .RW, .V, .CT⟩
/-- PAST_UNC_CAP (15_tensor_engines). -/
def PAST_UNC_CAP_WORD (n : Nat) : Field := ⟨0x100038 + 0x10000 * n, 0, 20, 0, .RO, .V, .HV⟩
def PAST_UNC_CAP_VALID (n : Nat) : Field := ⟨0x100038 + 0x10000 * n, 31, 1, 0, .W1C, .V, .HS⟩
/-- PAST_SCRUB (15_tensor_engines). -/
def PAST_SCRUB_PASSES (n : Nat) : Field := ⟨0x10003c + 0x10000 * n, 0, 16, 0, .RO, .V, .HV⟩
/-- PREG_LOC (15_tensor_engines). -/
def PREG_LOC_BASE (n : Nat) (k : Nat) : Field := ⟨0x100100 + 0x10000 * n + 8 * k, 0, 13, 0, .RWL, .I, .SW⟩
def PREG_LOC_SIZE (n : Nat) (k : Nat) : Field := ⟨0x100100 + 0x10000 * n + 8 * k, 16, 13, 0, .RWL, .I, .SW⟩
/-- PREG_ACC (15_tensor_engines). -/
def PREG_ACC_OWNER (n : Nat) (k : Nat) : Field := ⟨0x100104 + 0x10000 * n + 8 * k, 0, 10, 0, .RWL, .I, .SW⟩
def PREG_ACC_READ (n : Nat) (k : Nat) : Field := ⟨0x100104 + 0x10000 * n + 8 * k, 10, 1, 0, .RWL, .I, .SW⟩
def PREG_ACC_WRITE (n : Nat) (k : Nat) : Field := ⟨0x100104 + 0x10000 * n + 8 * k, 11, 1, 0, .RWL, .I, .SW⟩
def PREG_ACC_RES (n : Nat) (k : Nat) : Field := ⟨0x100104 + 0x10000 * n + 8 * k, 12, 1, 0, .RWL, .I, .SW⟩
def PREG_ACC_RT_ONLY (n : Nat) (k : Nat) : Field := ⟨0x100104 + 0x10000 * n + 8 * k, 13, 1, 0, .RWL, .I, .SW⟩
def PREG_ACC_EN (n : Nat) (k : Nat) : Field := ⟨0x100104 + 0x10000 * n + 8 * k, 15, 1, 0, .RWL, .I, .SW⟩
/-- FU_CFG (16_function_unit). -/
def FU_CFG_PWL_EN (n : Nat) : Field := ⟨0x104000 + 0x10000 * n, 0, 1, 1, .RWL, .I, .SW⟩
/-- FU_STATUS (16_function_unit). -/
def FU_STATUS_BUSY (n : Nat) : Field := ⟨0x104004 + 0x10000 * n, 0, 1, 0, .RO, .V, .HV⟩
def FU_STATUS_SHARED (n : Nat) : Field := ⟨0x104004 + 0x10000 * n, 1, 1, 0, .RO, .V, .HV⟩
def FU_STATUS_FUNC (n : Nat) : Field := ⟨0x104004 + 0x10000 * n, 2, 5, 0, .RO, .V, .HV⟩
def FU_STATUS_OPC (n : Nat) : Field := ⟨0x104004 + 0x10000 * n, 7, 3, 0, .RO, .V, .HV⟩
/-- FU_EVAL_PWL (16_function_unit). -/
def FU_EVAL_PWL (n : Nat) : Field := ⟨0x104010 + 0x10000 * n, 0, 32, 0, .RW, .V, .CT⟩
/-- FU_EVAL_SHR (16_function_unit). -/
def FU_EVAL_SHR (n : Nat) : Field := ⟨0x104014 + 0x10000 * n, 0, 32, 0, .RW, .V, .CT⟩
/-- FU_ARB_WAIT (16_function_unit). -/
def FU_ARB_WAIT (n : Nat) : Field := ⟨0x104018 + 0x10000 * n, 0, 32, 0, .RW, .V, .CT⟩
/-- FU_NAN (16_function_unit). -/
def FU_NAN (n : Nat) : Field := ⟨0x10401c + 0x10000 * n, 0, 32, 0, .RW, .V, .CT⟩
/-- FU_SAT (16_function_unit). -/
def FU_SAT (n : Nat) : Field := ⟨0x104020 + 0x10000 * n, 0, 32, 0, .RW, .V, .CT⟩
/-- FU_EMPTYROW (16_function_unit). -/
def FU_EMPTYROW (n : Nat) : Field := ⟨0x104024 + 0x10000 * n, 0, 32, 0, .RW, .V, .CT⟩
/-- FU_ERRMAX (16_function_unit). -/
def FU_ERRMAX (n : Nat) : Field := ⟨0x104028 + 0x10000 * n, 0, 16, 0, .RC, .V, .HV⟩
/-- FU_COEF (16_function_unit). -/
def FU_COEF (n : Nat) (k : Nat) : Field := ⟨0x105000 + 0x10000 * n + 4 * k, 0, 32, 0, .RO, .A, .HV⟩
/-- ATT_STATUS (17_attention_and_kv). -/
def ATT_STATUS_BUSY (n : Nat) : Field := ⟨0x108000 + 0x10000 * n, 0, 1, 0, .RO, .V, .HV⟩
def ATT_STATUS_KIND (n : Nat) : Field := ⟨0x108000 + 0x10000 * n, 1, 2, 0, .RO, .V, .HV⟩
/-- ATT_ROWS (17_attention_and_kv). -/
def ATT_ROWS (n : Nat) : Field := ⟨0x108010 + 0x10000 * n, 0, 32, 0, .RW, .V, .CT⟩
/-- ATT_PAGES (17_attention_and_kv). -/
def ATT_PAGES (n : Nat) : Field := ⟨0x108014 + 0x10000 * n, 0, 32, 0, .RW, .V, .CT⟩
/-- ATT_OMIT (17_attention_and_kv). -/
def ATT_OMIT (n : Nat) : Field := ⟨0x108018 + 0x10000 * n, 0, 32, 0, .RW, .V, .CT⟩
/-- ATT_EMPTY (17_attention_and_kv). -/
def ATT_EMPTY (n : Nat) : Field := ⟨0x10801c + 0x10000 * n, 0, 32, 0, .RW, .V, .CT⟩
/-- ATT_NAN (17_attention_and_kv). -/
def ATT_NAN (n : Nat) : Field := ⟨0x108020 + 0x10000 * n, 0, 32, 0, .RW, .V, .CT⟩
/-- ATT_SELMAX (17_attention_and_kv). -/
def ATT_SELMAX (n : Nat) : Field := ⟨0x108024 + 0x10000 * n, 0, 16, 0, .RC, .V, .HV⟩
/-- KV_TOKENS (17_attention_and_kv). -/
def KV_TOKENS (n : Nat) : Field := ⟨0x108028 + 0x10000 * n, 0, 32, 0, .RW, .V, .CT⟩
/-- KV_IXWR (17_attention_and_kv). -/
def KV_IXWR (n : Nat) : Field := ⟨0x10802c + 0x10000 * n, 0, 32, 0, .RW, .V, .CT⟩
/-- KV_NANBLK (17_attention_and_kv). -/
def KV_NANBLK (n : Nat) : Field := ⟨0x108030 + 0x10000 * n, 0, 32, 0, .RW, .V, .CT⟩
/-- KV_SEQERR (17_attention_and_kv). -/
def KV_SEQERR (n : Nat) : Field := ⟨0x108034 + 0x10000 * n, 0, 32, 0, .RW, .V, .CT⟩
/-- KV_ERRCAP (17_attention_and_kv). -/
def KV_ERRCAP_TID (n : Nat) : Field := ⟨0x108038 + 0x10000 * n, 0, 10, 0, .RO, .V, .HV⟩
def KV_ERRCAP_CAUSE (n : Nat) : Field := ⟨0x108038 + 0x10000 * n, 10, 4, 0, .RO, .V, .HV⟩
def KV_ERRCAP_QID (n : Nat) : Field := ⟨0x108038 + 0x10000 * n, 16, 10, 0, .RO, .V, .HV⟩
def KV_ERRCAP_VALID (n : Nat) : Field := ⟨0x108038 + 0x10000 * n, 31, 1, 0, .W1C, .V, .HS⟩
/-- KV_ERRADDR_LO (17_attention_and_kv). -/
def KV_ERRADDR_LO (n : Nat) : Field := ⟨0x10803c + 0x10000 * n, 0, 32, 0, .RO, .V, .HV⟩
/-- KV_ERRADDR_HI (17_attention_and_kv). -/
def KV_ERRADDR_HI (n : Nat) : Field := ⟨0x108040 + 0x10000 * n, 0, 16, 0, .RO, .V, .HV⟩
/-- VX_STATUS (18_vector_clusters). -/
def VX_STATUS_STATE (n : Nat) : Field := ⟨0x180000 + 0x10000 * n, 0, 2, 0, .RO, .V, .HV⟩
def VX_STATUS_BIST (n : Nat) : Field := ⟨0x180000 + 0x10000 * n, 2, 1, 0, .RO, .V, .HV⟩
def VX_STATUS_DOZE (n : Nat) : Field := ⟨0x180000 + 0x10000 * n, 3, 1, 0, .RO, .V, .HV⟩
def VX_STATUS_CORES (n : Nat) : Field := ⟨0x180000 + 0x10000 * n, 4, 8, 0, .RO, .V, .HV⟩
def VX_STATUS_QID (n : Nat) : Field := ⟨0x180000 + 0x10000 * n, 16, 10, 0, .RO, .V, .HV⟩
def VX_STATUS_OPC (n : Nat) : Field := ⟨0x180000 + 0x10000 * n, 26, 6, 0, .RO, .V, .HV⟩
/-- VX_CFG (18_vector_clusters). -/
def VX_CFG_WC_GBPS (n : Nat) : Field := ⟨0x180004 + 0x10000 * n, 0, 16, 0x100, .RWL, .I, .SW⟩
/-- VX_CMDS (18_vector_clusters). -/
def VX_CMDS (n : Nat) : Field := ⟨0x180010 + 0x10000 * n, 0, 32, 0, .RW, .V, .CT⟩
/-- VX_BUSY (18_vector_clusters). -/
def VX_BUSY (n : Nat) : Field := ⟨0x180014 + 0x10000 * n, 0, 32, 0, .RO, .V, .HV⟩
/-- VX_NAN (18_vector_clusters). -/
def VX_NAN (n : Nat) : Field := ⟨0x180018 + 0x10000 * n, 0, 32, 0, .RW, .V, .CT⟩
/-- VX_OVRUN (18_vector_clusters). -/
def VX_OVRUN (n : Nat) : Field := ⟨0x18001c + 0x10000 * n, 0, 32, 0, .RW, .V, .CT⟩
/-- CLM_CORR (18_vector_clusters). -/
def CLM_CORR (n : Nat) : Field := ⟨0x180020 + 0x10000 * n, 0, 32, 0, .RW, .V, .CT⟩
/-- CLM_UNC (18_vector_clusters). -/
def CLM_UNC (n : Nat) : Field := ⟨0x180024 + 0x10000 * n, 0, 32, 0, .RW, .V, .CT⟩
/-- CLM_UNC_CAP (18_vector_clusters). -/
def CLM_UNC_CAP_WORD (n : Nat) : Field := ⟨0x180028 + 0x10000 * n, 0, 17, 0, .RO, .V, .HV⟩
def CLM_UNC_CAP_VALID (n : Nat) : Field := ⟨0x180028 + 0x10000 * n, 31, 1, 0, .W1C, .V, .HS⟩
/-- CLM_SCRUB (18_vector_clusters). -/
def CLM_SCRUB_PASSES (n : Nat) : Field := ⟨0x18002c + 0x10000 * n, 0, 16, 0, .RO, .V, .HV⟩
/-- VX_IKFLAG (18_vector_clusters). -/
def VX_IKFLAG (n : Nat) : Field := ⟨0x180030 + 0x10000 * n, 0, 32, 0, .RW, .V, .CT⟩
/-- CREG_LOC (18_vector_clusters). -/
def CREG_LOC_BASE (n : Nat) (k : Nat) : Field := ⟨0x180100 + 0x10000 * n + 8 * k, 0, 10, 0, .RWL, .I, .SW⟩
def CREG_LOC_SIZE (n : Nat) (k : Nat) : Field := ⟨0x180100 + 0x10000 * n + 8 * k, 16, 11, 0, .RWL, .I, .SW⟩
/-- CREG_ACC (18_vector_clusters). -/
def CREG_ACC_OWNER (n : Nat) (k : Nat) : Field := ⟨0x180104 + 0x10000 * n + 8 * k, 0, 10, 0, .RWL, .I, .SW⟩
def CREG_ACC_READ (n : Nat) (k : Nat) : Field := ⟨0x180104 + 0x10000 * n + 8 * k, 10, 1, 0, .RWL, .I, .SW⟩
def CREG_ACC_WRITE (n : Nat) (k : Nat) : Field := ⟨0x180104 + 0x10000 * n + 8 * k, 11, 1, 0, .RWL, .I, .SW⟩
def CREG_ACC_RES (n : Nat) (k : Nat) : Field := ⟨0x180104 + 0x10000 * n + 8 * k, 12, 1, 0, .RWL, .I, .SW⟩
def CREG_ACC_RT_ONLY (n : Nat) (k : Nat) : Field := ⟨0x180104 + 0x10000 * n + 8 * k, 13, 1, 0, .RWL, .I, .SW⟩
def CREG_ACC_EN (n : Nat) (k : Nat) : Field := ⟨0x180104 + 0x10000 * n + 8 * k, 15, 1, 0, .RWL, .I, .SW⟩
/-- GL_STATUS (19_gleaner_search). -/
def GL_STATUS_STATE : Field := ⟨0x210000, 0, 2, 0, .RO, .V, .HV⟩
def GL_STATUS_DOZE : Field := ⟨0x210000, 2, 1, 0, .RO, .V, .HV⟩
def GL_STATUS_BIST : Field := ⟨0x210000, 3, 1, 0, .RO, .V, .HV⟩
def GL_STATUS_ACTIVE : Field := ⟨0x210000, 4, 2, 0, .RO, .V, .HV⟩
def GL_STATUS_A_USE : Field := ⟨0x210000, 6, 1, 0, .RO, .V, .HV⟩
def GL_STATUS_B_USE : Field := ⟨0x210000, 7, 1, 0, .RO, .V, .HV⟩
def GL_STATUS_CHECKING : Field := ⟨0x210000, 8, 1, 0, .RO, .V, .HV⟩
def GL_STATUS_QID : Field := ⟨0x210000, 16, 10, 0, .RO, .V, .HV⟩
/-- GL_CFG (19_gleaner_search). -/
def GL_CFG_WC_GBPS : Field := ⟨0x210004, 0, 12, 0x400, .RWL, .I, .SW⟩
def GL_CFG_INIT_SLOT : Field := ⟨0x210004, 16, 2, 1, .RWL, .I, .SW⟩
/-- GL_BASE_A_LO (19_gleaner_search). -/
def GL_BASE_A_LO : Field := ⟨0x210008, 0, 32, 0, .RWL, .I, .SW⟩
/-- GL_BASE_A_HI (19_gleaner_search). -/
def GL_BASE_A_HI : Field := ⟨0x21000c, 0, 32, 0, .RWL, .I, .SW⟩
/-- GL_BASE_B_LO (19_gleaner_search). -/
def GL_BASE_B_LO : Field := ⟨0x210010, 0, 32, 0, .RWL, .I, .SW⟩
/-- GL_BASE_B_HI (19_gleaner_search). -/
def GL_BASE_B_HI : Field := ⟨0x210014, 0, 32, 0, .RWL, .I, .SW⟩
/-- GL_SIZE_A (19_gleaner_search). -/
def GL_SIZE_A : Field := ⟨0x210018, 0, 32, 0, .RWL, .I, .SW⟩
/-- GL_SIZE_B (19_gleaner_search). -/
def GL_SIZE_B : Field := ⟨0x21001c, 0, 32, 0, .RWL, .I, .SW⟩
/-- GL_SLOT_A (19_gleaner_search). -/
def GL_SLOT_A_LOADED : Field := ⟨0x210020, 0, 1, 0, .RO, .S, .HV⟩
def GL_SLOT_A_VALID : Field := ⟨0x210020, 1, 1, 0, .RO, .S, .HV⟩
def GL_SLOT_A_ERR : Field := ⟨0x210020, 8, 8, 0, .RO, .S, .HV⟩
def GL_SLOT_A_GEN : Field := ⟨0x210020, 16, 16, 0, .RO, .S, .HV⟩
/-- GL_SLOT_B (19_gleaner_search). -/
def GL_SLOT_B_LOADED : Field := ⟨0x210024, 0, 1, 0, .RO, .S, .HV⟩
def GL_SLOT_B_VALID : Field := ⟨0x210024, 1, 1, 0, .RO, .S, .HV⟩
def GL_SLOT_B_ERR : Field := ⟨0x210024, 8, 8, 0, .RO, .S, .HV⟩
def GL_SLOT_B_GEN : Field := ⟨0x210024, 16, 16, 0, .RO, .S, .HV⟩
/-- GL_LOAD (19_gleaner_search). -/
def GL_LOAD_SLOT : Field := ⟨0x210028, 0, 2, 0, .RW, .S, .SW⟩
def GL_LOAD_GO : Field := ⟨0x210028, 8, 1, 0, .WO, .S, .HC⟩
/-- GL_SWAP (19_gleaner_search). -/
def GL_SWAP_TGT : Field := ⟨0x21002c, 0, 2, 0, .RW, .S, .SW⟩
def GL_SWAP_GO : Field := ⟨0x21002c, 8, 1, 0, .WO, .S, .HC⟩
def GL_SWAP_REFUSED : Field := ⟨0x21002c, 9, 1, 0, .W1C, .S, .HS⟩
/-- GL_QUERIES (19_gleaner_search). -/
def GL_QUERIES : Field := ⟨0x210030, 0, 32, 0, .RW, .V, .CT⟩
/-- GL_DCUT (19_gleaner_search). -/
def GL_DCUT : Field := ⟨0x210034, 0, 32, 0, .RW, .V, .CT⟩
/-- GL_LISTS (19_gleaner_search). -/
def GL_LISTS : Field := ⟨0x210038, 0, 32, 0, .RW, .V, .CT⟩
/-- GL_SWAPS (19_gleaner_search). -/
def GL_SWAPS : Field := ⟨0x21003c, 0, 32, 0, .RW, .S, .CT⟩
/-- GL_WRPROT (19_gleaner_search). -/
def GL_WRPROT : Field := ⟨0x210040, 0, 32, 0, .RW, .V, .CT⟩
/-- GL_LAT_MAX (19_gleaner_search). -/
def GL_LAT_MAX : Field := ⟨0x210044, 0, 32, 0, .RC, .V, .HV⟩
/-- GLM_CORR (19_gleaner_search). -/
def GLM_CORR : Field := ⟨0x210048, 0, 32, 0, .RW, .V, .CT⟩
/-- GLM_UNC (19_gleaner_search). -/
def GLM_UNC : Field := ⟨0x21004c, 0, 32, 0, .RW, .V, .CT⟩

/-- Where these registers lie, and the fields of each. -/
def groupsEngine0 : List Group := [
  ⟨0x100000, [(0x10000, 8)], fun i _ _ => [TE_ID_PHYS i, TE_ID_NODE i]⟩,
  ⟨0x100004, [(0x10000, 8)], fun i _ _ => [TE_STATUS_STATE i, TE_STATUS_BIST i, TE_STATUS_DOZE i, TE_STATUS_QID i]⟩,
  ⟨0x100008, [(0x10000, 8)], fun i _ _ => [TE_CFG_WC_GBPS i]⟩,
  ⟨0x100010, [(0x10000, 8)], fun i _ _ => [TE_CMDS i]⟩,
  ⟨0x100014, [(0x10000, 8)], fun i _ _ => [TE_BLOCKS_LO i]⟩,
  ⟨0x100018, [(0x10000, 8)], fun i _ _ => [TE_BLOCKS_HI i]⟩,
  ⟨0x10001c, [(0x10000, 8)], fun i _ _ => [TE_BUSY i]⟩,
  ⟨0x100020, [(0x10000, 8)], fun i _ _ => [TE_NAN i]⟩,
  ⟨0x100024, [(0x10000, 8)], fun i _ _ => [TE_OVRUN i]⟩,
  ⟨0x100030, [(0x10000, 8)], fun i _ _ => [PAST_CORR i]⟩,
  ⟨0x100034, [(0x10000, 8)], fun i _ _ => [PAST_UNC i]⟩,
  ⟨0x100038, [(0x10000, 8)], fun i _ _ => [PAST_UNC_CAP_WORD i, PAST_UNC_CAP_VALID i]⟩,
  ⟨0x10003c, [(0x10000, 8)], fun i _ _ => [PAST_SCRUB_PASSES i]⟩,
  ⟨0x100100, [(0x10000, 8), (8, 16)], fun i j _ => [PREG_LOC_BASE i j, PREG_LOC_SIZE i j]⟩,
  ⟨0x100104, [(0x10000, 8), (8, 16)], fun i j _ => [PREG_ACC_OWNER i j, PREG_ACC_READ i j, PREG_ACC_WRITE i j, PREG_ACC_RES i j, PREG_ACC_RT_ONLY i j, PREG_ACC_EN i j]⟩,
  ⟨0x104000, [(0x10000, 8)], fun i _ _ => [FU_CFG_PWL_EN i]⟩,
  ⟨0x104004, [(0x10000, 8)], fun i _ _ => [FU_STATUS_BUSY i, FU_STATUS_SHARED i, FU_STATUS_FUNC i, FU_STATUS_OPC i]⟩,
  ⟨0x104010, [(0x10000, 8)], fun i _ _ => [FU_EVAL_PWL i]⟩,
  ⟨0x104014, [(0x10000, 8)], fun i _ _ => [FU_EVAL_SHR i]⟩,
  ⟨0x104018, [(0x10000, 8)], fun i _ _ => [FU_ARB_WAIT i]⟩,
  ⟨0x10401c, [(0x10000, 8)], fun i _ _ => [FU_NAN i]⟩,
  ⟨0x104020, [(0x10000, 8)], fun i _ _ => [FU_SAT i]⟩,
  ⟨0x104024, [(0x10000, 8)], fun i _ _ => [FU_EMPTYROW i]⟩,
  ⟨0x104028, [(0x10000, 8)], fun i _ _ => [FU_ERRMAX i]⟩,
  ⟨0x105000, [(0x10000, 8), (4, 288)], fun i j _ => [FU_COEF i j]⟩,
  ⟨0x108000, [(0x10000, 8)], fun i _ _ => [ATT_STATUS_BUSY i, ATT_STATUS_KIND i]⟩,
  ⟨0x108010, [(0x10000, 8)], fun i _ _ => [ATT_ROWS i]⟩,
  ⟨0x108014, [(0x10000, 8)], fun i _ _ => [ATT_PAGES i]⟩,
  ⟨0x108018, [(0x10000, 8)], fun i _ _ => [ATT_OMIT i]⟩,
  ⟨0x10801c, [(0x10000, 8)], fun i _ _ => [ATT_EMPTY i]⟩,
  ⟨0x108020, [(0x10000, 8)], fun i _ _ => [ATT_NAN i]⟩,
  ⟨0x108024, [(0x10000, 8)], fun i _ _ => [ATT_SELMAX i]⟩,
  ⟨0x108028, [(0x10000, 8)], fun i _ _ => [KV_TOKENS i]⟩,
  ⟨0x10802c, [(0x10000, 8)], fun i _ _ => [KV_IXWR i]⟩,
  ⟨0x108030, [(0x10000, 8)], fun i _ _ => [KV_NANBLK i]⟩,
  ⟨0x108034, [(0x10000, 8)], fun i _ _ => [KV_SEQERR i]⟩,
  ⟨0x108038, [(0x10000, 8)], fun i _ _ => [KV_ERRCAP_TID i, KV_ERRCAP_CAUSE i, KV_ERRCAP_QID i, KV_ERRCAP_VALID i]⟩,
  ⟨0x10803c, [(0x10000, 8)], fun i _ _ => [KV_ERRADDR_LO i]⟩,
  ⟨0x108040, [(0x10000, 8)], fun i _ _ => [KV_ERRADDR_HI i]⟩,
  ⟨0x180000, [(0x10000, 4)], fun i _ _ => [VX_STATUS_STATE i, VX_STATUS_BIST i, VX_STATUS_DOZE i, VX_STATUS_CORES i, VX_STATUS_QID i, VX_STATUS_OPC i]⟩]

/-- Where these registers lie, and the fields of each. -/
def groupsEngine1 : List Group := [
  ⟨0x180004, [(0x10000, 4)], fun i _ _ => [VX_CFG_WC_GBPS i]⟩,
  ⟨0x180010, [(0x10000, 4)], fun i _ _ => [VX_CMDS i]⟩,
  ⟨0x180014, [(0x10000, 4)], fun i _ _ => [VX_BUSY i]⟩,
  ⟨0x180018, [(0x10000, 4)], fun i _ _ => [VX_NAN i]⟩,
  ⟨0x18001c, [(0x10000, 4)], fun i _ _ => [VX_OVRUN i]⟩,
  ⟨0x180020, [(0x10000, 4)], fun i _ _ => [CLM_CORR i]⟩,
  ⟨0x180024, [(0x10000, 4)], fun i _ _ => [CLM_UNC i]⟩,
  ⟨0x180028, [(0x10000, 4)], fun i _ _ => [CLM_UNC_CAP_WORD i, CLM_UNC_CAP_VALID i]⟩,
  ⟨0x18002c, [(0x10000, 4)], fun i _ _ => [CLM_SCRUB_PASSES i]⟩,
  ⟨0x180030, [(0x10000, 4)], fun i _ _ => [VX_IKFLAG i]⟩,
  ⟨0x180100, [(0x10000, 4), (8, 8)], fun i j _ => [CREG_LOC_BASE i j, CREG_LOC_SIZE i j]⟩,
  ⟨0x180104, [(0x10000, 4), (8, 8)], fun i j _ => [CREG_ACC_OWNER i j, CREG_ACC_READ i j, CREG_ACC_WRITE i j, CREG_ACC_RES i j, CREG_ACC_RT_ONLY i j, CREG_ACC_EN i j]⟩,
  ⟨0x210000, [], fun _ _ _ => [GL_STATUS_STATE, GL_STATUS_DOZE, GL_STATUS_BIST, GL_STATUS_ACTIVE, GL_STATUS_A_USE, GL_STATUS_B_USE, GL_STATUS_CHECKING, GL_STATUS_QID]⟩,
  ⟨0x210004, [], fun _ _ _ => [GL_CFG_WC_GBPS, GL_CFG_INIT_SLOT]⟩,
  ⟨0x210008, [], fun _ _ _ => [GL_BASE_A_LO]⟩,
  ⟨0x21000c, [], fun _ _ _ => [GL_BASE_A_HI]⟩,
  ⟨0x210010, [], fun _ _ _ => [GL_BASE_B_LO]⟩,
  ⟨0x210014, [], fun _ _ _ => [GL_BASE_B_HI]⟩,
  ⟨0x210018, [], fun _ _ _ => [GL_SIZE_A]⟩,
  ⟨0x21001c, [], fun _ _ _ => [GL_SIZE_B]⟩,
  ⟨0x210020, [], fun _ _ _ => [GL_SLOT_A_LOADED, GL_SLOT_A_VALID, GL_SLOT_A_ERR, GL_SLOT_A_GEN]⟩,
  ⟨0x210024, [], fun _ _ _ => [GL_SLOT_B_LOADED, GL_SLOT_B_VALID, GL_SLOT_B_ERR, GL_SLOT_B_GEN]⟩,
  ⟨0x210028, [], fun _ _ _ => [GL_LOAD_SLOT, GL_LOAD_GO]⟩,
  ⟨0x21002c, [], fun _ _ _ => [GL_SWAP_TGT, GL_SWAP_GO, GL_SWAP_REFUSED]⟩,
  ⟨0x210030, [], fun _ _ _ => [GL_QUERIES]⟩,
  ⟨0x210034, [], fun _ _ _ => [GL_DCUT]⟩,
  ⟨0x210038, [], fun _ _ _ => [GL_LISTS]⟩,
  ⟨0x21003c, [], fun _ _ _ => [GL_SWAPS]⟩,
  ⟨0x210040, [], fun _ _ _ => [GL_WRPROT]⟩,
  ⟨0x210044, [], fun _ _ _ => [GL_LAT_MAX]⟩,
  ⟨0x210048, [], fun _ _ _ => [GLM_CORR]⟩,
  ⟨0x21004c, [], fun _ _ _ => [GLM_UNC]⟩]

/-- Every register of this file. -/
def groupsEngine : List Group := groupsEngine0 ++ groupsEngine1

end Sys2Proof.Machine.Reg
end

