-- ==== Sys2Proof/Machine/RegsIntake.lean ====
section
/-! DEFINITION. The fields of the Intake and exposure registers (chapters 08 and 09), one definition per field: address,
lowest bit, width, reset value, access code, Keep class and Collide class as the spec's register tables give them
(a register of one field bears the register's name). -/

namespace Sys2Proof.Machine.Reg

/-- UNIT_CFG (08_intake). -/
def UNIT_CFG_EN (u : Nat) : Field := ⟨0x200100 + 0x10 * u, 0, 1, 0, .RWL, .I, .SW⟩
def UNIT_CFG_SPLIT (u : Nat) : Field := ⟨0x200100 + 0x10 * u, 1, 1, 0, .RWL, .I, .SW⟩
def UNIT_CFG_LANES (u : Nat) : Field := ⟨0x200100 + 0x10 * u, 2, 3, 4, .RWL, .I, .SW⟩
def UNIT_CFG_CONTCLK (u : Nat) : Field := ⟨0x200100 + 0x10 * u, 5, 1, 0, .RWL, .I, .SW⟩
def UNIT_CFG_DYN_EN (u : Nat) : Field := ⟨0x200100 + 0x10 * u, 6, 1, 0, .RWL, .I, .SW⟩
def UNIT_CFG_DYN_TPL (u : Nat) : Field := ⟨0x200100 + 0x10 * u, 7, 5, 0, .RWL, .I, .SW⟩
def UNIT_CFG_LINE_TO_US (u : Nat) : Field := ⟨0x200100 + 0x10 * u, 12, 12, 0x64, .RWL, .I, .SW⟩
/-- STREAM_CFG (08_intake). -/
def STREAM_CFG_EN (s : Nat) : Field := ⟨0x201000 + 0x40 * s, 0, 1, 0, .RWL, .I, .SW⟩
def STREAM_CFG_PIN (s : Nat) : Field := ⟨0x201000 + 0x40 * s, 1, 1, 0, .RO, .I, .HV⟩
def STREAM_CFG_SRC (s : Nat) : Field := ⟨0x201000 + 0x40 * s, 2, 1, 0, .RWL, .I, .SW⟩
def STREAM_CFG_UNIT (s : Nat) : Field := ⟨0x201000 + 0x40 * s, 3, 4, 0, .RWL, .I, .SW⟩
def STREAM_CFG_VC (s : Nat) : Field := ⟨0x201000 + 0x40 * s, 7, 4, 0, .RWL, .I, .SW⟩
def STREAM_CFG_FMT (s : Nat) : Field := ⟨0x201000 + 0x40 * s, 11, 3, 0, .RWL, .I, .SW⟩
def STREAM_CFG_KEEP_BAD (s : Nat) : Field := ⟨0x201000 + 0x40 * s, 14, 1, 0, .RWL, .I, .SW⟩
def STREAM_CFG_LATEST (s : Nat) : Field := ⟨0x201000 + 0x40 * s, 15, 1, 0, .RWL, .I, .SW⟩
def STREAM_CFG_CACHE_EN (s : Nat) : Field := ⟨0x201000 + 0x40 * s, 16, 1, 0, .RWL, .I, .SW⟩
def STREAM_CFG_NEAR (s : Nat) : Field := ⟨0x201000 + 0x40 * s, 17, 3, 0, .RWL, .I, .SW⟩
def STREAM_CFG_PREP (s : Nat) : Field := ⟨0x201000 + 0x40 * s, 20, 4, 0, .RWL, .I, .SW⟩
def STREAM_CFG_GROUP (s : Nat) : Field := ⟨0x201000 + 0x40 * s, 24, 3, 0, .RWL, .I, .SW⟩
/-- INT_STATUS (08_intake). -/
def INT_STATUS_PREP_OVER : Field := ⟨0x200000, 0, 1, 0, .W1C, .V, .HS⟩
def INT_STATUS_POOL_EMPTY : Field := ⟨0x200000, 1, 1, 0, .W1C, .V, .HS⟩
def INT_STATUS_CACHE_EVICT : Field := ⟨0x200000, 2, 1, 0, .W1C, .V, .HS⟩
/-- POOL_BASE_LO (08_intake). -/
def POOL_BASE_LO : Field := ⟨0x200010, 0, 32, 0, .RWL, .I, .SW⟩
/-- POOL_BASE_HI (08_intake). -/
def POOL_BASE_HI : Field := ⟨0x200014, 0, 32, 0, .RWL, .I, .SW⟩
/-- POOL_CFG (08_intake). -/
def POOL_CFG_POOL_GRANULES : Field := ⟨0x200018, 0, 16, 0, .RWL, .I, .SW⟩
def POOL_CFG_RECLAIM : Field := ⟨0x200018, 16, 1, 0, .RWL, .I, .SW⟩
/-- POOL_FREE (08_intake). -/
def POOL_FREE_FREE : Field := ⟨0x20001c, 0, 16, 0, .RO, .V, .HV⟩
def POOL_FREE_TOTAL : Field := ⟨0x20001c, 16, 16, 0, .RO, .V, .HV⟩
/-- CACHE_BASE_LO (08_intake). -/
def CACHE_BASE_LO : Field := ⟨0x200020, 0, 32, 0, .RWL, .I, .SW⟩
/-- CACHE_BASE_HI (08_intake). -/
def CACHE_BASE_HI : Field := ⟨0x200024, 0, 32, 0, .RWL, .I, .SW⟩
/-- CACHE_CFG (08_intake). -/
def CACHE_CFG_MIB : Field := ⟨0x200028, 0, 16, 0, .RWL, .I, .SW⟩
/-- CACHE_STAT (08_intake). -/
def CACHE_STAT_ENTRIES : Field := ⟨0x20002c, 0, 16, 0, .RO, .V, .HV⟩
def CACHE_STAT_SKIP : Field := ⟨0x20002c, 16, 16, 0, .RW, .V, .CT⟩
/-- REPLAY_SID_LO (08_intake). -/
def REPLAY_SID_LO : Field := ⟨0x200030, 0, 32, 0, .RW, .V, .SW⟩
/-- REPLAY_SID_HI (08_intake). -/
def REPLAY_SID_HI : Field := ⟨0x200034, 0, 32, 0, .RW, .V, .SW⟩
/-- REPLAY_CTL (08_intake). -/
def REPLAY_CTL_PREP : Field := ⟨0x200038, 0, 4, 0, .RW, .V, .SW⟩
def REPLAY_CTL_GROUP : Field := ⟨0x200038, 4, 3, 0, .RW, .V, .SW⟩
def REPLAY_CTL_GO : Field := ⟨0x200038, 8, 1, 0, .WO, .V, .HC⟩
/-- REPLAY_STAT (08_intake). -/
def REPLAY_STAT_PENDING : Field := ⟨0x20003c, 0, 5, 0, .RO, .V, .HV⟩
def REPLAY_STAT_REFUSED : Field := ⟨0x20003c, 8, 8, 0, .RW, .V, .CT⟩
def REPLAY_STAT_MISS : Field := ⟨0x20003c, 16, 16, 0, .RW, .V, .CT⟩
/-- JPEG_STAT (08_intake). -/
def JPEG_STAT_DECODED : Field := ⟨0x200040, 0, 16, 0, .RW, .V, .CT⟩
def JPEG_STAT_DECERR : Field := ⟨0x200040, 16, 16, 0, .RW, .V, .CT⟩
/-- GV_UNMATCHED (08_intake). -/
def GV_UNMATCHED : Field := ⟨0x200400, 0, 32, 0, .RW, .V, .CT⟩
/-- UNIT_STATUS (08_intake). -/
def UNIT_STATUS_STOP (u : Nat) : Field := ⟨0x200104 + 0x10 * u, 0, 4, 0, .RO, .V, .HV⟩
def UNIT_STATUS_HS (u : Nat) : Field := ⟨0x200104 + 0x10 * u, 4, 1, 0, .RO, .V, .HV⟩
def UNIT_STATUS_OPEN (u : Nat) : Field := ⟨0x200104 + 0x10 * u, 5, 16, 0, .RO, .V, .HV⟩
/-- UNIT_ERR (08_intake). -/
def UNIT_ERR_ECC_CORR (u : Nat) : Field := ⟨0x200108 + 0x10 * u, 0, 16, 0, .RW, .V, .CT⟩
def UNIT_ERR_ECC_UNC (u : Nat) : Field := ⟨0x200108 + 0x10 * u, 16, 16, 0, .RW, .V, .CT⟩
/-- UNIT_CRC (08_intake). -/
def UNIT_CRC_CRC (u : Nat) : Field := ⟨0x20010c + 0x10 * u, 0, 16, 0, .RW, .V, .CT⟩
def UNIT_CRC_DT_DISCARD (u : Nat) : Field := ⟨0x20010c + 0x10 * u, 16, 16, 0, .RW, .V, .CT⟩
/-- GV_FILT (08_intake). -/
def GV_FILT_EN (f : Nat) : Field := ⟨0x200300 + 0x10 * f, 0, 1, 0, .RWL, .I, .SW⟩
def GV_FILT_PORT (f : Nat) : Field := ⟨0x200300 + 0x10 * f, 1, 2, 0, .RWL, .I, .SW⟩
def GV_FILT_DYN_EN (f : Nat) : Field := ⟨0x200300 + 0x10 * f, 3, 1, 0, .RWL, .I, .SW⟩
def GV_FILT_STREAM (f : Nat) : Field := ⟨0x200300 + 0x10 * f, 4, 5, 0, .RWL, .I, .SW⟩
def GV_FILT_DYN_TPL (f : Nat) : Field := ⟨0x200300 + 0x10 * f, 9, 5, 0, .RWL, .I, .SW⟩
def GV_FILT_DPORT (f : Nat) : Field := ⟨0x200300 + 0x10 * f, 16, 16, 0, .RWL, .I, .SW⟩
/-- GV_SRCIP (08_intake). -/
def GV_SRCIP (f : Nat) : Field := ⟨0x200304 + 0x10 * f, 0, 32, 0, .RWL, .I, .SW⟩
/-- GV_CFG (08_intake). -/
def GV_CFG_WAIT_US (f : Nat) : Field := ⟨0x200308 + 0x10 * f, 0, 12, 0, .RWL, .I, .SW⟩
def GV_CFG_JPEG_MAX_KIB (f : Nat) : Field := ⟨0x200308 + 0x10 * f, 16, 16, 0, .RWL, .I, .SW⟩
/-- STREAM_DIM (08_intake). -/
def STREAM_DIM_WIDTH (s : Nat) : Field := ⟨0x201004 + 0x40 * s, 0, 16, 0, .RWL, .I, .SW⟩
def STREAM_DIM_HEIGHT (s : Nat) : Field := ⟨0x201004 + 0x40 * s, 16, 16, 0, .RWL, .I, .SW⟩
/-- STREAM_POOL (08_intake). -/
def STREAM_POOL_RESV (s : Nat) : Field := ⟨0x201008 + 0x40 * s, 0, 16, 0, .RWL, .I, .SW⟩
def STREAM_POOL_BORROW_MAX (s : Nat) : Field := ⟨0x201008 + 0x40 * s, 16, 16, 0, .RWL, .I, .SW⟩
/-- STREAM_STALE (08_intake). -/
def STREAM_STALE_STALE_MS (s : Nat) : Field := ⟨0x20100c + 0x40 * s, 0, 12, 0x1e, .RWL, .I, .SW⟩
/-- STREAM_STATE (08_intake). -/
def STREAM_STATE_STATE (s : Nat) : Field := ⟨0x201010 + 0x40 * s, 0, 2, 0, .RO, .S, .HV⟩
def STREAM_STATE_GEN (s : Nat) : Field := ⟨0x201010 + 0x40 * s, 8, 8, 0, .RO, .S, .HV⟩
def STREAM_STATE_HELD (s : Nat) : Field := ⟨0x201010 + 0x40 * s, 16, 16, 0, .RO, .S, .HV⟩
/-- STREAM_SEQ_LO (08_intake). -/
def STREAM_SEQ_LO (s : Nat) : Field := ⟨0x201014 + 0x40 * s, 0, 32, 0, .RO, .S, .HV⟩
/-- STREAM_SEQ_HI (08_intake). -/
def STREAM_SEQ_HI (s : Nat) : Field := ⟨0x201018 + 0x40 * s, 0, 16, 0, .RO, .S, .HV⟩
/-- STREAM_FRAMES (08_intake). -/
def STREAM_FRAMES (s : Nat) : Field := ⟨0x20101c + 0x40 * s, 0, 32, 0, .RW, .V, .CT⟩
/-- STREAM_DROP (08_intake). -/
def STREAM_DROP_LO (s : Nat) (j : Nat) : Field := ⟨0x201020 + 0x40 * s + 4 * j, 0, 16, 0, .RW, .V, .CT⟩
def STREAM_DROP_HI (s : Nat) (j : Nat) : Field := ⟨0x201020 + 0x40 * s + 4 * j, 16, 16, 0, .RW, .V, .CT⟩
/-- PREP_CROP_XY (08_intake). -/
def PREP_CROP_XY_X (k : Nat) : Field := ⟨0x204000 + 0x10 * k, 0, 16, 0, .RWL, .I, .SW⟩
def PREP_CROP_XY_Y (k : Nat) : Field := ⟨0x204000 + 0x10 * k, 16, 16, 0, .RWL, .I, .SW⟩
/-- PREP_CROP_WH (08_intake). -/
def PREP_CROP_WH_CW (k : Nat) : Field := ⟨0x204004 + 0x10 * k, 0, 16, 0, .RWL, .I, .SW⟩
def PREP_CROP_WH_CH (k : Nat) : Field := ⟨0x204004 + 0x10 * k, 16, 16, 0, .RWL, .I, .SW⟩
/-- PREP_OUT_WH (08_intake). -/
def PREP_OUT_WH_OUT_W (k : Nat) : Field := ⟨0x204008 + 0x10 * k, 0, 16, 0, .RWL, .I, .SW⟩
def PREP_OUT_WH_OUT_H (k : Nat) : Field := ⟨0x204008 + 0x10 * k, 16, 16, 0, .RWL, .I, .SW⟩
/-- PREP_CTL (08_intake). -/
def PREP_CTL_METHOD (k : Nat) : Field := ⟨0x20400c + 0x10 * k, 0, 1, 0, .RWL, .I, .SW⟩
def PREP_CTL_OUT (k : Nat) : Field := ⟨0x20400c + 0x10 * k, 1, 1, 0, .RWL, .I, .SW⟩
def PREP_CTL_CHAN (k : Nat) : Field := ⟨0x20400c + 0x10 * k, 2, 1, 0, .RWL, .I, .SW⟩
def PREP_CTL_BYPASS (k : Nat) : Field := ⟨0x20400c + 0x10 * k, 3, 1, 0, .RWL, .I, .SW⟩
/-- BG_CFG (08_intake). -/
def BG_CFG_QID (g : Nat) : Field := ⟨0x205000 + 0x10 * g, 0, 10, 0, .RWL, .I, .SW⟩
def BG_CFG_BATCH_MAX (g : Nat) : Field := ⟨0x205000 + 0x10 * g, 10, 5, 0, .RWL, .I, .SW⟩
def BG_CFG_LOWATER (g : Nat) : Field := ⟨0x205000 + 0x10 * g, 16, 6, 0, .RWL, .I, .SW⟩
def BG_CFG_EN (g : Nat) : Field := ⟨0x205000 + 0x10 * g, 31, 1, 0, .RWL, .I, .SW⟩
/-- BG_STATUS (08_intake). -/
def BG_STATUS_LEVEL (g : Nat) : Field := ⟨0x205004 + 0x10 * g, 0, 7, 0, .RO, .V, .HV⟩
def BG_STATUS_LOW (g : Nat) : Field := ⟨0x205004 + 0x10 * g, 8, 1, 0, .W1C, .V, .HS⟩
/-- BG_RING_LO (08_intake). -/
def BG_RING_LO (g : Nat) : Field := ⟨0x205008 + 0x10 * g, 0, 32, 0, .RWL, .I, .SW⟩
/-- BG_RING_HI (08_intake). -/
def BG_RING_HI (g : Nat) : Field := ⟨0x20500c + 0x10 * g, 0, 32, 0, .RWL, .I, .SW⟩
/-- EXPS_BASE_LO (09_exposure_and_sentinels). -/
def EXPS_BASE_LO : Field := ⟨0x208000, 0, 32, 0, .RWL, .I, .SW⟩
/-- EXPS_BASE_HI (09_exposure_and_sentinels). -/
def EXPS_BASE_HI : Field := ⟨0x208004, 0, 32, 0, .RWL, .I, .SW⟩
/-- SENT_BASE_LO (09_exposure_and_sentinels). -/
def SENT_BASE_LO : Field := ⟨0x208008, 0, 32, 0, .RWL, .I, .SW⟩
/-- SENT_BASE_HI (09_exposure_and_sentinels). -/
def SENT_BASE_HI : Field := ⟨0x20800c, 0, 32, 0, .RWL, .I, .SW⟩
/-- CCI_CFG (09_exposure_and_sentinels). -/
def CCI_CFG_EN (n : Nat) : Field := ⟨0x208100 + 0x10 * n, 0, 1, 0, .RWL, .I, .SW⟩
def CCI_CFG_SPEED (n : Nat) : Field := ⟨0x208100 + 0x10 * n, 1, 2, 0, .RWL, .I, .SW⟩
def CCI_CFG_RETRY (n : Nat) : Field := ⟨0x208100 + 0x10 * n, 3, 3, 0, .RWL, .I, .SW⟩
/-- CCI_STAT (09_exposure_and_sentinels). -/
def CCI_STAT_BUSY (n : Nat) : Field := ⟨0x208104 + 0x10 * n, 0, 1, 0, .RO, .V, .HV⟩
def CCI_STAT_NACK (n : Nat) : Field := ⟨0x208104 + 0x10 * n, 8, 8, 0, .RW, .V, .CT⟩
def CCI_STAT_COMMITS (n : Nat) : Field := ⟨0x208104 + 0x10 * n, 16, 16, 0, .RW, .V, .CT⟩
/-- EXP_CFG (09_exposure_and_sentinels). -/
def EXP_CFG_EN (s : Nat) : Field := ⟨0x209000 + 0x80 * s, 0, 1, 0, .RWL, .I, .SW⟩
def EXP_CFG_BUS (s : Nat) : Field := ⟨0x209000 + 0x80 * s, 1, 3, 0, .RWL, .I, .SW⟩
def EXP_CFG_TADDR (s : Nat) : Field := ⟨0x209000 + 0x80 * s, 4, 7, 0, .RWL, .I, .SW⟩
def EXP_CFG_RA16 (s : Nat) : Field := ⟨0x209000 + 0x80 * s, 11, 1, 0, .RWL, .I, .SW⟩
def EXP_CFG_LAT (s : Nat) : Field := ⟨0x209000 + 0x80 * s, 12, 4, 2, .RWL, .I, .SW⟩
def EXP_CFG_TRIGSEL (s : Nat) : Field := ⟨0x209000 + 0x80 * s, 16, 4, 0, .RWL, .I, .SW⟩
def EXP_CFG_TRIG_EN (s : Nat) : Field := ⟨0x209000 + 0x80 * s, 20, 1, 0, .RWL, .I, .SW⟩
def EXP_CFG_AE_EN (s : Nat) : Field := ⟨0x209000 + 0x80 * s, 21, 1, 0, .RWL, .I, .SW⟩
def EXP_CFG_STAT_EN (s : Nat) : Field := ⟨0x209000 + 0x80 * s, 22, 1, 0, .RWL, .I, .SW⟩
def EXP_CFG_BOOT (s : Nat) : Field := ⟨0x209000 + 0x80 * s, 23, 1, 0, .RWL, .I, .SW⟩
/-- EXP_HOLD (09_exposure_and_sentinels). -/
def EXP_HOLD_HOLD_REG (s : Nat) : Field := ⟨0x209004 + 0x80 * s, 0, 16, 0, .RWL, .I, .SW⟩
def EXP_HOLD_HOLD_VAL (s : Nat) : Field := ⟨0x209004 + 0x80 * s, 16, 8, 0, .RWL, .I, .SW⟩
def EXP_HOLD_REL_VAL (s : Nat) : Field := ⟨0x209004 + 0x80 * s, 24, 8, 0, .RWL, .I, .SW⟩
/-- SCRIPT_ADDR_LO (09_exposure_and_sentinels). -/
def SCRIPT_ADDR_LO (s : Nat) : Field := ⟨0x209008 + 0x80 * s, 0, 32, 0, .RW, .I, .SW⟩
/-- SCRIPT_ADDR_HI (09_exposure_and_sentinels). -/
def SCRIPT_ADDR_HI (s : Nat) : Field := ⟨0x20900c + 0x80 * s, 0, 32, 0, .RW, .I, .SW⟩
/-- SCRIPT_CTL (09_exposure_and_sentinels). -/
def SCRIPT_CTL_COUNT (s : Nat) : Field := ⟨0x209010 + 0x80 * s, 0, 6, 0, .RW, .I, .SW⟩
def SCRIPT_CTL_EXPO_IDX (s : Nat) : Field := ⟨0x209010 + 0x80 * s, 8, 5, 0, .RW, .I, .SW⟩
def SCRIPT_CTL_GO (s : Nat) : Field := ⟨0x209010 + 0x80 * s, 16, 1, 0, .WO, .I, .HC⟩
/-- EXPGEN (09_exposure_and_sentinels). -/
def EXPGEN (s : Nat) : Field := ⟨0x209014 + 0x80 * s, 0, 32, 0x80000000, .RO, .S, .HV⟩
/-- EXP_STATUS (09_exposure_and_sentinels). -/
def EXP_STATUS_BUSY (s : Nat) : Field := ⟨0x209018 + 0x80 * s, 0, 1, 0, .RO, .V, .HV⟩
def EXP_STATUS_CCI_FAIL (s : Nat) : Field := ⟨0x209018 + 0x80 * s, 1, 1, 0, .W1C, .V, .HS⟩
def EXP_STATUS_AE_LIMIT (s : Nat) : Field := ⟨0x209018 + 0x80 * s, 2, 1, 0, .W1C, .V, .HS⟩
/-- TRIG_WIN (09_exposure_and_sentinels). -/
def TRIG_WIN_FS_WIN_US (s : Nat) : Field := ⟨0x20901c + 0x80 * s, 0, 16, 0x3e8, .RWL, .I, .SW⟩
/-- TRIG_CNT (09_exposure_and_sentinels). -/
def TRIG_CNT_MISSED (s : Nat) : Field := ⟨0x209020 + 0x80 * s, 0, 16, 0, .RW, .V, .CT⟩
def TRIG_CNT_UNMATCHED (s : Nat) : Field := ⟨0x209020 + 0x80 * s, 16, 16, 0, .RW, .V, .CT⟩
/-- AE_TARGET (09_exposure_and_sentinels). -/
def AE_TARGET_T16 (s : Nat) : Field := ⟨0x209024 + 0x80 * s, 0, 12, 0, .RWL, .I, .SW⟩
def AE_TARGET_DB16 (s : Nat) : Field := ⟨0x209024 + 0x80 * s, 12, 12, 0, .RWL, .I, .SW⟩
/-- AE_ELIM (09_exposure_and_sentinels). -/
def AE_ELIM_E_MIN (s : Nat) : Field := ⟨0x209028 + 0x80 * s, 0, 16, 1, .RWL, .I, .SW⟩
def AE_ELIM_E_MAX (s : Nat) : Field := ⟨0x209028 + 0x80 * s, 16, 16, 0xffff, .RWL, .I, .SW⟩
/-- AE_ECUR (09_exposure_and_sentinels). -/
def AE_ECUR (s : Nat) : Field := ⟨0x20902c + 0x80 * s, 0, 32, 0, .RO, .S, .HV⟩
/-- STAT_CFG (09_exposure_and_sentinels). -/
def STAT_CFG_SAT_LEVEL (s : Nat) : Field := ⟨0x209030 + 0x80 * s, 0, 8, 0xfa, .RWL, .I, .SW⟩
def STAT_CFG_DARK_LEVEL (s : Nat) : Field := ⟨0x209030 + 0x80 * s, 8, 8, 4, .RWL, .I, .SW⟩
/-- SENT_CFG (09_exposure_and_sentinels). -/
def SENT_CFG_EN (s : Nat) : Field := ⟨0x20a000 + 0x20 * s, 0, 1, 0, .RWL, .I, .SW⟩
def SENT_CFG_SRC (s : Nat) : Field := ⟨0x20a000 + 0x20 * s, 1, 1, 0, .RWL, .I, .SW⟩
def SENT_CFG_SP2 (s : Nat) : Field := ⟨0x20a000 + 0x20 * s, 2, 1, 0, .RWL, .I, .SW⟩
def SENT_CFG_SP3 (s : Nat) : Field := ⟨0x20a000 + 0x20 * s, 3, 1, 0, .RWL, .I, .SW⟩
def SENT_CFG_ARM (s : Nat) : Field := ⟨0x20a000 + 0x20 * s, 4, 1, 0, .RWL, .I, .SW⟩
def SENT_CFG_SHIFT (s : Nat) : Field := ⟨0x20a000 + 0x20 * s, 5, 3, 0, .RWL, .I, .SW⟩
def SENT_CFG_FAIL_LIMIT (s : Nat) : Field := ⟨0x20a000 + 0x20 * s, 8, 8, 1, .RWL, .I, .SW⟩
/-- SENT_STAT (09_exposure_and_sentinels). -/
def SENT_STAT_LAST (s : Nat) : Field := ⟨0x20a004 + 0x20 * s, 0, 16, 0, .RO, .V, .HV⟩
def SENT_STAT_CONSEC (s : Nat) : Field := ⟨0x20a004 + 0x20 * s, 16, 8, 0, .RO, .V, .HV⟩
/-- SENT_FAILS (09_exposure_and_sentinels). -/
def SENT_FAILS (s : Nat) : Field := ⟨0x20a008 + 0x20 * s, 0, 32, 0, .RW, .V, .CT⟩
/-- SENT_EXP1 (09_exposure_and_sentinels). -/
def SENT_EXP1 (s : Nat) : Field := ⟨0x20a00c + 0x20 * s, 0, 32, 0, .RWL, .I, .SW⟩
/-- SENT_EXP2 (09_exposure_and_sentinels). -/
def SENT_EXP2 (s : Nat) : Field := ⟨0x20a010 + 0x20 * s, 0, 32, 0, .RWL, .I, .SW⟩
/-- SENT_SP3_SIG (09_exposure_and_sentinels). -/
def SENT_SP3_SIG (s : Nat) : Field := ⟨0x20a014 + 0x20 * s, 0, 32, 0, .RWL, .I, .SW⟩
/-- SENT_SP3_FAILS (09_exposure_and_sentinels). -/
def SENT_SP3_FAILS (s : Nat) : Field := ⟨0x20a018 + 0x20 * s, 0, 32, 0, .RW, .V, .CT⟩

/-- Where these registers lie, and the fields of each. -/
def groupsIntake0 : List Group := [
  ⟨0x200100, [(0x10, 16)], fun i _ _ => [UNIT_CFG_EN i, UNIT_CFG_SPLIT i, UNIT_CFG_LANES i, UNIT_CFG_CONTCLK i, UNIT_CFG_DYN_EN i, UNIT_CFG_DYN_TPL i, UNIT_CFG_LINE_TO_US i]⟩,
  ⟨0x201000, [(0x40, 32)], fun i _ _ => [STREAM_CFG_EN i, STREAM_CFG_PIN i, STREAM_CFG_SRC i, STREAM_CFG_UNIT i, STREAM_CFG_VC i, STREAM_CFG_FMT i, STREAM_CFG_KEEP_BAD i, STREAM_CFG_LATEST i, STREAM_CFG_CACHE_EN i, STREAM_CFG_NEAR i, STREAM_CFG_PREP i, STREAM_CFG_GROUP i]⟩,
  ⟨0x200000, [], fun _ _ _ => [INT_STATUS_PREP_OVER, INT_STATUS_POOL_EMPTY, INT_STATUS_CACHE_EVICT]⟩,
  ⟨0x200010, [], fun _ _ _ => [POOL_BASE_LO]⟩,
  ⟨0x200014, [], fun _ _ _ => [POOL_BASE_HI]⟩,
  ⟨0x200018, [], fun _ _ _ => [POOL_CFG_POOL_GRANULES, POOL_CFG_RECLAIM]⟩,
  ⟨0x20001c, [], fun _ _ _ => [POOL_FREE_FREE, POOL_FREE_TOTAL]⟩,
  ⟨0x200020, [], fun _ _ _ => [CACHE_BASE_LO]⟩,
  ⟨0x200024, [], fun _ _ _ => [CACHE_BASE_HI]⟩,
  ⟨0x200028, [], fun _ _ _ => [CACHE_CFG_MIB]⟩,
  ⟨0x20002c, [], fun _ _ _ => [CACHE_STAT_ENTRIES, CACHE_STAT_SKIP]⟩,
  ⟨0x200030, [], fun _ _ _ => [REPLAY_SID_LO]⟩,
  ⟨0x200034, [], fun _ _ _ => [REPLAY_SID_HI]⟩,
  ⟨0x200038, [], fun _ _ _ => [REPLAY_CTL_PREP, REPLAY_CTL_GROUP, REPLAY_CTL_GO]⟩,
  ⟨0x20003c, [], fun _ _ _ => [REPLAY_STAT_PENDING, REPLAY_STAT_REFUSED, REPLAY_STAT_MISS]⟩,
  ⟨0x200040, [], fun _ _ _ => [JPEG_STAT_DECODED, JPEG_STAT_DECERR]⟩,
  ⟨0x200400, [], fun _ _ _ => [GV_UNMATCHED]⟩,
  ⟨0x200104, [(0x10, 16)], fun i _ _ => [UNIT_STATUS_STOP i, UNIT_STATUS_HS i, UNIT_STATUS_OPEN i]⟩,
  ⟨0x200108, [(0x10, 16)], fun i _ _ => [UNIT_ERR_ECC_CORR i, UNIT_ERR_ECC_UNC i]⟩,
  ⟨0x20010c, [(0x10, 16)], fun i _ _ => [UNIT_CRC_CRC i, UNIT_CRC_DT_DISCARD i]⟩,
  ⟨0x200300, [(0x10, 16)], fun i _ _ => [GV_FILT_EN i, GV_FILT_PORT i, GV_FILT_DYN_EN i, GV_FILT_STREAM i, GV_FILT_DYN_TPL i, GV_FILT_DPORT i]⟩,
  ⟨0x200304, [(0x10, 16)], fun i _ _ => [GV_SRCIP i]⟩,
  ⟨0x200308, [(0x10, 16)], fun i _ _ => [GV_CFG_WAIT_US i, GV_CFG_JPEG_MAX_KIB i]⟩,
  ⟨0x201004, [(0x40, 32)], fun i _ _ => [STREAM_DIM_WIDTH i, STREAM_DIM_HEIGHT i]⟩,
  ⟨0x201008, [(0x40, 32)], fun i _ _ => [STREAM_POOL_RESV i, STREAM_POOL_BORROW_MAX i]⟩,
  ⟨0x20100c, [(0x40, 32)], fun i _ _ => [STREAM_STALE_STALE_MS i]⟩,
  ⟨0x201010, [(0x40, 32)], fun i _ _ => [STREAM_STATE_STATE i, STREAM_STATE_GEN i, STREAM_STATE_HELD i]⟩,
  ⟨0x201014, [(0x40, 32)], fun i _ _ => [STREAM_SEQ_LO i]⟩,
  ⟨0x201018, [(0x40, 32)], fun i _ _ => [STREAM_SEQ_HI i]⟩,
  ⟨0x20101c, [(0x40, 32)], fun i _ _ => [STREAM_FRAMES i]⟩,
  ⟨0x201020, [(0x40, 32), (4, 7)], fun i j _ => [STREAM_DROP_LO i j, STREAM_DROP_HI i j]⟩,
  ⟨0x204000, [(0x10, 16)], fun i _ _ => [PREP_CROP_XY_X i, PREP_CROP_XY_Y i]⟩,
  ⟨0x204004, [(0x10, 16)], fun i _ _ => [PREP_CROP_WH_CW i, PREP_CROP_WH_CH i]⟩,
  ⟨0x204008, [(0x10, 16)], fun i _ _ => [PREP_OUT_WH_OUT_W i, PREP_OUT_WH_OUT_H i]⟩,
  ⟨0x20400c, [(0x10, 16)], fun i _ _ => [PREP_CTL_METHOD i, PREP_CTL_OUT i, PREP_CTL_CHAN i, PREP_CTL_BYPASS i]⟩,
  ⟨0x205000, [(0x10, 8)], fun i _ _ => [BG_CFG_QID i, BG_CFG_BATCH_MAX i, BG_CFG_LOWATER i, BG_CFG_EN i]⟩,
  ⟨0x205004, [(0x10, 8)], fun i _ _ => [BG_STATUS_LEVEL i, BG_STATUS_LOW i]⟩,
  ⟨0x205008, [(0x10, 8)], fun i _ _ => [BG_RING_LO i]⟩,
  ⟨0x20500c, [(0x10, 8)], fun i _ _ => [BG_RING_HI i]⟩,
  ⟨0x208000, [], fun _ _ _ => [EXPS_BASE_LO]⟩]

/-- Where these registers lie, and the fields of each. -/
def groupsIntake1 : List Group := [
  ⟨0x208004, [], fun _ _ _ => [EXPS_BASE_HI]⟩,
  ⟨0x208008, [], fun _ _ _ => [SENT_BASE_LO]⟩,
  ⟨0x20800c, [], fun _ _ _ => [SENT_BASE_HI]⟩,
  ⟨0x208100, [(0x10, 8)], fun i _ _ => [CCI_CFG_EN i, CCI_CFG_SPEED i, CCI_CFG_RETRY i]⟩,
  ⟨0x208104, [(0x10, 8)], fun i _ _ => [CCI_STAT_BUSY i, CCI_STAT_NACK i, CCI_STAT_COMMITS i]⟩,
  ⟨0x209000, [(0x80, 32)], fun i _ _ => [EXP_CFG_EN i, EXP_CFG_BUS i, EXP_CFG_TADDR i, EXP_CFG_RA16 i, EXP_CFG_LAT i, EXP_CFG_TRIGSEL i, EXP_CFG_TRIG_EN i, EXP_CFG_AE_EN i, EXP_CFG_STAT_EN i, EXP_CFG_BOOT i]⟩,
  ⟨0x209004, [(0x80, 32)], fun i _ _ => [EXP_HOLD_HOLD_REG i, EXP_HOLD_HOLD_VAL i, EXP_HOLD_REL_VAL i]⟩,
  ⟨0x209008, [(0x80, 32)], fun i _ _ => [SCRIPT_ADDR_LO i]⟩,
  ⟨0x20900c, [(0x80, 32)], fun i _ _ => [SCRIPT_ADDR_HI i]⟩,
  ⟨0x209010, [(0x80, 32)], fun i _ _ => [SCRIPT_CTL_COUNT i, SCRIPT_CTL_EXPO_IDX i, SCRIPT_CTL_GO i]⟩,
  ⟨0x209014, [(0x80, 32)], fun i _ _ => [EXPGEN i]⟩,
  ⟨0x209018, [(0x80, 32)], fun i _ _ => [EXP_STATUS_BUSY i, EXP_STATUS_CCI_FAIL i, EXP_STATUS_AE_LIMIT i]⟩,
  ⟨0x20901c, [(0x80, 32)], fun i _ _ => [TRIG_WIN_FS_WIN_US i]⟩,
  ⟨0x209020, [(0x80, 32)], fun i _ _ => [TRIG_CNT_MISSED i, TRIG_CNT_UNMATCHED i]⟩,
  ⟨0x209024, [(0x80, 32)], fun i _ _ => [AE_TARGET_T16 i, AE_TARGET_DB16 i]⟩,
  ⟨0x209028, [(0x80, 32)], fun i _ _ => [AE_ELIM_E_MIN i, AE_ELIM_E_MAX i]⟩,
  ⟨0x20902c, [(0x80, 32)], fun i _ _ => [AE_ECUR i]⟩,
  ⟨0x209030, [(0x80, 32)], fun i _ _ => [STAT_CFG_SAT_LEVEL i, STAT_CFG_DARK_LEVEL i]⟩,
  ⟨0x20a000, [(0x20, 32)], fun i _ _ => [SENT_CFG_EN i, SENT_CFG_SRC i, SENT_CFG_SP2 i, SENT_CFG_SP3 i, SENT_CFG_ARM i, SENT_CFG_SHIFT i, SENT_CFG_FAIL_LIMIT i]⟩,
  ⟨0x20a004, [(0x20, 32)], fun i _ _ => [SENT_STAT_LAST i, SENT_STAT_CONSEC i]⟩,
  ⟨0x20a008, [(0x20, 32)], fun i _ _ => [SENT_FAILS i]⟩,
  ⟨0x20a00c, [(0x20, 32)], fun i _ _ => [SENT_EXP1 i]⟩,
  ⟨0x20a010, [(0x20, 32)], fun i _ _ => [SENT_EXP2 i]⟩,
  ⟨0x20a014, [(0x20, 32)], fun i _ _ => [SENT_SP3_SIG i]⟩,
  ⟨0x20a018, [(0x20, 32)], fun i _ _ => [SENT_SP3_FAILS i]⟩]

/-- Every register of this file. -/
def groupsIntake : List Group := groupsIntake0 ++ groupsIntake1

end Sys2Proof.Machine.Reg
end

