-- ==== Sys2Proof/Machine/RegsMemory.lean ====
section
/-! DEFINITION. The fields of the memory controller, fabric and probe registers (chapters 10 to 12), one definition per field: address,
lowest bit, width, reset value, access code, Keep class and Collide class as the spec's register tables give them
(a register of one field bears the register's name). -/

namespace Sys2Proof.Machine.Reg

/-- FAB_LINK (11_fabric). -/
def FAB_LINK_CW (n : Nat) : Field := ⟨0x220100 + 4 * n, 0, 2, 0, .RO, .V, .HV⟩
def FAB_LINK_CCW (n : Nat) : Field := ⟨0x220100 + 4 * n, 2, 2, 0, .RO, .V, .HV⟩
def FAB_LINK_SV (n : Nat) : Field := ⟨0x220100 + 4 * n, 4, 2, 0, .RO, .V, .HV⟩
def FAB_LINK_REPLAYS (n : Nat) : Field := ⟨0x220100 + 4 * n, 16, 16, 0, .RW, .V, .CT⟩
/-- MC_STATUS (10_memory_and_codecs). -/
def MC_STATUS_STATE (n : Nat) : Field := ⟨0x230000 + 0x10000 * n, 0, 2, 0, .RO, .V, .HV⟩
def MC_STATUS_TRAINED (n : Nat) : Field := ⟨0x230000 + 0x10000 * n, 2, 4, 0, .RO, .V, .HV⟩
def MC_STATUS_IECC (n : Nat) : Field := ⟨0x230000 + 0x10000 * n, 6, 1, 0, .RO, .V, .HV⟩
def MC_STATUS_HOT (n : Nat) : Field := ⟨0x230000 + 0x10000 * n, 7, 1, 0, .RO, .V, .HV⟩
/-- MC_CFG (10_memory_and_codecs). -/
def MC_CFG_GIB (n : Nat) : Field := ⟨0x230004 + 0x10000 * n, 0, 4, 0, .RO, .I, .HV⟩
def MC_CFG_RANKS2 (n : Nat) : Field := ⟨0x230004 + 0x10000 * n, 4, 1, 0, .RO, .I, .HV⟩
def MC_CFG_IECC (n : Nat) : Field := ⟨0x230004 + 0x10000 * n, 5, 1, 0, .RO, .I, .HV⟩
/-- MC_SHADOW (10_memory_and_codecs). -/
def MC_SHADOW_SHADOW_US (n : Nat) : Field := ⟨0x230008 + 0x10000 * n, 0, 10, 0x40, .RWL, .I, .SW⟩
/-- MC_SCRUB_CFG (10_memory_and_codecs). -/
def MC_SCRUB_CFG_HOURS (n : Nat) : Field := ⟨0x23000c + 0x10000 * n, 0, 8, 0x18, .RWL, .I, .SW⟩
/-- MC_SCRUB_STAT (10_memory_and_codecs). -/
def MC_SCRUB_STAT_PASSES (n : Nat) : Field := ⟨0x230010 + 0x10000 * n, 0, 16, 0, .RO, .V, .HV⟩
def MC_SCRUB_STAT_PROGRESS (n : Nat) : Field := ⟨0x230010 + 0x10000 * n, 16, 16, 0, .RO, .V, .HV⟩
/-- MC_QOS (10_memory_and_codecs). -/
def MC_QOS_BE_MAX_NS (n : Nat) : Field := ⟨0x230014 + 0x10000 * n, 0, 16, 0x7d0, .RWL, .I, .SW⟩
/-- MC_LINK_CORR (10_memory_and_codecs). -/
def MC_LINK_CORR (n : Nat) : Field := ⟨0x230020 + 0x10000 * n, 0, 32, 0, .RW, .V, .CT⟩
/-- MC_IECC_CORR (10_memory_and_codecs). -/
def MC_IECC_CORR (n : Nat) : Field := ⟨0x230024 + 0x10000 * n, 0, 32, 0, .RW, .V, .CT⟩
/-- MC_IECC_UNC (10_memory_and_codecs). -/
def MC_IECC_UNC (n : Nat) : Field := ⟨0x230028 + 0x10000 * n, 0, 32, 0, .RW, .V, .CT⟩
/-- MC_UNC_ADDR_LO (10_memory_and_codecs). -/
def MC_UNC_ADDR_LO (n : Nat) : Field := ⟨0x23002c + 0x10000 * n, 0, 32, 0, .RO, .V, .HV⟩
/-- MC_UNC_ADDR_HI (10_memory_and_codecs). -/
def MC_UNC_ADDR_HI_ADDR (n : Nat) : Field := ⟨0x230030 + 0x10000 * n, 0, 16, 0, .RO, .V, .HV⟩
def MC_UNC_ADDR_HI_CH (n : Nat) : Field := ⟨0x230030 + 0x10000 * n, 16, 2, 0, .RO, .V, .HV⟩
def MC_UNC_ADDR_HI_ACHK (n : Nat) : Field := ⟨0x230030 + 0x10000 * n, 18, 1, 0, .RO, .V, .HV⟩
def MC_UNC_ADDR_HI_VALID (n : Nat) : Field := ⟨0x230030 + 0x10000 * n, 31, 1, 0, .W1C, .V, .HS⟩
/-- MC_RETRAIN_STAT (10_memory_and_codecs). -/
def MC_RETRAIN_STAT_SHADOWS (n : Nat) : Field := ⟨0x230040 + 0x10000 * n, 0, 16, 0, .RO, .S, .HV⟩
def MC_RETRAIN_STAT_FULL (n : Nat) : Field := ⟨0x230040 + 0x10000 * n, 16, 8, 0, .RO, .S, .HV⟩
def MC_RETRAIN_STAT_PENDING (n : Nat) : Field := ⟨0x230040 + 0x10000 * n, 24, 1, 0, .RO, .S, .HV⟩
def MC_RETRAIN_STAT_BUSYSEEN (n : Nat) : Field := ⟨0x230040 + 0x10000 * n, 25, 1, 0, .RO, .S, .HV⟩
/-- MC_RETRAIN_CTL (10_memory_and_codecs). -/
def MC_RETRAIN_CTL_REQ (n : Nat) : Field := ⟨0x230044 + 0x10000 * n, 0, 1, 0, .WO, .S, .HC⟩
/-- MC_DRIFT (10_memory_and_codecs). -/
def MC_DRIFT_PS (n : Nat) : Field := ⟨0x230048 + 0x10000 * n, 0, 8, 0, .RO, .V, .HV⟩
/-- MC_LAT_MAX (10_memory_and_codecs). -/
def MC_LAT_MAX (n : Nat) : Field := ⟨0x230050 + 0x10000 * n, 0, 32, 0, .RC, .V, .HV⟩
/-- MC_WIN_IDX (10_memory_and_codecs). -/
def MC_WIN_IDX_IDX (n : Nat) : Field := ⟨0x230060 + 0x10000 * n, 0, 12, 0, .RW, .V, .SW⟩
/-- MC_WIN_DATA (10_memory_and_codecs). -/
def MC_WIN_DATA (n : Nat) (j : Nat) : Field := ⟨0x230064 + 0x10000 * n + 4 * j, 0, 32, 0, .RO, .I, .HV⟩
/-- MC_WINV (10_memory_and_codecs). -/
def MC_WINV_WINV (n : Nat) : Field := ⟨0x230074 + 0x10000 * n, 0, 16, 0, .RW, .V, .CT⟩
def MC_WINV_OOR (n : Nat) : Field := ⟨0x230074 + 0x10000 * n, 16, 16, 0, .RW, .V, .CT⟩
/-- MC_WINV_INFO (10_memory_and_codecs). -/
def MC_WINV_INFO_TID (n : Nat) : Field := ⟨0x230078 + 0x10000 * n, 0, 10, 0, .RO, .V, .HV⟩
def MC_WINV_INFO_WRITE (n : Nat) : Field := ⟨0x230078 + 0x10000 * n, 10, 1, 0, .RO, .V, .HV⟩
def MC_WINV_INFO_VALID (n : Nat) : Field := ⟨0x230078 + 0x10000 * n, 31, 1, 0, .W1C, .V, .HS⟩
/-- MC_WINV_ADDR_LO (10_memory_and_codecs). -/
def MC_WINV_ADDR_LO (n : Nat) : Field := ⟨0x23007c + 0x10000 * n, 0, 32, 0, .RO, .V, .HV⟩
/-- MC_WINV_ADDR_HI (10_memory_and_codecs). -/
def MC_WINV_ADDR_HI (n : Nat) : Field := ⟨0x230080 + 0x10000 * n, 0, 16, 0, .RO, .V, .HV⟩
/-- FAB_STATUS (11_fabric). -/
def FAB_STATUS_ANY_DOWN : Field := ⟨0x220000, 0, 1, 0, .RO, .V, .HV⟩
def FAB_STATUS_SV_BYPASS : Field := ⟨0x220000, 1, 1, 0, .RO, .V, .HV⟩
def FAB_STATUS_ANY_FENCE : Field := ⟨0x220000, 2, 1, 0, .RO, .V, .HV⟩
/-- FAB_CFG (11_fabric). -/
def FAB_CFG_INS_WIN : Field := ⟨0x220004, 0, 8, 0x20, .RWL, .I, .SW⟩
/-- FAB_TIMEOUTS (11_fabric). -/
def FAB_TIMEOUTS : Field := ⟨0x220010, 0, 32, 0, .RW, .V, .CT⟩
/-- FAB_LATE_DROP (11_fabric). -/
def FAB_LATE_DROP : Field := ⟨0x220014, 0, 32, 0, .RW, .V, .CT⟩
/-- FAB_FENCE_WDROP (11_fabric). -/
def FAB_FENCE_WDROP : Field := ⟨0x220018, 0, 32, 0, .RW, .V, .CT⟩
/-- FAB_FENCE_RFEN (11_fabric). -/
def FAB_FENCE_RFEN : Field := ⟨0x22001c, 0, 32, 0, .RW, .V, .CT⟩
/-- FAB_FENCE_ABS (11_fabric). -/
def FAB_FENCE_ABS : Field := ⟨0x220020, 0, 32, 0, .RW, .V, .CT⟩
/-- FAB_TO_CAP (11_fabric). -/
def FAB_TO_CAP_IPID : Field := ⟨0x220030, 0, 7, 0, .RO, .V, .HV⟩
def FAB_TO_CAP_TPID : Field := ⟨0x220030, 8, 7, 0, .RO, .V, .HV⟩
def FAB_TO_CAP_TAG : Field := ⟨0x220030, 15, 8, 0, .RO, .V, .HV⟩
def FAB_TO_CAP_SV : Field := ⟨0x220030, 23, 1, 0, .RO, .V, .HV⟩
def FAB_TO_CAP_VALID : Field := ⟨0x220030, 31, 1, 0, .W1C, .V, .HS⟩
/-- FAB_TO_CAP_ADDR_LO (11_fabric). -/
def FAB_TO_CAP_ADDR_LO : Field := ⟨0x220034, 0, 32, 0, .RO, .V, .HV⟩
/-- FAB_TO_CAP_ADDR_HI (11_fabric). -/
def FAB_TO_CAP_ADDR_HI : Field := ⟨0x220038, 0, 16, 0, .RO, .V, .HV⟩
/-- FAB_FENCE (11_fabric). -/
def FAB_FENCE (k : Nat) : Field := ⟨0x220040 + 4 * k, 0, 32, 0, .W1C, .S, .HS⟩
/-- FAB_FENCE_SET (11_fabric). -/
def FAB_FENCE_SET (k : Nat) : Field := ⟨0x220050 + 4 * k, 0, 32, 0, .WO, .S, .SW⟩
/-- FAB_FENCE_LAST (11_fabric). -/
def FAB_FENCE_LAST_PID : Field := ⟨0x220060, 0, 7, 0, .RO, .S, .HV⟩
def FAB_FENCE_LAST_CAUSE : Field := ⟨0x220060, 8, 2, 0, .RO, .S, .HV⟩
/-- FAB_INIT_CFG (11_fabric). -/
def FAB_INIT_CFG_TO_US (p : Nat) : Field := ⟨0x221000 + 0x10 * p, 0, 14, 0x14, .RWL, .I, .SW⟩
def FAB_INIT_CFG_RT (p : Nat) : Field := ⟨0x221000 + 0x10 * p, 14, 1, 0, .RWL, .I, .SW⟩
def FAB_INIT_CFG_ZR_EN (p : Nat) : Field := ⟨0x221000 + 0x10 * p, 15, 1, 0, .RWL, .I, .SW⟩
/-- FAB_INIT_BW (11_fabric). -/
def FAB_INIT_BW_RATE (p : Nat) : Field := ⟨0x221004 + 0x10 * p, 0, 16, 0, .RWL, .I, .SW⟩
def FAB_INIT_BW_BURST (p : Nat) : Field := ⟨0x221004 + 0x10 * p, 16, 8, 1, .RWL, .I, .SW⟩
/-- FAB_INIT_STAT (11_fabric). -/
def FAB_INIT_STAT_TAGS (p : Nat) : Field := ⟨0x221008 + 0x10 * p, 0, 9, 0, .RO, .V, .HV⟩
def FAB_INIT_STAT_QUAR (p : Nat) : Field := ⟨0x221008 + 0x10 * p, 16, 9, 0, .RO, .V, .HV⟩
/-- FAB_INIT_TOCNT (11_fabric). -/
def FAB_INIT_TOCNT (p : Nat) : Field := ⟨0x22100c + 0x10 * p, 0, 32, 0, .RW, .V, .CT⟩
/-- FAB_TGT_CFG (11_fabric). -/
def FAB_TGT_CFG_AUTO_FENCE (p : Nat) : Field := ⟨0x222000 + 8 * p, 0, 1, 1, .RWL, .I, .SW⟩
def FAB_TGT_CFG_TO_FENCE (p : Nat) : Field := ⟨0x222000 + 8 * p, 4, 4, 4, .RWL, .I, .SW⟩
/-- FAB_TGT_STAT (11_fabric). -/
def FAB_TGT_STAT_CONSEC (p : Nat) : Field := ⟨0x222004 + 8 * p, 0, 4, 0, .RO, .V, .HV⟩
def FAB_TGT_STAT_FWD (p : Nat) : Field := ⟨0x222004 + 8 * p, 8, 8, 0, .RO, .V, .HV⟩
/-- PRB_CTL (12_weevil_probes). -/
def PRB_CTL_CLEAR : Field := ⟨0x228000, 0, 1, 0, .WO, .N, .HC⟩
def PRB_CTL_TRC_EN : Field := ⟨0x228000, 1, 1, 0, .RW, .I, .HK⟩
def PRB_CTL_FREEZE : Field := ⟨0x228000, 2, 1, 0, .RW, .I, .SW⟩
/-- PRB_WIN_CFG (12_weevil_probes). -/
def PRB_WIN_CFG_LEN_US : Field := ⟨0x228004, 0, 16, 0, .RW, .I, .SW⟩
def PRB_WIN_CFG_ALIGN : Field := ⟨0x228004, 16, 1, 0, .RW, .I, .SW⟩
/-- PRB_WIN_STAT (12_weevil_probes). -/
def PRB_WIN_STAT_WIN_SEQ : Field := ⟨0x228008, 0, 16, 0, .RO, .V, .HV⟩
def PRB_WIN_STAT_SAT : Field := ⟨0x228008, 16, 1, 0, .RO, .V, .HV⟩
def PRB_WIN_STAT_FROZEN : Field := ⟨0x228008, 17, 1, 0, .RO, .V, .HV⟩
/-- TRC_CFG (12_weevil_probes). -/
def TRC_CFG_SINK : Field := ⟨0x228010, 0, 2, 0, .RW, .I, .SW⟩
def TRC_CFG_WRAP : Field := ⟨0x228010, 2, 1, 0, .RW, .I, .SW⟩
/-- TRC_RING_BASE_LO (12_weevil_probes). -/
def TRC_RING_BASE_LO : Field := ⟨0x228014, 0, 32, 0, .RW, .I, .SW⟩
/-- TRC_RING_BASE_HI (12_weevil_probes). -/
def TRC_RING_BASE_HI : Field := ⟨0x228018, 0, 32, 0, .RW, .I, .SW⟩
/-- TRC_RING_SIZE (12_weevil_probes). -/
def TRC_RING_SIZE_KIB : Field := ⟨0x22801c, 0, 20, 0, .RW, .I, .SW⟩
/-- TRC_RING_WPTR (12_weevil_probes). -/
def TRC_RING_WPTR : Field := ⟨0x228020, 0, 32, 0, .RO, .V, .HV⟩
/-- TRC_LOST (12_weevil_probes). -/
def TRC_LOST : Field := ⟨0x228024, 0, 32, 0, .RO, .V, .HV⟩
/-- TRC_STAT (12_weevil_probes). -/
def TRC_STAT_RING_FULL : Field := ⟨0x228028, 0, 1, 0, .W1C, .V, .HS⟩
/-- PF_MATCH (12_weevil_probes). -/
def PF_MATCH_EN (n : Nat) (f : Nat) : Field := ⟨0x228400 + 0x100 * n + 0x20 * f, 0, 1, 0, .RW, .I, .SW⟩
def PF_MATCH_TRACE (n : Nat) (f : Nat) : Field := ⟨0x228400 + 0x100 * n + 0x20 * f, 1, 1, 0, .RW, .I, .SW⟩
def PF_MATCH_POINTS (n : Nat) (f : Nat) : Field := ⟨0x228400 + 0x100 * n + 0x20 * f, 3, 4, 0xf, .RW, .I, .SW⟩
def PF_MATCH_TYPES (n : Nat) (f : Nat) : Field := ⟨0x228400 + 0x100 * n + 0x20 * f, 8, 6, 0x3f, .RW, .I, .SW⟩
def PF_MATCH_RTSEL (n : Nat) (f : Nat) : Field := ⟨0x228400 + 0x100 * n + 0x20 * f, 14, 2, 0, .RW, .I, .SW⟩
def PF_MATCH_OCS (n : Nat) (f : Nat) : Field := ⟨0x228400 + 0x100 * n + 0x20 * f, 16, 3, 7, .RW, .I, .SW⟩
def PF_MATCH_ERRONLY (n : Nat) (f : Nat) : Field := ⟨0x228400 + 0x100 * n + 0x20 * f, 19, 1, 0, .RW, .I, .SW⟩
/-- PF_PID (12_weevil_probes). -/
def PF_PID_SPID (n : Nat) (f : Nat) : Field := ⟨0x228404 + 0x100 * n + 0x20 * f, 0, 7, 0, .RW, .I, .SW⟩
def PF_PID_SPID_MASK (n : Nat) (f : Nat) : Field := ⟨0x228404 + 0x100 * n + 0x20 * f, 8, 7, 0, .RW, .I, .SW⟩
def PF_PID_DPID (n : Nat) (f : Nat) : Field := ⟨0x228404 + 0x100 * n + 0x20 * f, 16, 7, 0, .RW, .I, .SW⟩
def PF_PID_DPID_MASK (n : Nat) (f : Nat) : Field := ⟨0x228404 + 0x100 * n + 0x20 * f, 24, 7, 0, .RW, .I, .SW⟩
/-- PF_TID (12_weevil_probes). -/
def PF_TID_TID (n : Nat) (f : Nat) : Field := ⟨0x228408 + 0x100 * n + 0x20 * f, 0, 10, 0, .RW, .I, .SW⟩
def PF_TID_TID_MASK (n : Nat) (f : Nat) : Field := ⟨0x228408 + 0x100 * n + 0x20 * f, 16, 10, 0, .RW, .I, .SW⟩
/-- PF_ALO (12_weevil_probes). -/
def PF_ALO (n : Nat) (f : Nat) : Field := ⟨0x22840c + 0x100 * n + 0x20 * f, 0, 32, 0, .RW, .I, .SW⟩
/-- PF_AHI (12_weevil_probes). -/
def PF_AHI (n : Nat) (f : Nat) : Field := ⟨0x228410 + 0x100 * n + 0x20 * f, 0, 32, 0xffffffff, .RW, .I, .SW⟩
/-- PF_PKTS (12_weevil_probes). -/
def PF_PKTS (n : Nat) (f : Nat) : Field := ⟨0x228414 + 0x100 * n + 0x20 * f, 0, 32, 0, .RO, .V, .HV⟩
/-- PF_DATA (12_weevil_probes). -/
def PF_DATA (n : Nat) (f : Nat) : Field := ⟨0x228418 + 0x100 * n + 0x20 * f, 0, 32, 0, .RO, .V, .HV⟩
/-- PF_BEATS (12_weevil_probes). -/
def PF_BEATS (n : Nat) (f : Nat) : Field := ⟨0x22841c + 0x100 * n + 0x20 * f, 0, 32, 0, .RO, .V, .HV⟩
/-- PRB_SVFLITS (12_weevil_probes). -/
def PRB_SVFLITS (n : Nat) : Field := ⟨0x228480 + 0x100 * n, 0, 32, 0, .RO, .V, .HV⟩
/-- PRB_TRC (12_weevil_probes). -/
def PRB_TRC_LEVEL (n : Nat) : Field := ⟨0x228484 + 0x100 * n, 0, 7, 0, .RO, .V, .HV⟩
def PRB_TRC_LOST (n : Nat) : Field := ⟨0x228484 + 0x100 * n, 16, 16, 0, .RO, .V, .HV⟩
/-- HIST (12_weevil_probes). -/
def HIST (p : Nat) (j : Nat) : Field := ⟨0x22a000 + 0x80 * p + 4 * j, 0, 32, 0, .RO, .V, .HV⟩
/-- LAT_MAX (12_weevil_probes). -/
def LAT_MAX (p : Nat) : Field := ⟨0x22a040 + 0x80 * p, 0, 32, 0, .RO, .V, .HV⟩
/-- LAT_SUM_LO (12_weevil_probes). -/
def LAT_SUM_LO (p : Nat) : Field := ⟨0x22a044 + 0x80 * p, 0, 32, 0, .RO, .V, .HV⟩
/-- LAT_SUM_HI (12_weevil_probes). -/
def LAT_SUM_HI (p : Nat) : Field := ⟨0x22a048 + 0x80 * p, 0, 32, 0, .RO, .V, .HV⟩
/-- RSP_COUNT (12_weevil_probes). -/
def RSP_COUNT (p : Nat) : Field := ⟨0x22a04c + 0x80 * p, 0, 32, 0, .RO, .V, .HV⟩
/-- BW_TX (12_weevil_probes). -/
def BW_TX (p : Nat) : Field := ⟨0x22a050 + 0x80 * p, 0, 32, 0, .RO, .V, .HV⟩
/-- BW_RX (12_weevil_probes). -/
def BW_RX (p : Nat) : Field := ⟨0x22a054 + 0x80 * p, 0, 32, 0, .RO, .V, .HV⟩
/-- ERRRSP (12_weevil_probes). -/
def ERRRSP (p : Nat) : Field := ⟨0x22a058 + 0x80 * p, 0, 32, 0, .RO, .V, .HV⟩
/-- HIST_CFG (12_weevil_probes). -/
def HIST_CFG_CLASS (p : Nat) : Field := ⟨0x22a05c + 0x80 * p, 0, 2, 0, .RW, .I, .SW⟩
def HIST_CFG_DSEL (p : Nat) : Field := ⟨0x22a05c + 0x80 * p, 2, 1, 0, .RW, .I, .SW⟩
def HIST_CFG_DPID (p : Nat) : Field := ⟨0x22a05c + 0x80 * p, 3, 7, 0, .RW, .I, .SW⟩

/-- Where these registers lie, and the fields of each. -/
def groupsMemory0 : List Group := [
  ⟨0x220100, [(4, 24)], fun i _ _ => [FAB_LINK_CW i, FAB_LINK_CCW i, FAB_LINK_SV i, FAB_LINK_REPLAYS i]⟩,
  ⟨0x230000, [(0x10000, 6)], fun i _ _ => [MC_STATUS_STATE i, MC_STATUS_TRAINED i, MC_STATUS_IECC i, MC_STATUS_HOT i]⟩,
  ⟨0x230004, [(0x10000, 6)], fun i _ _ => [MC_CFG_GIB i, MC_CFG_RANKS2 i, MC_CFG_IECC i]⟩,
  ⟨0x230008, [(0x10000, 6)], fun i _ _ => [MC_SHADOW_SHADOW_US i]⟩,
  ⟨0x23000c, [(0x10000, 6)], fun i _ _ => [MC_SCRUB_CFG_HOURS i]⟩,
  ⟨0x230010, [(0x10000, 6)], fun i _ _ => [MC_SCRUB_STAT_PASSES i, MC_SCRUB_STAT_PROGRESS i]⟩,
  ⟨0x230014, [(0x10000, 6)], fun i _ _ => [MC_QOS_BE_MAX_NS i]⟩,
  ⟨0x230020, [(0x10000, 6)], fun i _ _ => [MC_LINK_CORR i]⟩,
  ⟨0x230024, [(0x10000, 6)], fun i _ _ => [MC_IECC_CORR i]⟩,
  ⟨0x230028, [(0x10000, 6)], fun i _ _ => [MC_IECC_UNC i]⟩,
  ⟨0x23002c, [(0x10000, 6)], fun i _ _ => [MC_UNC_ADDR_LO i]⟩,
  ⟨0x230030, [(0x10000, 6)], fun i _ _ => [MC_UNC_ADDR_HI_ADDR i, MC_UNC_ADDR_HI_CH i, MC_UNC_ADDR_HI_ACHK i, MC_UNC_ADDR_HI_VALID i]⟩,
  ⟨0x230040, [(0x10000, 6)], fun i _ _ => [MC_RETRAIN_STAT_SHADOWS i, MC_RETRAIN_STAT_FULL i, MC_RETRAIN_STAT_PENDING i, MC_RETRAIN_STAT_BUSYSEEN i]⟩,
  ⟨0x230044, [(0x10000, 6)], fun i _ _ => [MC_RETRAIN_CTL_REQ i]⟩,
  ⟨0x230048, [(0x10000, 6)], fun i _ _ => [MC_DRIFT_PS i]⟩,
  ⟨0x230050, [(0x10000, 6)], fun i _ _ => [MC_LAT_MAX i]⟩,
  ⟨0x230060, [(0x10000, 6)], fun i _ _ => [MC_WIN_IDX_IDX i]⟩,
  ⟨0x230064, [(0x10000, 6), (4, 4)], fun i j _ => [MC_WIN_DATA i j]⟩,
  ⟨0x230074, [(0x10000, 6)], fun i _ _ => [MC_WINV_WINV i, MC_WINV_OOR i]⟩,
  ⟨0x230078, [(0x10000, 6)], fun i _ _ => [MC_WINV_INFO_TID i, MC_WINV_INFO_WRITE i, MC_WINV_INFO_VALID i]⟩,
  ⟨0x23007c, [(0x10000, 6)], fun i _ _ => [MC_WINV_ADDR_LO i]⟩,
  ⟨0x230080, [(0x10000, 6)], fun i _ _ => [MC_WINV_ADDR_HI i]⟩,
  ⟨0x220000, [], fun _ _ _ => [FAB_STATUS_ANY_DOWN, FAB_STATUS_SV_BYPASS, FAB_STATUS_ANY_FENCE]⟩,
  ⟨0x220004, [], fun _ _ _ => [FAB_CFG_INS_WIN]⟩,
  ⟨0x220010, [], fun _ _ _ => [FAB_TIMEOUTS]⟩,
  ⟨0x220014, [], fun _ _ _ => [FAB_LATE_DROP]⟩,
  ⟨0x220018, [], fun _ _ _ => [FAB_FENCE_WDROP]⟩,
  ⟨0x22001c, [], fun _ _ _ => [FAB_FENCE_RFEN]⟩,
  ⟨0x220020, [], fun _ _ _ => [FAB_FENCE_ABS]⟩,
  ⟨0x220030, [], fun _ _ _ => [FAB_TO_CAP_IPID, FAB_TO_CAP_TPID, FAB_TO_CAP_TAG, FAB_TO_CAP_SV, FAB_TO_CAP_VALID]⟩,
  ⟨0x220034, [], fun _ _ _ => [FAB_TO_CAP_ADDR_LO]⟩,
  ⟨0x220038, [], fun _ _ _ => [FAB_TO_CAP_ADDR_HI]⟩,
  ⟨0x220040, [(4, 3)], fun i _ _ => [FAB_FENCE i]⟩,
  ⟨0x220050, [(4, 3)], fun i _ _ => [FAB_FENCE_SET i]⟩,
  ⟨0x220060, [], fun _ _ _ => [FAB_FENCE_LAST_PID, FAB_FENCE_LAST_CAUSE]⟩,
  ⟨0x221000, [(0x10, 96)], fun i _ _ => [FAB_INIT_CFG_TO_US i, FAB_INIT_CFG_RT i, FAB_INIT_CFG_ZR_EN i]⟩,
  ⟨0x221004, [(0x10, 96)], fun i _ _ => [FAB_INIT_BW_RATE i, FAB_INIT_BW_BURST i]⟩,
  ⟨0x221008, [(0x10, 96)], fun i _ _ => [FAB_INIT_STAT_TAGS i, FAB_INIT_STAT_QUAR i]⟩,
  ⟨0x22100c, [(0x10, 96)], fun i _ _ => [FAB_INIT_TOCNT i]⟩,
  ⟨0x222000, [(8, 96)], fun i _ _ => [FAB_TGT_CFG_AUTO_FENCE i, FAB_TGT_CFG_TO_FENCE i]⟩]

/-- Where these registers lie, and the fields of each. -/
def groupsMemory1 : List Group := [
  ⟨0x222004, [(8, 96)], fun i _ _ => [FAB_TGT_STAT_CONSEC i, FAB_TGT_STAT_FWD i]⟩,
  ⟨0x228000, [], fun _ _ _ => [PRB_CTL_CLEAR, PRB_CTL_TRC_EN, PRB_CTL_FREEZE]⟩,
  ⟨0x228004, [], fun _ _ _ => [PRB_WIN_CFG_LEN_US, PRB_WIN_CFG_ALIGN]⟩,
  ⟨0x228008, [], fun _ _ _ => [PRB_WIN_STAT_WIN_SEQ, PRB_WIN_STAT_SAT, PRB_WIN_STAT_FROZEN]⟩,
  ⟨0x228010, [], fun _ _ _ => [TRC_CFG_SINK, TRC_CFG_WRAP]⟩,
  ⟨0x228014, [], fun _ _ _ => [TRC_RING_BASE_LO]⟩,
  ⟨0x228018, [], fun _ _ _ => [TRC_RING_BASE_HI]⟩,
  ⟨0x22801c, [], fun _ _ _ => [TRC_RING_SIZE_KIB]⟩,
  ⟨0x228020, [], fun _ _ _ => [TRC_RING_WPTR]⟩,
  ⟨0x228024, [], fun _ _ _ => [TRC_LOST]⟩,
  ⟨0x228028, [], fun _ _ _ => [TRC_STAT_RING_FULL]⟩,
  ⟨0x228400, [(0x100, 24), (0x20, 4)], fun i j _ => [PF_MATCH_EN i j, PF_MATCH_TRACE i j, PF_MATCH_POINTS i j, PF_MATCH_TYPES i j, PF_MATCH_RTSEL i j, PF_MATCH_OCS i j, PF_MATCH_ERRONLY i j]⟩,
  ⟨0x228404, [(0x100, 24), (0x20, 4)], fun i j _ => [PF_PID_SPID i j, PF_PID_SPID_MASK i j, PF_PID_DPID i j, PF_PID_DPID_MASK i j]⟩,
  ⟨0x228408, [(0x100, 24), (0x20, 4)], fun i j _ => [PF_TID_TID i j, PF_TID_TID_MASK i j]⟩,
  ⟨0x22840c, [(0x100, 24), (0x20, 4)], fun i j _ => [PF_ALO i j]⟩,
  ⟨0x228410, [(0x100, 24), (0x20, 4)], fun i j _ => [PF_AHI i j]⟩,
  ⟨0x228414, [(0x100, 24), (0x20, 4)], fun i j _ => [PF_PKTS i j]⟩,
  ⟨0x228418, [(0x100, 24), (0x20, 4)], fun i j _ => [PF_DATA i j]⟩,
  ⟨0x22841c, [(0x100, 24), (0x20, 4)], fun i j _ => [PF_BEATS i j]⟩,
  ⟨0x228480, [(0x100, 24)], fun i _ _ => [PRB_SVFLITS i]⟩,
  ⟨0x228484, [(0x100, 24)], fun i _ _ => [PRB_TRC_LEVEL i, PRB_TRC_LOST i]⟩,
  ⟨0x22a000, [(0x80, 96), (4, 16)], fun i j _ => [HIST i j]⟩,
  ⟨0x22a040, [(0x80, 96)], fun i _ _ => [LAT_MAX i]⟩,
  ⟨0x22a044, [(0x80, 96)], fun i _ _ => [LAT_SUM_LO i]⟩,
  ⟨0x22a048, [(0x80, 96)], fun i _ _ => [LAT_SUM_HI i]⟩,
  ⟨0x22a04c, [(0x80, 96)], fun i _ _ => [RSP_COUNT i]⟩,
  ⟨0x22a050, [(0x80, 96)], fun i _ _ => [BW_TX i]⟩,
  ⟨0x22a054, [(0x80, 96)], fun i _ _ => [BW_RX i]⟩,
  ⟨0x22a058, [(0x80, 96)], fun i _ _ => [ERRRSP i]⟩,
  ⟨0x22a05c, [(0x80, 96)], fun i _ _ => [HIST_CFG_CLASS i, HIST_CFG_DSEL i, HIST_CFG_DPID i]⟩]

/-- Every register of this file. -/
def groupsMemory : List Group := groupsMemory0 ++ groupsMemory1

end Sys2Proof.Machine.Reg
end

