-- ==== Sys2Proof/Machine/RegsQueue.lean ====
section
/-! DEFINITION. The fields of the queue and Drover registers (chapters 13 and 14), one definition per field: address,
lowest bit, width, reset value, access code, Keep class and Collide class as the spec's register tables give them
(a register of one field bears the register's name). -/

namespace Sys2Proof.Machine.Reg

/-- Q_ND (13_queues_and_commands). -/
def Q_ND_COUNT (q : Nat) : Field := ⟨0x41000 + 4 * q, 0, 32, 0, .RW, .S, .CT⟩
/-- DRV_QCOUNT (13_queues_and_commands). -/
def DRV_QCOUNT_COUNT : Field := ⟨0x40000, 0, 11, 0, .RO, .S, .HV⟩
/-- DRV_ERRCAP (13_queues_and_commands). -/
def DRV_ERRCAP_QID : Field := ⟨0x40004, 0, 10, 0, .RO, .V, .HV⟩
def DRV_ERRCAP_CAUSE : Field := ⟨0x40004, 10, 8, 0, .RO, .V, .HV⟩
def DRV_ERRCAP_VALID : Field := ⟨0x40004, 31, 1, 0, .W1C, .V, .HS⟩
/-- DRV_DBERR (13_queues_and_commands). -/
def DRV_DBERR : Field := ⟨0x40008, 0, 32, 0, .RW, .V, .CT⟩
/-- EV_IDX (13_queues_and_commands). -/
def EV_IDX_IDX : Field := ⟨0x40010, 0, 12, 0, .RW, .V, .SW⟩
/-- EV_VAL_LO (13_queues_and_commands). -/
def EV_VAL_LO : Field := ⟨0x40014, 0, 32, 0, .RO, .S, .HV⟩
/-- EV_VAL_HI (13_queues_and_commands). -/
def EV_VAL_HI : Field := ⟨0x40018, 0, 32, 0, .RO, .S, .HV⟩
/-- EV_LEDGER (13_queues_and_commands). -/
def EV_LEDGER (j : Nat) : Field := ⟨0x40020 + 4 * j, 0, 32, 0, .RO, .S, .HV⟩
/-- EV_REF (13_queues_and_commands). -/
def EV_REF (j : Nat) : Field := ⟨0x40030 + 4 * j, 0, 32, 0, .RO, .S, .HV⟩
/-- IRQ_PEND (13_queues_and_commands). -/
def IRQ_PEND (k : Nat) : Field := ⟨0x40100 + 4 * k, 0, 32, 0, .W1C, .V, .HS⟩
/-- SQ_DB (13_queues_and_commands). -/
def SQ_DB_ADD (q : Nat) : Field := ⟨0x42000 + 8 * q, 0, 16, 0, .WO, .N, .SW⟩
/-- CQ_DB (13_queues_and_commands). -/
def CQ_DB_ADD (q : Nat) : Field := ⟨0x42004 + 8 * q, 0, 16, 0, .WO, .N, .SW⟩
/-- Q_CFG (13_queues_and_commands). -/
def Q_CFG_TID (q : Nat) : Field := ⟨0x44000 + 0x20 * q, 0, 10, 0, .RW, .S, .SW⟩
def Q_CFG_CLASS (q : Nat) : Field := ⟨0x44000 + 0x20 * q, 10, 4, 0, .RW, .S, .SW⟩
def Q_CFG_PRIO (q : Nat) : Field := ⟨0x44000 + 0x20 * q, 14, 3, 0, .RW, .S, .SW⟩
def Q_CFG_RT (q : Nat) : Field := ⟨0x44000 + 0x20 * q, 17, 1, 0, .RW, .S, .SW⟩
def Q_CFG_DET (q : Nat) : Field := ⟨0x44000 + 0x20 * q, 18, 1, 0, .RW, .S, .SW⟩
def Q_CFG_ERRSTOP (q : Nat) : Field := ⟨0x44000 + 0x20 * q, 19, 1, 0, .RW, .S, .SW⟩
def Q_CFG_ERRIRQ (q : Nat) : Field := ⟨0x44000 + 0x20 * q, 20, 1, 0, .RW, .S, .SW⟩
def Q_CFG_PIN (q : Nat) : Field := ⟨0x44000 + 0x20 * q, 21, 1, 0, .RW, .S, .SW⟩
def Q_CFG_SQ_SZ (q : Nat) : Field := ⟨0x44000 + 0x20 * q, 22, 4, 0, .RW, .S, .SW⟩
def Q_CFG_CQ_SZ (q : Nat) : Field := ⟨0x44000 + 0x20 * q, 26, 4, 0, .RW, .S, .SW⟩
def Q_CFG_DET_EXPL (q : Nat) : Field := ⟨0x44000 + 0x20 * q, 30, 1, 0, .RW, .S, .SW⟩
/-- Q_ENG (13_queues_and_commands). -/
def Q_ENG_ENG (q : Nat) : Field := ⟨0x44004 + 0x20 * q, 0, 8, 0, .RW, .S, .SW⟩
def Q_ENG_VEC (q : Nat) : Field := ⟨0x44004 + 0x20 * q, 16, 10, 0, .RW, .S, .SW⟩
/-- Q_SQ_BASE (13_queues_and_commands). -/
def Q_SQ_BASE (q : Nat) : Field := ⟨0x44008 + 0x20 * q, 0, 32, 0, .RW, .S, .SW⟩
/-- Q_CQ_BASE (13_queues_and_commands). -/
def Q_CQ_BASE (q : Nat) : Field := ⟨0x4400c + 0x20 * q, 0, 32, 0, .RW, .S, .SW⟩
/-- Q_SQ_PTR (13_queues_and_commands). -/
def Q_SQ_PTR_HEAD (q : Nat) : Field := ⟨0x44010 + 0x20 * q, 0, 16, 0, .RO, .S, .HV⟩
def Q_SQ_PTR_TAIL (q : Nat) : Field := ⟨0x44010 + 0x20 * q, 16, 16, 0, .RO, .S, .HV⟩
/-- Q_CQ_PTR (13_queues_and_commands). -/
def Q_CQ_PTR_CQ_TAIL (q : Nat) : Field := ⟨0x44014 + 0x20 * q, 0, 16, 0, .RO, .S, .HV⟩
def Q_CQ_PTR_CQ_HEAD (q : Nat) : Field := ⟨0x44014 + 0x20 * q, 16, 16, 0, .RO, .S, .HV⟩
/-- Q_STATE (13_queues_and_commands). -/
def Q_STATE_STATE (q : Nat) : Field := ⟨0x44018 + 0x20 * q, 0, 3, 0, .RO, .S, .HV⟩
def Q_STATE_CQFULL (q : Nat) : Field := ⟨0x44018 + 0x20 * q, 3, 1, 0, .RO, .S, .HV⟩
def Q_STATE_DBOVF (q : Nat) : Field := ⟨0x44018 + 0x20 * q, 4, 1, 0, .W1C, .S, .HS⟩
def Q_STATE_CQERR (q : Nat) : Field := ⟨0x44018 + 0x20 * q, 5, 1, 0, .W1C, .S, .HS⟩
def Q_STATE_CAUSE (q : Nat) : Field := ⟨0x44018 + 0x20 * q, 8, 8, 0, .RO, .S, .HV⟩
def Q_STATE_BIND_ERR (q : Nat) : Field := ⟨0x44018 + 0x20 * q, 16, 8, 0, .RO, .S, .HV⟩
/-- Q_CTL (13_queues_and_commands). -/
def Q_CTL_BIND (q : Nat) : Field := ⟨0x4401c + 0x20 * q, 0, 1, 0, .WO, .S, .HC⟩
def Q_CTL_UNBIND (q : Nat) : Field := ⟨0x4401c + 0x20 * q, 1, 1, 0, .WO, .S, .HC⟩
def Q_CTL_RESUME (q : Nat) : Field := ⟨0x4401c + 0x20 * q, 2, 1, 0, .WO, .S, .HC⟩
def Q_CTL_IRQ_COUNT (q : Nat) : Field := ⟨0x4401c + 0x20 * q, 8, 8, 0, .RW, .S, .SW⟩
def Q_CTL_IRQ_TIME_US (q : Nat) : Field := ⟨0x4401c + 0x20 * q, 16, 16, 0, .RW, .S, .SW⟩
/-- ROT_STATUS (14_drover_scheduling). -/
def ROT_STATUS_ARMED : Field := ⟨0x4c000, 0, 8, 0, .RO, .V, .HV⟩
def ROT_STATUS_RUN : Field := ⟨0x4c000, 8, 1, 0, .RO, .V, .HV⟩
/-- ROT_MAJOR (14_drover_scheduling). -/
def ROT_MAJOR_MAJOR : Field := ⟨0x4c004, 0, 17, 0, .RO, .I, .HV⟩
/-- ROT_PHASE (14_drover_scheduling). -/
def ROT_PHASE_PHASE : Field := ⟨0x4c008, 0, 17, 0, .RO, .I, .HV⟩
/-- ROT_COUNT (14_drover_scheduling). -/
def ROT_COUNT_ENTRIES : Field := ⟨0x4c00c, 0, 13, 0, .RO, .I, .HV⟩
/-- ROT_CYCLE (14_drover_scheduling). -/
def ROT_CYCLE : Field := ⟨0x4c010, 0, 32, 0, .RO, .V, .HV⟩
/-- ROT_POS (14_drover_scheduling). -/
def ROT_POS_POS : Field := ⟨0x4c014, 0, 17, 0, .RO, .V, .HV⟩
/-- ROT_FIRED (14_drover_scheduling). -/
def ROT_FIRED_FIRED : Field := ⟨0x4c018, 0, 16, 0, .RW, .V, .CT⟩
def ROT_FIRED_SKIP : Field := ⟨0x4c018, 16, 16, 0, .RW, .V, .CT⟩
/-- ROT_OVF (14_drover_scheduling). -/
def ROT_OVF_OVF : Field := ⟨0x4c01c, 0, 16, 0, .RW, .V, .CT⟩
def ROT_OVF_SRV : Field := ⟨0x4c01c, 16, 16, 0, .RW, .V, .CT⟩
/-- ROT_LAST (14_drover_scheduling). -/
def ROT_LAST_IDX : Field := ⟨0x4c020, 0, 12, 0xfff, .RO, .V, .HV⟩
/-- PRF_BOUND_NS (14_drover_scheduling). -/
def PRF_BOUND_NS : Field := ⟨0x4c030, 0, 32, 0, .RO, .S, .HV⟩
/-- PRF_RESERVE_NS (14_drover_scheduling). -/
def PRF_RESERVE_NS : Field := ⟨0x4c034, 0, 32, 0, .RO, .S, .HV⟩
/-- PRF_DRAIN_NS (14_drover_scheduling). -/
def PRF_DRAIN_NS : Field := ⟨0x4c038, 0, 32, 0, .RO, .S, .HV⟩
/-- PRF_FLAGS (14_drover_scheduling). -/
def PRF_FLAGS_VALID : Field := ⟨0x4c03c, 0, 1, 0, .RO, .S, .HV⟩
def PRF_FLAGS_GRADES : Field := ⟨0x4c03c, 1, 3, 0, .RO, .S, .HV⟩
def PRF_FLAGS_STEPPING : Field := ⟨0x4c03c, 4, 4, 0, .RO, .S, .HV⟩
/-- ROT_ENT_IDX (14_drover_scheduling). -/
def ROT_ENT_IDX_IDX : Field := ⟨0x4c040, 0, 12, 0, .RW, .V, .SW⟩
/-- ROT_ENT (14_drover_scheduling). -/
def ROT_ENT (j : Nat) : Field := ⟨0x4c044 + 4 * j, 0, 32, 0, .RO, .I, .HV⟩
/-- SRV_LIMIT (14_drover_scheduling). -/
def SRV_LIMIT_US (c : Nat) : Field := ⟨0x4c100 + 4 * c, 0, 16, 0x32, .RWL, .I, .SW⟩
/-- SRV_THROTTLE (14_drover_scheduling). -/
def SRV_THROTTLE_DUTY : Field := ⟨0x4c140, 0, 9, 0x100, .RW, .S, .SW⟩
/-- COL_STATE (14_drover_scheduling). -/
def COL_STATE_STATE (c : Nat) : Field := ⟨0x4c180 + 4 * c, 0, 2, 0, .RO, .V, .HV⟩
def COL_STATE_DRAINING (c : Nat) : Field := ⟨0x4c180 + 4 * c, 2, 1, 0, .RO, .V, .HV⟩
def COL_STATE_QID (c : Nat) : Field := ⟨0x4c180 + 4 * c, 16, 10, 0, .RO, .V, .HV⟩
/-- MNT_STATUS (14_drover_scheduling). -/
def MNT_STATUS_PENDING : Field := ⟨0x4c200, 0, 7, 0, .RO, .V, .HV⟩
def MNT_STATUS_BUSYSEEN : Field := ⟨0x4c200, 8, 1, 0, .W1C, .V, .HS⟩
/-- SEQT_BASE_LO (14_drover_scheduling). -/
def SEQT_BASE_LO : Field := ⟨0x4c300, 0, 32, 0, .RWL, .I, .SW⟩
/-- SEQT_BASE_HI (14_drover_scheduling). -/
def SEQT_BASE_HI : Field := ⟨0x4c304, 0, 32, 0, .RWL, .I, .SW⟩
/-- SEQT_USE (14_drover_scheduling). -/
def SEQT_USE_USE : Field := ⟨0x4c308, 0, 15, 0, .RO, .V, .HV⟩
/-- FLK_CFG (14_drover_scheduling). -/
def FLK_CFG_EN (f : Nat) : Field := ⟨0x4d000 + 0x40 * f, 0, 1, 0, .RWL, .I, .SW⟩
def FLK_CFG_ENG (f : Nat) : Field := ⟨0x4d000 + 0x40 * f, 1, 8, 0, .RWL, .I, .SW⟩
def FLK_CFG_CAP (f : Nat) : Field := ⟨0x4d000 + 0x40 * f, 9, 9, 0, .RWL, .I, .SW⟩
def FLK_CFG_PRIO (f : Nat) : Field := ⟨0x4d000 + 0x40 * f, 18, 3, 0, .RWL, .I, .SW⟩
/-- FLK_LIST_LO (14_drover_scheduling). -/
def FLK_LIST_LO (f : Nat) : Field := ⟨0x4d004 + 0x40 * f, 0, 32, 0, .RWL, .I, .SW⟩
/-- FLK_LIST_HI (14_drover_scheduling). -/
def FLK_LIST_HI (f : Nat) : Field := ⟨0x4d008 + 0x40 * f, 0, 32, 0, .RWL, .I, .SW⟩
/-- FLK_LIST (14_drover_scheduling). -/
def FLK_LIST_COUNT (f : Nat) : Field := ⟨0x4d00c + 0x40 * f, 0, 7, 0, .RWL, .I, .SW⟩
def FLK_LIST_SEG_US (f : Nat) : Field := ⟨0x4d00c + 0x40 * f, 16, 16, 0, .RWL, .I, .SW⟩
/-- FLK_BATCH_LO (14_drover_scheduling). -/
def FLK_BATCH_LO (f : Nat) : Field := ⟨0x4d010 + 0x40 * f, 0, 32, 0, .RWL, .I, .SW⟩
/-- FLK_BATCH_HI (14_drover_scheduling). -/
def FLK_BATCH_HI (f : Nat) : Field := ⟨0x4d014 + 0x40 * f, 0, 32, 0, .RWL, .I, .SW⟩
/-- FLK_ADMIT (14_drover_scheduling). -/
def FLK_ADMIT_MAXACT (f : Nat) : Field := ⟨0x4d018 + 0x40 * f, 0, 15, 0, .RWL, .I, .SW⟩
def FLK_ADMIT_ADMIT_MS (f : Nat) : Field := ⟨0x4d018 + 0x40 * f, 16, 16, 0, .RWL, .I, .SW⟩
/-- FLK_STEP (14_drover_scheduling). -/
def FLK_STEP_STEP_TOK (f : Nat) : Field := ⟨0x4d01c + 0x40 * f, 0, 16, 0, .RWL, .I, .SW⟩
def FLK_STEP_CHUNK (f : Nat) : Field := ⟨0x4d01c + 0x40 * f, 16, 12, 0, .RWL, .I, .SW⟩
/-- FLK_SHARE (14_drover_scheduling). -/
def FLK_SHARE_SHARE (f : Nat) : Field := ⟨0x4d020 + 0x40 * f, 0, 16, 1, .RWL, .I, .SW⟩
/-- FLK_STAT (14_drover_scheduling). -/
def FLK_STAT_ACTIVE (f : Nat) : Field := ⟨0x4d024 + 0x40 * f, 0, 15, 0, .RO, .V, .HV⟩
def FLK_STAT_QUEUED (f : Nat) : Field := ⟨0x4d024 + 0x40 * f, 16, 15, 0, .RO, .V, .HV⟩
/-- FLK_STEPS (14_drover_scheduling). -/
def FLK_STEPS (f : Nat) : Field := ⟨0x4d028 + 0x40 * f, 0, 32, 0, .RW, .V, .CT⟩
/-- FLK_PREEMPT (14_drover_scheduling). -/
def FLK_PREEMPT (f : Nat) : Field := ⟨0x4d02c + 0x40 * f, 0, 32, 0, .RW, .V, .CT⟩
/-- FLK_RERUN (14_drover_scheduling). -/
def FLK_RERUN_RERUN (f : Nat) : Field := ⟨0x4d030 + 0x40 * f, 0, 16, 0, .RW, .V, .CT⟩
def FLK_RERUN_REFUSED (f : Nat) : Field := ⟨0x4d030 + 0x40 * f, 16, 16, 0, .RW, .V, .CT⟩

/-- Where these registers lie, and the fields of each. -/
def groupsQueue0 : List Group := [
  ⟨0x41000, [(4, 1024)], fun i _ _ => [Q_ND_COUNT i]⟩,
  ⟨0x40000, [], fun _ _ _ => [DRV_QCOUNT_COUNT]⟩,
  ⟨0x40004, [], fun _ _ _ => [DRV_ERRCAP_QID, DRV_ERRCAP_CAUSE, DRV_ERRCAP_VALID]⟩,
  ⟨0x40008, [], fun _ _ _ => [DRV_DBERR]⟩,
  ⟨0x40010, [], fun _ _ _ => [EV_IDX_IDX]⟩,
  ⟨0x40014, [], fun _ _ _ => [EV_VAL_LO]⟩,
  ⟨0x40018, [], fun _ _ _ => [EV_VAL_HI]⟩,
  ⟨0x40020, [(4, 4)], fun i _ _ => [EV_LEDGER i]⟩,
  ⟨0x40030, [(4, 4)], fun i _ _ => [EV_REF i]⟩,
  ⟨0x40100, [(4, 32)], fun i _ _ => [IRQ_PEND i]⟩,
  ⟨0x42000, [(8, 1024)], fun i _ _ => [SQ_DB_ADD i]⟩,
  ⟨0x42004, [(8, 1024)], fun i _ _ => [CQ_DB_ADD i]⟩,
  ⟨0x44000, [(0x20, 1024)], fun i _ _ => [Q_CFG_TID i, Q_CFG_CLASS i, Q_CFG_PRIO i, Q_CFG_RT i, Q_CFG_DET i, Q_CFG_ERRSTOP i, Q_CFG_ERRIRQ i, Q_CFG_PIN i, Q_CFG_SQ_SZ i, Q_CFG_CQ_SZ i, Q_CFG_DET_EXPL i]⟩,
  ⟨0x44004, [(0x20, 1024)], fun i _ _ => [Q_ENG_ENG i, Q_ENG_VEC i]⟩,
  ⟨0x44008, [(0x20, 1024)], fun i _ _ => [Q_SQ_BASE i]⟩,
  ⟨0x4400c, [(0x20, 1024)], fun i _ _ => [Q_CQ_BASE i]⟩,
  ⟨0x44010, [(0x20, 1024)], fun i _ _ => [Q_SQ_PTR_HEAD i, Q_SQ_PTR_TAIL i]⟩,
  ⟨0x44014, [(0x20, 1024)], fun i _ _ => [Q_CQ_PTR_CQ_TAIL i, Q_CQ_PTR_CQ_HEAD i]⟩,
  ⟨0x44018, [(0x20, 1024)], fun i _ _ => [Q_STATE_STATE i, Q_STATE_CQFULL i, Q_STATE_DBOVF i, Q_STATE_CQERR i, Q_STATE_CAUSE i, Q_STATE_BIND_ERR i]⟩,
  ⟨0x4401c, [(0x20, 1024)], fun i _ _ => [Q_CTL_BIND i, Q_CTL_UNBIND i, Q_CTL_RESUME i, Q_CTL_IRQ_COUNT i, Q_CTL_IRQ_TIME_US i]⟩,
  ⟨0x4c000, [], fun _ _ _ => [ROT_STATUS_ARMED, ROT_STATUS_RUN]⟩,
  ⟨0x4c004, [], fun _ _ _ => [ROT_MAJOR_MAJOR]⟩,
  ⟨0x4c008, [], fun _ _ _ => [ROT_PHASE_PHASE]⟩,
  ⟨0x4c00c, [], fun _ _ _ => [ROT_COUNT_ENTRIES]⟩,
  ⟨0x4c010, [], fun _ _ _ => [ROT_CYCLE]⟩,
  ⟨0x4c014, [], fun _ _ _ => [ROT_POS_POS]⟩,
  ⟨0x4c018, [], fun _ _ _ => [ROT_FIRED_FIRED, ROT_FIRED_SKIP]⟩,
  ⟨0x4c01c, [], fun _ _ _ => [ROT_OVF_OVF, ROT_OVF_SRV]⟩,
  ⟨0x4c020, [], fun _ _ _ => [ROT_LAST_IDX]⟩,
  ⟨0x4c030, [], fun _ _ _ => [PRF_BOUND_NS]⟩,
  ⟨0x4c034, [], fun _ _ _ => [PRF_RESERVE_NS]⟩,
  ⟨0x4c038, [], fun _ _ _ => [PRF_DRAIN_NS]⟩,
  ⟨0x4c03c, [], fun _ _ _ => [PRF_FLAGS_VALID, PRF_FLAGS_GRADES, PRF_FLAGS_STEPPING]⟩,
  ⟨0x4c040, [], fun _ _ _ => [ROT_ENT_IDX_IDX]⟩,
  ⟨0x4c044, [(4, 4)], fun i _ _ => [ROT_ENT i]⟩,
  ⟨0x4c100, [(4, 13)], fun i _ _ => [SRV_LIMIT_US i]⟩,
  ⟨0x4c140, [], fun _ _ _ => [SRV_THROTTLE_DUTY]⟩,
  ⟨0x4c180, [(4, 14)], fun i _ _ => [COL_STATE_STATE i, COL_STATE_DRAINING i, COL_STATE_QID i]⟩,
  ⟨0x4c200, [], fun _ _ _ => [MNT_STATUS_PENDING, MNT_STATUS_BUSYSEEN]⟩,
  ⟨0x4c300, [], fun _ _ _ => [SEQT_BASE_LO]⟩]

/-- Where these registers lie, and the fields of each. -/
def groupsQueue1 : List Group := [
  ⟨0x4c304, [], fun _ _ _ => [SEQT_BASE_HI]⟩,
  ⟨0x4c308, [], fun _ _ _ => [SEQT_USE_USE]⟩,
  ⟨0x4d000, [(0x40, 32)], fun i _ _ => [FLK_CFG_EN i, FLK_CFG_ENG i, FLK_CFG_CAP i, FLK_CFG_PRIO i]⟩,
  ⟨0x4d004, [(0x40, 32)], fun i _ _ => [FLK_LIST_LO i]⟩,
  ⟨0x4d008, [(0x40, 32)], fun i _ _ => [FLK_LIST_HI i]⟩,
  ⟨0x4d00c, [(0x40, 32)], fun i _ _ => [FLK_LIST_COUNT i, FLK_LIST_SEG_US i]⟩,
  ⟨0x4d010, [(0x40, 32)], fun i _ _ => [FLK_BATCH_LO i]⟩,
  ⟨0x4d014, [(0x40, 32)], fun i _ _ => [FLK_BATCH_HI i]⟩,
  ⟨0x4d018, [(0x40, 32)], fun i _ _ => [FLK_ADMIT_MAXACT i, FLK_ADMIT_ADMIT_MS i]⟩,
  ⟨0x4d01c, [(0x40, 32)], fun i _ _ => [FLK_STEP_STEP_TOK i, FLK_STEP_CHUNK i]⟩,
  ⟨0x4d020, [(0x40, 32)], fun i _ _ => [FLK_SHARE_SHARE i]⟩,
  ⟨0x4d024, [(0x40, 32)], fun i _ _ => [FLK_STAT_ACTIVE i, FLK_STAT_QUEUED i]⟩,
  ⟨0x4d028, [(0x40, 32)], fun i _ _ => [FLK_STEPS i]⟩,
  ⟨0x4d02c, [(0x40, 32)], fun i _ _ => [FLK_PREEMPT i]⟩,
  ⟨0x4d030, [(0x40, 32)], fun i _ _ => [FLK_RERUN_RERUN i, FLK_RERUN_REFUSED i]⟩]

/-- Every register of this file. -/
def groupsQueue : List Group := groupsQueue0 ++ groupsQueue1

end Sys2Proof.Machine.Reg
end

