-- ==== Sys2Proof/Machine/RegsSafety.lean ====
section
/-! DEFINITION. The fields of the safety, supervision and determinism registers (chapters 20 to 22), one definition per field: address,
lowest bit, width, reset value, access code, Keep class and Collide class as the spec's register tables give them
(a register of one field bears the register's name). -/

namespace Sys2Proof.Machine.Reg

/-- SF_STATUS (20_safety_concept). -/
def SF_STATUS_ARMED : Field := ⟨0x30000, 0, 1, 0, .RO, .V, .HV⟩
def SF_STATUS_L3 : Field := ⟨0x30000, 1, 1, 0, .RO, .V, .HV⟩
def SF_STATUS_L4 : Field := ⟨0x30000, 2, 1, 0, .RO, .V, .HV⟩
def SF_STATUS_SAFE_A : Field := ⟨0x30000, 3, 1, 0, .RO, .V, .HV⟩
def SF_STATUS_SAFE_B : Field := ⟨0x30000, 4, 1, 0, .RO, .V, .HV⟩
def SF_STATUS_MINH_N : Field := ⟨0x30000, 5, 1, 0, .RO, .V, .HV⟩
def SF_STATUS_CLEAN : Field := ⟨0x30000, 16, 10, 0, .RO, .V, .HV⟩
/-- SF_OUT_CFG (20_safety_concept). -/
def SF_OUT_CFG_HALF_US : Field := ⟨0x30004, 0, 9, 0x32, .RWL, .S, .SW⟩
def SF_OUT_CFG_FB_EN : Field := ⟨0x30004, 9, 1, 1, .RWL, .S, .SW⟩
/-- SF_FLT_CLR (20_safety_concept). -/
def SF_FLT_CLR_CLR : Field := ⟨0x30008, 0, 1, 0, .WO, .S, .HC⟩
def SF_FLT_CLR_KEY : Field := ⟨0x30008, 8, 8, 0, .WO, .S, .HC⟩
/-- SF_LATCH (20_safety_concept). -/
def SF_LATCH_L3 : Field := ⟨0x3000c, 0, 1, 0, .RO, .S, .HV⟩
def SF_LATCH_L4 : Field := ⟨0x3000c, 1, 1, 0, .RO, .S, .HV⟩
def SF_LATCH_CODE : Field := ⟨0x3000c, 8, 8, 0, .RO, .S, .HV⟩
/-- SF_FLT_LAST (20_safety_concept). -/
def SF_FLT_LAST_CODE : Field := ⟨0x30010, 0, 8, 0, .RO, .V, .HV⟩
def SF_FLT_LAST_LEVEL : Field := ⟨0x30010, 8, 3, 0, .RO, .V, .HV⟩
def SF_FLT_LAST_ARG : Field := ⟨0x30010, 12, 16, 0, .RO, .V, .HV⟩
def SF_FLT_LAST_VALID : Field := ⟨0x30010, 31, 1, 0, .W1C, .V, .HS⟩
/-- SF_FLT_COUNT (20_safety_concept). -/
def SF_FLT_COUNT : Field := ⟨0x30014, 0, 32, 0, .RW, .V, .CT⟩
/-- SF_FLT_LVL (20_safety_concept). -/
def SF_FLT_LVL (k : Nat) : Field := ⟨0x30020 + 4 * k, 0, 32, faultLevelReset k, .RO, .I, .HV⟩
/-- DC_RELEASED (20_safety_concept). -/
def DC_RELEASED : Field := ⟨0x30100, 0, 32, 0, .RW, .V, .CT⟩
/-- DC_HELD (20_safety_concept). -/
def DC_HELD : Field := ⟨0x30104, 0, 32, 0, .RW, .V, .CT⟩
/-- DC_DISAGREE (20_safety_concept). -/
def DC_DISAGREE : Field := ⟨0x30108, 0, 32, 0, .RW, .V, .CT⟩
/-- DC_LATE (20_safety_concept). -/
def DC_LATE : Field := ⟨0x3010c, 0, 32, 0, .RW, .V, .CT⟩
/-- DC_CAP (20_safety_concept). -/
def DC_CAP_STREAM : Field := ⟨0x30110, 0, 4, 0, .RO, .V, .HV⟩
def DC_CAP_OUTCOME : Field := ⟨0x30110, 8, 4, 0, .RO, .V, .HV⟩
def DC_CAP_VALID : Field := ⟨0x30110, 31, 1, 0, .W1C, .V, .HS⟩
/-- DC_CAP_PSEQ (20_safety_concept). -/
def DC_CAP_PSEQ : Field := ⟨0x30114, 0, 32, 0, .RO, .V, .HV⟩
/-- DC_CONSEC (20_safety_concept). -/
def DC_CONSEC (s : Nat) : Field := ⟨0x30120 + 4 * s, 0, 8, 0, .RO, .V, .HV⟩
/-- DC_SELF (20_safety_concept). -/
def DC_SELF_PASSED : Field := ⟨0x30180, 0, 16, 0, .RO, .V, .HV⟩
def DC_SELF_DIFF : Field := ⟨0x30180, 16, 1, 0, .RO, .V, .HV⟩
/-- DC_IDX (20_safety_concept). -/
def DC_IDX_IDX : Field := ⟨0x30200, 0, 4, 0, .RW, .V, .SW⟩
/-- DC_ENT (20_safety_concept). -/
def DC_ENT (j : Nat) : Field := ⟨0x30204 + 4 * j, 0, 32, 0, .RO, .I, .HV⟩
/-- SHP_STATUS (21_supervision_and_self_test). -/
def SHP_STATUS_SUPERVISING : Field := ⟨0x38000, 0, 1, 0, .RO, .V, .HV⟩
def SHP_STATUS_OPEN : Field := ⟨0x38000, 16, 11, 0, .RO, .V, .HV⟩
/-- SHP_VIOL (21_supervision_and_self_test). -/
def SHP_VIOL : Field := ⟨0x38004, 0, 32, 0, .RW, .V, .CT⟩
/-- SHP_CAP (21_supervision_and_self_test). -/
def SHP_CAP_QID : Field := ⟨0x38008, 0, 10, 0, .RO, .V, .HV⟩
def SHP_CAP_CODE : Field := ⟨0x38008, 16, 8, 0, .RO, .V, .HV⟩
def SHP_CAP_VALID : Field := ⟨0x38008, 31, 1, 0, .W1C, .V, .HS⟩
/-- SHP_CAP_T (21_supervision_and_self_test). -/
def SHP_CAP_T : Field := ⟨0x3800c, 0, 32, 0, .RO, .V, .HV⟩
/-- SHP_HB (21_supervision_and_self_test). -/
def SHP_HB_CHK : Field := ⟨0x38010, 0, 8, 0, .WO, .N, .SW⟩
/-- SHP_HBERR (21_supervision_and_self_test). -/
def SHP_HBERR : Field := ⟨0x38014, 0, 32, 0, .RW, .V, .CT⟩
/-- MNT_RESULT (21_supervision_and_self_test). -/
def MNT_RESULT_OPC : Field := ⟨0x38020, 0, 4, 0, .RO, .V, .HV⟩
def MNT_RESULT_TARGET : Field := ⟨0x38020, 8, 8, 0, .RO, .V, .HV⟩
def MNT_RESULT_GRANULE : Field := ⟨0x38020, 16, 13, 0, .RO, .V, .HV⟩
def MNT_RESULT_FORCED : Field := ⟨0x38020, 30, 1, 0, .RO, .V, .HV⟩
def MNT_RESULT_FAIL : Field := ⟨0x38020, 31, 1, 0, .RO, .V, .HV⟩
/-- MNT_COUNT (21_supervision_and_self_test). -/
def MNT_COUNT_PASSED : Field := ⟨0x38024, 0, 16, 0, .RW, .V, .CT⟩
def MNT_COUNT_FAILED : Field := ⟨0x38024, 16, 16, 0, .RW, .V, .CT⟩
/-- MNT_FORCED (21_supervision_and_self_test). -/
def MNT_FORCED : Field := ⟨0x38028, 0, 32, 0, .RW, .V, .CT⟩
/-- SHP_INJ_CFG (21_supervision_and_self_test). -/
def SHP_INJ_CFG_EN : Field := ⟨0x38030, 0, 1, 0, .RWL, .S, .SW⟩
/-- SHP_INJ (21_supervision_and_self_test). -/
def SHP_INJ_CODE : Field := ⟨0x38034, 0, 8, 0, .WO, .S, .HC⟩
def SHP_INJ_QID : Field := ⟨0x38034, 8, 10, 0, .WO, .S, .HC⟩
def SHP_INJ_KIND : Field := ⟨0x38034, 18, 1, 0, .WO, .S, .HC⟩
def SHP_INJ_GO : Field := ⟨0x38034, 19, 1, 0, .WO, .S, .HC⟩
def SHP_INJ_KEY : Field := ⟨0x38034, 24, 8, 0, .WO, .S, .HC⟩
/-- SHP_INJ_COUNT (21_supervision_and_self_test). -/
def SHP_INJ_COUNT_INJECTED : Field := ⟨0x38038, 0, 16, 0, .RW, .V, .CT⟩
def SHP_INJ_COUNT_REFUSED : Field := ⟨0x38038, 16, 16, 0, .RW, .V, .CT⟩
/-- SHP_IDX (21_supervision_and_self_test). -/
def SHP_IDX_IDX : Field := ⟨0x38040, 0, 10, 0, .RW, .V, .SW⟩
/-- SHP_ENT (21_supervision_and_self_test). -/
def SHP_ENT (j : Nat) : Field := ⟨0x38044 + 4 * j, 0, 32, 0, .RO, .I, .HV⟩
/-- SHP_TASK_STAT (21_supervision_and_self_test). -/
def SHP_TASK_STAT_STATE (q : Nat) : Field := ⟨0x39000 + 0x10 * q, 0, 2, 0, .RO, .V, .HV⟩
def SHP_TASK_STAT_CHK (q : Nat) : Field := ⟨0x39000 + 0x10 * q, 4, 4, 0, .RO, .V, .HV⟩
def SHP_TASK_STAT_VIOL (q : Nat) : Field := ⟨0x39000 + 0x10 * q, 16, 16, 0, .RO, .V, .HV⟩
/-- SHP_TASK_END (21_supervision_and_self_test). -/
def SHP_TASK_END (q : Nat) : Field := ⟨0x39004 + 0x10 * q, 0, 20, 0, .RO, .V, .HV⟩
/-- SHP_TASK_BUSY (21_supervision_and_self_test). -/
def SHP_TASK_BUSY (q : Nat) : Field := ⟨0x39008 + 0x10 * q, 0, 20, 0, .RO, .V, .HV⟩
/-- SHP_TASK_MAXEND (21_supervision_and_self_test). -/
def SHP_TASK_MAXEND (q : Nat) : Field := ⟨0x3900c + 0x10 * q, 0, 20, 0, .RC, .V, .HV⟩
/-- MSYNC_CFG (22_determinism). -/
def MSYNC_CFG_EN : Field := ⟨0x3b0000, 0, 1, 0, .RWL, .I, .SW⟩
def MSYNC_CFG_SIZE : Field := ⟨0x3b0000, 1, 5, 0, .RWL, .I, .SW⟩
def MSYNC_CFG_MODE : Field := ⟨0x3b0000, 6, 1, 0, .RWL, .I, .SW⟩
def MSYNC_CFG_ALONE : Field := ⟨0x3b0000, 7, 1, 0, .RWL, .I, .SW⟩
def MSYNC_CFG_OWN_DLY : Field := ⟨0x3b0000, 8, 8, 0, .RWL, .I, .SW⟩
def MSYNC_CFG_LEAD_US : Field := ⟨0x3b0000, 16, 16, 0x64, .RWL, .I, .SW⟩
/-- MSYNC_CFG2 (22_determinism). -/
def MSYNC_CFG2_WAIT_MS : Field := ⟨0x3b0004, 0, 16, 0x3e8, .RWL, .I, .SW⟩
def MSYNC_CFG2_CHECK_CYCLES : Field := ⟨0x3b0004, 16, 8, 0, .RWL, .I, .SW⟩
def MSYNC_CFG2_TOL_NS : Field := ⟨0x3b0004, 24, 8, 0x10, .RWL, .I, .SW⟩
/-- MSYNC_STATUS (22_determinism). -/
def MSYNC_STATUS_BELLWETHER : Field := ⟨0x3b0008, 0, 1, 0, .RO, .V, .HV⟩
def MSYNC_STATUS_STATE : Field := ⟨0x3b0008, 1, 3, 0, .RO, .V, .HV⟩
def MSYNC_STATUS_SYNC_IN : Field := ⟨0x3b0008, 4, 1, 0, .RO, .V, .HV⟩
def MSYNC_STATUS_SYNC_OUT : Field := ⟨0x3b0008, 5, 1, 0, .RO, .V, .HV⟩
def MSYNC_STATUS_SKEW : Field := ⟨0x3b0008, 6, 1, 0, .W1C, .V, .HS⟩
def MSYNC_STATUS_MISS : Field := ⟨0x3b0008, 7, 1, 0, .W1C, .V, .HS⟩
def MSYNC_STATUS_TIMEOUT : Field := ⟨0x3b0008, 8, 1, 0, .W1C, .V, .HS⟩
/-- MSYNC_REL_LO (22_determinism). -/
def MSYNC_REL_LO : Field := ⟨0x3b000c, 0, 32, 0, .RO, .V, .HV⟩
/-- MSYNC_REL_HI (22_determinism). -/
def MSYNC_REL_HI : Field := ⟨0x3b0010, 0, 32, 0, .RO, .V, .HV⟩
/-- MSYNC_SKEW (22_determinism). -/
def MSYNC_SKEW : Field := ⟨0x3b0014, 0, 16, 0, .RO, .V, .HV⟩
/-- MSYNC_SKEW_MAX (22_determinism). -/
def MSYNC_SKEW_MAX : Field := ⟨0x3b0018, 0, 16, 0, .RC, .V, .HV⟩
/-- MSYNC_COUNT (22_determinism). -/
def MSYNC_COUNT_BARRIERS : Field := ⟨0x3b001c, 0, 16, 0, .RW, .V, .CT⟩
def MSYNC_COUNT_MARKERS : Field := ⟨0x3b001c, 16, 16, 0, .RW, .V, .CT⟩
/-- MSYNC_ERR (22_determinism). -/
def MSYNC_ERR_GLITCH : Field := ⟨0x3b0020, 0, 16, 0, .RW, .V, .CT⟩
def MSYNC_ERR_IGNORED : Field := ⟨0x3b0020, 16, 16, 0, .RW, .V, .CT⟩
/-- MSYNC_CTL (22_determinism). -/
def MSYNC_CTL_RETRY : Field := ⟨0x3b0024, 0, 1, 0, .WO, .S, .HC⟩
/-- DET_ND_TOTAL (22_determinism). -/
def DET_ND_TOTAL : Field := ⟨0x3b1000, 0, 32, 0, .RW, .V, .CT⟩
/-- DET_ND_CAP (22_determinism). -/
def DET_ND_CAP_QID : Field := ⟨0x3b1004, 0, 10, 0, .RO, .V, .HV⟩
def DET_ND_CAP_KIND : Field := ⟨0x3b1004, 12, 4, 0, .RO, .V, .HV⟩
def DET_ND_CAP_VALID : Field := ⟨0x3b1004, 31, 1, 0, .W1C, .V, .HS⟩
/-- DET_ND_CAP_T (22_determinism). -/
def DET_ND_CAP_T : Field := ⟨0x3b1008, 0, 32, 0, .RO, .V, .HV⟩
/-- DET_QRELAXED (22_determinism). -/
def DET_QRELAXED_COUNT : Field := ⟨0x3b100c, 0, 11, 0, .RO, .S, .HV⟩
/-- DET_KIND (22_determinism). -/
def DET_KIND (k : Nat) : Field := ⟨0x3b1010 + 4 * k, 0, 32, 0, .RW, .V, .CT⟩

/-- Where these registers lie, and the fields of each. -/
def groupsSafety0 : List Group := [
  ⟨0x30000, [], fun _ _ _ => [SF_STATUS_ARMED, SF_STATUS_L3, SF_STATUS_L4, SF_STATUS_SAFE_A, SF_STATUS_SAFE_B, SF_STATUS_MINH_N, SF_STATUS_CLEAN]⟩,
  ⟨0x30004, [], fun _ _ _ => [SF_OUT_CFG_HALF_US, SF_OUT_CFG_FB_EN]⟩,
  ⟨0x30008, [], fun _ _ _ => [SF_FLT_CLR_CLR, SF_FLT_CLR_KEY]⟩,
  ⟨0x3000c, [], fun _ _ _ => [SF_LATCH_L3, SF_LATCH_L4, SF_LATCH_CODE]⟩,
  ⟨0x30010, [], fun _ _ _ => [SF_FLT_LAST_CODE, SF_FLT_LAST_LEVEL, SF_FLT_LAST_ARG, SF_FLT_LAST_VALID]⟩,
  ⟨0x30014, [], fun _ _ _ => [SF_FLT_COUNT]⟩,
  ⟨0x30020, [(4, 8)], fun i _ _ => [SF_FLT_LVL i]⟩,
  ⟨0x30100, [], fun _ _ _ => [DC_RELEASED]⟩,
  ⟨0x30104, [], fun _ _ _ => [DC_HELD]⟩,
  ⟨0x30108, [], fun _ _ _ => [DC_DISAGREE]⟩,
  ⟨0x3010c, [], fun _ _ _ => [DC_LATE]⟩,
  ⟨0x30110, [], fun _ _ _ => [DC_CAP_STREAM, DC_CAP_OUTCOME, DC_CAP_VALID]⟩,
  ⟨0x30114, [], fun _ _ _ => [DC_CAP_PSEQ]⟩,
  ⟨0x30120, [(4, 16)], fun i _ _ => [DC_CONSEC i]⟩,
  ⟨0x30180, [], fun _ _ _ => [DC_SELF_PASSED, DC_SELF_DIFF]⟩,
  ⟨0x30200, [], fun _ _ _ => [DC_IDX_IDX]⟩,
  ⟨0x30204, [(4, 16)], fun i _ _ => [DC_ENT i]⟩,
  ⟨0x38000, [], fun _ _ _ => [SHP_STATUS_SUPERVISING, SHP_STATUS_OPEN]⟩,
  ⟨0x38004, [], fun _ _ _ => [SHP_VIOL]⟩,
  ⟨0x38008, [], fun _ _ _ => [SHP_CAP_QID, SHP_CAP_CODE, SHP_CAP_VALID]⟩,
  ⟨0x3800c, [], fun _ _ _ => [SHP_CAP_T]⟩,
  ⟨0x38010, [], fun _ _ _ => [SHP_HB_CHK]⟩,
  ⟨0x38014, [], fun _ _ _ => [SHP_HBERR]⟩,
  ⟨0x38020, [], fun _ _ _ => [MNT_RESULT_OPC, MNT_RESULT_TARGET, MNT_RESULT_GRANULE, MNT_RESULT_FORCED, MNT_RESULT_FAIL]⟩,
  ⟨0x38024, [], fun _ _ _ => [MNT_COUNT_PASSED, MNT_COUNT_FAILED]⟩,
  ⟨0x38028, [], fun _ _ _ => [MNT_FORCED]⟩,
  ⟨0x38030, [], fun _ _ _ => [SHP_INJ_CFG_EN]⟩,
  ⟨0x38034, [], fun _ _ _ => [SHP_INJ_CODE, SHP_INJ_QID, SHP_INJ_KIND, SHP_INJ_GO, SHP_INJ_KEY]⟩,
  ⟨0x38038, [], fun _ _ _ => [SHP_INJ_COUNT_INJECTED, SHP_INJ_COUNT_REFUSED]⟩,
  ⟨0x38040, [], fun _ _ _ => [SHP_IDX_IDX]⟩,
  ⟨0x38044, [(4, 8)], fun i _ _ => [SHP_ENT i]⟩,
  ⟨0x39000, [(0x10, 1024)], fun i _ _ => [SHP_TASK_STAT_STATE i, SHP_TASK_STAT_CHK i, SHP_TASK_STAT_VIOL i]⟩,
  ⟨0x39004, [(0x10, 1024)], fun i _ _ => [SHP_TASK_END i]⟩,
  ⟨0x39008, [(0x10, 1024)], fun i _ _ => [SHP_TASK_BUSY i]⟩,
  ⟨0x3900c, [(0x10, 1024)], fun i _ _ => [SHP_TASK_MAXEND i]⟩,
  ⟨0x3b0000, [], fun _ _ _ => [MSYNC_CFG_EN, MSYNC_CFG_SIZE, MSYNC_CFG_MODE, MSYNC_CFG_ALONE, MSYNC_CFG_OWN_DLY, MSYNC_CFG_LEAD_US]⟩,
  ⟨0x3b0004, [], fun _ _ _ => [MSYNC_CFG2_WAIT_MS, MSYNC_CFG2_CHECK_CYCLES, MSYNC_CFG2_TOL_NS]⟩,
  ⟨0x3b0008, [], fun _ _ _ => [MSYNC_STATUS_BELLWETHER, MSYNC_STATUS_STATE, MSYNC_STATUS_SYNC_IN, MSYNC_STATUS_SYNC_OUT, MSYNC_STATUS_SKEW, MSYNC_STATUS_MISS, MSYNC_STATUS_TIMEOUT]⟩,
  ⟨0x3b000c, [], fun _ _ _ => [MSYNC_REL_LO]⟩,
  ⟨0x3b0010, [], fun _ _ _ => [MSYNC_REL_HI]⟩]

/-- Where these registers lie, and the fields of each. -/
def groupsSafety1 : List Group := [
  ⟨0x3b0014, [], fun _ _ _ => [MSYNC_SKEW]⟩,
  ⟨0x3b0018, [], fun _ _ _ => [MSYNC_SKEW_MAX]⟩,
  ⟨0x3b001c, [], fun _ _ _ => [MSYNC_COUNT_BARRIERS, MSYNC_COUNT_MARKERS]⟩,
  ⟨0x3b0020, [], fun _ _ _ => [MSYNC_ERR_GLITCH, MSYNC_ERR_IGNORED]⟩,
  ⟨0x3b0024, [], fun _ _ _ => [MSYNC_CTL_RETRY]⟩,
  ⟨0x3b1000, [], fun _ _ _ => [DET_ND_TOTAL]⟩,
  ⟨0x3b1004, [], fun _ _ _ => [DET_ND_CAP_QID, DET_ND_CAP_KIND, DET_ND_CAP_VALID]⟩,
  ⟨0x3b1008, [], fun _ _ _ => [DET_ND_CAP_T]⟩,
  ⟨0x3b100c, [], fun _ _ _ => [DET_QRELAXED_COUNT]⟩,
  ⟨0x3b1010, [(4, 9)], fun i _ _ => [DET_KIND i]⟩]

/-- Every register of this file. -/
def groupsSafety : List Group := groupsSafety0 ++ groupsSafety1

end Sys2Proof.Machine.Reg
end

