-- ==== Sys2Proof/Machine/RegsSteward.lean ====
section
/-! DEFINITION. The fields of the Steward, telemetry, event log and security registers (chapters 27 and 28), one definition per field: address,
lowest bit, width, reset value, access code, Keep class and Collide class as the spec's register tables give them
(a register of one field bears the register's name). -/

namespace Sys2Proof.Machine.Reg

/-- MBX_REQ (27_steward_and_event_log). -/
def MBX_REQ (k : Nat) (j : Nat) : Field := ⟨0x10000 + 0x100 * k + 4 * j, 0, 32, 0, .RW, .V, .SW⟩
/-- MBX_RSP (27_steward_and_event_log). -/
def MBX_RSP (k : Nat) (j : Nat) : Field := ⟨0x10040 + 0x100 * k + 4 * j, 0, 32, 0, .RO, .V, .HV⟩
/-- MBX_CTL (27_steward_and_event_log). -/
def MBX_CTL_GO (k : Nat) : Field := ⟨0x10080 + 0x100 * k, 0, 1, 0, .WO, .V, .HC⟩
/-- MBX_STAT (27_steward_and_event_log). -/
def MBX_STAT_BUSY (k : Nat) : Field := ⟨0x10084 + 0x100 * k, 0, 1, 0, .RO, .V, .HV⟩
def MBX_STAT_STATUS (k : Nat) : Field := ⟨0x10084 + 0x100 * k, 8, 4, 0, .RO, .V, .HV⟩
def MBX_STAT_MASTER (k : Nat) : Field := ⟨0x10084 + 0x100 * k, 16, 12, 0, .RO, .V, .HV⟩
def MBX_STAT_FOREIGN (k : Nat) : Field := ⟨0x10084 + 0x100 * k, 28, 4, 0, .RO, .V, .HV⟩
/-- ST_POL (27_steward_and_event_log). -/
def ST_POL_STEP : Field := ⟨0x11000, 0, 3, 0, .RO, .S, .HV⟩
def ST_POL_FCODES : Field := ⟨0x11000, 3, 6, 0, .RO, .S, .HV⟩
def ST_POL_DUTY : Field := ⟨0x11000, 16, 9, 0, .RO, .S, .HV⟩
def ST_POL_HOTTEST : Field := ⟨0x11000, 25, 7, 0, .RO, .S, .HV⟩
/-- ST_CAP (27_steward_and_event_log). -/
def ST_CAP_DUTY : Field := ⟨0x11004, 0, 9, 0x100, .RO, .S, .HV⟩
/-- ST_EMERG (27_steward_and_event_log). -/
def ST_EMERG : Field := ⟨0x11008, 0, 32, 0, .RW, .S, .CT⟩
/-- ST_POLICY (27_steward_and_event_log). -/
def ST_POLICY (j : Nat) : Field := ⟨0x11010 + 4 * j, 0, 32, 0, .RO, .S, .HV⟩
/-- TM_T (27_steward_and_event_log). -/
def TM_T (i : Nat) : Field := ⟨0x3a0000 + 4 * i, 0, 16, 0, .RO, .V, .HV⟩
/-- TM_V (27_steward_and_event_log). -/
def TM_V (j : Nat) : Field := ⟨0x3a0100 + 4 * j, 0, 16, 0, .RO, .V, .HV⟩
/-- TM_I (27_steward_and_event_log). -/
def TM_I (j : Nat) : Field := ⟨0x3a0200 + 4 * j, 0, 16, 0, .RO, .V, .HV⟩
/-- TM_CPM (27_steward_and_event_log). -/
def TM_CPM_MARGIN (r : Nat) : Field := ⟨0x3a0300 + 4 * r, 0, 8, 0, .RO, .V, .HV⟩
def TM_CPM_MIN (r : Nat) : Field := ⟨0x3a0300 + 4 * r, 8, 8, 0, .RO, .V, .HV⟩
/-- TM_PWR (27_steward_and_event_log). -/
def TM_PWR : Field := ⟨0x3a0400, 0, 16, 0, .RO, .V, .HV⟩
/-- TM_VALID_T (27_steward_and_event_log). -/
def TM_VALID_T : Field := ⟨0x3a0404, 0, 32, 0xffffffff, .RO, .V, .HV⟩
/-- TM_VALID_R (27_steward_and_event_log). -/
def TM_VALID_R : Field := ⟨0x3a0408, 0, 32, 0xffffffff, .RO, .V, .HV⟩
/-- TM_TRIP (27_steward_and_event_log). -/
def TM_TRIP_TRIPPED : Field := ⟨0x3a040c, 0, 1, 0, .W1C, .A, .HS⟩
def TM_TRIP_SENSOR : Field := ⟨0x3a040c, 8, 5, 0, .W1C, .A, .HS⟩
/-- EVQ_STAT (27_steward_and_event_log). -/
def EVQ_STAT_QUEUED : Field := ⟨0x381000, 0, 9, 0, .RO, .A, .HV⟩
def EVQ_STAT_FOLDING : Field := ⟨0x381000, 16, 1, 0, .RO, .A, .HV⟩
/-- EVQ_FOLD (27_steward_and_event_log). -/
def EVQ_FOLD (j : Nat) : Field := ⟨0x381004 + 4 * j, 0, 16, 0, .RO, .A, .HV⟩
/-- EVQ_LOSSREC (27_steward_and_event_log). -/
def EVQ_LOSSREC : Field := ⟨0x381044, 0, 32, 0, .RW, .A, .CT⟩
/-- EVL_NEWEST (27_steward_and_event_log). -/
def EVL_NEWEST : Field := ⟨0x381048, 0, 32, 0, .RO, .S, .HV⟩
/-- EVL_OLDEST (27_steward_and_event_log). -/
def EVL_OLDEST : Field := ⟨0x38104c, 0, 32, 0, .RO, .S, .HV⟩
/-- EVL_CFG (27_steward_and_event_log). -/
def EVL_CFG_PORT : Field := ⟨0x381050, 0, 1, 0, .RO, .S, .HV⟩
def EVL_CFG_SECTORS : Field := ⟨0x381050, 16, 16, 0, .RO, .S, .HV⟩
/-- EVL_ERASES (27_steward_and_event_log). -/
def EVL_ERASES : Field := ⟨0x381054, 0, 32, 0, .RO, .S, .HV⟩
/-- EVL_ERR (27_steward_and_event_log). -/
def EVL_ERR_FAIL : Field := ⟨0x381058, 0, 16, 0, .RW, .V, .CT⟩
def EVL_ERR_REERASED : Field := ⟨0x381058, 16, 16, 0, .RW, .V, .CT⟩
/-- SEC_DIE_LO (28_security). -/
def SEC_DIE_LO : Field := ⟨0x390000, 0, 32, 0, .RO, .A, .HV⟩
/-- SEC_DIE_HI (28_security). -/
def SEC_DIE_HI : Field := ⟨0x390004, 0, 32, 0, .RO, .A, .HV⟩
/-- SEC_STATUS (28_security). -/
def SEC_STATUS_USABLE : Field := ⟨0x390008, 0, 4, 0, .RO, .S, .HV⟩
def SEC_STATUS_DEBUG : Field := ⟨0x390008, 4, 4, 0, .RO, .S, .HV⟩
def SEC_STATUS_DBG_LOCK : Field := ⟨0x390008, 8, 1, 0, .RO, .S, .HV⟩
def SEC_STATUS_TRACE_OPEN : Field := ⟨0x390008, 9, 1, 0, .RO, .S, .HV⟩
def SEC_STATUS_MKEY0_REVOKED : Field := ⟨0x390008, 10, 1, 0, .RO, .S, .HV⟩
def SEC_STATUS_ARB_FULL : Field := ⟨0x390008, 11, 1, 0, .RO, .S, .HV⟩
def SEC_STATUS_ARB_USED : Field := ⟨0x390008, 12, 8, 0, .RO, .S, .HV⟩
/-- SEC_ARB_LO (28_security). -/
def SEC_ARB_LO : Field := ⟨0x39000c, 0, 32, 0, .RO, .S, .HV⟩
/-- SEC_ARB_HI (28_security). -/
def SEC_ARB_HI : Field := ⟨0x390010, 0, 32, 0, .RO, .S, .HV⟩
/-- SEC_REVOKE (28_security). -/
def SEC_REVOKE_SLOT : Field := ⟨0x390014, 0, 2, 0, .WO, .S, .HC⟩
def SEC_REVOKE_GO : Field := ⟨0x390014, 8, 1, 0, .WO, .S, .HC⟩
def SEC_REVOKE_KEY : Field := ⟨0x390014, 16, 8, 0, .WO, .S, .HC⟩
/-- SEC_OTP_IDX (28_security). -/
def SEC_OTP_IDX_IDX : Field := ⟨0x390018, 0, 10, 0, .RW, .V, .SW⟩
/-- SEC_OTP_DATA (28_security). -/
def SEC_OTP_DATA : Field := ⟨0x39001c, 0, 32, 0, .RO, .V, .HV⟩
/-- SEC_DBG (28_security). -/
def SEC_DBG_LEVEL : Field := ⟨0x390020, 0, 2, 0, .RO, .S, .HV⟩
def SEC_DBG_END : Field := ⟨0x390020, 2, 1, 0, .W1S, .S, .HC⟩
def SEC_DBG_REFUSING : Field := ⟨0x390020, 3, 1, 0, .RO, .S, .HV⟩
def SEC_DBG_KEYSEL : Field := ⟨0x390020, 8, 8, 0, .RO, .S, .HV⟩
def SEC_DBG_FAILS : Field := ⟨0x390020, 16, 16, 0, .RW, .S, .CT⟩
/-- SEC_DBG_NONCE (28_security). -/
def SEC_DBG_NONCE (j : Nat) : Field := ⟨0x390024 + 4 * j, 0, 32, 0, .RO, .V, .HV⟩

/-- Where these registers lie, and the fields of each. -/
def groupsSteward0 : List Group := [
  ⟨0x10000, [(0x100, 4), (4, 16)], fun i j _ => [MBX_REQ i j]⟩,
  ⟨0x10040, [(0x100, 4), (4, 16)], fun i j _ => [MBX_RSP i j]⟩,
  ⟨0x10080, [(0x100, 4)], fun i _ _ => [MBX_CTL_GO i]⟩,
  ⟨0x10084, [(0x100, 4)], fun i _ _ => [MBX_STAT_BUSY i, MBX_STAT_STATUS i, MBX_STAT_MASTER i, MBX_STAT_FOREIGN i]⟩,
  ⟨0x11000, [], fun _ _ _ => [ST_POL_STEP, ST_POL_FCODES, ST_POL_DUTY, ST_POL_HOTTEST]⟩,
  ⟨0x11004, [], fun _ _ _ => [ST_CAP_DUTY]⟩,
  ⟨0x11008, [], fun _ _ _ => [ST_EMERG]⟩,
  ⟨0x11010, [(4, 16)], fun i _ _ => [ST_POLICY i]⟩,
  ⟨0x3a0000, [(4, 24)], fun i _ _ => [TM_T i]⟩,
  ⟨0x3a0100, [(4, 32)], fun i _ _ => [TM_V i]⟩,
  ⟨0x3a0200, [(4, 32)], fun i _ _ => [TM_I i]⟩,
  ⟨0x3a0300, [(4, 16)], fun i _ _ => [TM_CPM_MARGIN i, TM_CPM_MIN i]⟩,
  ⟨0x3a0400, [], fun _ _ _ => [TM_PWR]⟩,
  ⟨0x3a0404, [], fun _ _ _ => [TM_VALID_T]⟩,
  ⟨0x3a0408, [], fun _ _ _ => [TM_VALID_R]⟩,
  ⟨0x3a040c, [], fun _ _ _ => [TM_TRIP_TRIPPED, TM_TRIP_SENSOR]⟩,
  ⟨0x381000, [], fun _ _ _ => [EVQ_STAT_QUEUED, EVQ_STAT_FOLDING]⟩,
  ⟨0x381004, [(4, 16)], fun i _ _ => [EVQ_FOLD i]⟩,
  ⟨0x381044, [], fun _ _ _ => [EVQ_LOSSREC]⟩,
  ⟨0x381048, [], fun _ _ _ => [EVL_NEWEST]⟩,
  ⟨0x38104c, [], fun _ _ _ => [EVL_OLDEST]⟩,
  ⟨0x381050, [], fun _ _ _ => [EVL_CFG_PORT, EVL_CFG_SECTORS]⟩,
  ⟨0x381054, [], fun _ _ _ => [EVL_ERASES]⟩,
  ⟨0x381058, [], fun _ _ _ => [EVL_ERR_FAIL, EVL_ERR_REERASED]⟩,
  ⟨0x390000, [], fun _ _ _ => [SEC_DIE_LO]⟩,
  ⟨0x390004, [], fun _ _ _ => [SEC_DIE_HI]⟩,
  ⟨0x390008, [], fun _ _ _ => [SEC_STATUS_USABLE, SEC_STATUS_DEBUG, SEC_STATUS_DBG_LOCK, SEC_STATUS_TRACE_OPEN, SEC_STATUS_MKEY0_REVOKED, SEC_STATUS_ARB_FULL, SEC_STATUS_ARB_USED]⟩,
  ⟨0x39000c, [], fun _ _ _ => [SEC_ARB_LO]⟩,
  ⟨0x390010, [], fun _ _ _ => [SEC_ARB_HI]⟩,
  ⟨0x390014, [], fun _ _ _ => [SEC_REVOKE_SLOT, SEC_REVOKE_GO, SEC_REVOKE_KEY]⟩,
  ⟨0x390018, [], fun _ _ _ => [SEC_OTP_IDX_IDX]⟩,
  ⟨0x39001c, [], fun _ _ _ => [SEC_OTP_DATA]⟩,
  ⟨0x390020, [], fun _ _ _ => [SEC_DBG_LEVEL, SEC_DBG_END, SEC_DBG_REFUSING, SEC_DBG_KEYSEL, SEC_DBG_FAILS]⟩,
  ⟨0x390024, [(4, 8)], fun i _ _ => [SEC_DBG_NONCE i]⟩]

/-- Every register of this file. -/
def groupsSteward : List Group := groupsSteward0

end Sys2Proof.Machine.Reg
end

