-- ==== Sys2Proof/Machine/RegsSystem.lean ====
section
/-! DEFINITION. The fields of the system registers: boot, global, clock, power, live insertion (chapters 02 to 06), one definition per field: address,
lowest bit, width, reset value, access code, Keep class and Collide class as the spec's register tables give them
(a register of one field bears the register's name). -/

namespace Sys2Proof.Machine.Reg

/-- BOOT_STATUS (02_lamarn_image_and_startup). -/
def BOOT_STATUS_PHASE : Field := ⟨0x380000, 0, 4, 0, .RO, .S, .HV⟩
def BOOT_STATUS_SLOT : Field := ⟨0x380000, 4, 2, 0, .RO, .S, .HV⟩
def BOOT_STATUS_TRIAL : Field := ⟨0x380000, 6, 1, 0, .RO, .S, .HV⟩
def BOOT_STATUS_SEALED : Field := ⟨0x380000, 7, 1, 0, .RO, .S, .HV⟩
def BOOT_STATUS_ARMED : Field := ⟨0x380000, 8, 1, 0, .RO, .S, .HV⟩
def BOOT_STATUS_FALLBACK : Field := ⟨0x380000, 9, 1, 0, .W1C, .S, .HS⟩
def BOOT_STATUS_EXTP_PEND : Field := ⟨0x380000, 10, 1, 0, .RO, .S, .HV⟩
/-- BOOT_FAIL (02_lamarn_image_and_startup). -/
def BOOT_FAIL_A_CODE : Field := ⟨0x380004, 0, 8, 0, .RO, .S, .HV⟩
def BOOT_FAIL_B_CODE : Field := ⟨0x380004, 8, 8, 0, .RO, .S, .HV⟩
def BOOT_FAIL_HOST_CODE : Field := ⟨0x380004, 16, 8, 0, .RO, .S, .HV⟩
/-- BOOT_GEN_LO (02_lamarn_image_and_startup). -/
def BOOT_GEN_LO_GEN : Field := ⟨0x380008, 0, 32, 0, .RO, .S, .HV⟩
/-- BOOT_GEN_HI (02_lamarn_image_and_startup). -/
def BOOT_GEN_HI_GEN : Field := ⟨0x38000c, 0, 32, 0, .RO, .S, .HV⟩
/-- BOOT_ARB_LO (02_lamarn_image_and_startup). -/
def BOOT_ARB_LO_ARB : Field := ⟨0x380010, 0, 32, 0, .RO, .S, .HV⟩
/-- BOOT_ARB_HI (02_lamarn_image_and_startup). -/
def BOOT_ARB_HI_ARB : Field := ⟨0x380014, 0, 32, 0, .RO, .S, .HV⟩
/-- BOOT_TIME (02_lamarn_image_and_startup). -/
def BOOT_TIME_US : Field := ⟨0x380018, 0, 32, 0, .RO, .S, .HV⟩
/-- BOOT_BOUND (02_lamarn_image_and_startup). -/
def BOOT_BOUND_NS : Field := ⟨0x38001c, 0, 32, 0, .RO, .S, .HV⟩
/-- BOOT_CTL (02_lamarn_image_and_startup). -/
def BOOT_CTL_CONFIRM : Field := ⟨0x380020, 0, 1, 0, .WO, .S, .HC⟩
def BOOT_CTL_HOSTGO : Field := ⟨0x380020, 1, 1, 0, .WO, .S, .HC⟩
def BOOT_CTL_RETRY : Field := ⟨0x380020, 2, 1, 0, .WO, .S, .HC⟩
/-- BOOT_STRAP (02_lamarn_image_and_startup). -/
def BOOT_STRAP_BOOTMODE : Field := ⟨0x380024, 0, 2, 0, .RO, .S, .HV⟩
/-- BOOT_TRIES (02_lamarn_image_and_startup). -/
def BOOT_TRIES_A_LEFT : Field := ⟨0x380028, 0, 4, 0, .RO, .S, .HV⟩
def BOOT_TRIES_B_LEFT : Field := ⟨0x380028, 4, 4, 0, .RO, .S, .HV⟩
/-- NVA_CFG (02_lamarn_image_and_startup). -/
def NVA_CFG_OPC : Field := ⟨0x380030, 0, 16, 0x13, .RO, .S, .HV⟩
def NVA_CFG_DUMMY : Field := ⟨0x380030, 16, 5, 0, .RO, .S, .HV⟩
def NVA_CFG_CLK : Field := ⟨0x380030, 21, 2, 0, .RO, .S, .HV⟩
/-- NVB_CFG (02_lamarn_image_and_startup). -/
def NVB_CFG_OPC : Field := ⟨0x380034, 0, 16, 0x13, .RO, .S, .HV⟩
def NVB_CFG_DUMMY : Field := ⟨0x380034, 16, 5, 0, .RO, .S, .HV⟩
def NVB_CFG_CLK : Field := ⟨0x380034, 21, 2, 0, .RO, .S, .HV⟩
/-- NVA_RETRY (02_lamarn_image_and_startup). -/
def NVA_RETRY_COUNT : Field := ⟨0x380038, 0, 32, 0, .RW, .V, .CT⟩
/-- NVB_RETRY (02_lamarn_image_and_startup). -/
def NVB_RETRY_COUNT : Field := ⟨0x38003c, 0, 32, 0, .RW, .V, .CT⟩
/-- EXTP_STATUS (02_lamarn_image_and_startup). -/
def EXTP_STATUS_DECLARED : Field := ⟨0x380040, 0, 8, 0, .RO, .S, .HV⟩
def EXTP_STATUS_VERIFIED : Field := ⟨0x380040, 8, 8, 0, .RO, .S, .HV⟩
def EXTP_STATUS_FAILED : Field := ⟨0x380040, 16, 8, 0, .RO, .S, .HV⟩
def EXTP_STATUS_HASHING : Field := ⟨0x380040, 24, 1, 0, .RO, .S, .HV⟩
/-- EXTP_CTL (02_lamarn_image_and_startup). -/
def EXTP_CTL_INDEX : Field := ⟨0x380044, 0, 6, 0, .RW, .S, .SW⟩
def EXTP_CTL_GO : Field := ⟨0x380044, 8, 1, 0, .WO, .S, .HC⟩
/-- GLB_ID (03_registers_ownership). -/
def GLB_ID_PART : Field := ⟨0, 0, 16, 0, .RO, .A, .HV⟩
def GLB_ID_STEPPING : Field := ⟨0, 16, 4, 0, .RO, .A, .HV⟩
def GLB_ID_TEMP : Field := ⟨0, 20, 4, 0, .RO, .A, .HV⟩
/-- GLB_CAP (03_registers_ownership). -/
def GLB_CAP_ENGINES : Field := ⟨4, 0, 4, 0, .RO, .A, .HV⟩
def GLB_CAP_CLUSTERS : Field := ⟨4, 4, 4, 4, .RO, .A, .HV⟩
def GLB_CAP_PASTURE_MIB : Field := ⟨4, 8, 10, 0, .RO, .A, .HV⟩
/-- GLB_STRAP (03_registers_ownership). -/
def GLB_STRAP_BOOTMODE : Field := ⟨8, 0, 2, 0, .RO, .S, .HV⟩
def GLB_STRAP_CHIPADDR : Field := ⟨8, 2, 4, 0, .RO, .S, .HV⟩
def GLB_STRAP_HOSTLINK_EN : Field := ⟨8, 6, 1, 0, .RO, .S, .HV⟩
def GLB_STRAP_TESTMODE : Field := ⟨8, 7, 1, 0, .RO, .S, .HV⟩
/-- GLB_WHOAMI (03_registers_ownership). -/
def GLB_WHOAMI_MASTER : Field := ⟨0xc, 0, 12, 0, .RO, .V, .HV⟩
def GLB_WHOAMI_QID : Field := ⟨0xc, 12, 10, 0, .RO, .V, .HV⟩
/-- GLB_CTL (03_registers_ownership). -/
def GLB_CTL_SYSRST : Field := ⟨0x10, 0, 1, 0, .WO, .S, .HC⟩
def GLB_CTL_KEY : Field := ⟨0x10, 8, 8, 0, .WO, .S, .SW⟩
/-- GLB_COLLIDE_ADDR (03_registers_ownership). -/
def GLB_COLLIDE_ADDR_ADDR : Field := ⟨0x20, 0, 25, 0, .RO, .V, .HV⟩
/-- GLB_COLLIDE_INFO (03_registers_ownership). -/
def GLB_COLLIDE_INFO_MASTER : Field := ⟨0x24, 0, 12, 0, .RO, .V, .HV⟩
def GLB_COLLIDE_INFO_QID : Field := ⟨0x24, 12, 10, 0, .RO, .V, .HV⟩
def GLB_COLLIDE_INFO_VALID : Field := ⟨0x24, 31, 1, 0, .W1C, .V, .HS⟩
/-- GLB_OWNV_ADDR (03_registers_ownership). -/
def GLB_OWNV_ADDR_ADDR : Field := ⟨0x28, 0, 25, 0, .RO, .V, .HV⟩
def GLB_OWNV_ADDR_READ : Field := ⟨0x28, 31, 1, 0, .RO, .V, .HV⟩
/-- GLB_OWNV_INFO (03_registers_ownership). -/
def GLB_OWNV_INFO_MASTER : Field := ⟨0x2c, 0, 12, 0, .RO, .V, .HV⟩
def GLB_OWNV_INFO_QID : Field := ⟨0x2c, 12, 10, 0, .RO, .V, .HV⟩
def GLB_OWNV_INFO_VALID : Field := ⟨0x2c, 31, 1, 0, .W1C, .V, .HS⟩
/-- GLB_SCRATCH_A (03_registers_ownership). -/
def GLB_SCRATCH_A_DATA : Field := ⟨0x30, 0, 32, 0, .RW, .A, .SW⟩
/-- GLB_SCRATCH_W (03_registers_ownership). -/
def GLB_SCRATCH_W_DATA : Field := ⟨0x34, 0, 32, 0, .RW, .W, .SW⟩
/-- GLB_SCRATCH_S (03_registers_ownership). -/
def GLB_SCRATCH_S_DATA : Field := ⟨0x38, 0, 32, 0, .RW, .S, .SW⟩
/-- GLB_COLLIDE_COUNT (03_registers_ownership). -/
def GLB_COLLIDE_COUNT_COUNT : Field := ⟨0x40, 0, 32, 0, .RW, .V, .CT⟩
/-- GLB_ERRCNT (03_registers_ownership). -/
def GLB_ERRCNT_OWNV : Field := ⟨0x44, 0, 16, 0, .RW, .V, .CT⟩
def GLB_ERRCNT_BADWIDTH : Field := ⟨0x44, 16, 16, 0, .RW, .V, .CT⟩
/-- PAGE_OWN (03_registers_ownership). -/
def PAGE_OWN_OWNER (p : Nat) : Field := ⟨0x8000 + 4 * p, 0, 12, 0x800, .RWL, .S, .SW⟩
def PAGE_OWN_HOST (p : Nat) : Field := ⟨0x8000 + 4 * p, 12, 1, 0, .RWL, .S, .SW⟩
def PAGE_OWN_CMDL0 (p : Nat) : Field := ⟨0x8000 + 4 * p, 13, 1, 0, .RWL, .S, .SW⟩
def PAGE_OWN_STEWARD (p : Nat) : Field := ⟨0x8000 + 4 * p, 14, 1, 0, .RWL, .S, .SW⟩
def PAGE_OWN_SAFETY (p : Nat) : Field := ⟨0x8000 + 4 * p, 15, 1, 0, .RWL, .S, .SW⟩
def PAGE_OWN_READALL (p : Nat) : Field := ⟨0x8000 + 4 * p, 16, 1, 0, .RWL, .S, .SW⟩
/-- CLK_STATUS (04_clocks_and_islands). -/
def CLK_STATUS_REFMON : Field := ⟨0x13000, 0, 2, 0, .RO, .V, .HV⟩
def CLK_STATUS_XTAL_FAIL : Field := ⟨0x13000, 2, 1, 0, .W1C, .A, .HS⟩
def CLK_STATUS_DEGRADED : Field := ⟨0x13000, 3, 1, 0, .RO, .V, .HV⟩
def CLK_STATUS_GOODGATES : Field := ⟨0x13000, 4, 6, 0, .RO, .V, .HV⟩
/-- CLK_CAUSE (04_clocks_and_islands). -/
def CLK_CAUSE_STOP : Field := ⟨0x13004, 0, 1, 0, .W1C, .S, .HS⟩
def CLK_CAUSE_GLITCH : Field := ⟨0x13004, 1, 1, 0, .W1C, .S, .HS⟩
def CLK_CAUSE_RATE : Field := ⟨0x13004, 2, 1, 0, .W1C, .S, .HS⟩
/-- CLK_CFG (04_clocks_and_islands). -/
def CLK_CFG_LOSS_SAFE : Field := ⟨0x13008, 0, 1, 1, .RWL, .S, .SW⟩
def CLK_CFG_RESUME : Field := ⟨0x13008, 1, 1, 0, .RWL, .S, .SW⟩
def CLK_CFG_REQUAL_GATES : Field := ⟨0x13008, 2, 7, 0xa, .RWL, .S, .SW⟩
/-- REFMON_DEV (04_clocks_and_islands). -/
def REFMON_DEV_COUNT_DELTA : Field := ⟨0x1300c, 0, 16, 0, .RO, .V, .HV⟩
/-- REFMON_GLITCH (04_clocks_and_islands). -/
def REFMON_GLITCH_COUNT : Field := ⟨0x13010, 0, 32, 0, .RW, .V, .CT⟩
/-- CLK_ISLFAULT_LO (04_clocks_and_islands). -/
def CLK_ISLFAULT_LO_ISL : Field := ⟨0x13018, 0, 32, 0, .W1C, .S, .HS⟩
/-- CLK_ISLFAULT_HI (04_clocks_and_islands). -/
def CLK_ISLFAULT_HI_ISL : Field := ⟨0x1301c, 0, 32, 0, .W1C, .S, .HS⟩
/-- CLK_ISLFAULT_X (04_clocks_and_islands). -/
def CLK_ISLFAULT_X_ISL : Field := ⟨0x13020, 0, 14, 0, .W1C, .S, .HS⟩
/-- CLK_ISL (04_clocks_and_islands). -/
def CLK_ISL_CUR (k : Nat) : Field := ⟨0x13100 + 4 * k, 0, 8, nominalFcode k, .RO, .I, .HV⟩
def CLK_ISL_TGT (k : Nat) : Field := ⟨0x13100 + 4 * k, 8, 8, nominalFcode k, .RO, .I, .HV⟩
def CLK_ISL_FLOOR (k : Nat) : Field := ⟨0x13100 + 4 * k, 16, 8, floorFcode k, .RWL, .I, .SW⟩
def CLK_ISL_ONALT (k : Nat) : Field := ⟨0x13100 + 4 * k, 24, 1, 0, .RO, .I, .HV⟩
/-- RST_CAUSE (05_power_reset_states). -/
def RST_CAUSE_COLD : Field := ⟨0x12000, 0, 1, 1, .W1C, .W, .HS⟩
def RST_CAUSE_AONLOSS : Field := ⟨0x12000, 1, 1, 0, .W1C, .W, .HS⟩
def RST_CAUSE_PIN : Field := ⟨0x12000, 2, 1, 0, .W1C, .W, .HS⟩
def RST_CAUSE_SYS : Field := ⟨0x12000, 3, 1, 0, .W1C, .W, .HS⟩
def RST_CAUSE_WDG : Field := ⟨0x12000, 4, 1, 0, .W1C, .W, .HS⟩
def RST_CAUSE_SNAPBAD : Field := ⟨0x12000, 5, 1, 0, .W1C, .W, .HS⟩
/-- RST_LAST (05_power_reset_states). -/
def RST_LAST_DONE : Field := ⟨0x12004, 0, 3, 0, .RO, .W, .HV⟩
def RST_LAST_REQ : Field := ⟨0x12004, 3, 6, 0, .RO, .W, .HV⟩
/-- RST_COUNT (05_power_reset_states). -/
def RST_COUNT_WDG : Field := ⟨0x12008, 0, 16, 0, .RW, .W, .CT⟩
def RST_COUNT_SYS : Field := ⟨0x12008, 16, 16, 0, .RW, .W, .CT⟩
/-- RST_ISL (05_power_reset_states). -/
def RST_ISL_ISLAND : Field := ⟨0x12010, 0, 8, 0, .RW, .S, .SW⟩
def RST_ISL_GO : Field := ⟨0x12010, 8, 1, 0, .WO, .S, .HC⟩
def RST_ISL_BUSY : Field := ⟨0x12010, 9, 1, 0, .RO, .S, .HV⟩
def RST_ISL_DENIED : Field := ⟨0x12010, 10, 1, 0, .W1C, .S, .HS⟩
def RST_ISL_KEY : Field := ⟨0x12010, 16, 8, 0, .WO, .S, .SW⟩
def RST_ISL_IGNORED : Field := ⟨0x12010, 24, 8, 0, .RW, .V, .CT⟩
/-- PWR_STATE (05_power_reset_states). -/
def PWR_STATE_STATE : Field := ⟨0x12020, 0, 3, 0, .RO, .V, .HV⟩
/-- PWR_CTL (05_power_reset_states). -/
def PWR_CTL_REQ : Field := ⟨0x12024, 0, 2, 0, .WO, .S, .HC⟩
/-- PWR_CFG (05_power_reset_states). -/
def PWR_CFG_DOZE_OK : Field := ⟨0x12028, 0, 1, 0, .RWL, .S, .SW⟩
def PWR_CFG_FOLD_OK : Field := ⟨0x12028, 1, 1, 0, .RWL, .S, .SW⟩
def PWR_CFG_OFF_OK : Field := ⟨0x12028, 2, 1, 0, .RWL, .S, .SW⟩
def PWR_CFG_HOSTWAKE : Field := ⟨0x12028, 3, 1, 0, .RWL, .S, .SW⟩
def PWR_CFG_PG_TIMEOUT : Field := ⟨0x12028, 8, 8, 0x32, .RWL, .W, .SW⟩
def PWR_CFG_WAKE_QEI_COUNTS : Field := ⟨0x12028, 16, 16, 0x64, .RWL, .S, .SW⟩
/-- PWR_STATUS (05_power_reset_states). -/
def PWR_STATUS_PG_FAIL : Field := ⟨0x1202c, 0, 1, 0, .W1C, .A, .HS⟩
def PWR_STATUS_PGOOD_MEM : Field := ⟨0x1202c, 1, 1, 0, .RO, .V, .HV⟩
def PWR_STATUS_PGOOD_MAIN : Field := ⟨0x1202c, 2, 1, 0, .RO, .V, .HV⟩
/-- WAKE_EN (05_power_reset_states). -/
def WAKE_EN_EN : Field := ⟨0x12030, 0, 12, 0, .RW, .W, .SW⟩
/-- WAKE_CAUSE (05_power_reset_states). -/
def WAKE_CAUSE_SRC : Field := ⟨0x12034, 0, 12, 0, .W1C, .A, .HS⟩
def WAKE_CAUSE_FIRST : Field := ⟨0x12034, 12, 4, 0, .RO, .A, .HV⟩
def WAKE_CAUSE_ORDER : Field := ⟨0x12034, 16, 1, 0, .RO, .A, .HV⟩
def WAKE_CAUSE_WAKEOUT : Field := ⟨0x12034, 17, 1, 0, .W1C, .A, .HS⟩
/-- WAKE_LATE (05_power_reset_states). -/
def WAKE_LATE_SRC : Field := ⟨0x12038, 0, 12, 0, .W1C, .A, .HS⟩
/-- SNAP_BASE_LO (05_power_reset_states). -/
def SNAP_BASE_LO_ADDR : Field := ⟨0x12040, 0, 32, 0, .RO, .S, .HV⟩
/-- SNAP_BASE_HI (05_power_reset_states). -/
def SNAP_BASE_HI_ADDR : Field := ⟨0x12044, 0, 32, 0, .RO, .S, .HV⟩
/-- SNAP_SIZE (05_power_reset_states). -/
def SNAP_SIZE_MIB : Field := ⟨0x12048, 0, 16, 0, .RO, .S, .HV⟩
def SNAP_SIZE_USED_MIB : Field := ⟨0x12048, 16, 16, 0, .RO, .S, .HV⟩
/-- SNAP_STATUS (05_power_reset_states). -/
def SNAP_STATUS_BAD : Field := ⟨0x1204c, 0, 1, 0, .W1C, .W, .HS⟩
def SNAP_STATUS_ABANDONED : Field := ⟨0x1204c, 1, 1, 0, .W1C, .S, .HS⟩
/-- PWR_TIME_DOZE (05_power_reset_states). -/
def PWR_TIME_DOZE_US : Field := ⟨0x12050, 0, 32, 0, .RO, .S, .HV⟩
/-- PWR_TIME_FOLD (05_power_reset_states). -/
def PWR_TIME_FOLD_US : Field := ⟨0x12054, 0, 32, 0, .RO, .S, .HV⟩
/-- LIV_STATUS (06_live_insertion). -/
def LIV_STATUS_PRSNT : Field := ⟨0x14000, 0, 1, 0, .RO, .V, .HV⟩
def LIV_STATUS_EJECT : Field := ⟨0x14000, 1, 1, 0, .RO, .V, .HV⟩
def LIV_STATUS_STATE : Field := ⟨0x14000, 2, 2, 0, .RO, .W, .HV⟩
def LIV_STATUS_LOGDONE : Field := ⟨0x14000, 4, 1, 0, .RO, .W, .HV⟩
def LIV_STATUS_LEAVE_FAIL : Field := ⟨0x14000, 8, 8, 0, .RO, .W, .HV⟩
/-- LIV_CFG (06_live_insertion). -/
def LIV_CFG_LEAVE_EN : Field := ⟨0x14004, 0, 8, 0, .RWL, .S, .SW⟩
/-- LIV_LEAVE_OBJ (06_live_insertion). -/
def LIV_LEAVE_OBJ_OBJ (n : Nat) : Field := ⟨0x14010 + 4 * n, 0, 11, 0, .RWL, .S, .SW⟩
/-- LIV_DRAIN_TIME (06_live_insertion). -/
def LIV_DRAIN_TIME_US : Field := ⟨0x14030, 0, 16, 0, .RO, .W, .HV⟩
/-- LIV_STREAM_CFG (06_live_insertion). -/
def LIV_STREAM_CFG_IDLE_MS : Field := ⟨0x14040, 0, 16, 0x64, .RWL, .S, .SW⟩
/-- LIV_CANPEER_CFG (06_live_insertion). -/
def LIV_CANPEER_CFG_AGE_MS : Field := ⟨0x14044, 0, 16, 0x3e8, .RWL, .S, .SW⟩
/-- LIV_TBL (06_live_insertion). -/
def LIV_TBL_STREAMS : Field := ⟨0x14048, 0, 6, 0, .RO, .V, .HV⟩
def LIV_TBL_CANPEERS : Field := ⟨0x14048, 8, 8, 0, .RO, .V, .HV⟩
/-- LIV_REFUSED (06_live_insertion). -/
def LIV_REFUSED_STREAM : Field := ⟨0x1404c, 0, 16, 0, .RW, .V, .CT⟩
def LIV_REFUSED_CANPEER_EVICT : Field := ⟨0x1404c, 16, 16, 0, .RW, .V, .CT⟩

/-- Where these registers lie, and the fields of each. -/
def groupsSystem0 : List Group := [
  ⟨0x380000, [], fun _ _ _ => [BOOT_STATUS_PHASE, BOOT_STATUS_SLOT, BOOT_STATUS_TRIAL, BOOT_STATUS_SEALED, BOOT_STATUS_ARMED, BOOT_STATUS_FALLBACK, BOOT_STATUS_EXTP_PEND]⟩,
  ⟨0x380004, [], fun _ _ _ => [BOOT_FAIL_A_CODE, BOOT_FAIL_B_CODE, BOOT_FAIL_HOST_CODE]⟩,
  ⟨0x380008, [], fun _ _ _ => [BOOT_GEN_LO_GEN]⟩,
  ⟨0x38000c, [], fun _ _ _ => [BOOT_GEN_HI_GEN]⟩,
  ⟨0x380010, [], fun _ _ _ => [BOOT_ARB_LO_ARB]⟩,
  ⟨0x380014, [], fun _ _ _ => [BOOT_ARB_HI_ARB]⟩,
  ⟨0x380018, [], fun _ _ _ => [BOOT_TIME_US]⟩,
  ⟨0x38001c, [], fun _ _ _ => [BOOT_BOUND_NS]⟩,
  ⟨0x380020, [], fun _ _ _ => [BOOT_CTL_CONFIRM, BOOT_CTL_HOSTGO, BOOT_CTL_RETRY]⟩,
  ⟨0x380024, [], fun _ _ _ => [BOOT_STRAP_BOOTMODE]⟩,
  ⟨0x380028, [], fun _ _ _ => [BOOT_TRIES_A_LEFT, BOOT_TRIES_B_LEFT]⟩,
  ⟨0x380030, [], fun _ _ _ => [NVA_CFG_OPC, NVA_CFG_DUMMY, NVA_CFG_CLK]⟩,
  ⟨0x380034, [], fun _ _ _ => [NVB_CFG_OPC, NVB_CFG_DUMMY, NVB_CFG_CLK]⟩,
  ⟨0x380038, [], fun _ _ _ => [NVA_RETRY_COUNT]⟩,
  ⟨0x38003c, [], fun _ _ _ => [NVB_RETRY_COUNT]⟩,
  ⟨0x380040, [], fun _ _ _ => [EXTP_STATUS_DECLARED, EXTP_STATUS_VERIFIED, EXTP_STATUS_FAILED, EXTP_STATUS_HASHING]⟩,
  ⟨0x380044, [], fun _ _ _ => [EXTP_CTL_INDEX, EXTP_CTL_GO]⟩,
  ⟨0, [], fun _ _ _ => [GLB_ID_PART, GLB_ID_STEPPING, GLB_ID_TEMP]⟩,
  ⟨4, [], fun _ _ _ => [GLB_CAP_ENGINES, GLB_CAP_CLUSTERS, GLB_CAP_PASTURE_MIB]⟩,
  ⟨8, [], fun _ _ _ => [GLB_STRAP_BOOTMODE, GLB_STRAP_CHIPADDR, GLB_STRAP_HOSTLINK_EN, GLB_STRAP_TESTMODE]⟩,
  ⟨0xc, [], fun _ _ _ => [GLB_WHOAMI_MASTER, GLB_WHOAMI_QID]⟩,
  ⟨0x10, [], fun _ _ _ => [GLB_CTL_SYSRST, GLB_CTL_KEY]⟩,
  ⟨0x20, [], fun _ _ _ => [GLB_COLLIDE_ADDR_ADDR]⟩,
  ⟨0x24, [], fun _ _ _ => [GLB_COLLIDE_INFO_MASTER, GLB_COLLIDE_INFO_QID, GLB_COLLIDE_INFO_VALID]⟩,
  ⟨0x28, [], fun _ _ _ => [GLB_OWNV_ADDR_ADDR, GLB_OWNV_ADDR_READ]⟩,
  ⟨0x2c, [], fun _ _ _ => [GLB_OWNV_INFO_MASTER, GLB_OWNV_INFO_QID, GLB_OWNV_INFO_VALID]⟩,
  ⟨0x30, [], fun _ _ _ => [GLB_SCRATCH_A_DATA]⟩,
  ⟨0x34, [], fun _ _ _ => [GLB_SCRATCH_W_DATA]⟩,
  ⟨0x38, [], fun _ _ _ => [GLB_SCRATCH_S_DATA]⟩,
  ⟨0x40, [], fun _ _ _ => [GLB_COLLIDE_COUNT_COUNT]⟩,
  ⟨0x44, [], fun _ _ _ => [GLB_ERRCNT_OWNV, GLB_ERRCNT_BADWIDTH]⟩,
  ⟨0x8000, [(4, 8192)], fun i _ _ => [PAGE_OWN_OWNER i, PAGE_OWN_HOST i, PAGE_OWN_CMDL0 i, PAGE_OWN_STEWARD i, PAGE_OWN_SAFETY i, PAGE_OWN_READALL i]⟩,
  ⟨0x13000, [], fun _ _ _ => [CLK_STATUS_REFMON, CLK_STATUS_XTAL_FAIL, CLK_STATUS_DEGRADED, CLK_STATUS_GOODGATES]⟩,
  ⟨0x13004, [], fun _ _ _ => [CLK_CAUSE_STOP, CLK_CAUSE_GLITCH, CLK_CAUSE_RATE]⟩,
  ⟨0x13008, [], fun _ _ _ => [CLK_CFG_LOSS_SAFE, CLK_CFG_RESUME, CLK_CFG_REQUAL_GATES]⟩,
  ⟨0x1300c, [], fun _ _ _ => [REFMON_DEV_COUNT_DELTA]⟩,
  ⟨0x13010, [], fun _ _ _ => [REFMON_GLITCH_COUNT]⟩,
  ⟨0x13018, [], fun _ _ _ => [CLK_ISLFAULT_LO_ISL]⟩,
  ⟨0x1301c, [], fun _ _ _ => [CLK_ISLFAULT_HI_ISL]⟩,
  ⟨0x13020, [], fun _ _ _ => [CLK_ISLFAULT_X_ISL]⟩]

/-- Where these registers lie, and the fields of each. -/
def groupsSystem1 : List Group := [
  ⟨0x13100, [(4, 78)], fun i _ _ => [CLK_ISL_CUR i, CLK_ISL_TGT i, CLK_ISL_FLOOR i, CLK_ISL_ONALT i]⟩,
  ⟨0x12000, [], fun _ _ _ => [RST_CAUSE_COLD, RST_CAUSE_AONLOSS, RST_CAUSE_PIN, RST_CAUSE_SYS, RST_CAUSE_WDG, RST_CAUSE_SNAPBAD]⟩,
  ⟨0x12004, [], fun _ _ _ => [RST_LAST_DONE, RST_LAST_REQ]⟩,
  ⟨0x12008, [], fun _ _ _ => [RST_COUNT_WDG, RST_COUNT_SYS]⟩,
  ⟨0x12010, [], fun _ _ _ => [RST_ISL_ISLAND, RST_ISL_GO, RST_ISL_BUSY, RST_ISL_DENIED, RST_ISL_KEY, RST_ISL_IGNORED]⟩,
  ⟨0x12020, [], fun _ _ _ => [PWR_STATE_STATE]⟩,
  ⟨0x12024, [], fun _ _ _ => [PWR_CTL_REQ]⟩,
  ⟨0x12028, [], fun _ _ _ => [PWR_CFG_DOZE_OK, PWR_CFG_FOLD_OK, PWR_CFG_OFF_OK, PWR_CFG_HOSTWAKE, PWR_CFG_PG_TIMEOUT, PWR_CFG_WAKE_QEI_COUNTS]⟩,
  ⟨0x1202c, [], fun _ _ _ => [PWR_STATUS_PG_FAIL, PWR_STATUS_PGOOD_MEM, PWR_STATUS_PGOOD_MAIN]⟩,
  ⟨0x12030, [], fun _ _ _ => [WAKE_EN_EN]⟩,
  ⟨0x12034, [], fun _ _ _ => [WAKE_CAUSE_SRC, WAKE_CAUSE_FIRST, WAKE_CAUSE_ORDER, WAKE_CAUSE_WAKEOUT]⟩,
  ⟨0x12038, [], fun _ _ _ => [WAKE_LATE_SRC]⟩,
  ⟨0x12040, [], fun _ _ _ => [SNAP_BASE_LO_ADDR]⟩,
  ⟨0x12044, [], fun _ _ _ => [SNAP_BASE_HI_ADDR]⟩,
  ⟨0x12048, [], fun _ _ _ => [SNAP_SIZE_MIB, SNAP_SIZE_USED_MIB]⟩,
  ⟨0x1204c, [], fun _ _ _ => [SNAP_STATUS_BAD, SNAP_STATUS_ABANDONED]⟩,
  ⟨0x12050, [], fun _ _ _ => [PWR_TIME_DOZE_US]⟩,
  ⟨0x12054, [], fun _ _ _ => [PWR_TIME_FOLD_US]⟩,
  ⟨0x14000, [], fun _ _ _ => [LIV_STATUS_PRSNT, LIV_STATUS_EJECT, LIV_STATUS_STATE, LIV_STATUS_LOGDONE, LIV_STATUS_LEAVE_FAIL]⟩,
  ⟨0x14004, [], fun _ _ _ => [LIV_CFG_LEAVE_EN]⟩,
  ⟨0x14010, [(4, 8)], fun i _ _ => [LIV_LEAVE_OBJ_OBJ i]⟩,
  ⟨0x14030, [], fun _ _ _ => [LIV_DRAIN_TIME_US]⟩,
  ⟨0x14040, [], fun _ _ _ => [LIV_STREAM_CFG_IDLE_MS]⟩,
  ⟨0x14044, [], fun _ _ _ => [LIV_CANPEER_CFG_AGE_MS]⟩,
  ⟨0x14048, [], fun _ _ _ => [LIV_TBL_STREAMS, LIV_TBL_CANPEERS]⟩,
  ⟨0x1404c, [], fun _ _ _ => [LIV_REFUSED_STREAM, LIV_REFUSED_CANPEER_EVICT]⟩]

/-- Every register of this file. -/
def groupsSystem : List Group := groupsSystem0 ++ groupsSystem1

end Sys2Proof.Machine.Reg
end

