-- ==== Sys2Proof/Machine/RegsTime.lean ====
section
/-! DEFINITION. The fields of the Timekeeper registers (chapter 07), one definition per field: address,
lowest bit, width, reset value, access code, Keep class and Collide class as the spec's register tables give them
(a register of one field bears the register's name). -/

namespace Sys2Proof.Machine.Reg

/-- TK_TIME_NS (07_timekeeper). -/
def TK_TIME_NS_NS : Field := ⟨0x20000, 0, 30, 0, .RO, .V, .HV⟩
def TK_TIME_NS_EPOCH : Field := ⟨0x20000, 30, 1, 0, .RO, .V, .HV⟩
def TK_TIME_NS_HOLDOVER : Field := ⟨0x20000, 31, 1, 1, .RO, .V, .HV⟩
/-- TK_TIME_SEC_LO (07_timekeeper). -/
def TK_TIME_SEC_LO : Field := ⟨0x20004, 0, 32, 0, .RO, .V, .HV⟩
/-- TK_TIME_SEC_HI (07_timekeeper). -/
def TK_TIME_SEC_HI : Field := ⟨0x20008, 0, 32, 0, .RO, .V, .HV⟩
/-- TK_TIME_FRAC (07_timekeeper). -/
def TK_TIME_FRAC : Field := ⟨0x2000c, 0, 32, 0, .RO, .V, .HV⟩
/-- TK_MONO_LO (07_timekeeper). -/
def TK_MONO_LO_NS : Field := ⟨0x20010, 0, 32, 0, .RO, .S, .HV⟩
/-- TK_MONO_HI (07_timekeeper). -/
def TK_MONO_HI_NS : Field := ⟨0x20014, 0, 32, 0, .RO, .S, .HV⟩
/-- TK_STATUS (07_timekeeper). -/
def TK_STATUS_SERVO : Field := ⟨0x20018, 0, 2, 0, .RO, .S, .HV⟩
def TK_STATUS_HOLDOVER : Field := ⟨0x20018, 2, 1, 1, .RO, .S, .HV⟩
def TK_STATUS_DEGRADED : Field := ⟨0x20018, 3, 1, 0, .RO, .V, .HV⟩
def TK_STATUS_STEPPED : Field := ⟨0x20018, 4, 1, 0, .W1C, .S, .HS⟩
def TK_STATUS_RATE_LIMIT : Field := ⟨0x20018, 5, 1, 0, .W1C, .S, .HS⟩
def TK_STATUS_DEFERRED : Field := ⟨0x20018, 6, 1, 0, .RO, .S, .HV⟩
/-- TK_RATE (07_timekeeper). -/
def TK_RATE_PPT : Field := ⟨0x2001c, 0, 32, 0, .RW, .S, .SW⟩
/-- TK_STEP_SEC (07_timekeeper). -/
def TK_STEP_SEC : Field := ⟨0x20020, 0, 32, 0, .RW, .S, .SW⟩
/-- TK_STEP_NS (07_timekeeper). -/
def TK_STEP_NS : Field := ⟨0x20024, 0, 32, 0, .RW, .S, .SW⟩
/-- TK_STEP_CTL (07_timekeeper). -/
def TK_STEP_CTL_GO : Field := ⟨0x20028, 0, 1, 0, .WO, .S, .HC⟩
/-- TK_LAST_STEP_LO (07_timekeeper). -/
def TK_LAST_STEP_LO_NS : Field := ⟨0x2002c, 0, 32, 0, .RO, .S, .HV⟩
/-- TK_LAST_STEP_HI (07_timekeeper). -/
def TK_LAST_STEP_HI_NS : Field := ⟨0x20030, 0, 32, 0, .RO, .S, .HV⟩
/-- TK_STEP_COUNT (07_timekeeper). -/
def TK_STEP_COUNT_COUNT : Field := ⟨0x20034, 0, 16, 0, .RO, .S, .HV⟩
/-- TK_STEP_CFG (07_timekeeper). -/
def TK_STEP_CFG_GAP_MS : Field := ⟨0x20038, 0, 16, 0x3e8, .RWL, .S, .SW⟩
/-- TK_SERVO_CFG (07_timekeeper). -/
def TK_SERVO_CFG_SLEW_PPM : Field := ⟨0x20040, 0, 10, 0x64, .RWL, .S, .SW⟩
def TK_SERVO_CFG_MAXADJ_PPM : Field := ⟨0x20040, 10, 10, 0x1f4, .RWL, .S, .SW⟩
def TK_SERVO_CFG_STEP_IN_LOCK : Field := ⟨0x20040, 20, 1, 1, .RWL, .S, .SW⟩
def TK_SERVO_CFG_HOLD_AVG_S : Field := ⟨0x20040, 24, 8, 0x10, .RWL, .S, .SW⟩
/-- TK_SERVO_LIM (07_timekeeper). -/
def TK_SERVO_LIM_STEP_US : Field := ⟨0x20044, 0, 16, 0xa, .RWL, .S, .SW⟩
def TK_SERVO_LIM_LOCK_NS : Field := ⟨0x20044, 16, 16, 0x64, .RWL, .S, .SW⟩
/-- TK_SERVO_OFS (07_timekeeper). -/
def TK_SERVO_OFS_NS : Field := ⟨0x20048, 0, 32, 0, .RO, .S, .HV⟩
/-- PTP_CFG (07_timekeeper). -/
def PTP_CFG_MODE : Field := ⟨0x20100, 0, 2, 0, .RWL, .S, .SW⟩
def PTP_CFG_PROFILE : Field := ⟨0x20100, 2, 2, 0, .RWL, .S, .SW⟩
def PTP_CFG_UDP : Field := ⟨0x20100, 4, 1, 0, .RWL, .S, .SW⟩
def PTP_CFG_PORT_EN : Field := ⟨0x20100, 5, 4, 0, .RWL, .S, .SW⟩
def PTP_CFG_ONESTEP : Field := ⟨0x20100, 9, 4, 0, .RWL, .S, .SW⟩
def PTP_CFG_SLAVE_ONLY : Field := ⟨0x20100, 13, 1, 0, .RWL, .S, .SW⟩
def PTP_CFG_DOMAIN : Field := ⟨0x20100, 14, 8, 0, .RWL, .S, .SW⟩
/-- PTP_PRIO (07_timekeeper). -/
def PTP_PRIO_PRIORITY1 : Field := ⟨0x20104, 0, 8, 0x80, .RWL, .S, .SW⟩
def PTP_PRIO_PRIORITY2 : Field := ⟨0x20104, 8, 8, 0x80, .RWL, .S, .SW⟩
def PTP_PRIO_LOG_SYNC : Field := ⟨0x20104, 16, 4, 0xd, .RWL, .S, .SW⟩
def PTP_PRIO_LOG_ANNOUNCE : Field := ⟨0x20104, 20, 4, 1, .RWL, .S, .SW⟩
def PTP_PRIO_LOG_PDELAY : Field := ⟨0x20104, 24, 4, 0, .RWL, .S, .SW⟩
/-- PTP_PORT (07_timekeeper). -/
def PTP_PORT_STATE (n : Nat) : Field := ⟨0x20110 + 4 * n, 0, 4, 1, .RO, .S, .HV⟩
def PTP_PORT_ASCAPABLE (n : Nat) : Field := ⟨0x20110 + 4 * n, 4, 1, 0, .RO, .S, .HV⟩
/-- PTP_LAT (07_timekeeper). -/
def PTP_LAT_TX (n : Nat) : Field := ⟨0x20120 + 4 * n, 0, 16, 0, .RWL, .S, .SW⟩
def PTP_LAT_RX (n : Nat) : Field := ⟨0x20120 + 4 * n, 16, 16, 0, .RWL, .S, .SW⟩
/-- PTP_MEANDELAY (07_timekeeper). -/
def PTP_MEANDELAY_NS (n : Nat) : Field := ⟨0x20130 + 4 * n, 0, 32, 0, .RO, .S, .HV⟩
/-- PTP_GM_LO (07_timekeeper). -/
def PTP_GM_LO_ID : Field := ⟨0x20140, 0, 32, 0, .RO, .S, .HV⟩
/-- PTP_GM_HI (07_timekeeper). -/
def PTP_GM_HI_ID : Field := ⟨0x20144, 0, 32, 0, .RO, .S, .HV⟩
/-- TXTS_HEAD (07_timekeeper). -/
def TXTS_HEAD_ID (n : Nat) : Field := ⟨0x20400 + 0x20 * n, 0, 16, 0, .RO, .V, .HV⟩
def TXTS_HEAD_LEVEL (n : Nat) : Field := ⟨0x20400 + 0x20 * n, 16, 6, 0, .RO, .V, .HV⟩
def TXTS_HEAD_OVF (n : Nat) : Field := ⟨0x20400 + 0x20 * n, 30, 1, 0, .W1C, .V, .HS⟩
def TXTS_HEAD_VALID (n : Nat) : Field := ⟨0x20400 + 0x20 * n, 31, 1, 0, .RO, .V, .HV⟩
/-- TXTS_SEC_LO (07_timekeeper). -/
def TXTS_SEC_LO (n : Nat) : Field := ⟨0x20404 + 0x20 * n, 0, 32, 0, .RO, .V, .HV⟩
/-- TXTS_SEC_HI (07_timekeeper). -/
def TXTS_SEC_HI (n : Nat) : Field := ⟨0x20408 + 0x20 * n, 0, 32, 0, .RO, .V, .HV⟩
/-- TXTS_NS (07_timekeeper). -/
def TXTS_NS (n : Nat) : Field := ⟨0x2040c + 0x20 * n, 0, 32, 0, .RC, .V, .HV⟩
/-- TXTS_LOST (07_timekeeper). -/
def TXTS_LOST_COUNT (n : Nat) : Field := ⟨0x20410 + 0x20 * n, 0, 32, 0, .RW, .V, .CT⟩
/-- CAL_DATE (07_timekeeper). -/
def CAL_DATE_YEAR : Field := ⟨0x20800, 0, 16, 0x7d0, .RO, .V, .HV⟩
def CAL_DATE_MONTH : Field := ⟨0x20800, 16, 4, 1, .RO, .V, .HV⟩
def CAL_DATE_DAY : Field := ⟨0x20800, 20, 5, 1, .RO, .V, .HV⟩
def CAL_DATE_WDAY : Field := ⟨0x20800, 25, 3, 6, .RO, .V, .HV⟩
/-- CAL_SET_DATE (07_timekeeper). -/
def CAL_SET_DATE_YEAR : Field := ⟨0x20810, 0, 16, 0x7d0, .RW, .S, .SW⟩
def CAL_SET_DATE_MONTH : Field := ⟨0x20810, 16, 4, 1, .RW, .S, .SW⟩
def CAL_SET_DATE_DAY : Field := ⟨0x20810, 20, 5, 1, .RW, .S, .SW⟩
def CAL_SET_DATE_WDAY : Field := ⟨0x20810, 25, 3, 6, .RO, .V, .HV⟩
/-- CAL_TIME (07_timekeeper). -/
def CAL_TIME_HOUR : Field := ⟨0x20804, 0, 5, 0, .RO, .V, .HV⟩
def CAL_TIME_MIN : Field := ⟨0x20804, 8, 6, 0, .RO, .V, .HV⟩
def CAL_TIME_SEC : Field := ⟨0x20804, 16, 6, 0, .RO, .V, .HV⟩
def CAL_TIME_DOY : Field := ⟨0x20804, 23, 9, 1, .RO, .V, .HV⟩
/-- CAL_SET_TIME (07_timekeeper). -/
def CAL_SET_TIME_HOUR : Field := ⟨0x20814, 0, 5, 0, .RW, .S, .SW⟩
def CAL_SET_TIME_MIN : Field := ⟨0x20814, 8, 6, 0, .RW, .S, .SW⟩
def CAL_SET_TIME_SEC : Field := ⟨0x20814, 16, 6, 0, .RW, .S, .SW⟩
def CAL_SET_TIME_DOY : Field := ⟨0x20814, 23, 9, 1, .RO, .V, .HV⟩
/-- CAL_OFFSET (07_timekeeper). -/
def CAL_OFFSET_SEC : Field := ⟨0x20808, 0, 16, 0, .RW, .A, .HV⟩
/-- CAL_LEAP (07_timekeeper). -/
def CAL_LEAP_DAYS : Field := ⟨0x2080c, 0, 18, 0, .RW, .A, .HV⟩
def CAL_LEAP_PENDING : Field := ⟨0x2080c, 18, 1, 0, .RW, .A, .HV⟩
def CAL_LEAP_DELETE : Field := ⟨0x2080c, 19, 1, 0, .RW, .A, .HV⟩
/-- CAL_CTL (07_timekeeper). -/
def CAL_CTL_SET : Field := ⟨0x20818, 0, 1, 0, .WO, .S, .HC⟩
def CAL_CTL_FROM_PTP : Field := ⟨0x20818, 1, 1, 1, .RW, .A, .SW⟩
/-- CAL_STATUS (07_timekeeper). -/
def CAL_STATUS_INVALID : Field := ⟨0x2081c, 0, 1, 0, .W1C, .A, .HS⟩
def CAL_STATUS_BLOCKED : Field := ⟨0x2081c, 1, 1, 0, .W1C, .A, .HS⟩
def CAL_STATUS_UNDERRANGE : Field := ⟨0x2081c, 2, 1, 0, .RO, .V, .HV⟩
def CAL_STATUS_OVERRANGE : Field := ⟨0x2081c, 3, 1, 0, .RO, .V, .HV⟩
def CAL_STATUS_LEAPNOW : Field := ⟨0x2081c, 4, 1, 0, .RO, .V, .HV⟩
/-- AON_RTC_LO (07_timekeeper). -/
def AON_RTC_LO : Field := ⟨0x20900, 0, 32, 0, .RO, .A, .HV⟩
/-- AON_RTC_HI (07_timekeeper). -/
def AON_RTC_HI : Field := ⟨0x20904, 0, 32, 0, .RO, .A, .HV⟩
/-- AON_RTC_SUB (07_timekeeper). -/
def AON_RTC_SUB : Field := ⟨0x20908, 0, 32, 0, .RO, .A, .HV⟩
/-- AON_ALARM_LO (07_timekeeper). -/
def AON_ALARM_LO_SEC : Field := ⟨0x20910, 0, 32, 0, .RW, .A, .SW⟩
/-- AON_ALARM_HI (07_timekeeper). -/
def AON_ALARM_HI_SEC : Field := ⟨0x20914, 0, 32, 0, .RW, .A, .SW⟩
/-- AON_ALARM_CTL (07_timekeeper). -/
def AON_ALARM_CTL_EN : Field := ⟨0x20918, 0, 1, 0, .RW, .A, .HK⟩
def AON_ALARM_CTL_FIRED : Field := ⟨0x20918, 1, 1, 0, .W1C, .A, .HS⟩
/-- TOUT_CTL (07_timekeeper). -/
def TOUT_CTL_MODE (n : Nat) : Field := ⟨0x21000 + 0x40 * n, 0, 2, 0, .RW, .I, .SW⟩
def TOUT_CTL_POL (n : Nat) : Field := ⟨0x21000 + 0x40 * n, 2, 1, 0, .RW, .I, .SW⟩
def TOUT_CTL_REALIGN (n : Nat) : Field := ⟨0x21000 + 0x40 * n, 3, 1, 0, .RW, .I, .SW⟩
def TOUT_CTL_QEISEL (n : Nat) : Field := ⟨0x21000 + 0x40 * n, 4, 2, 0, .RW, .I, .SW⟩
def TOUT_CTL_ARM (n : Nat) : Field := ⟨0x21000 + 0x40 * n, 6, 1, 0, .WO, .I, .HC⟩
/-- TOUT_LAST_SEC (07_timekeeper). -/
def TOUT_LAST_SEC (n : Nat) : Field := ⟨0x21020 + 0x40 * n, 0, 32, 0, .RO, .V, .HV⟩
/-- TOUT_LAST_NS (07_timekeeper). -/
def TOUT_LAST_NS (n : Nat) : Field := ⟨0x21024 + 0x40 * n, 0, 32, 0, .RO, .V, .HV⟩
/-- TOUT_STATUS (07_timekeeper). -/
def TOUT_STATUS_RUNNING (n : Nat) : Field := ⟨0x21028 + 0x40 * n, 0, 1, 0, .RO, .V, .HV⟩
def TOUT_STATUS_LATE (n : Nat) : Field := ⟨0x21028 + 0x40 * n, 1, 1, 0, .W1C, .V, .HS⟩
def TOUT_STATUS_BADCFG (n : Nat) : Field := ⟨0x21028 + 0x40 * n, 2, 1, 0, .W1C, .V, .HS⟩
/-- TCAP_CTL (07_timekeeper). -/
def TCAP_CTL_EN (n : Nat) : Field := ⟨0x21800 + 0x10 * n, 0, 1, 0, .RW, .I, .SW⟩
def TCAP_CTL_EDGE (n : Nat) : Field := ⟨0x21800 + 0x10 * n, 1, 2, 1, .RW, .I, .SW⟩
def TCAP_CTL_FILTER (n : Nat) : Field := ⟨0x21800 + 0x10 * n, 8, 8, 2, .RW, .I, .SW⟩
/-- TCAP_SEC (07_timekeeper). -/
def TCAP_SEC (n : Nat) : Field := ⟨0x21804 + 0x10 * n, 0, 32, 0, .RO, .V, .HV⟩
/-- TCAP_NS (07_timekeeper). -/
def TCAP_NS (n : Nat) : Field := ⟨0x21808 + 0x10 * n, 0, 32, 0, .RC, .V, .HV⟩
/-- TCAP_STATUS (07_timekeeper). -/
def TCAP_STATUS_LEVEL (n : Nat) : Field := ⟨0x2180c + 0x10 * n, 0, 4, 0, .RO, .V, .HV⟩
def TCAP_STATUS_OVF (n : Nat) : Field := ⟨0x2180c + 0x10 * n, 4, 1, 0, .W1C, .V, .HS⟩
def TCAP_STATUS_RISING (n : Nat) : Field := ⟨0x2180c + 0x10 * n, 5, 1, 0, .RO, .V, .HV⟩
/-- LG_CTL (07_timekeeper). -/
def LG_CTL_EN (g : Nat) : Field := ⟨0x22000 + 0x10 * g, 0, 1, 0, .RW, .I, .SW⟩
def LG_CTL_TARGET (g : Nat) : Field := ⟨0x22000 + 0x10 * g, 1, 4, 0, .RW, .I, .SW⟩
def LG_CTL_LEAD_US (g : Nat) : Field := ⟨0x22000 + 0x10 * g, 8, 8, 0x14, .RW, .I, .SW⟩
/-- LG_PERIOD_NS (07_timekeeper). -/
def LG_PERIOD_NS_NS (g : Nat) : Field := ⟨0x22004 + 0x10 * g, 0, 32, 0, .RW, .I, .SW⟩
/-- LG_PHASE_NS (07_timekeeper). -/
def LG_PHASE_NS_NS (g : Nat) : Field := ⟨0x22008 + 0x10 * g, 0, 32, 0, .RW, .I, .SW⟩
/-- LAUNCH_STAT (07_timekeeper). -/
def LAUNCH_STAT_PENDING : Field := ⟨0x22100, 0, 9, 0, .RO, .V, .HV⟩
def LAUNCH_STAT_FULL : Field := ⟨0x22100, 16, 8, 0, .RW, .V, .CT⟩
def LAUNCH_STAT_LATE : Field := ⟨0x22100, 24, 8, 0, .RW, .V, .CT⟩
/-- TOUT_START_SEC (07_timekeeper). -/
def TOUT_START_SEC (n : Nat) : Field := ⟨0x21004 + 0x40 * n, 0, 32, 0, .RW, .I, .SW⟩
/-- TOUT_START_NS (07_timekeeper). -/
def TOUT_START_NS (n : Nat) : Field := ⟨0x21008 + 0x40 * n, 0, 32, 0, .RW, .I, .SW⟩
/-- TOUT_PERIOD_NS (07_timekeeper). -/
def TOUT_PERIOD_NS (n : Nat) : Field := ⟨0x2100c + 0x40 * n, 0, 32, 0, .RW, .I, .SW⟩
/-- TOUT_WIDTH_NS (07_timekeeper). -/
def TOUT_WIDTH_NS (n : Nat) : Field := ⟨0x21010 + 0x40 * n, 0, 24, 0, .RW, .I, .SW⟩
/-- TOUT_COUNT (07_timekeeper). -/
def TOUT_COUNT (n : Nat) : Field := ⟨0x21014 + 0x40 * n, 0, 32, 0, .RW, .I, .SW⟩
/-- TOUT_QEI_CMP (07_timekeeper). -/
def TOUT_QEI_CMP (n : Nat) : Field := ⟨0x21018 + 0x40 * n, 0, 32, 0, .RW, .I, .SW⟩
/-- TOUT_QEI_STEP (07_timekeeper). -/
def TOUT_QEI_STEP (n : Nat) : Field := ⟨0x2101c + 0x40 * n, 0, 32, 0, .RW, .I, .SW⟩

/-- Where these registers lie, and the fields of each. -/
def groupsTime0 : List Group := [
  ⟨0x20000, [], fun _ _ _ => [TK_TIME_NS_NS, TK_TIME_NS_EPOCH, TK_TIME_NS_HOLDOVER]⟩,
  ⟨0x20004, [], fun _ _ _ => [TK_TIME_SEC_LO]⟩,
  ⟨0x20008, [], fun _ _ _ => [TK_TIME_SEC_HI]⟩,
  ⟨0x2000c, [], fun _ _ _ => [TK_TIME_FRAC]⟩,
  ⟨0x20010, [], fun _ _ _ => [TK_MONO_LO_NS]⟩,
  ⟨0x20014, [], fun _ _ _ => [TK_MONO_HI_NS]⟩,
  ⟨0x20018, [], fun _ _ _ => [TK_STATUS_SERVO, TK_STATUS_HOLDOVER, TK_STATUS_DEGRADED, TK_STATUS_STEPPED, TK_STATUS_RATE_LIMIT, TK_STATUS_DEFERRED]⟩,
  ⟨0x2001c, [], fun _ _ _ => [TK_RATE_PPT]⟩,
  ⟨0x20020, [], fun _ _ _ => [TK_STEP_SEC]⟩,
  ⟨0x20024, [], fun _ _ _ => [TK_STEP_NS]⟩,
  ⟨0x20028, [], fun _ _ _ => [TK_STEP_CTL_GO]⟩,
  ⟨0x2002c, [], fun _ _ _ => [TK_LAST_STEP_LO_NS]⟩,
  ⟨0x20030, [], fun _ _ _ => [TK_LAST_STEP_HI_NS]⟩,
  ⟨0x20034, [], fun _ _ _ => [TK_STEP_COUNT_COUNT]⟩,
  ⟨0x20038, [], fun _ _ _ => [TK_STEP_CFG_GAP_MS]⟩,
  ⟨0x20040, [], fun _ _ _ => [TK_SERVO_CFG_SLEW_PPM, TK_SERVO_CFG_MAXADJ_PPM, TK_SERVO_CFG_STEP_IN_LOCK, TK_SERVO_CFG_HOLD_AVG_S]⟩,
  ⟨0x20044, [], fun _ _ _ => [TK_SERVO_LIM_STEP_US, TK_SERVO_LIM_LOCK_NS]⟩,
  ⟨0x20048, [], fun _ _ _ => [TK_SERVO_OFS_NS]⟩,
  ⟨0x20100, [], fun _ _ _ => [PTP_CFG_MODE, PTP_CFG_PROFILE, PTP_CFG_UDP, PTP_CFG_PORT_EN, PTP_CFG_ONESTEP, PTP_CFG_SLAVE_ONLY, PTP_CFG_DOMAIN]⟩,
  ⟨0x20104, [], fun _ _ _ => [PTP_PRIO_PRIORITY1, PTP_PRIO_PRIORITY2, PTP_PRIO_LOG_SYNC, PTP_PRIO_LOG_ANNOUNCE, PTP_PRIO_LOG_PDELAY]⟩,
  ⟨0x20110, [(4, 4)], fun i _ _ => [PTP_PORT_STATE i, PTP_PORT_ASCAPABLE i]⟩,
  ⟨0x20120, [(4, 4)], fun i _ _ => [PTP_LAT_TX i, PTP_LAT_RX i]⟩,
  ⟨0x20130, [(4, 4)], fun i _ _ => [PTP_MEANDELAY_NS i]⟩,
  ⟨0x20140, [], fun _ _ _ => [PTP_GM_LO_ID]⟩,
  ⟨0x20144, [], fun _ _ _ => [PTP_GM_HI_ID]⟩,
  ⟨0x20400, [(0x20, 4)], fun i _ _ => [TXTS_HEAD_ID i, TXTS_HEAD_LEVEL i, TXTS_HEAD_OVF i, TXTS_HEAD_VALID i]⟩,
  ⟨0x20404, [(0x20, 4)], fun i _ _ => [TXTS_SEC_LO i]⟩,
  ⟨0x20408, [(0x20, 4)], fun i _ _ => [TXTS_SEC_HI i]⟩,
  ⟨0x2040c, [(0x20, 4)], fun i _ _ => [TXTS_NS i]⟩,
  ⟨0x20410, [(0x20, 4)], fun i _ _ => [TXTS_LOST_COUNT i]⟩,
  ⟨0x20800, [], fun _ _ _ => [CAL_DATE_YEAR, CAL_DATE_MONTH, CAL_DATE_DAY, CAL_DATE_WDAY]⟩,
  ⟨0x20810, [], fun _ _ _ => [CAL_SET_DATE_YEAR, CAL_SET_DATE_MONTH, CAL_SET_DATE_DAY, CAL_SET_DATE_WDAY]⟩,
  ⟨0x20804, [], fun _ _ _ => [CAL_TIME_HOUR, CAL_TIME_MIN, CAL_TIME_SEC, CAL_TIME_DOY]⟩,
  ⟨0x20814, [], fun _ _ _ => [CAL_SET_TIME_HOUR, CAL_SET_TIME_MIN, CAL_SET_TIME_SEC, CAL_SET_TIME_DOY]⟩,
  ⟨0x20808, [], fun _ _ _ => [CAL_OFFSET_SEC]⟩,
  ⟨0x2080c, [], fun _ _ _ => [CAL_LEAP_DAYS, CAL_LEAP_PENDING, CAL_LEAP_DELETE]⟩,
  ⟨0x20818, [], fun _ _ _ => [CAL_CTL_SET, CAL_CTL_FROM_PTP]⟩,
  ⟨0x2081c, [], fun _ _ _ => [CAL_STATUS_INVALID, CAL_STATUS_BLOCKED, CAL_STATUS_UNDERRANGE, CAL_STATUS_OVERRANGE, CAL_STATUS_LEAPNOW]⟩,
  ⟨0x20900, [], fun _ _ _ => [AON_RTC_LO]⟩,
  ⟨0x20904, [], fun _ _ _ => [AON_RTC_HI]⟩]

/-- Where these registers lie, and the fields of each. -/
def groupsTime1 : List Group := [
  ⟨0x20908, [], fun _ _ _ => [AON_RTC_SUB]⟩,
  ⟨0x20910, [], fun _ _ _ => [AON_ALARM_LO_SEC]⟩,
  ⟨0x20914, [], fun _ _ _ => [AON_ALARM_HI_SEC]⟩,
  ⟨0x20918, [], fun _ _ _ => [AON_ALARM_CTL_EN, AON_ALARM_CTL_FIRED]⟩,
  ⟨0x21000, [(0x40, 16)], fun i _ _ => [TOUT_CTL_MODE i, TOUT_CTL_POL i, TOUT_CTL_REALIGN i, TOUT_CTL_QEISEL i, TOUT_CTL_ARM i]⟩,
  ⟨0x21020, [(0x40, 16)], fun i _ _ => [TOUT_LAST_SEC i]⟩,
  ⟨0x21024, [(0x40, 16)], fun i _ _ => [TOUT_LAST_NS i]⟩,
  ⟨0x21028, [(0x40, 16)], fun i _ _ => [TOUT_STATUS_RUNNING i, TOUT_STATUS_LATE i, TOUT_STATUS_BADCFG i]⟩,
  ⟨0x21800, [(0x10, 16)], fun i _ _ => [TCAP_CTL_EN i, TCAP_CTL_EDGE i, TCAP_CTL_FILTER i]⟩,
  ⟨0x21804, [(0x10, 16)], fun i _ _ => [TCAP_SEC i]⟩,
  ⟨0x21808, [(0x10, 16)], fun i _ _ => [TCAP_NS i]⟩,
  ⟨0x2180c, [(0x10, 16)], fun i _ _ => [TCAP_STATUS_LEVEL i, TCAP_STATUS_OVF i, TCAP_STATUS_RISING i]⟩,
  ⟨0x22000, [(0x10, 8)], fun i _ _ => [LG_CTL_EN i, LG_CTL_TARGET i, LG_CTL_LEAD_US i]⟩,
  ⟨0x22004, [(0x10, 8)], fun i _ _ => [LG_PERIOD_NS_NS i]⟩,
  ⟨0x22008, [(0x10, 8)], fun i _ _ => [LG_PHASE_NS_NS i]⟩,
  ⟨0x22100, [], fun _ _ _ => [LAUNCH_STAT_PENDING, LAUNCH_STAT_FULL, LAUNCH_STAT_LATE]⟩,
  ⟨0x21004, [(0x40, 16)], fun i _ _ => [TOUT_START_SEC i]⟩,
  ⟨0x21008, [(0x40, 16)], fun i _ _ => [TOUT_START_NS i]⟩,
  ⟨0x2100c, [(0x40, 16)], fun i _ _ => [TOUT_PERIOD_NS i]⟩,
  ⟨0x21010, [(0x40, 16)], fun i _ _ => [TOUT_WIDTH_NS i]⟩,
  ⟨0x21014, [(0x40, 16)], fun i _ _ => [TOUT_COUNT i]⟩,
  ⟨0x21018, [(0x40, 16)], fun i _ _ => [TOUT_QEI_CMP i]⟩,
  ⟨0x2101c, [(0x40, 16)], fun i _ _ => [TOUT_QEI_STEP i]⟩]

/-- Every register of this file. -/
def groupsTime : List Group := groupsTime0 ++ groupsTime1

end Sys2Proof.Machine.Reg
end

