-- ==== Sys2Proof/Machine/RegTable.lean ====
section
/-! DEFINITION. The register space as a whole (R84): every register, the register at an address, and the island an address
belongs to. -/

namespace Sys2Proof.Machine

/-- The indices of an offset in an array of registers. -/
def splitIndex : List (Nat × Nat) → Nat → Option (List Nat)
  | [], off => if off = 0 then some [] else none
  | (stride, count) :: ds, off =>
    if off / stride < count then (splitIndex ds (off % stride)).map (off / stride :: ·) else none

/-- The fields of the register at an address, if the group has one there. -/
def Group.at? (g : Group) (addr : Nat) : Option (List Field) :=
  if addr < g.base then none
  else (splitIndex g.dims (addr - g.base)).map fun ix =>
    g.fields (ix.getD 0 0) (ix.getD 1 0) (ix.getD 2 0)

/-- Every register of the device (R84). -/
def allGroups : List Group :=
  Reg.groupsSystem ++ Reg.groupsTime ++ Reg.groupsIntake ++ Reg.groupsMemory ++ Reg.groupsQueue ++ Reg.groupsEngine ++
    Reg.groupsSafety ++ Reg.groupsBus ++ Reg.groupsSteward

/-- The fields of the register at an address; none for a reserved address (R9, R84). -/
def fieldsAt (addr : Nat) : List Field := (allGroups.findSome? (·.at? addr)).getD []

/-- The field that has a store key. -/
def fieldOfKey (k : Nat) : Option Field := (fieldsAt (k / 32)).find? (·.lsb == k % 32)

/-- The island whose reset clears the V fields at an address and re-applies its I fields (R12, R14, R110); none for the parts
of the Fabric block that belong to no single node. -/
def islandOf (a : Nat) : Option Nat :=
  if a < 0x10000 then some 0x01 else if a < 0x20000 then some 0x01
  else if a < 0x30000 then some 0x02 else if a < 0x40000 then some 0x03 else if a < 0x50000 then some 0x04
  else if 0x100000 ≤ a ∧ a < 0x180000 then some (0x10 + (a - 0x100000) / 0x10000)
  else if 0x180000 ≤ a ∧ a < 0x1C0000 then some (0x18 + (a - 0x180000) / 0x10000)
  else if 0x200000 ≤ a ∧ a < 0x210000 then some 0x05
  else if 0x210000 ≤ a ∧ a < 0x220000 then some 0x06
  else if 0x220100 ≤ a ∧ a < 0x220160 then some (0x20 + (a - 0x220100) / 4)
  else if 0x221000 ≤ a ∧ a < 0x221600 then some (0x20 + (a - 0x221000) / 0x40)
  else if 0x222000 ≤ a ∧ a < 0x222300 then some (0x20 + (a - 0x222000) / 0x20)
  else if 0x228400 ≤ a ∧ a < 0x229C00 then some (0x20 + (a - 0x228400) / 0x100)
  else if 0x22A000 ≤ a ∧ a < 0x22D000 then some (0x20 + (a - 0x22A000) / 0x200)
  else if 0x220000 ≤ a ∧ a < 0x230000 then none
  else if 0x230000 ≤ a ∧ a < 0x290000 then some (0x40 + (a - 0x230000) / 0x10000)
  else if 0x300000 ≤ a ∧ a < 0x340000 then some 0x48
  else if 0x340000 ≤ a ∧ a < 0x360000 then some 0x49
  else if 0x360000 ≤ a ∧ a < 0x370000 then some 0x4A
  else if 0x370000 ≤ a ∧ a < 0x380000 then some 0x4B
  else if 0x380000 ≤ a ∧ a < 0x3B0000 then some 0x01
  else if 0x3B0000 ≤ a ∧ a < 0x3C0000 then some 0x02
  else none

end Sys2Proof.Machine
end

