-- ==== Sys2Proof/Machine/StateEngine.lean ====
section
/-! DEFINITION. The memories of the engines and the Gleaner's slots (chapters 15, 18 and 19). -/

namespace Sys2Proof.Machine

/-- The local memories by column (R401): pasture of engines 0 to 7, cluster memory of columns 8 to 11, table memory of the Gleaner in
column 12 (slot A in its lower 4 MiB, slot B above). An unlisted byte reads 0 (DESIGN CHOICE: the spec gives no contents after
power-on). `bad` lists the 32-byte words that hold an uncorrectable error (R446, R527), by `2^20 · column + word`. -/
structure Locals where
  mem : Sparse (Sparse Byte) := []
  bad : Sparse Bool := []
  deriving DecidableEq, Repr

/-- The Gleaner beside its registers: the active slot (0 none, 1 A, 2 B), the header of the index in each VALID slot (log 81), the
greatest GEN either slot has held (R549), the slots under a hash or a check and its stage (0 hashed for a reload, 1 checked, 2 checked
after a reload), the slots whose table memory is to be copied again, and the commands that hold a slot (queue, count, slot). -/
structure Gleaner where
  active : Nat := 0
  heads : Sparse Bytes := []
  greatest : Option Nat := none
  loading : List (Nat × Nat) := []
  copy : List Nat := []
  users : List (Nat × Nat × Nat) := []
  deriving DecidableEq, Repr

end Sys2Proof.Machine
end

