-- ==== Sys2Proof/Machine/StateFabric.lean ====
section
/-! DEFINITION. The state behind the memory controllers, the fabric and the weevil probes (chapters 10 to 12). -/

namespace Sys2Proof.Machine

/-- A request, or a piece of one (R317), that its initiator port has issued. `init` is the initiator's PID, `tgt` the target's
(127 for a SYNC to MEM), `oc` the ordering class, `kind` 0 read, 1 write, 2 SYNC, `tag` its tag slot, `whole` the request it
belongs to and `last` whether it is that request's last piece, `data` the payload of a write and then the data of the answer,
`start` the MONO time its timer started. `stage` is 0 while its node holds it (R343), 1 once forwarded to the target, 2 once the
target or its node has answered; `done` whether the target has performed it. `arrived`: an answer stands at the port;
`delivered`: it has been handed on; `quar`: the tag slot is in quarantine (R334); `orphan`: its initiator was reset (R345). `cw` is the ring
it goes by (R322), `zr` whether its payload stands zero-run coded (R311). A request of a reserved TYPE has that TYPE, 6 to 15, as its `kind`
(R316). -/
structure Piece where
  init : Nat
  tgt : Nat
  oc : Nat
  kind : Nat
  tid : Nat
  addr : Nat
  len : Nat
  tag : Nat
  whole : Nat
  last : Bool
  rt : Bool
  data : Bytes := []
  start : Nat
  stage : Nat := 1
  done : Bool := false
  status : Nat := 0
  arrived : Bool := false
  delivered : Bool := false
  quar : Bool := false
  orphan : Bool := false
  cw : Bool := true
  zr : Bool := false
  deriving DecidableEq, Repr

/-- A request whose pieces are being put together (R317), and the last one handed to an initiator's island: status, POISON
and data. -/
structure Whole where
  status : Nat := 0
  poison : Bool := false
  data : Bytes := []
  deriving DecidableEq, Repr

/-- The fabric beside its registers: pieces in issue order, requests being put together, the next request number, the last
answer of each initiator, TONOTEs on their way to a target's node, the run of failed replays of each link (key 3·link + ring), and the MONO
time of the last fence. -/
structure Fabric where
  pieces : List Piece := []
  wholes : Sparse Whole := []
  next : Nat := 0
  answers : Sparse Whole := []
  notes : List Nat := []
  fails : Sparse Nat := []
  fencedAt : Nat := 0
  deriving DecidableEq, Repr

/-- The memory controllers beside their registers: channels at or above 85 °C (R296), the MONO time of each pending retraining
request (R298), the place of each controller's patrol scrub and the MONO time its pass began (R299), the errors that stand in units and that no read
has met, by unit number (R293), and the number of each channel's last refresh shadow, counted from 1 (R297). -/
structure MemCtl where
  hot : List Nat := []
  retrainAt : Sparse Nat := []
  patrol : Sparse Nat := []
  patrolFrom : Sparse Nat := []
  faulty : Sparse Nat := []
  shadow : Sparse Nat := []
  deriving DecidableEq, Repr

/-- The probes beside their configuration: the live and the readable bank of counters (R352) by field key, each probe's FIFO of
128-bit trace records and the records lost since its last LOSS (R361), the collector (R363) with its losses, the last record the
trace port sent, the MONO time of the last window tick, MONO[31] at the last SYNC, and the probes whose trace has started (R361). -/
structure Probes where
  live : RegStore := []
  bank : RegStore := []
  fifo : Sparse (List Nat) := []
  lost : Sparse Nat := []
  collector : List Nat := []
  collectorLost : Nat := 0
  port : Option Nat := none
  lastTick : Nat := 0
  syncBit : Nat := 0
  on : List Nat := []
  deriving DecidableEq, Repr

end Sys2Proof.Machine
end

