-- ==== Sys2Proof/Machine/StateIntake.lean ====
section
/-! DEFINITION. The state behind the Intake's registers (chapters 8 and 9): buffers, frames, samples, batch queues, the cache,
triggers, exposure commits and CCI transactions. -/

namespace Sys2Proof.Machine

/-- A buffer of the pool: its first granule, its granules, and whether they are borrowed (R238). -/
structure Buf where
  start : Nat
  size : Nat
  borrowed : Bool
  deriving DecidableEq, Repr

/-- A frame between its FS and its descriptor, and the sample it becomes. `lines` are the stored lines (R232); `marks` are the
reason codes 1 to 3 that hold of it (R226 to R228, R234); `trig` is the TS64 of its matched trigger; `sent` lines are those a
sensor sends (SRC 1); `scan` is a JPEG payload not yet decoded. `open_` is the unit and virtual channel, `2 ^ 8` and above a
GVSP frame. -/
structure Frame where
  stream : Nat
  chan : Nat
  sid : Nat
  fs : Nat
  fe : Nat := 0
  fsMono : Nat
  expgen : Nat := 0
  trig : Option Nat := none
  expE : Nat := 0
  buf : Option Buf := none
  width : Nat
  height : Nat
  fmt : Nat
  lines : List Bytes := []
  marks : List Nat := []
  srcSeq : Nat := 0
  sentLines : List Bytes := []
  extra : Nat := 0
  sentWord : Nat := 0
  lastPkt : Nat := 0
  jpeg : Bool := false
  scan : Option Bytes := none
  prep : Nat := 0
  group : Nat := 0
  cached : Bool := false
  deriving DecidableEq, Repr

/-- A sample in a batch queue or taken by a consumer: its descriptor (R249), its buffer, the ring slot it lies in, and whether it
is a replay. -/
structure Sample where
  stream : Nat
  sid : Nat
  fsMono : Nat
  desc : Bytes
  buf : Option Buf
  slot : Nat
  replay : Bool
  deriving DecidableEq, Repr

/-- A GVSP block in reception (R229 to R231): `ptype` is its payload type, `packets` its payload packets by packet ID, and
`trailer` the trailer's packet ID, RX stamp and MONO time. -/
structure Block where
  stream : Nat
  filter : Nat
  blockId : Nat
  ptype : Nat
  frame : Frame
  packets : Sparse Bytes := []
  trailer : Option (Nat × Nat × Nat) := none
  deriving DecidableEq, Repr

/-- A cache entry (R256 to R259): the encoded scan of each frame, the frame it belongs to and its NEAR; the code lies in the cache region. -/
structure CacheEntry where
  sid : Nat
  near : Nat
  frame : Frame
  code : Bytes
  deriving DecidableEq, Repr

/-- A pending replay: SID, profile, group. -/
structure Replay where
  sid : Nat
  prep : Nat
  group : Nat
  deriving DecidableEq, Repr

/-- A trigger waiting for its frame start (R262, R263). -/
structure Trigger where
  ts : Nat
  mono : Nat
  deriving DecidableEq, Repr

/-- A commit (R268 to R270): its EXPGEN, its instant on MONO, AE_ECUR at it, the frames counted towards LAT, whether it has
applied, and whether a trigger issued after it was missed before it applied. -/
structure Commit where
  gen : Nat
  mono : Nat
  e : Nat
  count : Nat := 0
  applied : Bool := false
  missed : Bool := false
  deriving DecidableEq, Repr

/-- A CCI transaction (R266): bus, stream, the MONO time of its GO and its I2C writes, each the bytes from the target address
on. An automatic one holds the DATA word that its request replaced (R274). -/
structure Cci where
  bus : Nat
  stream : Nat
  goAt : Nat
  writes : List Bytes
  auto : Option Nat := none
  deriving DecidableEq, Repr

/-- What AUTO_EXPOSURE needs of a statistics record (R272). -/
structure StatRec where
  expgen : Nat
  sum : Nat
  pixels : Nat
  flags : Nat
  deriving DecidableEq, Repr

/-- An earlier take of a consumer queue, whose commands are those before the SQ index `upto` (R241). -/
structure PastTake where
  q : Nat
  upto : Nat
  samples : List Sample
  deriving DecidableEq, Repr

/-- The Intake beside its registers. `open_` holds frames in reception, `closed` frames that wait for their descriptor, `queues`
the batch queues by group, `slotNext` the ring slot after the last one written, `lowArmed` the groups whose LOW may be set again
(R252), `takes` the current take of each consumer queue and `past` earlier takes whose commands have not all completed, `gvMap` the streams
of wildcard sources (filter, source address, stream), `gvEnded` the last blocks of each stream that are over, and `lastFrame`
the MONO time of each stream's last frame (R174). `csiJoined` and `gvJoined` are the units and filters that have joined (R166), `cacheNext` is
where in the cache region the next entry goes, `prepTo` is when the prepare stage has done what has arrived, in 1/8 ns of MONO (R245), and
`cciWire` the I2C writes of each master's last transaction as they went out (R267). -/
structure Intake where
  open_ : List Frame := []
  closed : List Frame := []
  blocks : List Block := []
  queues : Sparse (List Sample) := []
  slotNext : Sparse Nat := []
  lowArmed : List Nat := []
  takes : Sparse (List Sample) := []
  gvMap : List (Nat × Nat × Nat) := []
  gvEnded : Sparse (List Nat) := []
  csiJoined : List Nat := []
  gvJoined : List Nat := []
  cacheNext : Nat := 0
  prepTo : Nat := 0
  past : List PastTake := []
  cciWire : Sparse (List Bytes) := []
  lastFrame : Sparse Nat := []
  cache : List CacheEntry := []
  encoding : List Frame := []
  replays : List Replay := []
  triggers : Sparse (List Trigger) := []
  commits : Sparse (List Commit) := []
  cci : List Cci := []
  stats : Sparse StatRec := []
  deriving DecidableEq, Repr

end Sys2Proof.Machine
end

