-- ==== Sys2Proof/Machine/StateIo.lean ====
section
/-! DEFINITION. The state behind the CAN controllers, the Ethernet ports, the motor outputs, the joint sensors and the
decision comparator (chapters 20 and 23 to 25). -/

namespace Sys2Proof.Machine

/-- A frame of a motor output (R692 to R696): its template's kind (0 GO, 1 SAFE, 2 IDLE, 3 OVR), the actuator whose safe
reaction replaces it, and for a GO frame the DCOMPARE that booked it (queue and count) with its parcel. -/
structure MotorFrame where
  mo : Nat
  kind : Nat
  act : Nat := 0xFF
  q : Nat := 0
  idx : Nat := 0
  pseq : Nat := 0
  deriving DecidableEq, Repr

/-- A CAN transmit request (R664 to R668): `rank` is its group in R666 (1 safe and idle templates, 2 the leaving frame, 3 every
other), `ready` once its launch instant has come, `start` is L on MONO and `close` the end of its window, `begun` once an
attempt has begun; `q` and `idx` name the CANTX of a frame that is not a motor frame. -/
structure CanReq where
  ctrl : Nat
  obj : Nat
  rank : Nat
  ready : Bool
  start : Nat
  close : Option Nat
  begun : Bool := false
  q : Nat := 0
  idx : Nat := 0
  motor : Option MotorFrame := none
  deriving DecidableEq, Repr

/-- A frame a controller has on the wire: its object, the TS64 of its SOF, and MONO at its start bit where this is the request's
first attempt. -/
structure CanWire where
  obj : Nat
  sof : Nat
  first : Option Nat := none
  deriving DecidableEq, Repr

/-- An entry of the CAN peer table (R174, R658). -/
structure Peer where
  ctrl : Nat
  id : Nat
  xtd : Bool
  pinned : Bool
  seen : Nat
  present : Bool := true
  deriving DecidableEq, Repr

/-- A shadow of a message object (R660). -/
structure CanShadow where
  hdr0 : Nat := 0
  hdr1 : Nat := 0
  stamp : Nat := 0
  valid : Bool := false
  newdat : Bool := false
  lost : Bool := false
  empty : Bool := false
  esi : Bool := false
  data : List Nat := []
  deriving DecidableEq, Repr

/-- The stamp word of an object (R655). -/
structure ObjStamp where
  sof : Nat := 0
  esi : Bool := false
  deriving DecidableEq, Repr

/-- The CAN controllers beside their registers. `good` counts the frames received without an error by a controller that joins
restricted, and `joinR` are those controllers (R674). -/
structure Can where
  reqs : List CanReq := []
  wire : Sparse CanWire := []
  stamps : Sparse ObjStamp := []
  peers : List Peer := []
  shadows : Sparse CanShadow := []
  good : Sparse Nat := []
  joinR : List Nat := []
  deriving DecidableEq, Repr

/-- A frame held in the packet buffer (R704 to R711): `group` is its group in R709 (1 safe and idle templates, 2 launched,
3 queued), `ready` once its launch instant has come, `account` the account charged for `cells` cells. -/
structure EthFrame where
  handle : Nat
  port : Nat
  queue : Nat
  bytes : Bytes
  account : Nat
  cells : Nat
  group : Nat
  ready : Bool
  start : Nat
  close : Option Nat
  tsreq : Bool := false
  tsid : Nat := 0
  q : Nat := 0
  idx : Nat := 0
  motor : Option MotorFrame := none
  deriving DecidableEq, Repr

/-- A GVSP packet steered to the Intake (R700): port, UDP payload, source and destination addresses and ports, stamp. -/
structure GvPacket where
  port : Nat
  udp : Nat
  srcIp : Nat
  dstIp : Nat
  srcPort : Nat
  cells : Nat
  payload : Bytes
  stamp : Nat
  mono : Nat
  deriving DecidableEq, Repr

/-- The Ethernet ports beside their registers: frames to send in entry order, the next handle, TRAIN attempts since UP and the
MONO time of the entry to DOWN or TRAIN (R712), the frames each receive queue has written (R702), the MONO times of drops from UP, GVSP packets on their way to the
Intake, the bytes of the last frame each port sent, and the stamp on MONO of the last Pdelay_Req each port received (R194). -/
structure Eth where
  frames : List EthFrame := []
  next : Nat := 0
  attempts : Sparse Nat := []
  since : Sparse Nat := []
  rxCount : Sparse Nat := []
  drops : Sparse (List Nat) := []
  gv : List GvPacket := []
  wire : Sparse Bytes := []
  pdelayReq : Sparse Nat := []
  deriving DecidableEq, Repr

/-- A joint-sensor port: the MONO time and TS64 of the last GOOD frame, and the start of the frame in progress. -/
structure Jsp where
  good : Option Nat := none
  frame : Option (Nat × Nat) := none
  busyUntil : Nat := 0
  deriving DecidableEq, Repr

/-- The JSP/QEI island beside its registers: ports, the stamp and the index capture of each QEI (R691), and the count of QEI0
at DOZE entry (R147). -/
structure Joint where
  ports : Sparse Jsp := []
  qeiStamp : Sparse Nat := []
  qeiIndex : Sparse Nat := []
  dozeCount : Nat := 0
  deriving DecidableEq, Repr

/-- A pending DCOMPARE (R580, R590): its queue and count, stream, actuator, lane, parcel, outcome record address, launch
instant and release time as TS64, and the motor outputs whose frame has not started. -/
structure Decision where
  q : Nat
  idx : Nat
  stream : Nat
  act : Nat
  lane : Nat
  pseq : Nat
  dst : Nat
  launchTs : Nat
  releaseTs : Nat
  waiting : List Nat
  sof : Option Nat := none
  deriving DecidableEq, Repr

/-- An entry of the sentinel table (R575). -/
structure SentEntry where
  sid : Nat := 0
  pass : Bool := false
  deriving DecidableEq, Repr

/-- The Safety island beside its registers: the sentinel table, the pending DCOMPAREs, a violation or reaction, and a sentinel
failure of an arming stream, in this major cycle (R81, R282), boundaries without a self-check (R589), the run of mismatched read-backs (R588), the MONO of the last edge of SAFE_A, SAFE_B or MINH_N
(R586, R588), and the streams
whose DCMP_CONSEC and the Intake streams whose SENT_STREAM stands raised (R281, R578). -/
structure Safety where
  sent : Sparse SentEntry := []
  pending : List Decision := []
  dirty : Bool := false
  dirtySent : Bool := false
  selfMissed : Nat := 0
  selfRun : Bool := false
  fbRun : Nat := 0
  edgeAt : Option Nat := none
  consecRaised : List Nat := []
  sentRaised : List Nat := []
  deriving DecidableEq, Repr

end Sys2Proof.Machine
end

