-- ==== Sys2Proof/Machine/StateSched.lean ====
section
/-! DEFINITION. Ledgers and references (13.8, 13.9), and the state behind the rotation, the flocks, the Shepherd and the group
barrier (chapters 14, 21 and 22). -/

namespace Sys2Proof.Machine

/-- The approximation ledger (R392). -/
structure Ledger where
  stages : Nat := 0
  kvErr : Nat := 0
  selMass : Nat := 0
  jlsErr : Nat := 0
  pwlErr : Nat := 0
  pqErr : Nat := 0
  scanned : Nat := 0
  probed : Nat := 0
  deriving DecidableEq, Repr

/-- A sample reference (R390); the reference "none" is all ones with FE 0. -/
structure Ref where
  sid : Nat := 0xFFFFFFFFFFFFFFFF
  fe : Nat := 0
  deriving DecidableEq, Repr

/-- A claim in force (R402): its rotation entry, kind (0 FIXED, 1 HEAD, 2 CHAIN, 3 MAINT), group, columns, queue, and its end on
MONO; `held` once it has ended while commands of its queue run (R411). -/
structure Claim where
  entry : Nat
  kind : Nat
  group : Nat
  cols : Nat
  q : Nat
  ends : Nat
  held : Bool := false
  deriving DecidableEq, Repr

/-- The rotation (14.3): the first boundary on MONO, the boundaries passed, the claims in force, the armed CHAINs by entry, and the
tick in which each entry last came up. -/
structure Rotation where
  first : Nat := 0
  passed : Nat := 0
  claims : List Claim := []
  armed : List Nat := []
  seen : Sparse Nat := []
  deriving DecidableEq, Repr

/-- A maintenance request taken (R431, R616): `req` is the queue of a class 0x6 request, or 1,024 + controller for a retraining
request of a controller (R298); `claim` the MAINT entry that took it, 4,096 for a forced one; `col` its column;
`lbist` tells an LBIST. -/
structure MaintRun where
  req : Nat
  idx : Nat := 0
  claim : Nat
  col : Nat
  running : Bool := false
  lbist : Bool := false
  deriving DecidableEq, Repr

/-- An engine step (R418 to R430): its flock, column and number, its sequences (table index, tokens), the next command of the step
list, whether it is paused, its start on MONO, the ledger and reference collected, the error that abandons it, and the statuses of
sequences that met a sequence fault (R518). -/
structure EngineStep where
  flock : Nat
  col : Nat
  no : Nat
  seqs : List (Nat × Nat)
  next : Nat := 0
  paused : Bool := false
  start : Nat
  led : Ledger := {}
  ref : Ref := {}
  status : Nat := 0
  faults : List (Nat × Nat) := []
  deriving DecidableEq, Repr

/-- A sequence entry that is not FREE: table index, flock, the queue and count of its request, and the MONO time it became QUEUED,
in the order they became QUEUED (R424). Its state lies in the sequence table (R417). -/
structure SeqRef where
  idx : Nat
  flock : Nat
  q : Nat
  cmd : Nat
  queuedAt : Nat
  deriving DecidableEq, Repr

/-- An open instance of a WIN task (R601): its reference instant, the completions still to come, whether a command has started,
the busy time of closed runs and the start of the run in progress, the violations raised, and whether it is judged with zero
limits (R621). -/
structure Instance where
  ref : Nat
  left : Nat
  started : Bool := false
  busy : Nat := 0
  runSince : Option Nat := none
  raised : List Nat := []
  zero : Bool := false
  deriving DecidableEq, Repr

/-- The Shepherd beside its registers: open instances by queue, the MONO time from which each heartbeat interval counts, the MONO
time of the last heartbeat, and the queues with a TASK injection pending. -/
structure Shepherd where
  inst : Sparse Instance := []
  hbFrom : Sparse Nat := []
  hbLast : Sparse Nat := []
  inject : List Nat := []
  deriving DecidableEq, Repr

/-- The group barrier (22.7, 22.8): whether the device stands at the barrier point, and since when on MONO; the index of the last
boundary for which a marker was sent, received or missed. -/
structure Msync where
  atPoint : Bool := false
  point : Nat := 0
  marked : Nat := 0
  deriving DecidableEq, Repr

end Sys2Proof.Machine
end

