-- ==== Sys2Proof/Machine/StateTime.lean ====
section
/-! DEFINITION. The state behind the Timekeeper's registers (chapter 7). -/

namespace Sys2Proof.Machine

/-- Device time and MONO in units of 2^-16 ns (R179, R183); `acc` is the part of the next unit already run, in 1/(5·10^12)
of a unit, so that the accumulated advance is exact; `rtcAcc` is
the part of the next 1/32768 s of the AON real-time clock, in 10^-10; `alarmAt` is that clock's second in which the alarm was last set
(R223); `lastShown` is the second of the day that the calendar shows past its range (R218). -/
structure Time where
  dev : Nat := 0
  mono : Nat := 0
  acc : Nat := 0
  rtcAcc : Nat := 0
  alarmAt : Option Nat := none
  lastShown : Nat := 86399
  deriving DecidableEq, Repr

/-- A foreign master heard on a port (R174, R192), with the MONO time of its last Announce. -/
structure Foreign where
  port : Nat
  msg : Announce
  heard : Nat
  deriving DecidableEq, Repr

/-- The configuration of a timed output in force (R201) and the edge it waits for: `edge` counts the edges behind it, `due`
is the next edge on MONO in CARRY and in device ns in REALIGN; `cmp` is the compare count in force; `until_` is the MONO
time at which its last pulse ends, WIDTH_NS after its leading edge. -/
structure Tout where
  mode : Nat := 0
  realign : Bool := false
  qei : Nat := 0
  period : Nat := 0
  width : Nat := 0
  count : Nat := 0
  edge : Nat := 0
  due : Nat := 0
  cmp : Nat := 0
  step : Nat := 0
  until_ : Nat := 0
  deriving DecidableEq, Repr

/-- A TX stamp (R196): the descriptor's ID and the TS80. -/
structure TxStamp where
  id : Nat
  sec : Nat
  nsWord : Nat
  deriving DecidableEq, Repr

/-- A capture (R206): its TS64 and its polarity. -/
structure Capture where
  stamp : Nat
  rising : Bool
  deriving DecidableEq, Repr

/-- A launch-table entry (R209): the controller (0 to 7 CAN, 8 to 11 ETH), its instant on MONO in ns, and the requester:
`kind` 0 a CAN request of object `ref`, 1 an Ethernet frame of handle `ref`, 2 an instant of motor output `ref`. -/
structure LaunchEntry where
  ctrl : Nat
  at_ : Nat
  kind : Nat
  ref : Nat
  deriving DecidableEq, Repr

/-- An armed launch grid on MONO (R210): one instant and the period, in ns. -/
structure Grid where
  first : Nat := 0
  period : Nat := 0
  deriving DecidableEq, Repr

/-- The last PTP message a port sent of a kind (R192, R194): the time in ns it carries (its origin, receipt or response time), its
correction, and whether its UDP checksum was set to 0. `count` counts the messages sent. -/
structure PtpSent where
  count : Nat := 0
  origin : Nat := 0
  correction : Nat := 0
  udpZero : Bool := false
  deriving DecidableEq, Repr

/-- What the Timekeeper holds beside its registers: the MONO time of the last step (R184), a deferred step, the Syncs in a row
within LOCK_NS (R188), the rates recorded in LOCKED (R190), the parent port and its Announce, ports that report delay
measurements, foreign masters, peer-delay neighbours and missed responses, timed outputs in force, capture FIFOs, TX stamp
queues, the launch table, the armed grids, the last message sent per
port and kind (key 16·port + kind), and the MONO time of the parent's last Sync. -/
structure Tk where
  lastStep : Option Nat := none
  deferred : Option Int := none
  lockRun : Nat := 0
  rates : List (Nat × Int) := []
  parent : Option Nat := none
  parentMsg : Option Announce := none
  delaySeen : List Nat := []
  foreign : List Foreign := []
  neighbour : Sparse Nat := []
  missed : Sparse Nat := []
  tout : Sparse Tout := []
  tcap : Sparse (List Capture) := []
  txts : Sparse (List TxStamp) := []
  launch : List LaunchEntry := []
  grids : Sparse Grid := []
  sent : Sparse PtpSent := []
  lastSync : Option Nat := none
  deriving DecidableEq, Repr

end Sys2Proof.Machine
end

