-- ==== Sys2Proof/Machine/State.lean ====
section
/-! DEFINITION. The state of the block: every register (one sparse store), the state behind the registers, the memories, the
pins, and the queue of waiting commands. `State.reset` is the block right after reset. -/

namespace Sys2Proof.Machine

/-- The reasons the block may stop with a fault. No command of this model raises one: every command of the table has an
effect, or the effect of being turned away. -/
inductive Fault where
  /-- Never raised; safe. -/
  | none
  deriving DecidableEq, Repr

/-- The reasons the model may decline a command. -/
inductive Refusal where
  /-- Raised by an arm of `exec` whose meaning is not written yet; safe. -/
  | notModelled (mnemonic : String)
  deriving DecidableEq, Repr

/-- The answer of the last register or memory access: status code (R20) and data. -/
structure Answer where
  status : Nat := 0
  data : Nat := 0
  deriving DecidableEq, Repr

/-- What is fused into the part (R1, R5): grade 0 CT8100, 1 CT8060, 2 CT8040; stepping 0 A2, 1 B1; temperature range 0 -C,
1 -I; the physical engine of each logical engine (R110). -/
structure Fuse where
  grade : Nat
  stepping : Nat
  temp : Nat
  physical : List Nat
  deriving DecidableEq, Repr

/-- The sampled straps (R45, R783). -/
structure Straps where
  bootmode : Nat := 0
  chipaddr : Nat := 0
  hostlink : Bool := false
  testmode : Bool := false
  deriving DecidableEq, Repr

/-- An event: value, ledger and reference (R386). -/
structure Event where
  value : Nat := 0
  led : Ledger := {}
  ref : Ref := {}
  deriving DecidableEq, Repr

/-- The command at the head of a queue, fetched and checked (R382): its 64 bytes. -/
structure Head where
  cmd : Bytes
  deriving DecidableEq, Repr

/-- A command started and whose completion is not yet written (R384, R389). `idx` is its count in the queue, `unit` the
column or other unit it runs on, `wait` 0 for a command whose execution is over, 1 blocked WAIT, 2 REGPOLL, 3 a request
waiting for its launch or its transmission, 4 a pending maintenance request, 5 a maintenance request taken, 6 a request of a
flock; `stop` is
the TS64 of its end where the end precedes the completion's turn, 0 where the command ends when its completion is written;
`late` once SRV_OVERRUN has been raised for it (R412). -/
structure Flight where
  q : Nat
  idx : Nat
  cmd : Bytes
  unit : Nat
  start : Nat
  startMono : Nat
  wait : Nat := 0
  status : Nat := 0
  fetchErr : Bool := false
  preempted : Bool := false
  stop : Nat := 0
  late : Bool := false
  led : Ledger := {}
  ref : Ref := {}
  inhLed : Ledger := {}
  inhRef : Ref := {}
  aux : Nat := 0
  deriving DecidableEq, Repr

/-- What the Drover holds for the queues beside their registers (R378, R386, R389, R393, R394): `cqFailed` are the queues whose
completion is to be written again (R391), `unbinding` those whose commands in flight end before they read UNBOUND (R372),
`served` the engine time by tenant, and by 1,024 + flock (R414). -/
structure Drover where
  heads : Sparse Head := []
  flights : List Flight := []
  carriedLed : Sparse Ledger := []
  carriedRef : Sparse Ref := []
  events : Sparse Event := []
  ndSeen : Sparse Nat := []
  irqCount : Sparse Nat := []
  irqOldest : Sparse Nat := []
  cqFailed : List Nat := []
  unbinding : List Nat := []
  served : Sparse Nat := []
  rot : Rotation := {}
  maint : List MaintRun := []
  steps : List EngineStep := []
  stepNo : Sparse Nat := []
  seqs : List SeqRef := []
  deriving DecidableEq, Repr

/-- A record of the AON event queue (R744) before its SEQ is assigned. -/
structure EventRec where
  code : Nat
  flags : Nat
  src : Nat
  time : Nat
  mono : Nat
  args : List Nat
  deriving DecidableEq, Repr

/-- The AON event queue, the stamps of the folded events, the batch being programmed and the log's place in flash
(R746 to R751): the current sector and slot, the next SEQ, the LOGRGN payload in force, whether the next sector is being erased, and its
erase count once it is. -/
structure EventLog where
  queue : List EventRec := []
  foldFirst : Nat := 0
  foldLast : Nat := 0
  batch : List Bytes := []
  batchTaken : Nat := 0
  sector : Nat := 0
  slot : Nat := 0
  nextSeq : Nat := 1
  region : Bytes := []
  erasing : Bool := false
  ready : Option Nat := none
  deriving DecidableEq, Repr

/-- Power pins and the AON island's sequencing (R130 to R134, R165). `wait`: 0 none, 1 the 100 ms wait, 2 given up until a
wake or VAON, 3 the 10 s after a trip, 4 waiting for group 2, 5 waiting for groups 3 and 4, 6 the 2 ms hold. `resetNow` is the reset
being held, by its DONE code; `heldReset` the resets that wait for DRAINED (R178); `request` a granted power request (1 DOZE, 2 FOLD, 3 OFF)
and `afterDoze` one that follows the exit from DOZE (R141); `exiting` tells that a wake has begun the exit (R157). `coldReq` are the classes
asked for, one bit each, that the COLD reset to come is requested with (R23, R135), `lnkAt` the MONO time of the last LNK reset, `ejectMono` that
of the fall of EJECT_N. `dramReset` tells that DRAM_RESET_N has been raised since VMEMPHY arrived (R163). -/
structure Power where
  vaon : Bool := false
  penMem : Bool := false
  penMain : Bool := false
  pgMem : Bool := false
  pgMain : Bool := false
  prsntLow : Bool := false
  ejectLow : Bool := false
  qualified : Bool := false
  attempts : Nat := 0
  wait : Nat := 0
  aonLoss : Bool := false
  resetNow : Option Nat := none
  heldReset : List Nat := []
  request : Nat := 0
  afterDoze : Nat := 0
  exiting : Bool := false
  wakePin : Bool := false
  ejectMono : Nat := 0
  coldReq : Nat := 0
  lnkAt : Option Nat := none
  dramReset : Bool := false
  deriving DecidableEq, Repr

/-- The FOLD snapshot, which stands in DRAM at SNAP_BASE over `size` bytes, and its commit word, its CRC and the digest of the Steward's firmware in
AON RAM (R149, R150, R153). `regs` and `resident` are what its bytes say of the fields of classes S and I and of the resident memory by column. -/
structure Snapshot where
  present : Bool := false
  commit : Bool := false
  good : Bool := false
  regs : RegStore := []
  resident : Sparse (Sparse Byte) := []
  size : Nat := 0
  crc : Nat := 0
  digest : Bytes := []
  deriving DecidableEq, Repr

/-- A record of the image (R51) as the Steward holds it. -/
structure Record where
  type : Nat
  flags : Nat
  island : Nat
  phase : Nat
  dest : Nat
  payload : Bytes
  deriving DecidableEq, Repr

/-- The start-up attempt (R59, R63): candidates left (0 slot A, 1 slot B, 2 host image), the slot attempted, flash read
retries, the header in force, the records verified, the hold for REFCLK (R82), the wait for HOSTGO (R729) and whether every channel trains (R287), payloads verified
(R77), clean cycles, the MONO time the PTP gate of R67 closed at while it is closed, whether BOOT_TIME is taken, and whether the RESET record is posted (R140). `todo` are the
records still to be applied, at the start or after an island reset, the first of them from the REG entry `regPos` on; `waitTo` is the MONO time a
delay of a REG entry lasts to, and `pollSince` the MONO time since which the entry that polls has polled (R53). `retryAt` is the flash address of the
read that `retries` counts (R56); `attemptAt` the MONO time the watchdog's limit counts from, and `holdAt` the one since which it is suspended (R65,
R66, R82). `asked` is a reset that a REG entry has asked for: 3 SYS, 4 ISL (R83). -/
structure Boot where
  candidates : List Nat := []
  attempt : Option Nat := none
  retries : Nat := 0
  header : Bytes := []
  records : List Record := []
  todo : List Record := []
  regPos : Nat := 0
  refclkWait : Bool := false
  hostWait : Bool := false
  confirmed : Bool := false
  hashing : Option Nat := none
  verified : List Nat := []
  startMono : Nat := 0
  cleanConfirm : Nat := 0
  ptpGate : Option Nat := none
  timed : Bool := false
  logged : Bool := false
  trained : Bool := false
  waitTo : Nat := 0
  pollSince : Option Nat := none
  retryAt : Nat := 0
  attemptAt : Nat := 0
  holdAt : Option Nat := none
  asked : Option Nat := none
  deriving DecidableEq, Repr

/-- The REFCLK monitor and the island clocks (R120 to R127): glitch and stop seen in this gate, glitch in the previous one, the good gates
in a row, the gate of a LOST whose record is still to be posted, the MONO time of LOST, PLLs relocking and on BOSC, islands stopped by a clock
fault, the stop in force after LOST, the AON crystal or its replacement, the BOSC trim, islands in reset or re-apply, the FCODE that each engine's
idle PLL is locked to (R118), and the voltage in mV of each DVFS island that has left its nominal point (R119, R161). -/
structure Clocks where
  glitchNow : Bool := false
  glitchPrev : Bool := false
  stopNow : Bool := false
  good : Nat := 0
  unposted : Bool := false
  lostAt : Nat := 0
  onBosc : Bool := false
  relocking : Bool := false
  stopped : List Nat := []
  lost : Bool := false
  rcClock : Bool := false
  boscTrim : Nat := 0
  islBusy : List Nat := []
  idlePll : Sparse Nat := []
  volts : Sparse Nat := []
  deriving DecidableEq, Repr

/-- The image records in force whose content no register holds: PLAT (R52), TENANT, SAFE, SHEP, ROT, TMPL and EXTP payloads, the
REAPPLY records the Steward keeps (R73), and the header's DET_DEFAULT, ARM_CYCLES and CONFIRM_CYCLES. -/
structure Applied where
  plat : Bytes := []
  tenant : Bytes := []
  safe : Bytes := []
  shep : Bytes := []
  rot : Bytes := []
  tmpl : Bytes := []
  extp : List Record := []
  reapply : List Record := []
  detDefault : Bool := false
  armCycles : Nat := 0
  confirmAuto : Bool := false
  confirmCycles : Nat := 0
  deriving DecidableEq, Repr

/-- An entry of the MSI-X table (R715, R722). -/
structure MsixEntry where
  addr : Nat := 0
  data : Nat := 0
  mask : Bool := true
  deriving DecidableEq, Repr

/-- The host link's state beside its registers: MSI-X enable, function mask, table and pending bits (R722), Bus Master (R729), the
flash update under way (R730), whether the link is in L2 (R725) and PERST# asserted (R148). -/
structure HostLink where
  msixEnable : Bool := false
  funcMask : Bool := false
  table : Sparse MsixEntry := []
  pend : List Nat := []
  busMaster : Bool := false
  updAddr : Nat := 0
  updLen : Nat := 0
  updSlot : Nat := 0
  l2 : Bool := false
  perst : Bool := false
  deriving DecidableEq, Repr

/-- An OTP program (R761): `kind` 0 burns the REVOKE bit of slot `arg` (R760), 1 programs V = `arg` of a new ARB entry, 2 programs its C
(R756); `then_` tells that the CONFIRM word of a flash slot is programmed after it (R61). -/
structure OtpProg where
  kind : Nat
  arg : Nat
  then_ : Option Nat := none
  deriving DecidableEq, Repr

/-- Security beside its registers (chapter 28): the OTP programs in the order they were asked for, whether the first of them runs, the
MONO time the pending nonce was issued at, and the MONO time the refusal of challenges ends. -/
structure Security where
  progs : List OtpProg := []
  running : Bool := false
  nonceAt : Option Nat := none
  refuseUntil : Nat := 0
  deriving DecidableEq, Repr

/-- The Steward beside its registers (27.3, 27.4): the margin monitors measured since reset; the MONO time since which the decisions have
been hot at step 4, and cool; the increments in force, newest first, each as its step and what each column (14 for DUTY) was lowered by;
by regulator, how far a low margin has lowered its island, and the MONO time since which the margin has been good again; the regulators low
at their floor at the last decision (R738), whether the emergency stands raised, the MONO time of the last decision (R735), and the mailbox
slot served last. -/
structure Steward where
  cpmSeen : List Nat := []
  hotSince : Option Nat := none
  coolSince : Option Nat := none
  moves : List (Nat × List (Nat × Nat)) := []
  lowered : Sparse Nat := []
  goodSince : Sparse Nat := []
  lowAtFloor : List Nat := []
  emergency : Bool := false
  decidedAt : Option Nat := none
  served : Nat := 3
  deriving DecidableEq, Repr

/-- The state of the block. -/
structure State where
  pending : List Instr := []
  bus : Answer := {}
  freeCount : Nat := 0
  fuse : Fuse
  straps : Straps := {}
  otp : Sparse Byte := []
  regs : RegStore := []
  rdShadow : Sparse Nat := []
  wrShadow : Sparse Nat := []
  perMaster : Sparse Nat := []
  power : Power := {}
  snap : Snapshot := {}
  boot : Boot := {}
  time : Time := {}
  tk : Tk := {}
  can : Can := {}
  eth : Eth := {}
  joint : Joint := {}
  safety : Safety := {}
  intake : Intake := {}
  fab : Fabric := {}
  mc : MemCtl := {}
  prb : Probes := {}
  shp : Shepherd := {}
  msync : Msync := {}
  clocks : Clocks := {}
  drv : Drover := {}
  loc : Locals := {}
  gl : Gleaner := {}
  secu : Security := {}
  stw : Steward := {}
  img : Applied := {}
  hl : HostLink := {}
  poison : Sparse Bool := []
  evlog : EventLog := {}
  dram : Sparse Byte := []
  flashA : Sparse Byte := []
  flashB : Sparse Byte := []
  hostMem : Sparse Byte := []
  deriving DecidableEq, Repr

/-- The block right after a COLD reset has released the islands (R12, R130): every register field at its reset value, RST_LAST telling the COLD,
the rails good and the module seated; a CT8100 of stepping B1, range -C, its engines in physical order, every strap 0, OTP unprogrammed, flash
erased, no memory listed (log 1 to log 4: DESIGN CHOICE). -/
def State.reset : State :=
  { fuse := { grade := 0, stepping := 1, temp := 0, physical := [0, 1, 2, 3, 4, 5, 6, 7] },
    regs := RegStore.wr [] Reg.RST_LAST_REQ 1,
    power := { vaon := true, penMem := true, penMain := true, pgMem := true, pgMain := true, prsntLow := true, qualified := true } }

end Sys2Proof.Machine
end

