-- ==== Sys2Proof/Machine/Ops.lean ====
section
/-! DEFINITION. The named operations every meaning is written in: register fields, memories, time and stamps, log events,
determinism counters, interrupts. -/

namespace Sys2Proof.Machine
open Reg

abbrev Out := Host.Outcome State Fault Refusal

namespace State

/-- The value of a field. -/
def rd (s : State) (f : Field) : Nat := s.regs.rd f

/-- A field as a truth value. -/
def rdb (s : State) (f : Field) : Bool := s.regs.rd f != 0

/-- Write a field (hardware's own write: no ownership, no collision). -/
def wr (s : State) (f : Field) (v : Nat) : State := { s with regs := s.regs.wr f v }

/-- Write several fields in order. -/
def wrs (s : State) (l : List (Field × Nat)) : State := l.foldl (fun s e => s.wr e.1 e.2) s

/-- Raise a flag. -/
def set (s : State) (f : Field) : State := s.wr f 1

/-- Drop a flag. -/
def clr (s : State) (f : Field) : State := s.wr f 0

/-- Advance a counter that saturates at the field's maximum. -/
def inc (s : State) (f : Field) (n : Nat := 1) : State := s.wr f (satAdd f.width (s.rd f) n)

/-- Advance a counter that wraps. -/
def incWrap (s : State) (f : Field) (n : Nat := 1) : State := s.wr f (s.rd f + n)

/-- The 64-bit value of a _LO, _HI pair. -/
def rdPair (s : State) (lo hi : Field) : Nat := s.rd lo + 2 ^ 32 * s.rd hi

/-- Write a _LO, _HI pair. -/
def wrPair (s : State) (lo hi : Field) (v : Nat) : State := (s.wr lo v).wr hi (v / 2 ^ 32)

/-- The answer of an access. -/
def answer (s : State) (status data : Nat) : State := { s with bus := ⟨status, data⟩ }

/-- MONO (R183), in ns. -/
def mono (s : State) : Nat := s.time.mono / 65536

/-- Device time in ns since the epoch (R179). -/
def devNs (s : State) : Nat := s.time.dev / 65536

/-- SEC[47:0] (R179). -/
def sec (s : State) : Nat := s.devNs / 1000000000 % 2 ^ 48

/-- NS (R179). -/
def ns (s : State) : Nat := s.devNs % 1000000000

/-- The NS word of a stamp: NS, EPOCH in bit 30, HOLDOVER in bit 31 (R180). -/
def nsWord (s : State) : Nat :=
  s.ns + 2 ^ 30 * (s.rd TK_STEP_COUNT_COUNT % 2) + 2 ^ 31 * s.rd TK_STATUS_HOLDOVER

/-- The TS64 stamp of this instant (R180). -/
def ts64 (s : State) : Nat := s.nsWord + 2 ^ 32 * (s.sec % 2 ^ 32)

/-- The AON real-time clock as a TS64 stamp, for records posted while the main rails are off (R744). -/
def aonStamp (s : State) : Nat :=
  s.rd AON_RTC_SUB * 1000000000 / 32768 + 2 ^ 31 + 2 ^ 32 * s.rd AON_RTC_LO

/-- The main rails are off (R128, R744). -/
def railsOff (s : State) : Bool := !s.power.pgMain

end State

/-- An island has its rail, runs on its clock and is not in ISL reset (R112, R120). -/
def islandRuns (s : State) (k : Nat) : Bool := !s.railsOff && !s.clocks.islBusy.contains k && !s.clocks.stopped.contains k

/-- NS of a TS64 stamp. -/
def tsNs (t : Nat) : Nat := t % 2 ^ 30

/-- A TS64 stamp with EPOCH and HOLDOVER taken as 0 (R390). -/
def tsPlain (t : Nat) : Nat := t / 2 ^ 32 * 2 ^ 32 + t % 2 ^ 30

/-- A scheduled TS64 value as a device time in ns: EPOCH and HOLDOVER ignored, SEC extended to the 48-bit value nearest the
current device time (R181). -/
def tsToDev (s : State) (t : Nat) : Nat :=
  let lo := t / 2 ^ 32
  let base := s.sec / 2 ^ 32 * 2 ^ 32
  let c := base + lo
  let sec := if c + 2 ^ 31 < s.sec ∧ c + 2 ^ 32 < 2 ^ 48 then c + 2 ^ 32
    else if s.sec + 2 ^ 31 < c ∧ 2 ^ 32 ≤ c then c - 2 ^ 32 else c
  sec * 1000000000 + t % 2 ^ 30

/-- A scheduled device time, in ns, on MONO (R183); 0 for an instant before MONO began. -/
def devToMono (s : State) (d : Nat) : Nat := ((s.mono : Int) + (d : Int) - (s.devNs : Int)).toNat

/-- An instant of MONO as a TS64 stamp taken with the present EPOCH and HOLDOVER. -/
def monoToTs (s : State) (m : Nat) : Nat :=
  let d := ((s.devNs : Int) + (m : Int) - (s.mono : Int)).toNat
  d % 1000000000 + 2 ^ 30 * (s.rd TK_STEP_COUNT_COUNT % 2) + 2 ^ 31 * s.rd TK_STATUS_HOLDOVER +
    2 ^ 32 * (d / 1000000000 % 2 ^ 32)

/-! ### Memories -/

/-- `n` bytes of a memory from an address; an unlisted byte reads `d`. -/
def readMem (m : Sparse Byte) (d : Byte) (a n : Nat) : Bytes := (List.range n).map fun i => m.get d (a + i)

/-- Write bytes to a memory whose unlisted byte reads `d`. -/
def writeMem (m : Sparse Byte) (d : Byte) (a : Nat) : Bytes → Sparse Byte
  | [] => m
  | b :: bs => writeMem (m.put d a b) d (a + 1) bs

/-- Canonical form of a memory: addresses strictly rising, no byte equal to what an unlisted address reads as. -/
def memWf (d : Byte) (m : Sparse Byte) : Bool := m.sorted && m.all fun e => e.2 != d

namespace State

/-- `n` bytes of device memory. -/
def ld (s : State) (a n : Nat) : Bytes := readMem s.dram 0 a n

/-- Write device memory. -/
def st (s : State) (a : Nat) (b : Bytes) : State := { s with dram := writeMem s.dram 0 a b }

/-- `n` bytes of host memory. -/
def ldHost (s : State) (a n : Nat) : Bytes := readMem s.hostMem 0 a n

/-- The flash of a slot: 0 NVA, 1 NVB. Erased flash reads all ones (R46). -/
def flash (s : State) (p : Nat) : Sparse Byte := if p = 0 then s.flashA else s.flashB

def ldFlash (s : State) (p a n : Nat) : Bytes := readMem (s.flash p) 0xFF a n

/-- Replace bytes of a flash. -/
def stFlash (s : State) (p a : Nat) (b : Bytes) : State :=
  if p = 0 then { s with flashA := writeMem s.flashA 0xFF a b } else { s with flashB := writeMem s.flashB 0xFF a b }

/-- Program bytes of a flash: programming only turns ones into zeros (2.3). -/
def progFlash (s : State) (p a : Nat) (b : Bytes) : State :=
  s.stFlash p a (List.zipWith (· &&& ·) (s.ldFlash p a b.length) b)

/-- A fresh free value: plain counter, opaque constant. -/
def free (s : State) : Nat × State := (Config.freeValue s.freeCount, { s with freeCount := s.freeCount + 1 })

end State

/-! ### Status codes (R20, R21) -/

/-- The rank of a status code in the order of R21: the lower is reported. -/
def statusRank (c : Nat) : Nat :=
  [(0x0B, 0), (0x06, 1), (0x05, 2), (0x04, 3), (0x0A, 4), (0x07, 5), (0x0C, 6), (0x03, 7), (0x08, 8), (0x02, 9), (0x09, 10),
    (0x01, 11)].lookup c |>.getD 12

/-- The code reported when two apply (R21). -/
def worse (a b : Nat) : Nat := if statusRank b < statusRank a then b else a

/-! ### Fences (R339) -/

/-- A PID is fenced (R339): its bit of FAB_FENCE. -/
def fenced (s : State) (pid : Nat) : Bool := bit (s.rd (FAB_FENCE (pid / 32))) (pid % 32)

/-- The target port of a memory controller: its node's port 0 (R313). -/
def mcPid (m : Nat) : Nat := 4 * [6, 9, 12, 15, 18, 21].getD m 0

/-! ### Interrupts (R394, R395, R722, R723) -/

/-- The link can carry a posted message: L0 or L1 (R723). -/
def linkUp (s : State) : Bool := s.rd HL_LINK_STATE == 2 || s.rd HL_LINK_STATE == 4

/-- Send MSI-X message v: a posted write of the entry's data to host memory, or a drop (R722, R723). -/
def sendMsix (v : Nat) (s : State) : State :=
  if linkUp s && s.rd HL_LINK_DSTATE != 3 then
    let e := s.hl.table.get {} v
    { s with hostMem := writeMem s.hostMem 0 e.addr (leBytes 4 e.data) }
  else s.inc HL_DROP

/-- Count and capture a host access that was not answered OK (R720): `bar` 0, 1, 2 for BAR0, BAR2, BAR4. -/
def hostError (code bar off : Nat) (write : Bool) (s : State) : State :=
  let s := if code = 0x07 then s.inc HL_ERR_DENY else if code = 0x0C then s else s.inc HL_ERR_CA
  if write ∨ s.rdb HL_ERRCAP_VALID then s
  else s.wrs [(HL_ERRCAP_CODE, code), (HL_ERRCAP_BAR, bar), (HL_ERRCAP_WRITE, 0), (HL_ERRCAP_VALID, 1), (HL_ERRADDR, off)]

/-- Raise vector v: IRQ_PEND and MSI-X message v, or its pending bit, or a drop (R395, R722). -/
def raiseVector (v : Nat) (s : State) : State :=
  let s := s.wr (IRQ_PEND (v / 32)) (setBit (s.rd (IRQ_PEND (v / 32))) (v % 32) true)
  if !s.hl.msixEnable then s.inc HL_DROP
  else if s.hl.funcMask || (s.hl.table.get {} v).mask then
    { s with hl := { s.hl with pend := if v ∈ s.hl.pend then s.hl.pend else v :: s.hl.pend } }
  else sendMsix v s

/-! ### Log events (R744 to R747) -/

/-- An event reaches the AON island: it is stamped and queued, or folded when 256 records are held (R746, R747). -/
def pushEvent (s : State) (e : EventRec) : State :=
  if s.evlog.queue.length < 256 then
    { s with evlog := { s.evlog with queue := s.evlog.queue ++ [e] } }.wr EVQ_STAT_QUEUED (s.evlog.queue.length + 1)
  else
    let s1 := if s.rdb EVQ_STAT_FOLDING then s else { s with evlog := { s.evlog with foldFirst := e.time } }
    { s1 with evlog := { s1.evlog with foldLast := e.time } }.set EVQ_STAT_FOLDING |>.inc (EVQ_FOLD (e.code / 4096))

/-- Post an event with its arguments, from an island; `inj` marks an injected fault (R622). -/
def postInj (inj : Bool) (code src : Nat) (args : List Nat) (s : State) : State :=
  let off := s.railsOff
  pushEvent s
    { code := code
      flags := ofBool inj + 2 * ofBool off + 4 * (if off then 1 else s.rd TK_STATUS_HOLDOVER)
      src := src
      time := if off then s.aonStamp else s.ts64
      mono := if off then 0 else s.mono
      args := (args.map (· % 2 ^ 32) ++ List.replicate 8 0).take 8 }

/-- Post an event (R745). -/
def post (code src : Nat) (args : List Nat) (s : State) : State := postInj false code src args s

/-! ### Determinism counters (R632 to R635) -/

/-- The queue is bound: its state is not UNBOUND (R378). -/
def bound (s : State) (q : Nat) : Bool := s.rd (Q_STATE_STATE q) != 0

/-- A permitted timing-dependent choice of a kind on a queue: Q_ND, DET_ND_TOTAL, DET_KIND and the capture (R634); a queue
that is not bound counts in the device's counters only (R635). -/
def nondet (q kind : Nat) (s : State) : State :=
  let s := (s.inc DET_ND_TOTAL).inc (DET_KIND kind)
  let s := if s.rdb DET_ND_CAP_VALID then s
    else (((s.wr DET_ND_CAP_QID q).wr DET_ND_CAP_KIND kind).set DET_ND_CAP_VALID).wr DET_ND_CAP_T s.mono
  if bound s q then s.inc (Q_ND_COUNT q) else s

end Sys2Proof.Machine
end

