-- ==== Sys2Proof/Machine/Access.lean ====
section
/-! DEFINITION. Register accesses (chapter 3): who may read and write a page, what the device answers, how the writes of one
cycle and the hardware's own update settle on each field, and what is recorded. -/

namespace Sys2Proof.Machine
open Reg

/-- The tensor engines the grade provides (R1). -/
def engines (s : State) : Nat := if s.fuse.grade = 0 then 8 else if s.fuse.grade = 1 then 6 else 4

/-- The fabric node of each physical tensor engine (R110). -/
def physNode (p : Nat) : Nat := [4, 5, 7, 8, 13, 14, 16, 17].getD p 0

/-- The PID of logical engine `n` (R110, R314). -/
def enginePid (s : State) (n : Nat) : Nat := 4 * physNode (s.fuse.physical.getD n 0)

/-- The PIDs in use on this grade (R313, R314). -/
def usedPids (s : State) : List Nat :=
  [0, 4, 8, 12] ++ (List.range (engines s)).map (enginePid s) ++ [24, 36, 48, 60, 72, 84, 40, 44, 45, 76, 80, 81, 88, 89, 92, 93, 94, 95]

/-- The island numbers in use (R110). -/
def islandExists (s : State) (k : Nat) : Bool :=
  decide (k ≤ 6) || (decide (0x10 ≤ k) && decide (k < 0x10 + engines s)) || (decide (0x18 ≤ k) && decide (k < 0x1C)) ||
    (decide (0x20 ≤ k) && decide (k < 0x38)) || (decide (0x40 ≤ k) && decide (k < 0x46)) ||
    (decide (0x48 ≤ k) && decide (k < 0x4E))

/-- The target port of an island (R313); the AON island has none. -/
def islandPid (s : State) (k : Nat) : Option Nat :=
  if k = 1 then some 0 else if k = 2 then some 4 else if k = 3 then some 8 else if k = 4 then some 12
  else if k = 5 then some 40 else if k = 6 then some 76
  else if 0x10 ≤ k ∧ k < 0x18 then some (enginePid s (k - 0x10))
  else if k = 0x18 then some 44 else if k = 0x19 then some 45 else if k = 0x1A then some 80 else if k = 0x1B then some 81
  else if 0x40 ≤ k ∧ k < 0x46 then some (mcPid (k - 0x40))
  else if k = 0x48 then some 88 else if k = 0x49 then some 92 else if k = 0x4A then some 93 else if k = 0x4B then some 89
  else if k = 0x4C then some 94 else if k = 0x4D then some 95 else none

/-- An address lies in a block of the map (R84). -/
def mapped (a : Nat) : Bool :=
  decide (a < 0x50000) || (decide (0x100000 ≤ a) && decide (a < 0x1C0000)) || (decide (0x200000 ≤ a) && decide (a < 0x290000)) ||
    (decide (0x300000 ≤ a) && decide (a < 0x348000)) || (decide (0x350000 ≤ a) && decide (a < 0x3C0000))

/-- The register block of an engine the grade lacks (R3). -/
def absentBlock (s : State) (a : Nat) : Bool :=
  decide (0x100000 + 0x10000 * engines s ≤ a) && decide (a < 0x180000)

/-- A fabric register of a PID of an engine the grade lacks (R314). -/
def absentPid (s : State) (a : Nat) : Bool :=
  let te := fun p => decide (p ∈ (List.range 8).map fun i => 4 * physNode i) && !(usedPids s).contains p
  if 0x221000 ≤ a ∧ a < 0x221600 then te ((a - 0x221000) / 16)
  else if 0x222000 ≤ a ∧ a < 0x222300 then te ((a - 0x222000) / 8) else false

/-- The register of the island clocks that shows a reserved island number, that of an engine the grade lacks (R110). -/
def reservedIsland (s : State) (a : Nat) : Bool :=
  (List.range 8).any fun n => decide (engines s ≤ n) && (a == (CLK_ISL_CUR (0x10 + n)).addr)

/-- A register that reads 0 and takes no write: of an engine the grade lacks (R3, R110, R314). -/
def inert (s : State) (a : Nat) : Bool := absentBlock s a || absentPid s a || reservedIsland s a

/-! ### Tag slots and timeouts of an initiator's port (R321, R334) -/

/-- The tag slots of a port that hold a piece (R321). -/
def tagsOf (s : State) (p : Nat) : List Nat := (s.fab.pieces.filter fun x => x.init == p && !x.orphan).map (·.tag)

/-- Tag slots of a port that are free, lowest first. -/
def freeTags (s : State) (p : Nat) : List Nat :=
  let used := tagsOf s p
  (List.range 256).filter fun t => !used.contains t

/-- The pieces of the fabric change; FAB_INIT_STAT and FAB_TGT_STAT follow. -/
def setPieces (l : List Piece) (s : State) : State :=
  let s := { s with fab := { s.fab with pieces := l } }
  (usedPids s).foldl (fun t p => t.wrs
    [(FAB_INIT_STAT_TAGS p, (l.filter fun x => x.init == p && !x.orphan).length),
     (FAB_INIT_STAT_QUAR p, (l.filter fun x => x.init == p && !x.orphan && x.quar).length),
     (FAB_TGT_STAT_FWD p, min 255 (l.filter fun x => x.tgt == p && x.stage == 1).length)]) s

/-- A port makes the answer of a request itself (R334): the counts, the first capture, and the TONOTE to the target's node. -/
def noteTimeout (p tgt tag addr : Nat) (sv : Bool) (s : State) : State :=
  let s := (s.inc FAB_TIMEOUTS).inc (FAB_INIT_TOCNT p)
  let s := if s.rdb FAB_TO_CAP_VALID then s
    else s.wrs [(FAB_TO_CAP_IPID, p), (FAB_TO_CAP_TPID, tgt), (FAB_TO_CAP_TAG, tag), (FAB_TO_CAP_SV, ofBool sv), (FAB_TO_CAP_VALID, 1),
      (FAB_TO_CAP_ADDR_LO, addr), (FAB_TO_CAP_ADDR_HI, addr / 2 ^ 32)]
  { s with fab := { s.fab with notes := s.fab.notes ++ (if tgt = 127 then [] else [tgt]) } }

/-- A request of one step gets no answer in time (R334): its tag slot, the lowest free one, goes into quarantine. A port whose slots are all in
quarantine issues nothing (R337). -/
def portTimeout (z : Piece) (sv : Bool) (s : State) : State :=
  match freeTags s z.init with
  | [] => s
  | tag :: _ =>
    let z := { z with tag := tag, whole := s.fab.next, start := s.mono, status := 0x04, arrived := true, delivered := true, quar := true }
    let s := noteTimeout z.init z.tgt tag z.addr sv { s with fab := { s.fab with next := s.fab.next + 1 } }
    setPieces (s.fab.pieces ++ [z]) s

/-- The port that a master's register accesses leave by (R85, R313): PCIe for the host, the Steward for the image and itself, the Safety
island, and the Drover for command lists. -/
def portOf (w : Writer) : Nat := if w.master = 0x801 then 89 else if w.master = 0x803 then 8 else if w.master < 0x400 then 12 else 0

/-- The islands that DOZE stops (R145). -/
def dozeIsland (k : Nat) : Bool := (decide (0x10 ≤ k) && decide (k < 0x1C)) || k == 6

/-- The island is gated in DOZE (R109, R145). -/
def gated (s : State) (k : Nat) : Bool :=
  (s.rd PWR_STATE_STATE == 2 || s.rd PWR_STATE_STATE == 3) && dozeIsland k

/-- The debug port: its accesses are those of master HOST, under a number of their own here (R764, log 15). -/
def debugPort : Nat := 0x1801

/-- The accesses of the host and those of the debug port are of master HOST. -/
def isHost (m : Nat) : Bool := m == 0x801 || m == debugPort

/-- R91; register writes through the debug port need level 2 (R764). -/
def mayWrite (s : State) (m p : Nat) : Bool :=
  let own := s.rd (PAGE_OWN_OWNER p)
  if m < 0x400 then own == m || (m == 0 && s.rdb (PAGE_OWN_CMDL0 p))
  else if m = 0x800 then true
  else if m = 0x801 then own == 0x801 || s.rdb (PAGE_OWN_HOST p)
  else if m = 0x802 then own == 0x802 || s.rdb (PAGE_OWN_STEWARD p)
  else if m = 0x803 then s.rdb (PAGE_OWN_SAFETY p)
  else if m = debugPort then s.rd SEC_DBG_LEVEL == 2 && (own == 0x801 || s.rdb (PAGE_OWN_HOST p))
  else false

/-- R92; register reads through the debug port need a grant (R764). -/
def mayRead (s : State) (m p : Nat) : Bool :=
  if m = debugPort then s.rd SEC_DBG_LEVEL != 0
  else if m = 0 ∨ 0x800 ≤ m then true
  else s.rd (PAGE_OWN_OWNER p) == m || s.rdb (PAGE_OWN_READALL p)

/-- The host writes accepted before the seal (R721). -/
def hostBeforeSeal (s : State) (a : Nat) : Bool :=
  let ctl := a == 0x380020
  let img := decide (0x371000 ≤ a) && decide (a < 0x371010)
  if s.rd BOOT_STATUS_PHASE = 0xF ∨ s.boot.hostWait then ctl || img
  else if s.straps.bootmode = 1 then ctl && s.rd BOOT_STATUS_PHASE == 0xE
  else s.straps.bootmode == 2 && (ctl || img)

/-- The status answered before ownership is consulted (R3, R84, R112, R314, R339): none when the access goes on. DEDUCED (log 12): FENCED and TIMEOUT come
before DENIED by R21, and no OWN_VIOL is logged with them, since the write never reaches the page. -/
def islandStatus (s : State) (m a : Nat) (write : Bool) : Option Nat :=
  if 0x02000000 ≤ a ∨ !mapped a then some 0x00
  else if absentBlock s a then some (if write then 0x07 else 0x00)
  else if absentPid s a || reservedIsland s a then some 0x00
  else match islandOf a with
    | none => none
    | some k =>
      match islandPid s k with
      | some p =>
        if fenced s p then some 0x05
        else if k ∈ s.clocks.stopped ∧ k ∉ s.clocks.islBusy ∧ m ≠ 0x800 then some 0x04 else none
      | none => none

/-- The island of an address answers BUSY: in ISL reset or re-apply (R108), or gated in DOZE (R109). -/
def islandWaits (s : State) (m a : Nat) : Bool :=
  match islandOf a with
  | none => false
  | some k => (s.clocks.islBusy.contains k && m != 0x800) || gated s k

/-- The PAGE_OWN registers: no master changes them, at any time (R94). -/
def pageOwnReg (a : Nat) : Bool := decide (0x8000 ≤ a) && decide (a < 0x10000)

/-- A master may write the register at an address now (R71, R91, R94, R97). -/
def writable (s : State) (m a : Nat) : Bool :=
  if pageOwnReg a then false
  else if isHost m ∧ !s.rdb BOOT_STATUS_SEALED then hostBeforeSeal s a && (m == 0x801 || s.rd SEC_DBG_LEVEL == 2)
  else mayWrite s m (a / 0x1000)

/-- An access of the host meets an endpoint in D3hot, which answers it Unsupported Request (R724). -/
def hostAsleep (s : State) (m : Nat) : Bool := m == 0x801 && s.rd HL_LINK_DSTATE == 3

/-- The answer to a write of the register at an address (R21, R71, R91, R94, R108, R109), ownership included. -/
def writeStatus (s : State) (m a : Nat) : Nat :=
  if hostAsleep s m then 0x0C else
  match islandStatus s m a true with
  | some c => c
  | none => if !writable s m a then 0x07 else if islandWaits s m a then 0x08 else 0x00

/-- The answer to a read (R21, R92, R108, R109). -/
def readStatus (s : State) (m a : Nat) : Nat :=
  if hostAsleep s m then 0x0C else
  match islandStatus s m a false with
  | some c => c
  | none => if !mayRead s m (a / 0x1000) then 0x07 else if islandWaits s m a then 0x08 else 0x00

/-- A denial is an ownership violation, unless it comes from the block of an absent engine (R3, R93). DESIGN CHOICE (log 106): a write to PAGE_OWN
by a master that R91 allows the page is DENIED, since R94 lets no master change it, and is no violation, since R91 does not forbid it. -/
def isViolation (s : State) (m a : Nat) : Bool := !absentBlock s a && !(pageOwnReg a && mayWrite s m (a / 0x1000))

/-- Record an OWN_VIOL (R107). -/
def ownViol (w : Writer) (a : Nat) (read : Bool) (s : State) : State :=
  let s := s.inc GLB_ERRCNT_OWNV
  let s := if s.rdb GLB_OWNV_INFO_VALID then s
    else (((((s.wr GLB_OWNV_ADDR_ADDR a).wr GLB_OWNV_ADDR_READ (ofBool read)).wr GLB_OWNV_INFO_MASTER w.master).wr
      GLB_OWNV_INFO_QID w.qid).set GLB_OWNV_INFO_VALID)
  post 0x5001 0x01 [a, w.master % 2 ^ 12 + 2 ^ 12 * w.qid, ofBool read] s

/-- Record an HV discard (R106). -/
def hvDiscard (w : Writer) (a : Nat) (s : State) : State :=
  if s.rdb GLB_COLLIDE_INFO_VALID then s.inc GLB_COLLIDE_COUNT_COUNT
  else (((s.wr GLB_COLLIDE_ADDR_ADDR a).wr GLB_COLLIDE_INFO_MASTER w.master).wr GLB_COLLIDE_INFO_QID w.qid).set
    GLB_COLLIDE_INFO_VALID

/-- A register request that an island with its clock stopped never takes (R112, R334): it keeps its tag slot, at the target's node. -/
def registerTimeout (w : Writer) (a kind : Nat) (s : State) : State :=
  match (islandOf a).bind (islandPid s) with
  | some p =>
    portTimeout
      { init := portOf w, tgt := p, oc := 0, kind := 2, tid := 0, addr := a, len := kind, tag := 0, whole := 0, last := true, rt := false, start := 0 }
      true s
  | none => s

/-- A write that is not performed leaves its answer and its records (R87, R93, R334, R339). -/
def writeRefused (w : Writer) (a c : Nat) (s : State) : State :=
  let s := if c = 0x07 ∧ isViolation s w.master a then ownViol w a false s else s
  let s := if c = 0x05 then s.inc FAB_FENCE_WDROP else s
  let s := if c = 0x04 then registerTimeout w a 1 s else s
  s.answer c 0

/-- A register write with an effect of its own: checked, answered, and performed when it is permitted; a register that is not there takes none
(R3). -/
def guarded (w : Writer) (a : Nat) (f : State → State) (s : State) : State :=
  if writeStatus s w.master a ≠ 0 then writeRefused w a (writeStatus s w.master a) s
  else if inert s a then s.answer 0 0 else f (s.answer 0 0)

/-- The device's answer to a host write that its register denies has no way back: it is recorded as R87 says. A command list and the Steward receive
theirs. -/
def recordDenied (w : Writer) (a : Nat) (s : State) : State := if w.master = 0x801 then ownViol w a false s else s

/-- A permitted write that its register turns away DENIED (R71, R137, R760). -/
def deny (w : Writer) (a : Nat) (s : State) : State := (recordDenied w a s).answer 0x07 0

/-- A read that is not performed leaves its answer, data 0, and its records (R93, R334, R339). -/
def readRefused (w : Writer) (a c : Nat) (s : State) : State :=
  let s := if c = 0x07 ∧ isViolation s w.master a then ownViol w a true s else s
  let s := if c = 0x05 then s.inc FAB_FENCE_RFEN else s
  let s := if c = 0x04 then registerTimeout w a 0 s else s
  s.answer c 0

/-- A read of BAR0 that is not answered OK is counted and captured, unless the endpoint itself answered it, in D3hot (R720, R724). -/
def hostRead (w : Writer) (a : Nat) (s : State) : State :=
  if w.master = 0x801 ∧ s.bus.status ≠ 0 ∧ !hostAsleep s w.master then hostError s.bus.status 0 a false s else s

/-- A register read with an effect of its own: answered, and the effect performed, when it is permitted (R11, R92); a register that is not there
reads 0 (R3). -/
def guardedRead (w : Writer) (a data : Nat) (f : State → State) (s : State) : State :=
  if readStatus s w.master a ≠ 0 then hostRead w a (readRefused w a (readStatus s w.master a) s)
  else if inert s a then s.answer 0 0 else (f s).answer 0 data

/-- The stored word of a register: its fields at their places. -/
def storedWord (s : State) (a : Nat) : Nat := (fieldsAt a).foldl (fun v f => v + s.rd f * 2 ^ f.lsb) 0

/-- A read of an RC field returns the register's word and clears the field (R10, R11). -/
def readClear (w : Writer) (f : Field) (s : State) : State :=
  guardedRead w f.addr (storedWord s f.addr) (fun s => s.wr f 0) s

/-- The shadow key of a register for a master (R88). -/
def shadowKey (m a : Nat) : Nat := m * 2 ^ 25 + a

/-- What a master holds in a register that is held for each master separately. -/
def masterIdx (s : State) (m a : Nat) : Nat := s.perMaster.get 0 (shadowKey m a)
def setMasterIdx (m a v : Nat) (s : State) : State := { s with perMaster := s.perMaster.put 0 (shadowKey m a) v }

/-- Latch a word into the reading master's shadow (R88). -/
def latchRead (m a v : Nat) (s : State) : State := { s with rdShadow := s.rdShadow.insert (shadowKey m a) v }

/-! ### One field in one cycle (R10, R17, R98 to R105) -/

/-- The RWL fields accept this writer: before the seal, or the re-apply's own writes (R71, R73). -/
def unlocked (s : State) (m : Nat) : Bool := !s.rdb BOOT_STATUS_SEALED || m == 0x800

/-- What the writes that stand make of a field, in the order they apply; none where none of them sets it. DESIGN CHOICE (log 107): a write has no
effect on an RO field (R10), so one that meets a hardware update of an RO field of class HV discards nothing and GLB_COLLIDE makes no record. -/
def softValue (s : State) (f : Field) (ws : List (Writer × Nat)) : Option Nat :=
  let vs := ws.map fun e => bits e.2 f.lsb f.width
  match f.acc with
  | .RW => vs.getLast?
  | .RWL => ((ws.filter fun e => unlocked s e.1.master).map fun e => bits e.2 f.lsb f.width).getLast?
  | .W1C => if vs.any (· != 0) then some (s.rd f - (s.rd f &&& vs.foldl (· ||| ·) 0)) else none
  | .W1S => if vs.any (· != 0) then some (s.rd f ||| vs.foldl (· ||| ·) 0) else none
  | _ => none

/-- The fault flag whose reading 1 keeps an HK enable at 0 (R104). -/
def hkFlag (f : Field) : Option Field :=
  if f = AON_ALARM_CTL_EN then some AON_ALARM_CTL_FIRED else if f = PRB_CTL_TRC_EN then some TRC_STAT_RING_FULL else none

/-- The field's value after the cycle, and whether a software write was discarded for an HV update (R17, R102). -/
def settleField (s : State) (f : Field) (soft hw : Option Nat) : Option Nat × Bool :=
  match soft, hw with
  | none, none => (none, false)
  | some v, none =>
    (some (match hkFlag f with | some g => if s.rdb g then 0 else v | none => v), false)
  | none, some h =>
    (some (match f.col with
      | .HS => s.rd f ||| h | .CT => satAdd f.width (s.rd f) h | _ => h), false)
  | some v, some h =>
    match f.col with
    | .HS => (some (v ||| h), false)
    | .HC => (some v, false)
    | .HK => (some h, false)
    | .CT => (some (satAdd f.width v h), false)
    | .HV => (some h, true)
    | .SW => (some v, false)

/-- Apply the standing writes and the hardware updates of a cycle to one field. DESIGN CHOICE (log 108): a write that loses two HV fields of one
register in one cycle is two discards, the first captured and the second counted (R106). -/
def applyField (a : Nat) (ws : List (Writer × Nat)) (hw : List HwUpdate) (s : State) (f : Field) : State :=
  let h := (hw.find? (·.lsb == f.lsb)).map (·.value)
  let r := settleField s f (softValue s f ws) h
  let s1 := match r.1 with | some v => s.wr f v | none => s
  if r.2 then (match ws.getLast? with | some e => hvDiscard e.1 a s1 | none => s1) else s1

/-- Some field of the register is locked against this write, and none takes it (R10, R71). -/
def lockedOut (s : State) (m a : Nat) : Bool :=
  !unlocked s m && (fieldsAt a).any (·.acc == .RWL)

/-- Apply a cycle's standing writes to the register at an address: every field sees the values at the start of the cycle. -/
def applyCycle (a : Nat) (ws : List (Writer × Nat)) (hw : List HwUpdate) (s : State) : State :=
  (fieldsAt a).foldl (applyField a ws hw) s

/-- The order of masters within one cycle (R98): HOST, command lists by QID, IMAGE, STEWARD, SAFETY. -/
def masterRank (w : Writer) : Nat :=
  if isHost w.master then 0 else if w.master < 0x400 then 1 + w.qid
  else if w.master = 0x800 then 2000 else if w.master = 0x802 then 2001 else 2002

/-- Insert by rank, after its equals. -/
def insertRank {α : Type} (rank : α → Nat) (x : α) : List α → List α
  | [] => [x]
  | y :: ys => if rank x < rank y then x :: y :: ys else y :: insertRank rank x ys

/-- Stable order by rank. -/
def sortRank {α : Type} (rank : α → Nat) (l : List α) : List α := l.foldl (fun acc x => insertRank rank x acc) []

end Sys2Proof.Machine
end

