-- ==== Sys2Proof/Machine/Columns.lean ====
section
/-! DEFINITION. The columns of the rotation (R401), the rotation table's entries (R399, R400) and the lowest frequency of a column
(R413). -/

namespace Sys2Proof.Machine
open Reg

/-! ### Columns and durations (R401, R413) -/

/-- The island of a column (R401). -/
def columnIsland (c : Nat) : Nat := if c < 8 then 0x10 + c else if c < 12 then 0x18 + (c - 8) else 6

/-- The column exists on this grade. -/
def columnExists (s : State) (c : Nat) : Bool := decide (c < engines s) || (decide (8 ≤ c) && decide (c < 13))

/-! ### The rotation table (R399 to R402) -/

def rotEntry (s : State) (e : Nat) : Bytes := slice s.img.rot (64 + 16 * e) 16
def entryStart (b : Bytes) : Nat := bits (u32 b 0) 0 17
def entryKind (b : Bytes) : Nat := bits (u32 b 0) 17 2
def entryGroup (b : Bytes) : Nat := bits (u32 b 0) 19 3
def entryBg (b : Bytes) : Nat := bits (u32 b 0) 22 3
def entryLen (b : Bytes) : Nat := bits (u32 b 4) 0 17
def entryCols (b : Bytes) : Nat := bits (u16 b 8) 0 14
def entryQid (b : Bytes) : Nat := bits (u16 b 10) 0 10
def entryCount (b : Bytes) : Nat := u16 b 12
def entryHead (b : Bytes) : Nat := bits (u16 b 14) 0 12
def entries (s : State) : List Nat := List.range (s.rd ROT_COUNT_ENTRIES)

/-- The voltage that an island's regulator gives, in mV (R119, R161). -/
def islandVolt (s : State) (k : Nat) : Nat := (s.clocks.volts.find k).getD (voltPoint k (nominalFcode k))

/-- The regulator of an island is set to a voltage. -/
def setVolt (k v : Nat) (s : State) : State :=
  let c := s.clocks
  { s with clocks := { c with volts := c.volts.put (voltPoint k (nominalFcode k)) k v } }

/-- The column is claimed by a real-time entry of the table. -/
def realTimeColumn (s : State) (c : Nat) : Bool :=
  (entries s).any fun e => entryKind (rotEntry s e) != 3 && bit (entryCols (rotEntry s e)) c

/-- The lowest FCODE a column may run at: its floor when a real-time entry claims it, else the bottom of its range (R413). -/
def lowestFcode (s : State) (c : Nat) : Nat :=
  if realTimeColumn s c then s.rd (CLK_ISL_FLOOR (columnIsland c)) else floorFcode (columnIsland c)

/-- Cycles of a column at its lowest FCODE, in ns, rounded up. -/
def cyclesNs (s : State) (c n : Nat) : Nat := ceilDiv (n * 40) (lowestFcode s c)

end Sys2Proof.Machine
end

