-- ==== Sys2Proof/Machine/DeviceMemory.lean ====
section
/-! DEFINITION. Device memory as its initiators meet it (chapter 10): capacity and address map, windows, errors and check codes of units,
what a controller does with an access, and whole requests put together from their pieces (R317). -/

namespace Sys2Proof.Machine
open Reg

/-! ### Capacity and address map (R285, R288, R289) -/

/-- A controller that holds the parameters of PLAT, the same in all six (R285): the first that is not waiting for its re-apply. -/
def parameterMc (s : State) : Nat := ((List.range 6).find? fun m => s.rd (MC_CFG_GIB m) != 0).getD 0

/-- Inline ECC is on (R292). -/
def inlineEcc (s : State) : Bool := s.rdb (MC_CFG_IECC (parameterMc s))

/-- The visible capacity V (10.3): 24 channels, 15/16 of each with inline ECC. -/
def visible (s : State) : Nat :=
  let cap := s.rd (MC_CFG_GIB (parameterMc s)) * 2 ^ 30
  if inlineEcc s then 24 * (cap / 1024) * 960 else 24 * cap

/-- The channel a device-memory address lies in (R288), controller `channel / 4`. -/
def channelOf (a : Nat) : Nat := a / 256 % 24

/-- The offset of an address within its channel (R288). -/
def channelOffset (a : Nat) : Nat := a / 256 / 24 * 256 + a % 256

/-- P: the byte address of an address in its channel (R288). -/
def channelByte (s : State) (a : Nat) : Nat :=
  let o := channelOffset a
  if inlineEcc s then o / 64 / 15 * 1024 + o / 64 % 15 * 64 + o % 64 else o

/-- META: the byte address, in its channel, of the check code of an address's unit (R288). -/
def channelMeta (a : Nat) : Nat := channelOffset a / 64 / 15 * 1024 + 960 + channelOffset a / 64 % 15 * 4

/-- The unit number, in device memory, of unit `v` of channel `c` (R288). -/
def unitOf (c v : Nat) : Nat := (v / 4 * 24 + c) * 4 + v % 4

/-- The controller that serves an access: MC0 for one at or above V (R288, R289). -/
def mcOf (s : State) (a n : Nat) : Nat := if visible s < a + n then 0 else channelOf a / 4

/-- The pieces of a range at 256-byte block boundaries: address and length (R317). -/
def splitBlocks (a n : Nat) : List (Nat × Nat) :=
  (List.range ((a % 256 + n + 255) / 256)).map fun i =>
    let lo := max a ((a / 256 + i) * 256)
    let hi := min (a + n) ((a / 256 + i + 1) * 256)
    (lo, hi - lo)

/-! ### Windows (R302 to R304) -/

/-- A window entry of the TENANT record (R302). -/
def windowAt (tenant : Bytes) (i : Nat) : Bytes := slice tenant (16 + 16 * i) 16

/-- The windows of the TENANT record (R302, R396). -/
def windows (s : State) : List Bytes := (List.range (u32 s.img.tenant 0)).map (windowAt s.img.tenant)

/-- A quota entry of the TENANT record (R396). -/
def quotas (s : State) : List Bytes :=
  (List.range (u32 s.img.tenant 4)).map fun i => slice s.img.tenant (16 + 16 * u32 s.img.tenant 0 + 16 * i) 16

/-- The quota entry of a tenant (R396). -/
def quotaOf (s : State) (t : Nat) : Option Bytes := (quotas s).find? fun e => bits (u16 e 0) 0 10 == t

/-- R303: tenant 0 reaches every address below V; every other tenant only bytes that lie inside one window of its own that
grants the direction. -/
def permitted (s : State) (t a n : Nat) (write : Bool) : Bool :=
  if visible s < a + n then false
  else if t = 0 then true
  else (windows s).any fun w =>
    bits (u16 w 12) 0 10 == t && bit (u8 w 14) (if write then 1 else 0) &&
      decide (u64 w 0 ≤ a) && decide (a + n ≤ u64 w 0 + u32 w 8 * 2 ^ 20)

/-- Count a forbidden access at its controller and capture the first (R304). -/
def windowViolation (m tid a : Nat) (write : Bool) (s : State) : State :=
  let s := s.inc (MC_WINV_WINV m)
  if s.rdb (MC_WINV_INFO_VALID m) then s
  else s.wrs [(MC_WINV_INFO_TID m, tid), (MC_WINV_INFO_WRITE m, ofBool write), (MC_WINV_INFO_VALID m, 1),
    (MC_WINV_ADDR_LO m, a), (MC_WINV_ADDR_HI m, a / 2 ^ 32)]

/-- The region of a Gleaner slot (19.3): x is 1 for A, 2 for B. -/
def slotBase (s : State) (x : Nat) : Nat := if x = 1 then s.rdPair GL_BASE_A_LO GL_BASE_A_HI else s.rdPair GL_BASE_B_LO GL_BASE_B_HI
def slotCap (s : State) (x : Nat) : Nat := 2 ^ 20 * s.rd (if x = 1 then GL_SIZE_A else GL_SIZE_B)

/-- A query that has not completed uses the slot. -/
def slotUsed (s : State) (x : Nat) : Bool :=
  s.gl.users.any fun u => u.2.2 == x && s.drv.flights.any fun f => f.q == u.1 && f.idx == u.2.1

/-- R550: the range meets the region of a slot that is active or that a running query uses. -/
def slotProtected (s : State) (a n : Nat) : Bool :=
  [1, 2].any fun x => (s.gl.active == x || slotUsed s x) && decide (a < slotBase s x + slotCap s x) && decide (slotBase s x < a + n)

/-! ### Errors of a unit (R291 to R295)

An error that arises in a unit: 1 one bit wrong in a half, 2 two or more bits wrong in a half, 3 a mismatch of the address check, 4 a
link ECC correction. It stands in the unit until a read meets it or a write covers the unit. -/

/-- A unit lies in a range, and a unit is only partly covered by it. -/
def touches (a n u : Nat) : Bool := decide (a < u * 64 + 64) && decide (u * 64 < a + n)
def partly (a n u : Nat) : Bool := touches a n u && !(decide (a ≤ u * 64) && decide (u * 64 + 64 ≤ a + n))

/-- The poisoned units of a range, and the units of a range with an error that no read has met, by unit number. -/
def poisonedUnits (s : State) (a n : Nat) : List Nat := (s.poison.filter fun e => e.2 && touches a n e.1).map (·.1)
def faultyUnits (s : State) (a n : Nat) : List (Nat × Nat) := s.mc.faulty.filter fun e => touches a n e.1

/-- Some 64-byte unit of a range is poisoned or holds an uncorrectable error (R292, R293). -/
def poisoned (s : State) (a n : Nat) : Bool := poisonedUnits s a n != [] || (faultyUnits s a n).any fun e => decide (2 ≤ e.2)

/-- The bytes of a unit whose stored bits are wrong: free values. -/
def garble (u : Nat) (s : State) : State :=
  let r := s.free
  r.2.st (u * 64) (leBytes 64 r.1)

/-- An error arises in a unit. Without inline ECC nothing detects it; a poisoned unit stays poisoned. -/
def arise (e : Nat × Nat) (s : State) : State :=
  if e.2 = 4 then s.inc (MC_LINK_CORR (channelOf (e.1 * 64) / 4))
  else if e.2 = 0 ∨ 4 < e.2 then s
  else if !inlineEcc s then garble e.1 s
  else if s.poison.get false e.1 then s
  else if e.2 = 1 then (if (s.mc.faulty.find e.1).isSome then s else { s with mc := { s.mc with faulty := s.mc.faulty.insert e.1 1 } })
  else
    let s := garble e.1 s
    { s with mc := { s.mc with faulty := s.mc.faulty.insert e.1 e.2 } }

def ariseAll (l : List (Nat × Nat)) (s : State) : State := l.foldl (fun t e => arise e t) s

/-- Capture the first uncorrectable unit and post ECC_UNC, with the PID of the reader (R293). -/
def captureUnc (u kind pid : Nat) (s : State) : State :=
  let m := channelOf (u * 64) / 4
  let s := post 0x7001 (0x40 + m) [u * 64, u * 64 / 2 ^ 32, pid] s
  if s.rdb (MC_UNC_ADDR_HI_VALID m) then s
  else s.wrs [(MC_UNC_ADDR_LO m, u * 64), (MC_UNC_ADDR_HI_ADDR m, u * 64 / 2 ^ 32), (MC_UNC_ADDR_HI_CH m, channelOf (u * 64) % 4),
    (MC_UNC_ADDR_HI_ACHK m, ofBool (kind == 3)), (MC_UNC_ADDR_HI_VALID m, 1)]

/-- A controller reads a unit for initiator `pid` and checks it (R293): the table's row that applies. -/
def meetUnit (pid u : Nat) (s : State) : State :=
  let m := channelOf (u * 64) / 4
  if s.poison.get false u then s.inc (MC_IECC_UNC m)
  else match s.mc.faulty.find u with
    | none => s
    | some k =>
      let s := { s with mc := { s.mc with faulty := s.mc.faulty.erase u } }
      if k = 1 then s.inc (MC_IECC_CORR m)
      else captureUnc u k pid ({ s with poison := s.poison.put false u true }.inc (MC_IECC_UNC m))

/-- The units of a range that are read, among those `p` selects, are checked (R293). -/
def meetUnits (pid a n : Nat) (p : Nat → Bool) (s : State) : State :=
  ((poisonedUnits s a n ++ (faultyUnits s a n).map (·.1)).filter p).foldl (fun t u => meetUnit pid u t) s

/-- Bytes are stored: a unit wholly covered gets a fresh code, POISON 0 and no error; a unit partly covered keeps its POISON (R294). -/
def storeUnits (a : Nat) (b : Bytes) (s : State) : State :=
  let whole := fun u => touches a b.length u && !partly a b.length u
  { s.st a b with poison := s.poison.keep fun u => !whole u, mc := { s.mc with faulty := s.mc.faulty.keep fun u => !whole u } }

/-- The check code of unit `u` as it stands at META (R292): CHK0, CHK1, ACHK, POISON; 31:29 read 0. The codes themselves are the
device's own (log 105). -/
def checkWord (s : State) (u : Nat) : Nat :=
  Config.secDed (s.ld (64 * u) 32) % 2 ^ 10 + 2 ^ 10 * (Config.secDed (s.ld (64 * u + 32) 32) % 2 ^ 10) +
    2 ^ 20 * (Config.addressCheck u % 2 ^ 8) + 2 ^ 28 * ofBool (s.poison.get false u)

/-- The byte that channel `c` holds at byte address `p` of its DRAM (R288, R292): data, a check code, or a reserved byte, which reads 0. -/
def dramByte (s : State) (c p : Nat) : Byte :=
  if inlineEcc s then
    let seg := p / 1024
    let r := p % 1024
    if r < 960 then s.dram.get 0 (64 * unitOf c (15 * seg + r / 64) + r % 64)
    else if r < 1020 then (leBytes 4 (checkWord s (unitOf c (15 * seg + (r - 960) / 4)))).getD ((r - 960) % 4) 0
    else 0
  else s.dram.get 0 (64 * unitOf c (p / 64) + p % 64)

/-! ### What a controller does with an access it receives (R289, R293, R294, R303, R304, R550) -/

/-- A read: status and data. -/
def ctlRead (s : State) (t a n : Nat) : Nat × Bytes :=
  if !permitted s t a n false then (0x07, zeros n) else (if poisoned s a n then 0x06 else 0x00, s.ld a n)

/-- What a forbidden access leaves at its controller (R289, R304); one out of window and out of range at once counts as OOR (10.10). -/
def noteForbidden (t a n : Nat) (write : Bool) (s : State) : State :=
  if visible s < a + n then s.inc (MC_WINV_OOR 0) else windowViolation (channelOf a / 4) t a write s

/-- What a read leaves at its controller. -/
def noteCtlRead (pid t a n : Nat) (s : State) : State :=
  if !permitted s t a n false then noteForbidden t a n false s else meetUnits pid a n (fun _ => true) s

/-- A write: status and the state after. A unit partly covered is read first. -/
def ctlWrite (pid t a : Nat) (b : Bytes) (s : State) : Nat × State :=
  if !permitted s t a b.length true then (0x07, noteForbidden t a b.length true s)
  else if slotProtected s a b.length then (0x07, s.inc GL_WRPROT)
  else (0x00, storeUnits a b (meetUnits pid a b.length (partly a b.length) s))

/-! ### Whole requests of the device's initiators (R317)

A command, or a unit acting on its own account, reads and writes ranges of any length. Each goes out in pieces, each to the controller of its
channel; the whole takes the first status, in the order of R21, that a piece carries. -/

/-- A controller takes no request: its island is in ISL reset or re-apply (R343), or its clock is stopped (R112). -/
def mcHeld (s : State) (m : Nat) : Bool := s.clocks.islBusy.contains (0x40 + m) || s.clocks.stopped.contains (0x40 + m)

/-- Some controller is fenced or takes no request. -/
def someAway (s : State) : Bool := (List.range 6).any fun m => fenced s (mcPid m) || mcHeld s m

/-- A piece of a read: answered by a fence (R339), by its port when no answer comes (R334), or by its controller. -/
def pieceRead (s : State) (t : Nat) (e : Nat × Nat) : Nat × Bytes :=
  let m := mcOf s e.1 e.2
  if fenced s (mcPid m) then (0x05, zeros e.2) else if mcHeld s m then (0x04, zeros e.2) else ctlRead s t e.1 e.2

/-- A read of a range on behalf of a tenant: status and data (R293, R304, R317, R334, R339). -/
def memRead (s : State) (t a n : Nat) : Nat × Bytes :=
  if permitted s t a n false && !someAway s then ctlRead s t a n
  else
    let l := (splitBlocks a n).map (pieceRead s t)
    (l.foldl (fun c r => worse c r.1) 0, (l.map (·.2)).flatten)

/-- A piece of a request to a controller that takes none: its node holds it, and the port's timer ends it (R334, R343). -/
def heldPiece (s : State) (pid t : Nat) (e : Nat × Nat) (kind : Nat) (b : Bytes) : Piece :=
  { init := pid, tgt := mcPid (mcOf s e.1 e.2), oc := 0, kind := kind, tid := t, addr := e.1, len := e.2, tag := 0, whole := 0, last := true
    rt := false, data := b, start := 0, stage := 0 }

/-- What a piece of a read leaves. -/
def notePiece (pid t : Nat) (e : Nat × Nat) (s : State) : State :=
  let m := mcOf s e.1 e.2
  if fenced s (mcPid m) then s.inc FAB_FENCE_RFEN
  else if mcHeld s m then portTimeout (heldPiece s pid t e 0 []) false s
  else noteCtlRead pid t e.1 e.2 s

/-- What a read of a range by initiator `pid` leaves at the controllers and in the fabric: the counts and captures of its errors. -/
def noteRead (pid t a n : Nat) (s : State) : State :=
  if permitted s t a n false && !someAway s then meetUnits pid a n (fun _ => true) s
  else (splitBlocks a n).foldl (fun u e => notePiece pid t e u) s

/-- A piece of a write: its status worsens the whole's. -/
def pieceWrite (pid t base : Nat) (b : Bytes) (r : Nat × State) (e : Nat × Nat) : Nat × State :=
  let s := r.2
  let m := mcOf s e.1 e.2
  if fenced s (mcPid m) then (worse r.1 0x05, s.inc FAB_FENCE_WDROP)
  else if mcHeld s m then (worse r.1 0x04, portTimeout (heldPiece s pid t e 1 (slice b (e.1 - base) e.2)) false s)
  else
    let w := ctlWrite pid t e.1 (slice b (e.1 - base) e.2) s
    (worse r.1 w.1, w.2)

/-- A write of a range by initiator `pid` on behalf of a tenant: status and the state after (R294, R304, R317, R334, R339, R550). -/
def memWrite (s : State) (pid t a : Nat) (b : Bytes) : Nat × State :=
  if permitted s t a b.length true && !someAway s && !slotProtected s a b.length then ctlWrite pid t a b s
  else (splitBlocks a b.length).foldl (pieceWrite pid t a b) (0, s)

end Sys2Proof.Machine
end

