-- ==== Sys2Proof/Machine/Time.lean ====
section
/-! DEFINITION. Shared operations of the Timekeeper (chapter 7): the calendar view, the TX stamp queues, the captures, the
launch table and its grids. -/

namespace Sys2Proof.Machine
open Reg

/-! ### The calendar (7.9) -/

/-- A leap year of the Gregorian calendar (R214). -/
def isLeap (y : Nat) : Bool := y % 4 == 0 && (y % 100 != 0 || y % 400 == 0)

/-- Days of a month (R214). -/
def monthDays (y m : Nat) : Nat :=
  if m = 2 then (if isLeap y then 29 else 28) else if m = 4 ∨ m = 6 ∨ m = 9 ∨ m = 11 then 30 else 31

/-- Days from 2000-01-01 to the first day of year `2000 + k`. -/
def daysBeforeYear (k : Nat) : Nat := 365 * k + (if k = 0 then 0 else (k - 1) / 4 - (k - 1) / 100 + (k - 1) / 400 + 1)

/-- Days of a year before a month. -/
def daysBeforeMonth (y m : Nat) : Nat := ((List.range 12).filter (fun i => decide (i + 1 < m))).foldl (fun a i => a + monthDays y (i + 1)) 0

/-- The year, counted from 2000, of a day counted from 2000-01-01. -/
def yearOfDay (d : Nat) : Nat :=
  let k := d / 366
  if d < daysBeforeYear (k + 1) then k else if d < daysBeforeYear (k + 2) then k + 1 else k + 2

/-- A date: year, month, day of month. -/
structure Date where
  year : Nat
  month : Nat
  day : Nat
  deriving DecidableEq, Repr

/-- The date of a day counted from 2000-01-01. -/
def dateOfDay (d : Nat) : Date :=
  let y := 2000 + yearOfDay d
  let o := d - daysBeforeYear (yearOfDay d)
  let m := ((List.range 12).filter fun i => decide (daysBeforeMonth y (i + 1) ≤ o)).length
  ⟨y, m, o - daysBeforeMonth y m + 1⟩

/-- The day of a date, counted from 2000-01-01. -/
def dayOfDate (y m d : Nat) : Nat := daysBeforeYear (y - 2000) + daysBeforeMonth y m + d - 1

/-- The last day of the calendar, 2399-12-31 (R216). -/
def lastDay : Nat := 146096

/-- UTC seconds since 2000-01-01 (7.9). -/
def utcSeconds (s : State) : Int := (s.sec : Int) - signed 16 (s.rd CAL_OFFSET_SEC) - 946684800

/-- The view shows the inserted second (7.9). -/
def leapNow (s : State) : Bool :=
  s.rdb CAL_LEAP_PENDING && !s.rdb CAL_LEAP_DELETE &&
    utcSeconds s == ((s.rd CAL_LEAP_DAYS + 1) * 86400 : Nat)

/-- The calendar view: day since 2000-01-01 and second of the day, 86400 for the inserted second; past the range the last
second that was shown (R214, R215, R218). -/
def calView (s : State) : Nat × Nat :=
  if leapNow s then (s.rd CAL_LEAP_DAYS, 86400)
  else if utcSeconds s < 0 then (0, 0)
  else
    let u := (utcSeconds s).toNat
    if lastDay < u / 86400 then (lastDay, s.time.lastShown) else (u / 86400, u % 86400)

/-- The CAL_DATE word. -/
def calDateWord (s : State) : Nat :=
  let d := (calView s).1
  let t := dateOfDay d
  t.year + 2 ^ 16 * t.month + 2 ^ 20 * t.day + 2 ^ 25 * ((d + 5) % 7 + 1)

/-- The CAL_TIME word. -/
def calTimeWord (s : State) : Nat :=
  let v := calView s
  let y := (dateOfDay v.1).year
  let doy := v.1 - daysBeforeYear (y - 2000) + 1
  if v.2 = 86400 then 23 + 2 ^ 8 * 59 + 2 ^ 16 * 60 + 2 ^ 23 * doy
  else v.2 / 3600 + 2 ^ 8 * (v.2 / 60 % 60) + 2 ^ 16 * (v.2 % 60) + 2 ^ 23 * doy

/-- UNDERRANGE and OVERRANGE (R218). -/
def underrange (s : State) : Bool := decide (utcSeconds s < 0)
def overrange (s : State) : Bool := decide ((86400 * (lastDay + 1) : Int) ≤ utcSeconds s)

/-- A CAL_LEAP write with PENDING set is acceptable (R216). -/
def leapOk (s : State) (days : Nat) : Bool :=
  let t := dateOfDay days
  decide (days ≤ lastDay) && t.day == monthDays t.year t.month && decide ((calView s).1 < days)

/-! ### TX stamps and captures (R196 to R199, R206, R207) -/

def txtsAt (s : State) (n : Nat) : List TxStamp := s.tk.txts.get [] n
def setTxts (s : State) (n : Nat) (l : List TxStamp) : State := { s with tk := { s.tk with txts := s.tk.txts.put [] n l } }

/-- Append a stamp to a port's queue, or lose it (R196, R198). -/
def pushTxts (n : Nat) (t : TxStamp) (s : State) : State :=
  if (txtsAt s n).length < 32 then setTxts s n (txtsAt s n ++ [t])
  else (s.set (TXTS_HEAD_OVF n)).inc (TXTS_LOST_COUNT n)

/-- Remove the oldest stamp of a port's queue (R197). -/
def popTxts (n : Nat) (s : State) : State := setTxts s n (txtsAt s n).tail

/-- The stamp of a frame that leaves now, and of one that never does (R199). -/
def txStampNow (s : State) (id : Nat) : TxStamp := ⟨id, s.sec, s.nsWord⟩
def txStampNone (s : State) (id : Nat) : TxStamp := ⟨id, s.sec, 0x3FFFFFFF⟩

def tcapAt (s : State) (n : Nat) : List Capture := s.tk.tcap.get [] n
def setTcap (s : State) (n : Nat) (l : List Capture) : State := { s with tk := { s.tk with tcap := s.tk.tcap.put [] n l } }

/-- Remove the oldest capture (R207). -/
def popTcap (n : Nat) (s : State) : State := setTcap s n (tcapAt s n).tail

/-! ### Launch table (R209 to R213) -/

/-- Put a request in the launch table; the flag is false when the table is full (R209). -/
def bookLaunch (e : LaunchEntry) (s : State) : Bool × State :=
  if s.tk.launch.length < 256 then
    (true, { s with tk := { s.tk with launch := s.tk.launch ++ [e] } }.wr LAUNCH_STAT_PENDING (s.tk.launch.length + 1))
  else (false, s.inc LAUNCH_STAT_FULL)

/-- Take entries out of the launch table. -/
def unbookLaunch (p : LaunchEntry → Bool) (s : State) : State :=
  let l := s.tk.launch.filter fun e => !p e
  { s with tk := { s.tk with launch := l } }.wr LAUNCH_STAT_PENDING l.length

/-- The instant a request for an armed grid takes: the first no earlier than the request plus LEAD_US (R210); on MONO, in ns. -/
def gridInstant (s : State) (g : Nat) : Option Nat :=
  match s.tk.grids.find g with
  | none => none
  | some z =>
    if z.period = 0 then none
    else
      let from_ := s.mono + s.rd (LG_CTL_LEAD_US g) * 1000
      some (if from_ ≤ z.first then z.first else z.first + ceilDiv (from_ - z.first) z.period * z.period)

/-- Arm a grid: its instants, where device time mod the period is the phase, held on MONO (R210). -/
def armGrid (g : Nat) (s : State) : State :=
  let p := s.rd (LG_PERIOD_NS_NS g)
  let ph := s.rd (LG_PHASE_NS_NS g)
  if p = 0 then s
  else
    let d := s.devNs + (ph + p - s.devNs % p) % p
    { s with tk := { s.tk with grids := s.tk.grids.insert g ⟨devToMono s d, p⟩ } }

/-- Disarm a grid. -/
def disarmGrid (g : Nat) (s : State) : State := { s with tk := { s.tk with grids := s.tk.grids.erase g } }

/-- Device time at an instant of MONO, in ns. -/
def monoToDev (s : State) (m : Nat) : Nat := ((s.devNs : Int) + (m : Int) - (s.mono : Int)).toNat

end Sys2Proof.Machine
end

