-- ==== Sys2Proof/Machine/Record.lean ====
section
/-! DEFINITION. Access to the image records whose content no register holds: the SAFE record (R566 to R568). -/

namespace Sys2Proof.Machine
open Reg

/-! ### The SAFE record (R566 to R569) -/

def nAct (s : State) : Nat := u16 s.img.safe 0
def nStr (s : State) : Nat := u16 s.img.safe 2
def nFlt (s : State) : Nat := u16 s.img.safe 4

/-- Actuator entry `i` of the record. -/
def actEntry (s : State) (i : Nat) : Bytes := slice s.img.safe (64 + 16 * i) 16

/-- The entry of an actuator. -/
def actuator (s : State) (a : Nat) : Option Bytes := ((List.range (nAct s)).map (actEntry s)).find? fun e => u8 e 0 == a

/-- Stream entry `i` of the record. -/
def strEntry (s : State) (i : Nat) : Bytes := slice s.img.safe (64 + 16 * nAct s + 64 * i) 64

/-- The entry of a decision stream. -/
def strOf (s : State) (n : Nat) : Option Bytes := ((List.range (nStr s)).map (strEntry s)).find? fun e => bits (u8 e 0) 0 4 == n

end Sys2Proof.Machine
end

