-- ==== Sys2Proof/Machine/Motion.lean ====
section
/-! DEFINITION. Joint sensors, encoders and the parts of a motor output that need no other block (chapter 24): the checks of an
encoder frame, snapshots, templates and their fills. -/

namespace Sys2Proof.Machine
open Reg

/-! ### Joint-sensor ports (R684 to R689) -/

def jspAt (s : State) (n : Nat) : Jsp := s.joint.ports.get {} n
def setJsp (s : State) (n : Nat) (p : Jsp) : State := { s with joint := { s.joint with ports := s.joint.ports.put {} n p } }

/-- XOR of the bits of a number, `w` bits. -/
def parityOf (w n : Nat) : Bool := (List.range w).foldl (fun p i => p != bit n i) false

/-- Gray code to binary, from the most significant bit down (R686). -/
def ungray (w g : Nat) : Nat :=
  (List.range w).foldl (fun b i => let k := w - 1 - i; let up := bit b (k + 1); b + 2 ^ k * ofBool (up != bit g k)) 0

/-- CRC-8 over bits, most significant first: polynomial, register, next bits. -/
def crc8Bits (poly : Nat) (bs : List Bool) : Nat :=
  bs.foldl (fun c b => let c2 := (c * 2) % 256; if bit c 7 != b then c2 ^^^ poly else c2) 0

/-- The bits of a number from bit `hi` down to bit `lo`. -/
def bitsDown (n hi lo : Nat) : List Bool := (List.range (hi + 1 - lo)).map fun i => bit n (hi - i)

/-- The check of a frame passes (R686). -/
def jspCheck (s : State) (n raw : Nat) : Bool :=
  let nb := s.rd (JSP_CFG_NBITS n)
  if s.rd (JSP_CFG_CHK n) = 1 then !parityOf nb raw
  else if s.rd (JSP_CFG_CHK n) = 2 then
    crc8Bits (s.rd (JSP_FIELD_CRCPOLY n)) (if nb ≤ 8 then [] else bitsDown raw (nb - 1) 8) == raw % 256
  else true

/-- The encoder's error flag, active low (R686). -/
def jspEncErr (s : State) (n raw : Nat) : Bool :=
  s.rd (JSP_FIELD_ERRBIT n) != 0 && !bit raw (s.rd (JSP_FIELD_ERRBIT n) - 1)

/-- The position of a frame, extended to 64 bits (R686, R688). -/
def jspPosition (s : State) (n raw : Nat) : Nat :=
  let w := s.rd (JSP_FIELD_POS_W n)
  let f := bits raw (s.rd (JSP_FIELD_POS_LSB n)) w
  let b := if s.rdb (JSP_CFG_GRAY n) then ungray w f else f
  if s.rdb (JSP_CFG_SIGNED n) then unsigned 64 (signed w b) else b

/-- The outcome of a frame (R687). -/
def jspOutcome (s : State) (n : Nat) (ready : Bool) (raw : Nat) : Nat :=
  if s.rd (JSP_CFG_MODE n) = 1 ∧ !ready then 1
  else if !jspCheck s n raw then 2
  else if jspEncErr s n raw then 3 else 0

/-- The position is VALID at this instant (R689). -/
def jspFresh (s : State) (n : Nat) : Bool :=
  match (jspAt s n).good with
  | some g => decide (s.mono ≤ g + s.rd (JSP_STALE_STALE_US n) * 1000)
  | none => false

/-- The JSP/QEI island runs: ports and encoders stop in FOLD and while the island is held or has no clock (24.6). -/
def jointRuns (s : State) : Bool := islandRuns s 0x4A

/-- A frame starts at a port, unless one or its monoflop time still runs (R685). -/
def jspStart (n : Nat) (s : State) : State :=
  if s.rd (JSP_CFG_MODE n) = 0 ∨ !jointRuns s then s
  else if (jspAt s n).frame.isSome ∨ s.mono < (jspAt s n).busyUntil then s.inc (JSP_ERR_SKIP n)
  else setJsp s n { jspAt s n with frame := some (s.ts64, s.mono) }

/-! ### Quadrature inputs (R690, R691) -/

/-- Copy count, stamp and index capture into the snapshot registers (R691). -/
def qeiSnap (k : Nat) (s : State) : State :=
  let t := s.joint.qeiStamp.get 0 k
  (((s.wr (QEI_SNAP_CNT k) (s.rd (QEI_COUNT k))).wr (QEI_SNAP_SEC k) (t / 2 ^ 32)).wr (QEI_SNAP_NS k) t).wr
    (QEI_SNAP_IDX k) (s.joint.qeiIndex.get 0 k)

/-! ### Templates (R692, R693) -/

/-- The entry of template `t` in the TMPL record. -/
def template (s : State) (t : Nat) : Option Bytes :=
  ((List.range (u32 s.img.tmpl 0)).map fun i => slice s.img.tmpl (16 + 128 * i) 128).find? fun e => u16 e 0 == t

/-- Some template is bound to an object of a controller (R694). -/
def templateObject (s : State) (o : Nat) : Bool :=
  (List.range (u32 s.img.tmpl 0)).any fun i =>
    let e := slice s.img.tmpl (16 + 128 * i) 128
    s.rd (MO_CFG_TYPE (u8 e 2)) == 0 && u16 e 4 == o

/-- What the fills of a template draw on: LANE, PSEQ, six joint targets and the NS word of the launch instant. -/
structure FillData where
  lane : Nat := 0
  pseq : Nat := 0
  joints : List Nat := []
  nsWord : Nat := 0
  deriving DecidableEq, Repr

/-- CRC-8, polynomial 0x07, initial value 0 (R693). -/
def crc8Bytes (b : Bytes) : Nat := crc8Bits 0x07 (b.flatMap fun x => bitsDown x.toNat 7 0)

/-- Put bytes into a payload at an offset. -/
def patch (p : Bytes) (o : Nat) (b : Bytes) : Bytes := p.take o ++ b ++ p.drop (o + b.length)

/-- Width of a fill source (R693). -/
def fillWidth (src : Nat) : Nat :=
  if src = 1 then 2 else if src = 2 then 4 else if 3 ≤ src ∧ src ≤ 8 then 2 else if src = 9 then 4
  else if src = 10 ∨ src = 11 then 1 else 0

/-- Apply one fill; SAFE and IDLE templates (`plain`) take only sources 10 and 11 (R693). -/
def fillOne (d : FillData) (roll : Nat) (plain : Bool) (p : Bytes) (f : Nat) : Bytes :=
  let src := bits f 0 4
  let o := bits f 8 8
  if plain ∧ src ≠ 10 ∧ src ≠ 11 then p
  else
    let v := if src = 1 then d.lane else if src = 2 then d.pseq
      else if 3 ≤ src ∧ src ≤ 8 then d.joints.getD (src - 3) 0
      else if src = 9 then d.nsWord else if src = 10 then roll else crc8Bytes (p.take o)
    let b := leBytes (fillWidth src) v
    patch p o (if bit f 4 then b.reverse else b)

/-- The payload of a template after its fills (R693). -/
def fillTemplate (e : Bytes) (d : FillData) (roll : Nat) : Bytes :=
  let plain := u8 e 3 == 1 || u8 e 3 == 2
  ((List.range 6).map fun i => u16 e (8 + 2 * i)).foldl (fillOne d roll plain) (slice e 32 (u8 e 6))

end Sys2Proof.Machine
end

