-- ==== Sys2Proof/Machine/CanPool.lean ====
section
/-! DEFINITION. The message pool of the CAN controllers (23.4 to 23.6): objects and slots, stores, the FIFO, shadows, and the
peer table (6.6). -/

namespace Sys2Proof.Machine
open Reg

/-- Payload bytes of a DLC (R646). -/
def dlcBytes (fdf : Bool) (dlc : Nat) : Nat :=
  if fdf then [0, 1, 2, 3, 4, 5, 6, 7, 8, 12, 16, 20, 24, 32, 48, 64].getD dlc 64 else min dlc 8

/-- Bytes of an object's slot (R650). -/
def slotBytes (s : State) (o : Nat) : Nat := 8 * 2 ^ s.rd (OBJ_DSIZE o)

/-- The words of an object's slot. -/
def slotWords (s : State) (o : Nat) : List Field :=
  (List.range (slotBytes s o / 4)).map fun i => POOL_DATA (2 * s.rd (OBJ_DPTR o) + i)

/-- The bytes of an object's slot. -/
def slotData (s : State) (o : Nat) : Bytes := (slotWords s o).flatMap fun f => leBytes 4 (s.rd f)

/-- Write payload bytes into an object's slot from its start; bytes behind them stay. -/
def putSlot (o : Nat) (b : Bytes) (s : State) : State :=
  let full := b ++ (slotData s o).drop b.length
  ((slotWords s o).zipIdx).foldl (fun t (e : Field × Nat) => t.wr e.1 (u32 full (4 * e.2))) s

/-- An enabled object of a controller in a direction (0 receive, 1 transmit). -/
def objectOk (s : State) (n o dir : Nat) : Bool :=
  decide (o < 2048) && s.rdb (OBJ_EN o) && s.rd (OBJ_OWNER o) == n && s.rd (OBJ_DIR o) == dir

/-- The words of an object's header. -/
def hdr0 (s : State) (o : Nat) : Nat := s.rd (OBJ_ID o) + 2 ^ 29 * s.rd (OBJ_XTD o) + 2 ^ 30 * s.rd (OBJ_RTR o)
def hdr1 (s : State) (o : Nat) : Nat :=
  s.rd (OBJ_DPTR o) + 2 ^ 13 * s.rd (OBJ_DSIZE o) + 2 ^ 16 * s.rd (OBJ_DLC o) + 2 ^ 20 * s.rd (OBJ_FDF o) +
    2 ^ 21 * s.rd (OBJ_BRS o) + 2 ^ 22 * s.rd (OBJ_DIR o) + 2 ^ 23 * s.rd (OBJ_OWNER o) + 2 ^ 26 * s.rd (OBJ_EN o) +
    2 ^ 27 * s.rd (OBJ_NEWDAT o) + 2 ^ 28 * s.rd (OBJ_MSGLOST o) + 2 ^ 29 * s.rd (OBJ_PEND o)

def objStamp (s : State) (o : Nat) : ObjStamp := s.can.stamps.get {} o

/-- Store a received frame in an object (R655). -/
def storeObject (n o : Nat) (f : CanFrame) (sof : Nat) (s : State) : State :=
  let old := s.rdb (OBJ_NEWDAT o)
  let s := s.wrs [(OBJ_ID o, f.id), (OBJ_XTD o, ofBool f.xtd), (OBJ_RTR o, ofBool f.rtr), (OBJ_DLC o, f.dlc),
    (OBJ_FDF o, ofBool f.fdf), (OBJ_BRS o, ofBool f.brs)]
  let s := putSlot o (padTo (slotBytes s o) ((f.data.take (dlcBytes f.fdf f.dlc)).take (slotBytes s o))) s
  let s := { s with can := { s.can with stamps := s.can.stamps.put {} o ⟨sof, f.esi⟩ } }
  let s := if old then (s.set (OBJ_MSGLOST o)).set (CAN_ERR_MSGLOST n) else s
  s.set (OBJ_NEWDAT o)

/-- The object of FIFO entry `i` counted from the oldest (R656). -/
def fifoObject (s : State) (n i : Nat) : Nat :=
  s.rd (CAN_FIFO_FIFO_FIRST n) + (s.rd (CAN_FIFO_STAT_OLDEST n) + i) % s.rd (CAN_FIFO_FIFO_COUNT n)

/-- Remove the oldest FIFO entry. -/
def popFifo (n : Nat) (s : State) : State :=
  (s.wr (CAN_FIFO_STAT_OLDEST n) ((s.rd (CAN_FIFO_STAT_OLDEST n) + 1) % max 1 (s.rd (CAN_FIFO_FIFO_COUNT n)))).wr
    (CAN_FIFO_STAT_LEVEL n) (s.rd (CAN_FIFO_STAT_LEVEL n) - 1)

/-- Clear NEWDAT and MSGLOST of an object. -/
def clearNew (o : Nat) (s : State) : State := (s.clr (OBJ_NEWDAT o)).clr (OBJ_MSGLOST o)

/-- Store a received frame in the FIFO (R656, R659). -/
def storeFifo (n : Nat) (f : CanFrame) (sof : Nat) (s : State) : State :=
  let lvl := s.rd (CAN_FIFO_STAT_LEVEL n)
  if s.rd (CAN_FIFO_FIFO_COUNT n) = 0 then s
  else if lvl < s.rd (CAN_FIFO_FIFO_COUNT n) then
    let o := fifoObject s n lvl
    let s := (storeObject n o f sof (clearNew o s)).wr (CAN_FIFO_STAT_LEVEL n) (lvl + 1)
    if s.rdb (CAN_IRQ_EN_FIFO n) ∧ lvl + 1 = s.rd (CAN_IRQ_FIFO_WM n) then raiseVector (s.rd (CAN_IRQ_VEC n)) s else s
  else if s.rdb (CAN_FIFO_OVWR n) then
    let o := fifoObject s n 0
    let s := popFifo n s
    let s := (storeObject n o f sof (clearNew o s)).wr (CAN_FIFO_STAT_LEVEL n) lvl
    ((s.set (OBJ_MSGLOST o)).set (CAN_ERR_MSGLOST n)).inc (CAN_FIFOLOST n)
  else (s.set (CAN_ERR_FIFOOVF n)).inc (CAN_FIFOLOST n)

/-- Filter `f` of controller `n` matches a frame (R654): bits 17:0 are compared only for extended frames. -/
def filterMatches (s : State) (n f : Nat) (frame : CanFrame) : Bool :=
  let m := if frame.xtd then s.rd (FLT_MASK n f) else s.rd (FLT_MASK n f) / 2 ^ 18 * 2 ^ 18
  s.rd (FLT_ID_ACTION n f) != 0 && s.rdb (FLT_ID_XTD n f) == frame.xtd && ((frame.id ^^^ s.rd (FLT_ID_ID n f)) &&& m) == 0

/-! ### Peers (R174, R176, R658) -/

/-- A peer-table entry of a source. -/
def samePeer (n id : Nat) (x : Bool) (p : Peer) : Bool := p.ctrl == n && p.id == id && p.xtd == x

/-- The unpinned entry seen least recently. -/
def oldestPeer (l : List Peer) : Option Peer :=
  (l.filter fun p => !p.pinned).foldl (fun o p => match o with
    | none => some p
    | some q => if p.seen < q.seen then some p else some q) none

/-- A source is seen: its entry is refreshed or made, an older one making room (R174). -/
def seePeer (n id : Nat) (x : Bool) (s : State) : State :=
  if s.can.peers.any (samePeer n id x) then
    let l := s.can.peers.map fun p => if samePeer n id x p then { p with seen := s.mono, present := true } else p
    { s with can := { s.can with peers := l } }
  else if s.can.peers.length < 128 then
    { s with can := { s.can with peers := s.can.peers ++ [Peer.mk n id x false s.mono true] } }
  else match oldestPeer s.can.peers with
    | some o =>
      ({ s with can := { s.can with peers := s.can.peers.erase o ++ [Peer.mk n id x false s.mono true] } }).inc
        LIV_REFUSED_CANPEER_EVICT
    | none => s

/-- The pinned entries the filters of the image make at the seal (R658). -/
def pinnedPeers (s : State) : List Peer :=
  (List.range 8).flatMap fun n => ((List.range 32).filter fun f =>
    s.rdb (FLT_TGT_PEER n f) && s.rdb (FLT_TGT_PIN n f)).map fun f =>
      ⟨n, s.rd (FLT_ID_ID n f) &&& s.rd (FLT_SRC n f), s.rdb (FLT_ID_XTD n f), true, s.mono, true⟩

/-! ### Shadows (R660) -/

def shadowAt (s : State) (m n : Nat) : CanShadow := s.can.shadows.get {} (m * 8 + n)
def setShadow (s : State) (m n : Nat) (h : CanShadow) : State :=
  { s with can := { s.can with shadows := s.can.shadows.put {} (m * 8 + n) h } }

/-- The shadow a copy of an object makes. -/
def copyObject (s : State) (o : Nat) : CanShadow where
  hdr0 := hdr0 s o
  hdr1 := hdr1 s o
  stamp := (objStamp s o).sof
  valid := true
  newdat := s.rdb (OBJ_NEWDAT o)
  lost := s.rdb (OBJ_MSGLOST o)
  esi := (objStamp s o).esi
  data := (slotWords s o).map s.rd

/-- The 96-byte record CANRD writes of an object (R669). -/
def canRecord (s : State) (n o : Nat) : Bytes :=
  let d := dlcBytes (s.rdb (OBJ_FDF o)) (s.rd (OBJ_DLC o))
  leBytes 4 (hdr0 s o) ++
    leBytes 1 (s.rd (OBJ_DLC o) + 16 * s.rd (OBJ_FDF o) + 32 * s.rd (OBJ_BRS o) + 64 * ofBool (objStamp s o).esi +
      128 * s.rd (OBJ_MSGLOST o)) ++
    leBytes 1 n ++ leBytes 2 o ++ leBytes 8 (objStamp s o).sof ++ padTo 64 ((slotData s o).take d) ++ zeros 16

/-! ### Requests (R664 to R667) -/

/-- The requests of a controller that pass a test. -/
def canReqs (s : State) (p : CanReq → Bool) : List CanReq := s.can.reqs.filter p
def setReqs (s : State) (l : List CanReq) : State := { s with can := { s.can with reqs := l } }

/-- Add a request: its object is pending (R664). -/
def addReq (r : CanReq) (s : State) : State := (setReqs s (s.can.reqs ++ [r])).set (OBJ_PEND r.obj)

/-- Drop requests and the launch entries made for them. -/
def dropReqs (p : CanReq → Bool) (s : State) : State :=
  let out := s.can.reqs.filter p
  let s := out.foldl (fun t r => t.clr (OBJ_PEND r.obj)) s
  let s := setReqs s (s.can.reqs.filter fun r => !p r)
  unbookLaunch (fun e => e.kind == 0 && out.any fun r => r.obj == e.ref) s

end Sys2Proof.Machine
end

