-- ==== Sys2Proof/Machine/PacketBuffer.lean ====
section
/-! DEFINITION. The packet buffer and the frames it holds to send (25.5, 25.6). -/

namespace Sys2Proof.Machine
open Reg

/-- Cells a frame of `n` bytes occupies (R704). -/
def cellsOf (n : Nat) : Nat := ceilDiv n 256

/-- The account of a port's transmit queue (0 to 7), receive queue (8 to 15) or GVSP path (16) (R704). -/
def accountOf (port k : Nat) : Nat := 17 * port + k

/-- Shared cells free: the cells beyond the sum of MIN, less those held beyond a minimum (R704, R705). -/
def sharedFree (s : State) : Nat :=
  8192 - ((List.range 68).foldl (fun a i => a + max (s.rd (PB_ACCT_MIN 0 i)) (s.rd (PB_USE_CELLS 0 i))) 0)

/-- A frame of `c` cells can be placed on an account (R705). -/
def placeable (s : State) (a c : Nat) : Bool :=
  let u := s.rd (PB_USE_CELLS 0 a)
  let mn := s.rd (PB_ACCT_MIN 0 a)
  decide (u + c ≤ mn) ||
    (decide (u + c ≤ s.rd (PB_ACCT_MAX 0 a)) && decide (u + c - max u mn ≤ sharedFree s))

/-- Take or return the cells of an account. -/
def setUse (a v : Nat) (s : State) : State :=
  let s := s.wr (PB_USE_CELLS 0 a) v
  s.wr (PB_FREE_CELLS 0) (sharedFree s)

def takeCells (a c : Nat) (s : State) : State := setUse a (s.rd (PB_USE_CELLS 0 a) + c) s
def freeCells (a c : Nat) (s : State) : State := setUse a (s.rd (PB_USE_CELLS 0 a) - c) s

/-- The frames a transmit queue holds, shown in TXQ_STAT. -/
def showHeld (port queue : Nat) (s : State) : State :=
  s.wr (TXQ_STAT_HELD port queue) (s.eth.frames.filter fun f => f.port == port && f.queue == queue).length

/-- Put a frame in the buffer; its cells are charged to its account. -/
def holdFrame (f : EthFrame) (s : State) : State :=
  let f := { f with handle := s.eth.next }
  showHeld f.port f.queue
    (takeCells f.account f.cells { s with eth := { s.eth with frames := s.eth.frames ++ [f], next := s.eth.next + 1 } })

/-- Take frames out of the buffer: their cells return. -/
def releaseFrames (p : EthFrame → Bool) (s : State) : State :=
  let out := s.eth.frames.filter p
  let kept := s.eth.frames.filter fun f => !p f
  let s := { s with eth := { s.eth with frames := kept } }
  out.foldl (fun t f => showHeld f.port f.queue (freeCells f.account f.cells t)) s

/-- The port's link is UP (R712, R713), its island running (R120). -/
def ethUp (s : State) (n : Nat) : Bool := s.rd (ETH_STATUS_STATE n) == 2 && islandRuns s 0x48

/-- Take frames out of the buffer that will never leave: a requested stamp makes its entry (R199). -/
def loseFrames (p : EthFrame → Bool) (s : State) : State :=
  (s.eth.frames.filter fun f => p f && f.tsreq).foldl (fun t f => pushTxts f.port (txStampNone t f.tsid) t) (releaseFrames p s)

/-- A frame that is abandoned or discarded: it is counted, and a requested stamp makes its entry (R199, R710). -/
def countAbandoned (f : EthFrame) (s : State) : State :=
  let s := s.inc (TX_ABAND f.port)
  if f.tsreq then pushTxts f.port (txStampNone s f.tsid) s else s

end Sys2Proof.Machine
end

