-- ==== Sys2Proof/Machine/Validate.lean ====
section
/-! DEFINITION. Commands and their validation: the command header (R379), the control opcodes (R381), and the checks every
command passes before it starts (R382). -/

namespace Sys2Proof.Machine
open Reg

/-! ### The command header (R379) -/

def cmdOpc (c : Bytes) : Nat := u8 c 0
def cmdClass (c : Bytes) : Nat := bits (u32 c 0) 8 4
def cmdFlags (c : Bytes) : Nat := bits (u32 c 0) 12 10
def cmdTid (c : Bytes) : Nat := bits (u32 c 0) 22 10
def cmdTag (c : Bytes) : Nat := u32 c 4
def cmdIrq (c : Bytes) : Bool := bit (u32 c 0) 12
def cmdPipe (c : Bytes) : Bool := bit (u32 c 0) 13
def cmdInherit (c : Bytes) : Bool := bit (u32 c 0) 14
def cmdLclr (c : Bytes) : Bool := bit (u32 c 0) 15
def cmdForce (c : Bytes) : Bool := bit (u32 c 0) 16

/-- What the chapter of an opcode says of a command's operands: reserved bits clear, limits kept, the device-memory ranges it
touches (address, length, written), its worst-case duration in ns where it has one, the event it names, the column it is pinned to
(R455), whether a range of a local memory is forbidden (R443, R525), and the ranges of the local memory. -/
structure OpCheck where
  clean : Bool := true
  within : Bool := true
  ranges : List (Nat × Nat × Bool) := []
  durNs : Nat := 0
  event : Option Nat := none
  pin : Option Nat := none
  denied : Bool := false
  locRanges : List (Nat × Nat × Bool) := []
  deriving DecidableEq, Repr

/-- All bytes of the listed stretches (offset, length) are zero. -/
def zeroAt (c : Bytes) (l : List (Nat × Nat)) : Bool := l.all fun e => leNat (slice c e.1 e.2) == 0

/-- The control opcodes (R381). -/
def checkControl (c : Bytes) : Option OpCheck :=
  let addrOk := u32 c 8 % 4 == 0 && decide (u32 c 8 < 0x02000000)
  if cmdOpc c = 0x00 then some { clean := zeroAt c [(8, 56)] }
  else if cmdOpc c = 0x01 then some { clean := zeroAt c [(20, 44)], within := addrOk }
  else if cmdOpc c = 0x02 then some { clean := zeroAt c [(12, 52)], within := addrOk }
  else if cmdOpc c = 0x03 then
    some { clean := zeroAt c [(24, 40)], within := addrOk && decide (1 ≤ u32 c 20) && decide (u32 c 20 ≤ 10000) }
  else if cmdOpc c = 0x04 then
    some { clean := zeroAt c [(10, 2), (16, 48)] && decide (u16 c 8 < 4096), within := decide (1 ≤ u32 c 12)
           event := some (u16 c 8 % 4096) }
  else if cmdOpc c = 0x05 then
    some { clean := zeroAt c [(10, 2), (24, 40)] && decide (u16 c 8 < 4096), event := some (u16 c 8 % 4096) }
  else if cmdOpc c = 0x06 then
    some { clean := zeroAt c [(10, 6), (24, 40)] && decide (u16 c 8 < 4096), event := some (u16 c 8 % 4096) }
  else none

/-- A tenant's event range (R396); tenant 0 may name any event (R382). -/
def eventAllowed (s : State) (t e : Nat) : Bool :=
  if t = 0 then true
  else match quotaOf s t with
    | none => false
    | some z => decide (u16 z 4 ≤ e) && decide (e < u16 z 4 + u16 z 6)

/-- The smallest preemption limit (R36) of the columns a queue may use, in ns: LE columns of ENG for class 0x1, VX columns for
class 0x2, the Gleaner for class 0x3. -/
def preemptLimitNs (s : State) (q : Nat) : Nat :=
  let eng := s.rd (Q_ENG_ENG q)
  let cols := if s.rd (Q_CFG_CLASS q) = 1 then (List.range 8).filter (bit eng)
    else if s.rd (Q_CFG_CLASS q) = 2 then ((List.range 4).filter (bit eng)).map (· + 8)
    else if s.rd (Q_CFG_CLASS q) = 3 then [12] else []
  (cols.map fun c => s.rd (SRV_LIMIT_US c) * 1000).foldl min (65535 * 1000)

/-- The verdict of R382 on a command of queue `q`, whose opcode's check is `oc`: none when it passes, else status and cause. -/
def verdict (s : State) (q : Nat) (c : Bytes) (oc : Option OpCheck) : Option (Nat × Nat) :=
  let o := oc.getD {}
  let t := s.rd (Q_CFG_TID q)
  let known := oc.isSome
  let classOk := cmdClass c == 0 || cmdClass c == s.rd (Q_CFG_CLASS q)
  if cmdTid c ≠ t then some (0x07, 0x01)
  else if o.denied || o.ranges.any (fun r => decide (2 ^ 48 ≤ r.1) || !permitted s t r.1 r.2.1 r.2.2) then some (0x07, 0x06)
  else if cmdForce c && cmdClass c == 6 && t != 0 then some (0x07, 0x08)
  else if (match o.event with | some e => !eventAllowed s t e | none => false) then some (0x07, 0x09)
  else if !classOk then some (0x0C, 0x02)
  else if !known then some (0x0C, 0x03)
  else if bits (u32 c 0) 17 5 ≠ 0 || !o.clean then some (0x03, 0x04)
  else if !o.within then some (0x03, 0x05)
  else if !s.rdb (Q_CFG_RT q) && decide (preemptLimitNs s q < o.durNs) then some (0x03, 0x07)
  else none

end Sys2Proof.Machine
end

