-- ==== Sys2Proof/Machine/ValidateGl.lean ====
section
/-! DEFINITION. The Gleaner's index (R545, R546) and the operand check of class 0x3 (R552, R553, R561). -/

namespace Sys2Proof.Machine
open Reg

/-! ### The index header (R545) -/

def ixDim (h : Bytes) : Nat := u16 h 6
def ixM (h : Bytes) : Nat := u8 h 8
def ixDsub (h : Bytes) : Nat := ixDim h / ixM h
def ixResid (h : Bytes) : Bool := bit (u8 h 10) 0
def ixFull (h : Bytes) : Bool := bit (u8 h 10) 1
def ixC1 (h : Bytes) : Nat := u16 h 12
def ixC2 (h : Bytes) : Nat := u16 h 14
def ixLists (h : Bytes) : Nat := ixC1 h * ixC2 h
def ixVecs (h : Bytes) : Nat := u64 h 16
def ixMaxList (h : Bytes) : Nat := u32 h 24
def ixGen (h : Bytes) : Nat := u64 h 32
def ixTotal (h : Bytes) : Nat := u64 h 96

/-- The arrays: offset and length. -/
def ixArrays (h : Bytes) : List (Nat × Nat) :=
  [(u64 h 40, 2 * ixC1 h * ixDim h), (u64 h 48, 2 * ixLists h * ixDim h), (u64 h 56, 16 * ixLists h), (u64 h 64, 512 * ixDim h),
   (u64 h 72, ixVecs h * ixM h), (u64 h 80, 8 * ixVecs h)] ++ if ixFull h then [(u64 h 88, 2 * ixVecs h * ixDim h)] else []

/-! ### Slots -/

/-- The fields of GL_SLOT_A or GL_SLOT_B: x is 1 for A, 2 for B. -/
def slotLoaded (x : Nat) : Field := if x = 1 then GL_SLOT_A_LOADED else GL_SLOT_B_LOADED
def slotValid (x : Nat) : Field := if x = 1 then GL_SLOT_A_VALID else GL_SLOT_B_VALID
def slotErr (x : Nat) : Field := if x = 1 then GL_SLOT_A_ERR else GL_SLOT_B_ERR
def slotGen (x : Nat) : Field := if x = 1 then GL_SLOT_A_GEN else GL_SLOT_B_GEN

/-- The header of the index in a slot. -/
def slotHead (s : State) (x : Nat) : Bytes := s.gl.heads.get [] x

/-! ### GSEARCH (R552) -/

/-- The operands of GSEARCH. -/
structure Search where
  qry : Nat
  dst : Nat
  k : Nat
  probe : Nat
  beam : Nat
  rr : Nat
  nq : Nat
  slot : Nat
  deadline : Nat
  deriving DecidableEq, Repr

def searchOf (c : Bytes) : Search := ⟨u64 c 8, u64 c 16, u16 c 24, u16 c 26, u16 c 28, u16 c 30, u16 c 32, u8 c 34, u32 c 36⟩

/-- Bytes of a result block (R552), and of a query row (R436). -/
def Search.rb (g : Search) : Nat := ceilDiv (16 + 16 * g.k) 64 * 64
def queryPitch (dim : Nat) : Nat := ceilDiv (2 * dim) 64 * 64

/-- The VALID slots the command may use. -/
def mayServe (s : State) (g : Search) : List Nat := [1, 2].filter fun x => s.rdb (slotValid x) && (g.slot == 0 || g.slot == x)

/-- Cycles and bytes of `nl` lists of one query in an index, without and with the work beside the lists (R561). -/
def listCost (h : Bytes) (nl : Nat) : Nat × Nat :=
  (nl * 4 * ixDim h + nl * ceilDiv (ixMaxList h * ixM h) 512, 16 * nl + nl * ixMaxList h * ixM h)
def queryCost (h : Bytes) (g : Search) : Nat × Nat :=
  let l := listCost h g.probe
  (ceilDiv (ixC1 h * ixDim h) 64 + g.beam * ceilDiv (ixC2 h * ixDim h) 64 + l.1 + g.rr * ceilDiv (ixDim h) 64,
   g.beam * ixC2 h * ixDim h * 2 + l.2 + g.rr * ixDim h * 2 + 8 * g.k + queryPitch (ixDim h) + g.rb)

/-- max(Ta, Tm), in ns. -/
def searchNs (s : State) (p : Nat × Nat) : Nat := max (cyclesNs s 12 p.1) (ceilDiv (p.2 * 10) (max 1 (s.rd GL_CFG_WC_GBPS)))

/-- The worst-case duration over one index (R561). -/
def indexNs (s : State) (g : Search) (h : Bytes) : Nat :=
  let q := queryCost h g
  let uncut := searchNs s (g.nq * q.1, g.nq * q.2)
  (if g.deadline = 0 then uncut else min uncut (g.deadline * 1000 + searchNs s (listCost h 1))) + 1000

/-- The check of class 0x3 (R380, R552, R553). -/
def checkSearch (s : State) (q : Nat) (c : Bytes) : Option OpCheck :=
  if cmdOpc c ≠ 0x01 then none
  else
    let g := searchOf c
    let hs := (mayServe s g).map (slotHead s)
    some
      { clean := zeroAt c [(35, 1), (40, 24)]
        within := decide (1 ≤ g.k) && decide (g.k ≤ 256) && decide (1 ≤ g.probe) && decide (g.probe ≤ 4096) && decide (1 ≤ g.beam) &&
          decide (g.beam ≤ 256) && (g.rr == 0 || (decide (g.k ≤ g.rr) && decide (g.rr ≤ 4096))) && decide (1 ≤ g.nq) &&
          decide (g.nq ≤ 256) && decide (g.slot ≤ 2) && decide (g.deadline ≤ 65535) && (g.deadline == 0 || !s.rdb (Q_CFG_DET q))
        ranges := [(g.qry, g.nq * maxOf (hs.map fun h => queryPitch (ixDim h)), false), (g.dst, g.nq * g.rb, true)]
        durNs := maxOf (1000 :: hs.map (indexNs s g)) }

end Sys2Proof.Machine
end

