-- ==== Sys2Proof/Machine/ValidateIo.lean ====
section
/-! DEFINITION. The operand checks of class 0x4 (R572, R573) and class 0x5 (R653, R662, R663, R669, R694, R707). -/

namespace Sys2Proof.Machine
open Reg

/-- Class 0x4: DCOMPARE and DSAFE (R572, R573). -/
def checkDecision (s : State) (q : Nat) (c : Bytes) : Option OpCheck :=
  if cmdOpc c = 0x01 then
    some
      { clean := zeroAt c [(10, 2), (24, 40)] && decide (u8 c 8 < 16) && decide (u8 c 9 < 64)
        within := cmdInherit c && (match strOf s (u8 c 8 % 16) with | some e => bits (u16 e 2) 0 10 == q | none => false)
        ranges := [(u64 c 16, 64, true)] }
  else if cmdOpc c = 0x02 then
    some { clean := zeroAt c [(9, 3), (24, 40)], within := (actuator s (u8 c 8)).isSome, ranges := [(u64 c 16, 64, true)] }
  else none

/-- Tenant `t` may name object `o` (R653). -/
def mayName (s : State) (t o : Nat) : Bool := t == 0 || s.rd (PAGE_OWN_OWNER ((0x350000 + 8 * o) / 0x1000)) == t

/-- The DLC a CANTX sends with (R663). -/
def txDlc (s : State) (c : Bytes) : Nat := if bit (u8 c 9) 3 then bits (u8 c 12) 0 4 else s.rd (OBJ_DLC (u16 c 10 % 2048))

/-- Payload bytes of a CANTX. -/
def txBytes (s : State) (c : Bytes) : Nat := dlcBytes (s.rdb (OBJ_FDF (u16 c 10 % 2048))) (txDlc s c)

/-- A range no tenant may touch: cause 0x06 for an object of another page's owner (R653). -/
def forbiddenRange : Nat × Nat × Bool := (2 ^ 48, 1, false)

/-- Class 0x5: CANTX, CANRD and ETHTX. -/
def checkFrames (s : State) (q : Nat) (c : Bytes) : Option OpCheck :=
  let t := s.rd (Q_CFG_TID q)
  if cmdOpc c = 0x01 then
    let n := u8 c 8 % 8
    let o := u16 c 10 % 2048
    let mode := bits (u8 c 9) 0 2
    some
      { clean := zeroAt c [(32, 32)] && decide (u8 c 8 < 8) && decide (u8 c 9 < 32) && decide (u16 c 10 < 2048) &&
          decide (u8 c 12 < 16) && decide (u8 c 13 < 8)
        within := s.rdb (CAN_CTL_EN n) && objectOk s n o 1 && !templateObject s o && decide (txBytes s c ≤ slotBytes s o) &&
          mode != 3 && (mode != 2 || (s.rdb (LG_CTL_EN (u8 c 13 % 8)) && s.rd (LG_CTL_TARGET (u8 c 13 % 8)) == n))
        ranges := (if bit (u8 c 9) 2 then [(u64 c 16, txBytes s c, false)] else []) ++
          (if mayName s t o then [] else [forbiddenRange]) }
  else if cmdOpc c = 0x02 then
    let o := u16 c 10 % 2048
    some
      { clean := zeroAt c [(9, 1), (14, 2), (24, 40)] && decide (u8 c 8 < 8) && decide (u16 c 10 < 2048)
        within := decide (1 ≤ u16 c 12) && decide (u16 c 12 ≤ 512)
        ranges := [(u64 c 16, 96 * u16 c 12, true)] ++ (if mayName s t o then [] else [forbiddenRange]) }
  else if cmdOpc c = 0x10 then
    let n := u8 c 8 % 4
    let mode := bits (u8 c 10) 0 2
    some
      { clean := zeroAt c [(34, 30)] && decide (u8 c 8 < 4) && decide (u8 c 9 < 8) && decide (u8 c 10 < 16) && decide (u8 c 11 < 8)
        within := s.rd (ETH_CFG_MODE n) != 0 && s.rdb (TXQ_CFG_EN n (u8 c 9 % 8)) && decide (60 ≤ u16 c 12) &&
          decide (u16 c 12 + 4 ≤ s.rd (ETH_CFG_MAXFRAME n)) && mode != 3 &&
          (mode != 2 || s.rd (LG_CTL_TARGET (u8 c 11 % 8)) == 8 + n)
        ranges := [(u64 c 16, u16 c 12, false)] }
  else none

end Sys2Proof.Machine
end

