-- ==== Sys2Proof/Machine/Jpeg.lean ====
section
/-! DEFINITION. Baseline JPEG decoding (R244): markers, Huffman scan, and the JFIF conversion. The inverse DCT is a constant without
a body: the spec fixes that its bits are the same on every part, not what they are (log 33). -/

namespace Sys2Proof.Machine.Jpg
open Sys2Proof.Machine

/-- A component of the frame header: identifier, sampling factors, quantisation table. -/
structure Comp where
  id : Nat
  h : Nat
  v : Nat
  tq : Nat
  deriving DecidableEq, Repr

/-- A scan: its components with their DC and AC tables, and its entropy-coded bytes. -/
structure Scan where
  comps : List (Nat × Nat × Nat)
  data : Bytes
  tables : Sparse (List (Nat × Nat × Nat))
  restart : Nat
  deriving DecidableEq, Repr

/-- What the markers give: dimensions, components, quantisation tables, Huffman tables (class·4 + id: length, code, symbol),
restart interval, scans. -/
structure Head where
  width : Nat := 0
  height : Nat := 0
  comps : List Comp := []
  quant : Sparse (List Nat) := []
  huff : Sparse (List (Nat × Nat × Nat)) := []
  restart : Nat := 0
  scans : List Scan := []
  deriving DecidableEq, Repr

def be16 (b : Bytes) : Nat := (b.getD 0 0).toNat * 256 + (b.getD 1 0).toNat

/-- Canonical codes from the counts per length. -/
def codes : Nat → Nat → List Nat → List Nat → List (Nat × Nat × Nat)
  | _, _, [], _ => []
  | len, code, n :: ns, syms =>
    ((List.range n).map fun i => (len, code + i, syms.getD i 0)) ++ codes (len + 1) ((code + n) * 2) ns (syms.drop n)

/-- The tables of a DHT segment. -/
def huffTables : Nat → Bytes → Sparse (List (Nat × Nat × Nat)) → Option (Sparse (List (Nat × Nat × Nat)))
  | 0, _, t => some t
  | fuel + 1, b, t =>
    if b.isEmpty then some t
    else
      let tc := (b.getD 0 0).toNat
      let counts := (slice b 1 16).map BitVec.toNat
      let total := counts.foldl (· + ·) 0
      if b.length < 17 + total ∨ 2 ≤ tc / 16 ∨ 2 ≤ tc % 16 then none
      else huffTables fuel (b.drop (17 + total)) (t.insert (tc / 16 * 4 + tc % 16) (codes 1 0 counts ((slice b 17 total).map BitVec.toNat)))

/-- The tables of a DQT segment, in zigzag order. -/
def quantTables : Nat → Bytes → Sparse (List Nat) → Option (Sparse (List Nat))
  | 0, _, t => some t
  | fuel + 1, b, t =>
    if b.isEmpty then some t
    else
      let pq := (b.getD 0 0).toNat
      if b.length < 65 ∨ 4 ≤ pq then none
      else quantTables fuel (b.drop 65) (t.insert pq ((slice b 1 64).map BitVec.toNat))

/-- The components of a frame header. -/
def frameComps (n : Nat) (b : Bytes) : List Comp :=
  (List.range n).map fun i => ⟨u8 b (3 * i), u8 b (3 * i + 1) / 16, u8 b (3 * i + 1) % 16, u8 b (3 * i + 2)⟩

/-- 4:4:4, 4:2:2 and 4:2:0 (R244). -/
def samplingOk (l : List Comp) : Bool :=
  match l with
  | [_] => true
  | [y, a, c] =>
    a.h == c.h && a.v == c.v && a.h != 0 && a.v != 0 &&
      [(1, 1), (2, 1), (2, 2)].any fun r => y.h == r.1 * a.h && y.v == r.2 * a.v
  | _ => false

/-- Bytes of entropy-coded data before the next marker that is no restart marker. -/
def entropyLen : Nat → Bytes → Nat
  | 0, _ => 0
  | fuel + 1, b =>
    match b with
    | [] => 0
    | x :: y :: r =>
      if x = 0xFF ∧ y ≠ 0 ∧ !(decide (0xD0 ≤ y.toNat) && decide (y.toNat ≤ 0xD7)) then 0
      else 1 + entropyLen fuel (y :: r)
    | [_] => 1

/-- Walk the markers after SOI (R244): APPn and COM are skipped, anything but baseline is not decoded. -/
def markers : Nat → Bytes → Head → Option Head
  | 0, _, _ => none
  | fuel + 1, b, h =>
    if u8 b 0 ≠ 0xFF ∨ b.length < 2 then none
    else
      let m := u8 b 1
      let len := be16 (b.drop 2)
      let seg := slice b 4 (len - 2)
      let rest := b.drop (2 + len)
      if m = 0xD9 then some h
      else if m = 0xFF then markers fuel (b.drop 1) h
      else if b.length < 2 + len ∨ len < 2 then none
      else if (0xE0 ≤ m ∧ m ≤ 0xEF) ∨ m = 0xFE then markers fuel rest h
      else if m = 0xC0 then
        let n := u8 seg 5
        let cs := frameComps n (seg.drop 6)
        if u8 seg 0 ≠ 8 ∨ !samplingOk cs ∨ be16 (seg.drop 1) = 0 ∨ be16 (seg.drop 3) = 0 then none
        else markers fuel rest { h with height := be16 (seg.drop 1), width := be16 (seg.drop 3), comps := cs }
      else if m = 0xC4 then
        match huffTables 8 seg h.huff with | some t => markers fuel rest { h with huff := t } | none => none
      else if m = 0xDB then
        match quantTables 8 seg h.quant with | some t => markers fuel rest { h with quant := t } | none => none
      else if m = 0xDD then markers fuel rest { h with restart := be16 seg }
      else if m = 0xDA then
        let n := u8 seg 0
        let cs := (List.range n).map fun i => (u8 seg (1 + 2 * i), u8 seg (2 + 2 * i) / 16, u8 seg (2 + 2 * i) % 16)
        let k := entropyLen (rest.length + 1) rest
        if h.comps = [] ∨ n = 0 ∨ u8 seg (1 + 2 * n) ≠ 0 ∨ u8 seg (2 + 2 * n) ≠ 63 ∨ u8 seg (3 + 2 * n) ≠ 0 ∨
            !cs.all (fun c => h.comps.any (·.id == c.1)) then none
        else markers fuel (rest.drop k) { h with scans := h.scans ++ [⟨cs, rest.take k, h.huff, h.restart⟩] }
      else none

/-- The markers of an image. -/
def head (b : Bytes) : Option Head :=
  if u8 b 0 = 0xFF ∧ u8 b 1 = 0xD8 then markers b.length (b.drop 2) {} else none

/-- The dimensions and components the SOF states (R233), even where the rest does not parse. -/
def sof : Nat → Bytes → Option (Nat × Nat × Nat)
  | 0, _ => none
  | fuel + 1, b =>
    if u8 b 0 ≠ 0xFF ∨ b.length < 4 then none
    else if u8 b 1 = 0xFF then sof fuel (b.drop 1)
    else if 0xC0 ≤ u8 b 1 ∧ u8 b 1 ≤ 0xCF ∧ u8 b 1 ≠ 0xC4 ∧ u8 b 1 ≠ 0xC8 ∧ u8 b 1 ≠ 0xCC then
      some (be16 (b.drop 7), be16 (b.drop 5), u8 b 9)
    else sof fuel (b.drop (2 + be16 (b.drop 2)))

/-! ### The scan -/

/-- The bits of the segments between restart markers, stuffed zero bytes removed. -/
def segments : Bytes → List Bool → List (List Bool)
  | [], acc => [acc.reverse]
  | [x], acc => [(((List.range 8).map fun i => bit x.toNat i) ++ acc).reverse]
  | x :: y :: r, acc =>
    if x = 0xFF then
      if y = 0 then segments r (List.replicate 8 true ++ acc) else acc.reverse :: segments r []
    else segments (y :: r) (((List.range 8).map fun i => bit x.toNat i) ++ acc)

/-- Read one Huffman symbol. -/
def symbol (t : List (Nat × Nat × Nat)) : Nat → Nat → Nat → List Bool → Option (Nat × List Bool)
  | 0, _, _, _ => none
  | _ + 1, _, _, [] => none
  | fuel + 1, len, code, b :: bs =>
    let code := 2 * code + ofBool b
    match t.find? fun e => e.1 == len + 1 && e.2.1 == code with
    | some e => some (e.2.2, bs)
    | none => symbol t fuel (len + 1) code bs

/-- Read `k` bits as a signed difference. -/
def receive (k : Nat) (bs : List Bool) : Option (Int × List Bool) :=
  if bs.length < k then none
  else
    let v := (bs.take k).foldl (fun a b => 2 * a + ofBool b) 0
    some (if k = 0 then 0 else if v < 2 ^ (k - 1) then (v : Int) - (2 ^ k - 1 : Nat) else v, bs.drop k)

/-- The AC coefficients from zigzag place `k`. -/
def acs (t : List (Nat × Nat × Nat)) : Nat → Nat → List Bool → List (Nat × Int) → Option (List (Nat × Int) × List Bool)
  | 0, _, bs, acc => some (acc, bs)
  | fuel + 1, k, bs, acc =>
    if 64 ≤ k then some (acc, bs)
    else match symbol t 16 0 0 bs with
      | none => none
      | some (rs, bs) =>
        if rs % 16 = 0 then (if rs / 16 = 15 then acs t fuel (k + 16) bs acc else some (acc, bs))
        else match receive (rs % 16) bs with
          | none => none
          | some (v, bs) => if 64 ≤ k + rs / 16 then none else acs t fuel (k + rs / 16 + 1) bs ((k + rs / 16, v) :: acc)

/-- One block: its coefficients in zigzag order. -/
def block (dc ac : List (Nat × Nat × Nat)) (pred : Int) (bs : List Bool) : Option (List Int × List Bool) :=
  match symbol dc 16 0 0 bs with
  | none => none
  | some (n, bs) =>
    match receive n bs with
    | none => none
    | some (d, bs) =>
      match acs ac 64 1 bs [] with
      | none => none
      | some (l, bs) =>
        some ((List.range 64).map fun k => if k = 0 then pred + d else (l.lookup k).getD 0, bs)

/-- A decoded block: component, place in blocks, dequantised coefficients in zigzag order. -/
structure Blk where
  comp : Nat
  bx : Nat
  by_ : Nat
  coef : List Int
  deriving DecidableEq, Repr

/-- One block to read: component index in the frame, block place, DC and AC tables. -/
structure Job where
  comp : Nat
  bx : Nat
  by_ : Nat
  dc : Nat
  ac : Nat
  tq : Nat
  deriving DecidableEq, Repr

/-- Read the blocks of one restart interval. -/
def jobs (h : Head) (t : Sparse (List (Nat × Nat × Nat))) : List Job → Sparse Int → List Bool → Option (List Blk)
  | [], _, _ => some []
  | j :: js, preds, bs =>
    match block ((t.find j.dc).getD []) ((t.find (4 + j.ac)).getD []) ((preds.find j.comp).getD 0) bs with
    | none => none
    | some (l, bs) =>
      match jobs h t js (preds.insert j.comp (l.headD 0)) bs with
      | none => none
      | some r => some (⟨j.comp, j.bx, j.by_, List.zipWith (fun a q => a * (q : Nat)) l ((h.quant.find j.tq).getD [])⟩ :: r)

def hMax (h : Head) : Nat := h.comps.foldl (fun a c => max a c.h) 1
def vMax (h : Head) : Nat := h.comps.foldl (fun a c => max a c.v) 1

/-- The blocks of a scan in order, by minimum coded unit. -/
def scanUnits (h : Head) (sc : Scan) : List (List Job) :=
  let idx := fun i => (h.comps.findIdx? (·.id == i)).getD 0
  let comp := fun i => h.comps.getD (idx i) ⟨0, 1, 1, 0⟩
  match sc.comps with
  | [c] =>
    let k := comp c.1
    let w := ceilDiv (ceilDiv (h.width * k.h) (hMax h)) 8
    let v := ceilDiv (ceilDiv (h.height * k.v) (vMax h)) 8
    (List.range (w * v)).map fun i => [⟨idx c.1, i % w, i / w, c.2.1, c.2.2, k.tq⟩]
  | cs =>
    let w := ceilDiv h.width (8 * hMax h)
    let v := ceilDiv h.height (8 * vMax h)
    (List.range (w * v)).map fun i => cs.flatMap fun c =>
      let k := comp c.1
      (List.range (k.h * k.v)).map fun j => ⟨idx c.1, i % w * k.h + j % k.h, i / w * k.v + j / k.h, c.2.1, c.2.2, k.tq⟩

/-- Units grouped by restart interval. -/
def intervals (n : Nat) : Nat → List (List Job) → List (List Job)
  | 0, _ => []
  | fuel + 1, l => if l.isEmpty then [] else if n = 0 then [l.flatten] else (l.take n).flatten :: intervals n fuel (l.drop n)

/-- Read a scan. -/
def scanBlocks (h : Head) (sc : Scan) : Option (List Blk) :=
  let u := scanUnits h sc
  let js := intervals sc.restart (u.length + 1) u
  let segs := segments sc.data []
  (List.zip js (segs ++ List.replicate js.length [])).foldl (fun o e =>
    match o, jobs h sc.tables e.1 [] e.2 with
    | some a, some b => some (a ++ b)
    | _, _ => none) (some [])

/-- A decoded image: dimensions, components (1 or 3) and its rows of stored bytes. -/
structure Image where
  width : Nat
  height : Nat
  comps : Nat
  rows : List Bytes
  deriving DecidableEq, Repr

/-- Sample (x, y) of component `c`, chroma replicated (R244). -/
def sample (h : Head) (bl : List Blk) (c x y : Nat) : Nat :=
  let k := h.comps.getD c ⟨0, 1, 1, 0⟩
  let sx := if h.comps.length = 1 then x else x * k.h / hMax h
  let sy := if h.comps.length = 1 then y else y * k.v / vMax h
  match bl.find? fun b => b.comp == c && b.bx == sx / 8 && b.by_ == sy / 8 with
  | some b => Config.idct b.coef (sy % 8 * 8 + sx % 8) % 256
  | none => 0

/-- A 16-bit fixed-point value, halves rounded up, clamped to a byte. -/
def clampByte (v : Int) : Byte := BitVec.ofNat 8 (max 0 (min 255 ((v + 32768) / 65536))).toNat

/-- The JFIF conversion (R244): R, G, B. -/
def toRgb (y cb cr : Nat) : Bytes :=
  let b : Int := (cb : Int) - 128
  let r : Int := (cr : Int) - 128
  let y : Int := (y : Int) * 65536
  [clampByte (y + 91881 * r), clampByte (y - 22554 * b - 46802 * r), clampByte (y + 116130 * b)]

/-- Decode an image; none where it does not parse (R244). -/
def decode (b : Bytes) : Option Image :=
  match head b with
  | none => none
  | some h =>
    let bl := h.scans.foldl (fun o sc => match o, scanBlocks h sc with
      | some a, some c => some (a ++ c)
      | _, _ => none) (some [])
    match bl with
    | none => none
    | some l =>
      if h.scans = [] ∨ !(List.range h.comps.length).all (fun c => l.any (·.comp == c)) then none
      else
        some
          { width := h.width, height := h.height, comps := h.comps.length
            rows := (List.range h.height).map fun y => (List.range h.width).flatMap fun x =>
              if h.comps.length = 1 then [BitVec.ofNat 8 (sample h l 0 x y)]
              else toRgb (sample h l 0 x y) (sample h l 1 x y) (sample h l 2 x y) }

end Sys2Proof.Machine.Jpg
end

