-- ==== Sys2Proof/Machine/JpegLs.lean ====
section
/-! DEFINITION. JPEG-LS encoding (R256): ISO/IEC 14495-1 with default thresholds, RESET 64, line interleave and NEAR 0 to 4. The
encoder yields the scan's bytes and the values a decoder reproduces. PRESUMED: the arithmetic is the standard's; the spec names it
only (log 32). -/

namespace Sys2Proof.Machine.Jls
open Sys2Proof.Machine

/-- What a scan is coded with: largest value and NEAR. -/
structure Par where
  maxVal : Nat
  near : Nat
  deriving DecidableEq, Repr

namespace Par

/-- Steps of the quantised error. -/
def range (p : Par) : Nat := (p.maxVal + 2 * p.near) / (2 * p.near + 1) + 1
/-- The least `b` with 2^b at least n. -/
def bitsFor (n : Nat) : Nat := Nat.log2 (2 * n - 1)
def qbpp (p : Par) : Nat := bitsFor p.range
def bpp (p : Par) : Nat := max 2 (bitsFor (p.maxVal + 1))
def limit (p : Par) : Nat := 2 * (p.bpp + max 8 p.bpp)
/-- A threshold is kept between the one below it and the largest value. -/
def hold (p : Par) (v lo : Nat) : Nat := if p.maxVal < v ∨ v < lo then lo else v
def factor (p : Par) : Nat := (min p.maxVal 4095 + 128) / 256
def t1 (p : Par) : Nat := p.hold (p.factor + 2 + 3 * p.near) (p.near + 1)
def t2 (p : Par) : Nat := p.hold (4 * p.factor + 3 + 5 * p.near) p.t1
def t3 (p : Par) : Nat := p.hold (17 * p.factor + 4 + 7 * p.near) p.t2

end Par

/-- The statistics of one context. -/
structure Ctx where
  a : Nat
  b : Int := 0
  c : Int := 0
  n : Nat := 1
  neg : Nat := 0
  deriving DecidableEq, Repr

/-- The coder: contexts, run index, and the bits written, last first. -/
structure St where
  ctx : Sparse Ctx := []
  run : Nat := 0
  out : List Bool := []
  deriving DecidableEq, Repr

def freshCtx (p : Par) : Ctx := { a := max 2 ((p.range + 32) / 64) }
def St.at_ (s : St) (p : Par) (q : Nat) : Ctx := (s.ctx.find q).getD (freshCtx p)
def St.keepCtx (s : St) (q : Nat) (c : Ctx) : St := { s with ctx := s.ctx.insert q c }

/-- Append `k` bits of a number, most significant first. -/
def St.emit (s : St) (k v : Nat) : St :=
  { s with out := ((List.range k).map fun i => bit v i) ++ s.out }

/-- The order of run lengths. -/
def runOrder (i : Nat) : Nat :=
  [0, 0, 0, 0, 1, 1, 1, 1, 2, 2, 2, 2, 3, 3, 3, 3, 4, 4, 5, 5, 6, 6, 7, 7, 8, 9, 10, 11, 12, 13, 14, 15].getD i 15

/-- Golomb code of limited length. -/
def golomb (p : Par) (limit k m : Nat) (s : St) : St :=
  if m / 2 ^ k < limit - p.qbpp - 1 then ((s.emit (m / 2 ^ k) 0).emit 1 1).emit k m
  else ((s.emit (limit - p.qbpp - 1) 0).emit 1 1).emit p.qbpp (m - 1)

/-- The Golomb order: the least k with n · 2^k at least t. -/
def order (n t : Nat) : Nat := ((List.range 40).find? fun k => decide (t ≤ n * 2 ^ k)).getD 39

def clampTo (p : Par) (v : Int) : Nat := (max 0 (min v p.maxVal)).toNat

/-- The quantised gradient. -/
def quantise (p : Par) (d : Int) : Int :=
  let m := d.natAbs
  let q : Int := if m ≤ p.near then 0 else if m < p.t1 then 1 else if m < p.t2 then 2 else if m < p.t3 then 3 else 4
  if d < 0 then -q else q

/-- The error in steps of 2·NEAR+1. -/
def quantiseErr (p : Par) (e : Int) : Int :=
  if 0 < e then (e + p.near) / (2 * p.near + 1 : Nat) else -(((p.near : Int) - e) / (2 * p.near + 1 : Nat))

/-- The error brought into RANGE values. -/
def wrapErr (p : Par) (e : Int) : Int :=
  let e := if e < 0 then e + p.range else e
  if ((p.range + 1) / 2 : Nat) ≤ e then e - p.range else e

/-- Update a context after a regular error. -/
def learn (p : Par) (c : Ctx) (e : Int) : Ctx :=
  let b := c.b + e * (2 * p.near + 1 : Nat)
  let a := c.a + e.natAbs
  let h := decide (c.n = 64)
  let a := if h then a / 2 else a
  let b := if h then (if 0 ≤ b then b / 2 else -((1 - b) / 2)) else b
  let n := (if h then c.n / 2 else c.n) + 1
  if b ≤ -(n : Int) then
    let b := b + n
    { c with a := a, n := n, b := if b ≤ -(n : Int) then 1 - n else b, c := if -128 < c.c then c.c - 1 else c.c }
  else if 0 < b then
    let b := b - n
    { c with a := a, n := n, b := if 0 < b then 0 else b, c := if c.c < 127 then c.c + 1 else c.c }
  else { c with a := a, n := n, b := b }

/-- Code one sample in regular mode: the value reproduced and the coder. -/
def regular (p : Par) (x ra rb rc rd : Nat) (s : St) : Nat × St :=
  let q1 := quantise p ((rd : Int) - rb)
  let q2 := quantise p ((rb : Int) - rc)
  let q3 := quantise p ((rc : Int) - ra)
  let v := (q1 * 9 + q2) * 9 + q3
  let sign : Int := if v < 0 then -1 else 1
  let q := v.natAbs
  let c := s.at_ p q
  let med : Int := if max ra rb ≤ rc then min ra rb else if rc ≤ min ra rb then max ra rb else (ra : Int) + rb - rc
  let px := clampTo p (med + sign * c.c)
  let e := quantiseErr p (sign * ((x : Int) - px))
  let rx := clampTo p ((px : Int) + sign * e * (2 * p.near + 1 : Nat))
  let e := wrapErr p e
  let k := order c.n c.a
  let m := if p.near = 0 ∧ k = 0 ∧ 2 * c.b ≤ -(c.n : Int) then (if 0 ≤ e then 2 * e + 1 else -2 * (e + 1))
    else (if 0 ≤ e then 2 * e else -2 * e - 1)
  (rx, (golomb p p.limit k m.toNat s).keepCtx q (learn p c e))

/-- Write a run's length: its full segments, then what ended it. -/
def emitRun : Nat → Nat → Bool → St → St
  | 0, _, _, s => s
  | fuel + 1, cnt, eol, s =>
    let j := runOrder s.run
    if 2 ^ j ≤ cnt then emitRun fuel (cnt - 2 ^ j) eol { s.emit 1 1 with run := min 31 (s.run + 1) }
    else if eol then (if 0 < cnt then s.emit 1 1 else s)
    else (s.emit 1 0).emit j cnt

/-- Code the sample that ends a run. -/
def interrupt (p : Par) (x ra rb : Nat) (s : St) : Nat × St :=
  let ty := decide ((max ra rb) - (min ra rb) ≤ p.near)
  let px := if ty then ra else rb
  let sign : Int := if !ty && decide (rb < ra) then -1 else 1
  let e := quantiseErr p (sign * ((x : Int) - px))
  let rx := clampTo p ((px : Int) + sign * e * (2 * p.near + 1 : Nat))
  let e := wrapErr p e
  let q := if ty then 366 else 365
  let c := s.at_ p q
  let k := order c.n (if ty then c.a + c.n / 2 else c.a)
  let map := (k == 0 && decide (0 < e) && decide (2 * c.neg < c.n)) ||
    (decide (e < 0) && (decide (c.n ≤ 2 * c.neg) || k != 0))
  let m := 2 * e.natAbs - ofBool ty - ofBool map
  let s := golomb p (p.limit - runOrder s.run - 1) k m s
  let a := c.a + (m + 1 - ofBool ty) / 2
  let neg := if e < 0 then c.neg + 1 else c.neg
  let c := if c.n = 64 then { c with a := a / 2, n := 33, neg := neg / 2 } else { c with a := a, n := c.n + 1, neg := neg }
  (rx, { s.keepCtx q c with run := s.run - 1 })

/-- Code a line: pixels, the line above from this place, left and upper-left values, the run so far, the values reproduced. -/
def line (p : Par) : List Nat → List Nat → Nat → Nat → Option Nat → List Nat → St → List Nat × St
  | [], _, _, _, r, acc, s => (acc.reverse, match r with | some n => emitRun (n + 1) n true s | none => s)
  | x :: xs, up, ra, rc, r, acc, s =>
    let rb := up.headD 0
    let rd := up.tail.headD rb
    let flat := decide ((max rd rb) - (min rd rb) ≤ p.near) && decide ((max rb rc) - (min rb rc) ≤ p.near) &&
      decide ((max rc ra) - (min rc ra) ≤ p.near)
    if r.isSome || flat then
      let n := r.getD 0
      if (max x ra) - (min x ra) ≤ p.near then line p xs up.tail ra rb (some (n + 1)) (ra :: acc) s
      else
        let y := interrupt p x ra rb (emitRun (n + 1) n false s)
        line p xs up.tail y.1 rb none (y.1 :: acc) y.2
    else
      let y := regular p x ra rb rc rd s
      line p xs up.tail y.1 rb none (y.1 :: acc) y.2

/-- One component in a line-interleaved scan: the line above, the value before the line above, and its run index. -/
structure Comp where
  up : List Nat
  first : Nat := 0
  run : Nat := 0
  deriving DecidableEq, Repr

/-- Code one line of one component. -/
def compLine (p : Par) (c : Comp) (xs : List Nat) (s : St) : Comp × List Nat × St :=
  let ra := c.up.headD 0
  let y := line p xs c.up ra c.first none [] { s with run := c.run }
  (⟨y.1, ra, y.2.run⟩, y.1, y.2)

/-- Code a row of components. -/
def row (p : Par) : List Comp → List (List Nat) → St → List Comp × List (List Nat) × St
  | c :: cs, xs :: xss, s =>
    let y := compLine p c xs s
    let z := row p cs xss y.2.2
    (y.1 :: z.1, y.2.1 :: z.2.1, z.2.2)
  | _, _, s => ([], [], s)

/-- Code the rows of an image, each row the lines of its components. -/
def rows (p : Par) : List (List (List Nat)) → List Comp → St → List (List (List Nat)) × St
  | [], _, s => ([], s)
  | r :: rs, cs, s =>
    let y := row p cs r s
    let z := rows p rs y.1 y.2.2
    (y.2.1 :: z.1, z.2)

/-- Bits to bytes: after a byte of all ones the next byte carries seven bits. -/
def packBytes : Nat → List Bool → Bool → List Nat
  | 0, _, _ => []
  | fuel + 1, bs, stuff =>
    if bs.isEmpty then []
    else
      let k := if stuff then 7 else 8
      let v := (List.range k).foldl (fun a i => 2 * a + ofBool (bs.getD i false)) 0
      v :: packBytes fuel (bs.drop k) (v == 255)

/-- Encode an image of `depth` bits: the scan's bytes and the rows a decoder reproduces. -/
def encode (depth near : Nat) (img : List (List (List Nat))) : Bytes × List (List (List Nat)) :=
  let p : Par := ⟨2 ^ depth - 1, near⟩
  let comps := (img.headD []).map fun _ => ({ up := [] } : Comp)
  let y := rows p img comps {}
  let bs := y.2.out.reverse
  ((packBytes (bs.length + 1) bs false).map (BitVec.ofNat 8), y.1)

end Sys2Proof.Machine.Jls
end

