-- ==== Sys2Proof/Machine/Prepare.lean ====
section
/-! DEFINITION. What the Intake computes on pixels: unpacking (R224, R232), the prepare arithmetic (R242, R243), statistics
(R271) and sentinel lines (R275, R277). -/

namespace Sys2Proof.Machine
open Reg

/-! ### Formats (R232) -/

/-- Stored bytes per pixel. -/
def storedBpp (fmt : Nat) : Nat := [1, 2, 2, 2, 2, 3].getD fmt 1
/-- Stored bit depth of a component. -/
def depthOf (fmt : Nat) : Nat := [8, 10, 12, 16, 8, 8].getD fmt 8
/-- Components of a format. -/
def compsOf (fmt : Nat) : Nat := if fmt = 4 ∨ fmt = 5 then 3 else 1
/-- Wire bytes of a line. -/
def wireBytes (fmt w : Nat) : Nat :=
  if fmt = 1 then w * 5 / 4 else if fmt = 2 then w * 3 / 2 else w * storedBpp fmt
/-- The CSI-2 data type of a format (R224). -/
def dataType (fmt : Nat) : Nat := [0x2A, 0x2B, 0x2C, 0x2E, 0x1E, 0x24].getD fmt 0
/-- Stored bytes of a line. -/
def stride (fmt w : Nat) : Nat := w * storedBpp fmt

/-- Four RAW10 pixels of five bytes. -/
def raw10 (b : Bytes) (i : Nat) : Nat := u8 b (i / 4 * 5 + i % 4) * 4 + bits (u8 b (i / 4 * 5 + 4)) (2 * (i % 4)) 2
/-- Two RAW12 pixels of three bytes. -/
def raw12 (b : Bytes) (i : Nat) : Nat := u8 b (i / 2 * 3 + i % 2) * 16 + bits (u8 b (i / 2 * 3 + 2)) (4 * (i % 2)) 4

/-- Unpack the whole pixels of a wire line into stored bytes. PRESUMED: byte orders on the wire are those of MIPI CSI-2 (log 30). -/
def unpack (fmt : Nat) (b : Bytes) : Bytes :=
  if fmt = 1 then (List.range (b.length / 5 * 4)).flatMap fun i => leBytes 2 (raw10 b i)
  else if fmt = 2 then (List.range (b.length / 3 * 2)).flatMap fun i => leBytes 2 (raw12 b i)
  else if fmt = 3 then (List.range (b.length / 2)).flatMap fun i => leBytes 2 (u8 b (2 * i) * 256 + u8 b (2 * i + 1))
  else if fmt = 5 then (List.range (b.length / 3)).flatMap fun i => (slice b (3 * i) 3).reverse
  else b

/-! ### Pixels -/

/-- Byte offset of component `c` of pixel `x` in a stored line: U Y V Y for YUV422-8, R G B for RGB888. -/
def compOffset (fmt x c : Nat) : Nat :=
  if fmt = 4 then (if c = 0 then 2 * x + 1 else 4 * (x / 2) + (if c = 1 then 0 else 2))
  else if fmt = 5 then 3 * x + c else storedBpp fmt * x

/-- Component `c` of pixel `x` of a stored line, at its stored depth. -/
def component (fmt : Nat) (l : Bytes) (x c : Nat) : Nat :=
  if depthOf fmt = 8 then u8 l (compOffset fmt x c) else u16 l (compOffset fmt x c)

/-- R242, depth. -/
def toV8 (fmt v : Nat) : Nat :=
  let b := depthOf fmt
  if b ≤ 8 then v else min 255 ((v + 2 ^ (b - 9)) / 2 ^ (b - 8))

/-- The 8-bit value of a pixel; a pixel that was never received is a free value. -/
def pixel8 (base fmt : Nat) (lines : List Bytes) (y x c : Nat) : Nat :=
  match lines[y]? with
  | some l =>
    if compOffset fmt x c + (if depthOf fmt = 8 then 1 else 2) ≤ l.length then toV8 fmt (component fmt l x c)
    else Config.freeValue (base + (y * 8192 + x) * 4 + c) % 256
  | none => Config.freeValue (base + (y * 8192 + x) * 4 + c) % 256

/-! ### Prepare (R242, R243) -/

/-- A profile with the dimensions it works on: crop, output, and its control bits. -/
structure Profile where
  x : Nat
  y : Nat
  cw : Nat
  ch : Nat
  outW : Nat
  outH : Nat
  bilinear : Bool
  i8 : Bool
  chan : Bool
  bypass : Bool
  deriving DecidableEq, Repr

/-- Profile `k` on a frame of the given dimensions; a crop of 0 means the received dimensions. -/
def profile (s : State) (k w h : Nat) : Profile where
  x := s.rd (PREP_CROP_XY_X k)
  y := s.rd (PREP_CROP_XY_Y k)
  cw := if s.rd (PREP_CROP_WH_CW k) = 0 then w else s.rd (PREP_CROP_WH_CW k)
  ch := if s.rd (PREP_CROP_WH_CH k) = 0 then h else s.rd (PREP_CROP_WH_CH k)
  outW := s.rd (PREP_OUT_WH_OUT_W k)
  outH := s.rd (PREP_OUT_WH_OUT_H k)
  bilinear := s.rdb (PREP_CTL_METHOD k)
  i8 := s.rdb (PREP_CTL_OUT k)
  chan := s.rdb (PREP_CTL_CHAN k)
  bypass := s.rdb (PREP_CTL_BYPASS k)

/-- The crop rectangle lies within the received dimensions (R233). -/
def cropOk (p : Profile) (w h : Nat) : Bool := decide (p.x + p.cw ≤ w) && decide (p.y + p.ch ≤ h)

/-- The source coordinate of R242: whole part, weight, and the next coordinate. -/
def bilinearAt (x c o : Nat) : Nat × Nat × Nat :=
  let sx := min ((2 * x + 1) * c * 2 ^ 15 / o - 2 ^ 15) ((c - 1) * 2 ^ 16)
  (sx / 2 ^ 16, sx / 256 % 256, min (sx / 2 ^ 16 + 1) (c - 1))

/-- The bilinear sum of R242. -/
def blend (p00 p10 p01 p11 wx wy : Nat) : Nat :=
  (p00 * ((256 - wx) * (256 - wy)) + p10 * (wx * (256 - wy)) + p01 * ((256 - wx) * wy) + p11 * (wx * wy) + 32768) / 65536

/-- The nearest coordinate of R242. -/
def nearestAt (x c o : Nat) : Nat := min ((2 * x + 1) * c / (2 * o)) (c - 1)

/-- One output value from a pixel source given by crop row and column. -/
def prepValue (p : Profile) (px : Nat → Nat → Nat) (x y : Nat) : Nat :=
  if p.bilinear then
    let a := bilinearAt x p.cw p.outW
    let b := bilinearAt y p.ch p.outH
    blend (px b.1 a.1) (px b.1 a.2.2) (px b.2.2 a.1) (px b.2.2 a.2.2) a.2.1 b.2.1
  else px (nearestAt y p.ch p.outH) (nearestAt x p.cw p.outW)

/-- The stored output byte (R242). -/
def outByte (p : Profile) (v : Nat) : Byte := BitVec.ofNat 8 (if p.i8 then v + 128 else v)

/-- Prepared components of a profile on a format. -/
def prepComps (p : Profile) (fmt : Nat) : Nat := if p.chan then compsOf fmt else 1

/-- Bytes of a prepared row, padded to a multiple of 64 (R243). -/
def prepRowBytes (p : Profile) (fmt : Nat) : Nat := ceilDiv (p.outW * prepComps p fmt) 64 * 64

/-- The prepared tensor of a frame (R243). -/
def prepTensor (p : Profile) (base fmt : Nat) (lines : List Bytes) : Bytes :=
  (List.range p.outH).flatMap fun y =>
    padTo (prepRowBytes p fmt) ((List.range p.outW).flatMap fun x => (List.range (prepComps p fmt)).map fun c =>
      outByte p (prepValue p (fun r k => pixel8 base fmt lines (p.y + r) (p.x + k) c) x y))

/-- One sentinel line prepared alone: y0 is the line itself and wy is 0 (R277). -/
def prepLine (p : Profile) (base fmt : Nat) (line : Bytes) : Bytes :=
  (List.range p.outW).flatMap fun x => (List.range (prepComps p fmt)).map fun c =>
    let px := fun k => pixel8 base fmt [line] 0 (p.x + k) c
    outByte p (if p.bilinear then
        let a := bilinearAt x p.cw p.outW
        blend (px a.1) (px a.2.2) (px a.1) (px a.2.2) a.2.1 0
      else px (nearestAt x p.cw p.outW))

/-! ### Sentinel lines (R275) -/

/-- The pattern values of S1 and S2. -/
def s1Value (seq stream i : Nat) : Nat := (seq % 256 + 37 * i + 8 * stream) % 256
def s2Value (shift i : Nat) : Nat := if i / 2 ^ shift % 2 = 1 then 255 else 0

/-- A stored line in which every component of pixel `i` takes a pattern value. -/
def patternLine (fmt w : Nat) (f : Nat → Nat) : Bytes :=
  (List.range w).flatMap fun i =>
    if depthOf fmt = 8 then List.replicate (storedBpp fmt) (BitVec.ofNat 8 (f i))
    else leBytes 2 (f i * 2 ^ (depthOf fmt - 8))

/-! ### Statistics (R271) -/

/-- Bounds of a zone. -/
def zoneLo (z n : Nat) : Nat := z * n / 8

/-- The first-component values of the stored lines, row by row. -/
def lumaRows (base fmt w : Nat) (lines : List Bytes) : List (List Nat) :=
  (List.range lines.length).map fun y => (List.range w).map fun x => pixel8 base fmt lines y x 0

def sumList (l : List Nat) : Nat := l.foldl (· + ·) 0

/-- The 576-byte record. -/
def statRecord (sid expgen flags trig fs w sat dark e : Nat) (rows : List (List Nat)) : Bytes :=
  let all := rows.flatten
  let zone := fun z =>
    let zy := z / 8
    let zx := z % 8
    sumList (((rows.drop (zoneLo zy rows.length)).take (zoneLo (zy + 1) rows.length - zoneLo zy rows.length)).map fun r =>
      sumList ((r.drop (zoneLo zx w)).take (zoneLo (zx + 1) w - zoneLo zx w)))
  leBytes 8 sid ++ leBytes 4 expgen ++ leBytes 4 flags ++ leBytes 8 trig ++ leBytes 8 fs ++ leBytes 4 (w * rows.length) ++
    leBytes 4 (all.filter fun v => decide (sat ≤ v)).length ++ leBytes 4 (all.filter fun v => decide (v ≤ dark)).length ++
    leBytes 8 (sumList all) ++ leBytes 4 e ++ zeros 8 ++
    (List.range 64).flatMap (fun z => leBytes 4 (zone z)) ++
    (List.range 64).flatMap (fun k => leBytes 4 (all.filter fun v => v / 4 == k).length)

/-! ### The cache's copy (R256) -/

/-- The components of a row for line-interleaved coding: chroma of YUV422-8 at its own width. -/
def codedRow (fmt w : Nat) (l : Bytes) : List (List Nat) :=
  if fmt = 4 then
    [(List.range w).map fun x => component fmt l x 0, (List.range (w / 2)).map fun x => component fmt l (2 * x) 1,
      (List.range (w / 2)).map fun x => component fmt l (2 * x) 2]
  else (List.range (compsOf fmt)).map fun c => (List.range w).map fun x => component fmt l x c

/-- The stored line of decoded components. -/
def decodedRow (fmt w : Nat) (r : List (List Nat)) : Bytes :=
  let at_ := fun c x => (r.getD c []).getD x 0
  if fmt = 4 then (List.range (w / 2)).flatMap fun x =>
    [at_ 1 x, at_ 0 (2 * x), at_ 2 x, at_ 0 (2 * x + 1)].map (BitVec.ofNat 8)
  else if fmt = 5 then (List.range w).flatMap fun x => [at_ 0 x, at_ 1 x, at_ 2 x].map (BitVec.ofNat 8)
  else (List.range w).flatMap fun x => leBytes (storedBpp fmt) (at_ 0 x)

end Sys2Proof.Machine
end

