-- ==== Sys2Proof/Machine/ValidateEng.lean ====
section
/-! DEFINITION. Operand descriptors, regions of the local memories, and the operand checks of class 0x1 (chapters 15 to 17). -/

namespace Sys2Proof.Machine
open Reg

/-! ### Descriptors (R439) -/

/-- An operand address with its descriptor: local memory (PAST or CLM), layout, coding, sample position, and the address or
offset. -/
structure Opd where
  loc : Bool
  blk : Bool
  coded : Bool
  sample : Bool
  sent : Bool
  pos : Nat
  addr : Nat
  deriving DecidableEq, Repr

/-- The operand names a sample of the current take. -/
def Opd.named (o : Opd) : Bool := o.sample || o.sent

/-- The operand of an 8-byte field (R439). The offset of a sample operand is the value of bits 47:8 (log 51). -/
def opdOf (n : Nat) : Opd :=
  let named := bit n 59 || bit n 60
  { loc := bit n 56, blk := bit n 57, coded := bit n 58, sample := bit n 59, sent := bit n 60, pos := bits n 0 4
    addr := if named then bits n 8 40 else bits n 0 48 }

/-- The reserved bits of the field are 0. -/
def opdClean (n : Nat) : Bool := bits n 61 3 == 0 && bits n 48 8 == 0 && (!(opdOf n).named || bits n 4 4 == 0)

/-- Alignment, exclusion, and the descriptors the operand may carry. -/
def opdFit (o : Opd) (blk coded named : Bool) : Bool :=
  !(o.sample && o.sent) && !(o.named && o.loc) && o.addr % 64 == 0 && (o.loc || !o.blk || o.addr % 1024 == 0) &&
    (blk || !o.blk) && (coded || !o.coded) && (named || !o.named)

/-! ### Who issues a command -/

/-- The key under which the commands of a step list are checked: flock `f`, column `c`. -/
def stepKey (f c : Nat) : Nat := 1024 + f + 32 * c

/-- The command comes from a step list. -/
def fromStep (q : Nat) : Bool := decide (1024 ≤ q)

/-- Engines, tenant and real-time state of the issuer. -/
def issuerEng (s : State) (q : Nat) : Nat := if fromStep q then s.rd (FLK_CFG_ENG (q % 32)) else s.rd (Q_ENG_ENG q)
def issuerTid (s : State) (q : Nat) : Nat := if fromStep q then 0 else s.rd (Q_CFG_TID q)
def issuerRt (s : State) (q : Nat) : Bool := !fromStep q && s.rdb (Q_CFG_RT q)

/-! ### PIN (R453, R455) -/

/-- The engine a PIN byte names. -/
def pinEngine (q p : Nat) : Option Nat :=
  if bit p 6 then (if fromStep q then some ((q - 1024) / 32) else none) else if bit p 7 then some (bits p 0 4) else none

/-- A PIN byte is acceptable; `need` when a local, SAMPLE or SENT operand is present. -/
def pinOk (s : State) (q p : Nat) (need : Bool) : Bool :=
  (!bit p 6 || fromStep q) &&
    (match pinEngine q p with
     | none => !need
     | some e => decide (e < 8) && bit (issuerEng s q) e)

/-- The engines a command could run on. -/
def couldRun (s : State) (q p : Nat) : List Nat :=
  match pinEngine q p with
  | some e => [e]
  | none => (List.range 8).filter (bit (issuerEng s q))

/-! ### Regions (R443, R525) -/

/-- A range of the local memory of a column lies inside one enabled region that permits it. -/
def regionOk (s : State) (c t : Nat) (rt : Bool) (a n : Nat) (write : Bool) : Bool :=
  if c < 8 then
    (List.range 16).any fun k =>
      s.rdb (PREG_ACC_EN c k) && decide (s.rd (PREG_LOC_BASE c k) * 4096 ≤ a) &&
        decide (a + n ≤ (s.rd (PREG_LOC_BASE c k) + s.rd (PREG_LOC_SIZE c k)) * 4096) &&
        (t == 0 || s.rd (PREG_ACC_OWNER c k) == t) &&
        (if write then s.rdb (PREG_ACC_WRITE c k) && !s.rdb (PREG_ACC_RES c k) else s.rdb (PREG_ACC_READ c k)) &&
        (rt || !s.rdb (PREG_ACC_RT_ONLY c k))
  else
    let m := c - 8
    (List.range 8).any fun k =>
      s.rdb (CREG_ACC_EN m k) && decide (s.rd (CREG_LOC_BASE m k) * 4096 ≤ a) &&
        decide (a + n ≤ (s.rd (CREG_LOC_BASE m k) + s.rd (CREG_LOC_SIZE m k)) * 4096) &&
        (t == 0 || s.rd (CREG_ACC_OWNER m k) == t) &&
        (if write then s.rdb (CREG_ACC_WRITE m k) && !s.rdb (CREG_ACC_RES m k) else s.rdb (CREG_ACC_READ m k)) &&
        (rt || !s.rdb (CREG_ACC_RT_ONLY m k))

/-! ### Ranges -/

/-- A range an operand touches. -/
structure Use where
  o : Opd
  len : Nat
  write : Bool
  deriving DecidableEq, Repr

/-- Two ranges of one memory, or of one sample of the take, overlap. -/
def Use.meets (a b : Use) : Bool :=
  a.o.sample == b.o.sample && a.o.sent == b.o.sent && (!a.o.named || a.o.pos == b.o.pos) && a.o.loc == b.o.loc && decide (a.o.addr < b.o.addr + b.len) && decide (b.o.addr < a.o.addr + a.len)

/-- A written range overlaps a range that is read. -/
def crossing (l : List Use) : Bool := l.any fun a => a.write && l.any fun b => !b.write && a.meets b

/-- The device-memory ranges known at validation. -/
def deviceRanges (l : List Use) : List (Nat × Nat × Bool) :=
  (l.filter fun u => !u.o.loc && !u.o.named).map fun u => (u.o.addr, u.len, u.write)

/-- The ranges in the local memory. -/
def localRanges (l : List Use) : List (Nat × Nat × Bool) := (l.filter (·.o.loc)).map fun u => (u.o.addr, u.len, u.write)

/-- A local range is forbidden (R443, R525). -/
def localDenied (s : State) (q : Nat) (e : Option Nat) (l : List Use) : Bool :=
  match e with
  | none => false
  | some c => l.any fun u => u.o.loc && !regionOk s c (issuerTid s q) (issuerRt s q) u.o.addr u.len u.write

/-- The check of an engine's command: PIN, ranges, duration over the engines it could run on (R461). -/
def engineCheck (s : State) (q pin : Nat) (clean within : Bool) (uses : List Use) (need : Bool) (cycles db : Nat) : OpCheck where
  clean := clean && bits pin 4 2 == 0
  within := within && pinOk s q pin (need || uses.any fun u => u.o.loc || u.o.named)
  ranges := deviceRanges uses
  durNs := ((couldRun s q pin).map fun c =>
    max (cyclesNs s c cycles) (ceilDiv (db * 10) (max 1 (s.rd (TE_CFG_WC_GBPS c)))) + 1000).foldl max 0
  pin := pinEngine q pin
  denied := localDenied s q (pinEngine q pin) uses
  locRanges := localRanges uses

/-- Bytes that count toward DB: those of a device-memory operand. -/
def devBytes (o : Opd) (n : Nat) : Nat := if o.loc then 0 else n

/-! ### Types and layouts (R435 to R437, R453) -/

/-- Element sizes in half bytes: activations, weights, outputs. -/
def aHalf (t : Nat) : Nat := [2, 2, 4].getD t 4
def wHalf (t : Nat) : Nat := [2, 2, 1, 4].getD t 4
def outHalf (t : Nat) : Nat := [2, 2, 4, 8, 16, 4, 8].getD t 8

/-- Bytes of a row of `n` elements, and the ROW64 pitch. -/
def rowRaw (n half : Nat) : Nat := ceilDiv (n * half) 2
def pitchOf (raw : Nat) : Nat := ceilDiv raw 64 * 64

/-- Bytes a tensor occupies (R436, R437). -/
def spanOf (blk : Bool) (rows raw : Nat) : Nat := if blk then ceilDiv rows 32 * ceilDiv raw 32 * 1024 else rows * pitchOf raw

/-- Bytes of a coded stream of `n` raw bytes, as R461 counts them. -/
def codedSpan (n : Nat) : Nat := n + 16 * ceilDiv n 4096

/-- The span of a weight or COPY source. -/
def srcSpan (o : Opd) (rows raw : Nat) : Nat := if o.coded then codedSpan (spanOf o.blk rows raw) else spanOf o.blk rows raw

/-- A pair of ATYPE and WTYPE the array supports (R435). -/
def typesOk (a w : Nat) : Bool := (decide (a ≤ 1) && decide (w ≤ 2)) || (a == 2 && w == 3)

/-- OTYPE belongs to the mode (R455). -/
def otypeOk (float : Bool) (o : Nat) : Bool := if float then o == 5 || o == 6 else decide (o ≤ 4)

/-- ZPO, CLO and CHI suit OTYPE (R455). -/
def clampOk (ot zpo clo chi : Nat) : Bool :=
  if ot = 0 then decide (signed 8 clo ≤ signed 8 chi) else if ot = 1 then decide (clo ≤ chi)
  else zpo == 0 && clo == 0 && chi == 0

/-- The output stage reads the channel table (R449, R451). -/
def readsTable (ot : Nat) : Bool := ot != 4 && ot != 6

/-- Records in the channel table. -/
def tableRecords (pert : Bool) (n : Nat) : Nat := if pert then 1 else n

/-- Bytes at an operand, as validation sees them. -/
def peek (s : State) (q pin : Nat) (o : Opd) (n : Nat) : Bytes :=
  if o.loc then readMem (s.loc.mem.get [] ((pinEngine q pin).getD 0)) 0 o.addr n else s.ld o.addr n

/-- Every ZPW of the channel table lies in -8 to 7 (R455). -/
def zpwOk (s : State) (q pin : Nat) (o : Opd) (n : Nat) : Bool :=
  o.named || (List.range n).all fun i => let z := signed 8 (u8 (peek s q pin { o with addr := o.addr + 16 * i } 16) 9); decide (-8 ≤ z) && decide (z ≤ 7)

/-! ### Chapter 15 (R453 to R461) -/

/-- GEMM. -/
def checkGemm (s : State) (q : Nat) (c : Bytes) : OpCheck :=
  let a := opdOf (u64 c 8); let w := opdOf (u64 c 16); let o := opdOf (u64 c 24); let ch := opdOf (u64 c 32)
  let m := u32 c 40 % 2 ^ 24; let n := u32 c 44 % 2 ^ 24; let k := u32 c 48 % 2 ^ 24; let kp := leNat (slice c 52 3)
  let at_ := bits (u8 c 60) 0 2; let wt := bits (u8 c 60) 2 2
  let ot := bits (u8 c 61) 0 3; let accin := bit (u8 c 61) 3; let recs := tableRecords (bit (u8 c 61) 4) n
  let float := at_ == 2
  let ra := rowRaw k (aHalf at_); let rw_ := rowRaw k (wHalf wt); let ro := rowRaw n (outHalf ot)
  let table := if readsTable ot then 16 * recs else 0
  let clean := [8, 16, 24, 32].all (fun i => opdClean (u64 c i)) && zeroAt c [(43, 1), (47, 1), (51, 1), (62, 2)] &&
    bits (u8 c 60) 4 4 == 0 && bits (u8 c 61) 5 3 == 0
  let within := opdFit a true false true && opdFit w true true true && opdFit o true false true && opdFit ch true false true &&
    decide (1 ≤ m) && decide (1 ≤ n) && decide (n ≤ 65536) && decide (1 ≤ k) && decide (k + kp ≤ 8388608) &&
    (accin || kp == 0) && typesOk at_ wt && otypeOk float ot && (!accin || ot == 4 || ot == 6) && (!float || u8 c 56 == 0) &&
    clampOk ot (u8 c 57) (u8 c 58) (u8 c 59) && (wt != 2 || !readsTable ot || zpwOk s q (u8 c 55) ch recs)
  let uses : List Use := [⟨a, spanOf a.blk m ra, false⟩, ⟨w, srcSpan w n rw_, false⟩, ⟨o, spanOf o.blk m ro, true⟩] ++
    (if table = 0 then [] else [⟨ch, table, false⟩])
  let kc := if wt = 2 then 64 else 32
  let cycles := ceilDiv m 32 * ceilDiv n 32 * ceilDiv k kc * (if float then 4 else 1)
  let db := devBytes a (m * ra) * ceilDiv n 256 + devBytes w (if w.coded then codedSpan (n * rw_) else n * rw_) * ceilDiv m 256 +
    devBytes o (m * ro) * (if accin then 2 else 1) + devBytes ch table
  engineCheck s q (u8 c 55) clean (within && !crossing uses) uses false cycles db

/-- The output size of a convolution along one axis (R456); 0 where there is none. -/
def convDim (h p d k st : Nat) : Nat := if h + 2 * p < d * (k - 1) + 1 then 0 else (h + 2 * p - d * (k - 1) - 1) / max 1 st + 1

/-- The fields of a CONV (R456). -/
structure Conv where
  h : Nat
  w : Nat
  c : Nat
  oc : Nat
  kh : Nat
  kw : Nat
  sh : Nat
  sw : Nat
  ph : Nat
  pw : Nat
  dh : Nat
  dw : Nat
  g : Nat
  batch : Nat
  deriving DecidableEq, Repr

def convOf (c : Bytes) : Conv where
  h := u16 c 40
  w := u16 c 42
  c := u16 c 44
  oc := u16 c 46
  kh := bits (u8 c 48) 0 4
  kw := bits (u8 c 48) 4 4
  sh := bits (u8 c 49) 0 4
  sw := bits (u8 c 49) 4 4
  ph := bits (u8 c 50) 0 4
  pw := bits (u8 c 50) 4 4
  dh := bits (u8 c 51) 0 4
  dw := bits (u8 c 51) 4 4
  g := u16 c 52
  batch := bits (u8 c 61) 0 4 + 1

namespace Conv
def oh (v : Conv) : Nat := convDim v.h v.ph v.dh v.kh v.sh
def ow (v : Conv) : Nat := convDim v.w v.pw v.dw v.kw v.sw
/-- Input channels of a group, output channels of a group, reduction length. -/
def cg (v : Conv) : Nat := v.c / max 1 v.g
def og (v : Conv) : Nat := v.oc / max 1 v.g
def kg (v : Conv) : Nat := v.cg * v.kh * v.kw
/-- The stride of images of `rows` rows of `raw` bytes. -/
def imageStride (rows raw : Nat) : Nat := ceilDiv (rows * pitchOf raw) 4096 * 4096
/-- The bytes of all images. -/
def imagesSpan (v : Conv) (rows raw : Nat) : Nat := (v.batch - 1) * imageStride rows raw + rows * pitchOf raw
end Conv

/-- CONV. -/
def checkConv (s : State) (q : Nat) (c : Bytes) : OpCheck :=
  let i := opdOf (u64 c 8); let w := opdOf (u64 c 16); let o := opdOf (u64 c 24); let ch := opdOf (u64 c 32)
  let v := convOf c
  let at_ := bits (u8 c 58) 0 2; let wt := bits (u8 c 58) 2 2
  let ot := bits (u8 c 59) 0 3; let recs := tableRecords (bit (u8 c 59) 4) v.oc
  let float := at_ == 2
  let ri := rowRaw (v.w * v.c) (aHalf at_); let rw_ := rowRaw v.kg (wHalf wt); let ro := rowRaw (v.ow * v.oc) (outHalf ot)
  let table := if readsTable ot then 16 * recs else 0
  let clean := [8, 16, 24, 32].all (fun i => opdClean (u64 c i)) && zeroAt c [(62, 2)] && bits (u8 c 58) 4 4 == 0 &&
    bits (u8 c 59) 5 3 == 0 && bits (u8 c 61) 4 4 == 0
  let axis := fun (n k st d : Nat) => decide (1 ≤ n) && decide (n ≤ 8192) && decide (1 ≤ k) && decide (1 ≤ st) && decide (1 ≤ d)
  let within := opdFit i false false true && opdFit w true true true && opdFit o false false true && opdFit ch true false true &&
    axis v.h v.kh v.sh v.dh && axis v.w v.kw v.sw v.dw && decide (1 ≤ v.c) && decide (1 ≤ v.oc) && decide (1 ≤ v.g) &&
    v.c % max 1 v.g == 0 && v.oc % max 1 v.g == 0 && decide (1 ≤ v.oh) && decide (1 ≤ v.ow) && decide (v.kg ≤ 8388608) &&
    !bit (u8 c 59) 3 && typesOk at_ wt && otypeOk float ot && (!float || u8 c 54 == 0) &&
    clampOk ot (u8 c 55) (u8 c 56) (u8 c 57) && (wt != 2 || !readsTable ot || zpwOk s q (u8 c 60) ch recs)
  let uses : List Use := [⟨i, v.imagesSpan v.h ri, false⟩, ⟨w, srcSpan w v.oc rw_, false⟩, ⟨o, v.imagesSpan v.oh ro, true⟩] ++
    (if table = 0 then [] else [⟨ch, table, false⟩])
  let m := v.batch * v.oh * v.ow
  let kc := if wt = 2 then 64 else 32
  let cycles := v.g * ceilDiv m 32 * ceilDiv v.og 32 * ceilDiv v.kg kc * (if float then 4 else 1)
  let db := devBytes i (ceilDiv (m * v.kg * v.g * aHalf at_) 2 * ceilDiv v.og 256) +
    devBytes w (if w.coded then codedSpan (v.oc * rw_) else v.oc * rw_) * ceilDiv m 256 +
    devBytes o (v.batch * v.oh * ro) + devBytes ch table
  engineCheck s q (u8 c 60) clean (within && !crossing uses) uses false cycles db

/-- REQ. -/
def checkReq (s : State) (q : Nat) (c : Bytes) : OpCheck :=
  let i := opdOf (u64 c 8); let o := opdOf (u64 c 16); let ch := opdOf (u64 c 24)
  let m := u32 c 32 % 2 ^ 24; let n := u32 c 36 % 2 ^ 24
  let at_ := bits (u8 c 44) 0 2; let ot := bits (u8 c 45) 0 3; let recs := tableRecords (bit (u8 c 45) 4) n
  let float := at_ == 2
  let ri := rowRaw n (if float then 8 else 16); let ro := rowRaw n (outHalf ot)
  let table := if readsTable ot then 16 * recs else 0
  let clean := [8, 16, 24].all (fun i => opdClean (u64 c i)) && zeroAt c [(35, 1), (39, 1), (46, 18)] && bits (u8 c 44) 4 4 == 0 &&
    bits (u8 c 45) 5 3 == 0
  let within := opdFit i true false true && opdFit o true false true && opdFit ch true false true && decide (1 ≤ m) &&
    decide (1 ≤ n) && decide (n ≤ 65536) && !bit (u8 c 45) 3 && typesOk at_ (bits (u8 c 44) 2 2) && otypeOk float ot &&
    clampOk ot (u8 c 41) (u8 c 42) (u8 c 43)
  let uses : List Use := [⟨i, spanOf i.blk m ri, false⟩, ⟨o, spanOf o.blk m ro, true⟩] ++
    (if table = 0 then [] else [⟨ch, table, false⟩])
  engineCheck s q (u8 c 40) clean (within && !crossing uses) uses false (ceilDiv (m * n) 256)
    (devBytes i (m * ri) + devBytes o (m * ro) + devBytes ch table)

/-- The span of a COPY side: a ROW64 side has a pitch of its own (R458). -/
def copySpan (o : Opd) (rows raw pitch : Nat) : Nat :=
  let n := if o.blk then spanOf true rows raw else (rows - 1) * pitch + pitchOf raw
  if o.coded then codedSpan n else n

/-- COPY. -/
def checkCopy (s : State) (q : Nat) (c : Bytes) : OpCheck :=
  let i := opdOf (u64 c 8); let o := opdOf (u64 c 16)
  let rows := u32 c 24 % 2 ^ 24; let raw := u32 c 28 % 2 ^ 24
  let side := fun (o : Opd) (p : Nat) => o.blk || (p % 64 == 0 && decide (raw ≤ p))
  let clean := [8, 16].all (fun i => opdClean (u64 c i)) && zeroAt c [(27, 1), (31, 1), (42, 22)]
  let within := opdFit i true true true && opdFit o true false true && decide (1 ≤ rows) && decide (1 ≤ raw) &&
    side i (u32 c 32) && side o (u32 c 36)
  let uses : List Use := [⟨i, copySpan i rows raw (u32 c 32), false⟩, ⟨o, copySpan o rows raw (u32 c 36), true⟩]
  let read := if i.coded then codedSpan (rows * raw) else rows * raw
  engineCheck s q (u8 c 40) clean (within && !crossing uses) uses false
    (ceilDiv (rows * raw) (if i.loc && o.loc then 1024 else 64)) (devBytes i read + devBytes o (rows * raw))

/-- FILL. -/
def checkFill (s : State) (q : Nat) (c : Bytes) : OpCheck :=
  let o := opdOf (u64 c 8)
  let n := u64 c 16
  engineCheck s q (u8 c 28) (opdClean (u64 c 8) && zeroAt c [(29, 35)])
    (opdFit o true false true && n % 64 == 0) [⟨o, n, true⟩] false
    (ceilDiv n (if o.loc then 1024 else 64)) (devBytes o n)

/-- SIGCHK. -/
def checkSigchk (s : State) (q : Nat) (c : Bytes) : OpCheck :=
  let i := opdOf (u64 c 8)
  let n := u32 c 16
  engineCheck s q (u8 c 21) (opdClean (u64 c 8) && zeroAt c [(22, 42)] && decide (u8 c 20 < 16))
    (opdFit i true false true) [⟨i, n, false⟩] false (ceilDiv n (if i.loc then 1024 else 64)) (devBytes i n)

/-! ### Chapter 16 (R465 to R468, R489, R491) -/

/-- Element sizes of the function unit, in bytes. -/
def fuIn (t : Nat) : Nat := [1, 1, 4, 2, 4].getD t 4
def fuOut (t : Nat) : Nat := [1, 1, 2, 4].getD t 4

/-- A finite value other than a zero; a positive one. -/
def finite32 (n : Nat) : Bool := (f32 n).isFinite
def positive32 (n : Nat) : Bool := finite32 n && flt 0 n

/-- The row pitch of a PITCH field (R466). -/
def fuPitch (field raw : Nat) : Nat := if field = 0 then pitchOf raw else 64 * field

/-- ACT, GLU, ROWSTAT, LNORM, RMSNORM and SOFTMAX, opcodes 0x20 to 0x25. -/
def checkFunction (s : State) (q : Nat) (c : Bytes) : OpCheck :=
  let op := cmdOpc c
  let x := opdOf (u64 c 8); let y := opdOf (u64 c 16); let u := opdOf (u64 c 24)
  let rows := u32 c 32 % 2 ^ 24; let cols := u32 c 36 % 2 ^ 24
  let func := bits (u8 c 44) 0 5; let shared := bit (u8 c 44) 5
  let it := bits (u8 c 45) 0 3; let ot := bits (u8 c 45) 3 3
  let rx := cols * fuIn it; let ry := if op = 0x22 then 16 else cols * fuOut ot
  let px := fuPitch (u16 c 40) rx; let py := if op = 0x22 then 16 else fuPitch (u16 c 42) ry
  let aux := if op = 0x21 then rows * px else if op = 0x23 then 8 * cols else if op = 0x24 then 4 * cols else 0
  let exact := decide (func ≤ 2)
  let p0 := u32 c 60
  let clean := [8, 16].all (fun i => opdClean (u64 c i)) && (aux == 0 || opdClean (u64 c 24)) && zeroAt c [(35, 1), (39, 1), (59, 1)] &&
    bits (u8 c 44) 6 2 == 0 && bits (u8 c 45) 6 2 == 0
  let fit := opdFit x false false true && opdFit y false false false && (if aux = 0 then u64 c 24 == 0 else opdFit u false false false)
  let ranges := decide (1 ≤ rows) && decide (1 ≤ cols) && decide (cols ≤ 65536) && decide (func ≤ 0x0E) && decide (it ≤ 4) &&
    decide (ot ≤ 3) && (decide (op ≤ 0x21) || func == 0) && (shared || (func != 7 && func != 8)) &&
    (shared || (couldRun s q (u8 c 46)).all fun e => s.rdb (FU_CFG_PWL_EN e)) && decide (rx ≤ px) && decide (ry ≤ py) &&
    (op != 0x22 || u16 c 42 == 0) && (op != 0x22 || ot == 3)
  let scales := (decide (3 ≤ it) || (finite32 (u32 c 48) && !(f32 (u32 c 48)).isZero)) && (decide (2 ≤ ot) || positive32 (u32 c 52)) &&
    (ot != 0 || decide (signed 8 (u8 c 57) ≤ signed 8 (u8 c 58))) && (ot != 1 || decide (u8 c 57 ≤ u8 c 58)) &&
    (if 0x23 ≤ op then positive32 p0 else if decide (op ≤ 0x21) && func == 2 then finite32 p0 else p0 == 0)
  let xs := (rows - 1) * px + pitchOf rx
  let ys := if op = 0x22 then 16 * rows else (rows - 1) * py + pitchOf ry
  let same := op != 0x22 && u64 c 8 == u64 c 16 && px == py && fuIn it == fuOut ot
  let uses : List Use := [⟨x, xs, false⟩, ⟨y, ys, true⟩] ++ (if aux = 0 then [] else [⟨u, aux, false⟩])
  let apart := if same then !crossing (uses.drop 1) else !crossing uses
  let r := if shared && !exact then 64 else 256
  let cycles := if op ≤ 0x21 then rows * ceilDiv cols r
    else if op = 0x22 then rows * ceilDiv cols 256
    else if op = 0x23 then rows * (3 * ceilDiv cols 256 + 16)
    else if op = 0x24 then rows * (2 * ceilDiv cols 256 + 16)
    else rows * (2 * ceilDiv cols 256 + ceilDiv cols (if shared then 64 else 256) + 16)
  let db := devBytes x (rows * rx) + devBytes y (rows * ry) + devBytes u (if op = 0x21 then rows * rx else aux)
  engineCheck s q (u8 c 46) clean (fit && ranges && scales && apart) uses false cycles db

/-! ### Chapter 17 (R493, R501, R504, R505, R515, R519, R520) -/

/-- Full-rate evaluation is permitted on every engine the command could run on (R468, R505). -/
def pwlAllowed (s : State) (q pin : Nat) : Bool := (couldRun s q pin).all fun e => s.rdb (FU_CFG_PWL_EN e)

/-- Bytes of an index entry (R497). -/
def indexBytes (d : Nat) : Nat := ceilDiv (d + 4) 64 * 64

/-- ATTN. -/
def checkAttn (s : State) (q : Nat) (c : Bytes) : OpCheck :=
  let qo := opdOf (u64 c 8); let o := opdOf (u64 c 16); let sb := opdOf (u64 c 32)
  let pos := u32 c 40; let nq := u16 c 44; let hq := u8 c 47; let hkv := bits (u8 c 48) 0 5
  let g := bits (u8 c 49) 4 4 + 1; let dm := bits (u8 c 50) 0 3 + 1; let d := 32 * dm
  let mode := u8 c 52
  let staged := bit mode 0; let select := bit mode 1; let batch := bit mode 2; let fp := bit mode 5
  let ctx := if batch then pos else pos + nq
  let rq := hq * d * 2; let ro := hq * d * (if fp then 4 else 2)
  let sp := pitchOf (4 * ctx)
  let clean := [8, 16, 32].all (fun i => opdClean (u64 c i)) && bits (u8 c 48) 5 3 == 0 && bits (u8 c 50) 3 5 == 0 &&
    bits mode 6 2 == 0 && u8 c 53 == 0
  let within := opdFit qo false false true && opdFit o false false false && (if staged then opdFit sb false false false else u64 c 32 == 0) &&
    decide (1 ≤ nq) && decide (nq ≤ 4096) && decide (1 ≤ hkv) && decide (hkv ≤ 16) && decide (1 ≤ hq) && decide (hq ≤ 128) &&
    hq % max 1 hkv == 0 && decide (bits (u8 c 49) 0 4 + g ≤ hkv) && decide (1 ≤ u16 c 60) && decide (u16 c 62 ≤ 4096) &&
    positive32 (u32 c 56) && !(staged && (batch || decide (65536 < ctx))) && (!batch || fromStep q) &&
    (if batch then u64 c 24 == 0 else u64 c 24 % 64 == 0) && (bit mode 3 || pwlAllowed s q (u8 c 51))
  let uses : List Use := [⟨qo, nq * rq, false⟩, ⟨o, nq * ro, true⟩] ++ (if staged then [⟨sb, hq * nq * sp, true⟩] else [])
  let rr := nq * (hq / max 1 hkv) * g
  let pa := ceilDiv ctx 64
  let pv := if select then min pa (u16 c 54 + u16 c 62 + u16 c 60) else pa
  let pc := if select then pa else 0
  let cyc := 16 * ceilDiv rr 32 * pv * dm + 64 * pv + 4 * ceilDiv rr 32 * ceilDiv pc 32 * dm
  let db := devBytes qo (nq * rq) + devBytes o (nq * ro) + g * pv * 256 * d * ceilDiv rr 256 + g * pc * indexBytes d + 4 * (pv + pc) + 64 +
    (if staged then 2 * devBytes sb (hq * nq * sp) else 0) + (if batch then 128 * 256 else 0)
  let chk := engineCheck s q (u8 c 51) clean (within && !crossing uses) uses false
    ((if staged then 2 * cyc else cyc) + (if batch then 64 * 256 else 0)) db
  if batch then chk else { chk with ranges := chk.ranges ++ [(u64 c 24, 64, false)] }

/-- KVAPPEND. -/
def checkAppend (s : State) (q : Nat) (c : Bytes) : OpCheck :=
  let k := opdOf (u64 c 8); let v := opdOf (u64 c 16)
  let nt := u16 c 36; let hkv := bits (u8 c 39) 0 5; let dm := bits (u8 c 40) 0 3 + 1; let d := 32 * dm
  let batch := bit (u8 c 42) 2
  let raw := hkv * d * 2
  let clean := [8, 16].all (fun i => opdClean (u64 c i)) && bits (u8 c 39) 5 3 == 0 && bits (u8 c 40) 3 5 == 0 &&
    (u8 c 42 == 0 || u8 c 42 == 4) && zeroAt c [(43, 21)]
  let within := opdFit k false false false && opdFit v false false false && decide (1 ≤ nt) && decide (nt ≤ 4096) &&
    decide (1 ≤ hkv) && decide (hkv ≤ 16) && (!batch || fromStep q) && (if batch then u64 c 24 == 0 else u64 c 24 % 64 == 0)
  let uses : List Use := [⟨k, nt * raw, false⟩, ⟨v, nt * raw, false⟩]
  let chk := engineCheck s q (u8 c 41) clean within uses false
    (nt * hkv * dm + 64 * ceilDiv nt 64 * hkv + (if batch then 64 * 256 else 0))
    (devBytes k (nt * raw) + devBytes v (nt * raw) + 2 * nt * hkv * 256 * d / 64 + 4 * ceilDiv nt 64 + 64 + (if batch then 128 * 256 else 0))
  if batch then chk else { chk with ranges := chk.ranges ++ [(u64 c 24, 64, false)] }

/-- The address of the batch descriptor of the engine step on a column (R420). -/
def batchAddr (s : State) (f c : Nat) : Nat := s.rdPair (FLK_BATCH_LO f) (FLK_BATCH_HI f) + 4096 * c

/-- KVTOK: the range of BUF is known from the batch descriptor. -/
def checkTok (s : State) (q : Nat) (c : Bytes) : OpCheck :=
  let b := opdOf (u64 c 8)
  let scatter := bit (u8 c 16) 0
  let h := s.ld (batchAddr s (q % 32) ((q - 1024) / 32)) 64
  let words := if scatter then u16 h 8 else u32 h 12
  let uses : List Use := if fromStep q then [⟨b, 4 * words, !scatter⟩] else []
  engineCheck s q (u8 c 17) (opdClean (u64 c 8) && decide (u8 c 16 < 2) && zeroAt c [(18, 46)])
    (opdFit b false false false && fromStep q) uses false (64 * 256) (devBytes b (8 * words) + 128 * 256)

/-- The range of the sequence table a tenant owns: base and entries (R416). -/
def seqRange (s : State) (t : Nat) : Nat × Nat :=
  let sum := fun (l : List Bytes) => l.foldl (fun a z => a + u16 z 8) 0
  if t = 0 then (sum (quotas s), 16384 - sum (quotas s))
  else
    let below := sum ((quotas s).filter fun z => decide (bits (u16 z 0) 0 10 < t))
    (below, match quotaOf s t with | some z => u16 z 8 | none => 0)

/-- FLOCKREQ: judged by its flock's SEG_US (R417, R515). -/
def checkFlockReq (s : State) (q : Nat) (c : Bytes) : OpCheck :=
  let f := bits (u8 c 8) 0 5
  { clean := bits (u8 c 8) 5 3 == 0 && zeroAt c [(9, 1), (32, 32)]
    within := !fromStep q && s.rdb (FLK_CFG_EN f) && decide (u16 c 10 < (seqRange s (issuerTid s q)).2) &&
      decide (u32 c 16 + u32 c 20 + u32 c 12 ≤ 2 ^ 31) && decide (1 ≤ u32 c 20) && u64 c 24 % 64 == 0
    ranges := [(u64 c 24, 64, false)]
    durNs := s.rd (FLK_LIST_SEG_US f) * 1000 }

/-- Class 0x1 (R434, R465, R493). -/
def checkTensor (s : State) (q : Nat) (c : Bytes) : Option OpCheck :=
  let op := cmdOpc c
  if op = 0x01 then some (checkGemm s q c) else if op = 0x02 then some (checkConv s q c) else if op = 0x03 then some (checkReq s q c)
  else if op = 0x08 then some (checkCopy s q c) else if op = 0x09 then some (checkFill s q c) else if op = 0x0A then some (checkSigchk s q c)
  else if 0x20 ≤ op ∧ op ≤ 0x25 then some (checkFunction s q c)
  else if op = 0x40 then some (checkAttn s q c) else if op = 0x41 then some (checkAppend s q c) else if op = 0x44 then some (checkTok s q c)
  else if op = 0x48 then some (checkFlockReq s q c) else none

end Sys2Proof.Machine
end

