-- ==== Sys2Proof/Machine/ValidateVec.lean ====
section
/-! DEFINITION. The operand checks of class 0x2, the vector commands (18.3, 18.5, 18.6). The spec names the fields of each parameter
block and not their places: the layouts here are the model's (DESIGN CHOICE, log 70). -/

namespace Sys2Proof.Machine
open Reg

/-! ### Operands (R528, R529) -/

/-- The operand of a vector command: CLM offsets are bits 21:0, BLK and CODED do not exist. -/
def vecOpd (n : Nat) : Opd := if bit n 56 then { opdOf n with addr := bits n 0 22, blk := false, coded := false } else { opdOf n with blk := false, coded := false }

/-- Reserved bits are 0. -/
def vecClean (n : Nat) : Bool := bits n 57 2 == 0 && opdClean n && (!bit n 56 || bits n 22 34 == 0)

/-- The cluster a PIN byte names. -/
def vecPin (p : Nat) : Option Nat := if bit p 7 then some (bits p 0 2) else none

/-- The parameter block (R528), as device memory holds it. -/
def vecParam (s : State) (c : Bytes) : Bytes := s.ld (u64 c 32) (64 * u8 c 49)

/-! ### Parameter blocks (log 70) -/

/-- VRESIZE: six I16 fields, METHOD, OUT, and the source type (0 U8, 1 U16). -/
structure ResizeP where
  x : Int
  y : Int
  cw : Int
  ch : Int
  ow : Int
  oh : Int
  method : Nat
  out : Nat
  wide : Nat
  deriving DecidableEq, Repr
def resizeP (p : Bytes) : ResizeP :=
  let i := fun o => signed 16 (u16 p o)
  ⟨i 0, i 2, i 4, i 6, i 8, i 10, u8 p 12, u8 p 13, u8 p 14⟩

/-- VFILT: KH, KW, SHIFT, OTYPE (0 U8, 1 I16) in bytes 0 to 3, coefficients from byte 4. VSTEREO: WIN, UNIQ, DMAX in bytes 0, 1
and 2 to 3. -/
def filtKh (p : Bytes) : Nat := u8 p 0
def filtKw (p : Bytes) : Nat := u8 p 1
def filtShift (p : Bytes) : Nat := u8 p 2
def filtOut (p : Bytes) : Nat := u8 p 3
def filtCoef (p : Bytes) (i : Nat) : Int := signed 16 (u16 p (4 + 2 * i))
def stereoWin (p : Bytes) : Nat := u8 p 0
def stereoUniq (p : Bytes) : Nat := u8 p 1
def stereoMax (p : Bytes) : Nat := u16 p 2

/-- VMATMUL: K, N, OTYPE (0 BF16, 1 FP32) as 32-bit words, BIASP in bytes 16 to 23. -/
def matK (p : Bytes) : Nat := u32 p 0
def matN (p : Bytes) : Nat := u32 p 4
def matOut (p : Bytes) : Nat := u32 p 8
def matBias (p : Bytes) : Nat := u64 p 16

/-- VACT: FUNC in byte 0, the type in byte 1 (0 FP32, 1 BF16), the LEAKY slope in bytes 4 to 7. -/
def actBf (p : Bytes) : Bool := u8 p 1 == 1

/-! ### Sizes -/

/-- The opcodes of the library. -/
def vecKnown (op : Nat) : Bool :=
  [0x01, 0x02, 0x03, 0x10, 0x11, 0x12, 0x20, 0x21, 0x22, 0x30, 0x31, 0x40, 0x41, 0x42].contains op

/-- The length an opcode's parameter block needs, in 64-byte units. -/
def vecPlen (op : Nat) : Nat := if op = 0x42 then 0 else if op = 0x02 ∨ op = 0x10 then 2 else if op = 0x30 ∨ op = 0x31 then 3 else 1

/-- The counts lie within the limits of the library tables. -/
def vecCounts (op n0 n1 : Nat) : Bool :=
  let within := fun (lo hi n : Nat) => decide (lo ≤ n) && decide (n ≤ hi)
  if op ≤ 0x03 ∨ op = 0x10 then within 8 8192 n0 && within 8 8192 n1
  else if op = 0x11 ∨ op = 0x12 then within 3 4194304 n0
  else if op = 0x20 then within 1 65536 n0
  else if op = 0x21 then within 1 16777216 n0
  else if op = 0x22 then within 1 16777216 n0 && within 1 65536 n1 && decide (n1 ≤ n0)
  else if op = 0x30 then within 1 4096 n0
  else if op = 0x31 then within 1 8 n0
  else if op = 0x42 then within 2 65536 n0 && decide (1 ≤ n1)
  else decide (1 ≤ n0)

/-- An image of `w` columns and `h` rows of elements of `e` bytes, in ROW64. -/
def imageSpan (w h e : Nat) : Nat := h * pitchOf (w * e)

/-- The bytes of SRC0, SRC1 and DST. -/
def vecSizes (op n0 n1 : Nat) (p : Bytes) : Nat × Nat × Nat :=
  if op = 0x01 then
    let r := resizeP p
    (imageSpan n0 n1 (if r.wide = 1 then 2 else 1), 0, imageSpan r.ow.toNat r.oh.toNat 1)
  else if op = 0x02 then (imageSpan n0 n1 1, 0, imageSpan n0 n1 (if filtOut p = 1 then 2 else 1))
  else if op = 0x03 then (imageSpan n0 n1 1, imageSpan n0 n1 1, imageSpan n0 n1 2)
  else if op = 0x10 then (imageSpan n0 n1 2, 0, 64 + 16 * (n0 * n1))
  else if op = 0x11 ∨ op = 0x12 then (16 * n0, 0, 64)
  else if op = 0x20 then (32 * n0, 0, 64 + 4 * min n0 (u32 p 8))
  else if op = 0x21 then (8 * n0, 0, 8 * n0)
  else if op = 0x22 then (8 * n0, 0, 8 * n1)
  else if op = 0x30 then (96 * n0, 0, 32 * n0)
  else if op = 0x31 then (0, 0, 64 + 8 * n0 * n1)
  else if op = 0x40 then (imageSpan (matK p) n0 2, imageSpan (matK p) (matN p) 2, imageSpan (matN p) n0 (if matOut p = 1 then 4 else 2))
  else if op = 0x41 then let e := if actBf p then 2 else 4; (e * n0, 0, e * n0)
  else (imageSpan n0 n1 4, 0, 16 * n1)

/-- Worst-case cycles (R543). -/
def vecCycles (op n0 n1 : Nat) (p : Bytes) : Nat :=
  let u := fun n => ceilDiv n 128
  if op = 0x01 then u ((resizeP p).ow.toNat * (resizeP p).oh.toNat) * 4
  else if op = 0x02 then u (n0 * n1) * (filtKh p * filtKw p)
  else if op = 0x03 then u (n0 * n1) * stereoMax p * 2
  else if op = 0x10 then u (n0 * n1) * 8
  else if op = 0x11 then 4 * 360 * u n0 + 64
  else if op = 0x12 then 12 * u n0 + 64
  else if op = 0x20 then u n0 * 40 + n0 * u n0
  else if op = 0x21 ∨ op = 0x22 then u n0 * 4 * 24
  else if op = 0x30 then n0 * 600
  else if op = 0x31 then n1 * n0 + 256
  else if op = 0x40 then n0 * matN p * u (matK p) * 2
  else if op = 0x41 then u n0 * 2
  else u (n0 * n1) * 2

/-! ### The check (R529, R530) -/

/-- The clusters a command could run on, as columns. -/
def vecColumns (s : State) (q p : Nat) : List Nat :=
  match vecPin p with
  | some e => [8 + e]
  | none => ((List.range 4).filter (bit (s.rd (Q_ENG_ENG q)))).map (8 + ·)

/-- Class 0x2. -/
def checkVector (s : State) (q : Nat) (c : Bytes) : Option OpCheck :=
  let op := cmdOpc c
  if !vecKnown op then none
  else
    let n0 := u32 c 40 % 2 ^ 24; let n1 := u32 c 44 % 2 ^ 24
    let pin := u8 c 48
    let a := vecOpd (u64 c 8); let b := vecOpd (u64 c 16); let d := vecOpd (u64 c 24)
    let p := vecParam s c
    let z := vecSizes op n0 n1 p
    let two := op == 0x03 || op == 0x40
    let one := op != 0x31
    let uses : List Use := (if one then [⟨a, z.1, false⟩] else []) ++ (if two then [⟨b, z.2.1, false⟩] else []) ++ [⟨d, z.2.2, true⟩]
    let plen := 64 * u8 c 49
    let par : List (Nat × Nat × Bool) := if u8 c 49 = 0 then [] else [(u64 c 32, plen, false)]
    let bias : List (Nat × Nat × Bool) := if op = 0x40 ∧ matBias p ≠ 0 then [(matBias p, 4 * matN p, false)] else []
    let clm := uses.any (·.o.loc)
    let e := (vecPin pin).map (8 + ·)
    let meets := d.loc == false && !d.named && (par ++ bias).any fun r => decide (r.1 < d.addr + z.2.2) && decide (d.addr < r.1 + r.2.1)
    let dev := (uses.map fun u => devBytes u.o u.len).foldl (· + ·) 0 + plen + (if bias.isEmpty then 0 else 4 * matN p)
    some
      { clean := [8, 16, 24].all (fun i => vecClean (u64 c i)) && bits (u64 c 32) 48 16 == 0 && zeroAt c [(43, 1), (47, 1), (50, 14)] &&
          bits pin 2 5 == 0
        within := opdFit a false false true && opdFit b false false true && opdFit d false false true && u64 c 32 % 64 == 0 &&
          (one || u64 c 8 == 0) && (two || u64 c 16 == 0) && decide (vecPlen op ≤ u8 c 49) && decide (u8 c 49 ≤ 4) &&
          (u8 c 49 != 0 || u64 c 32 == 0) && vecCounts op n0 n1 && !crossing uses && !meets &&
          (match vecPin pin with | some k => bit (s.rd (Q_ENG_ENG q)) k | none => !clm)
        ranges := deviceRanges uses ++ par ++ bias
        durNs := ((vecColumns s q pin).map fun k =>
          max (cyclesNs s k (vecCycles op n0 n1 p)) (ceilDiv (dev * 10) (max 1 (s.rd (VX_CFG_WC_GBPS (k - 8))))) + 1000).foldl max 0
        pin := e
        denied := localDenied s q e uses
        locRanges := localRanges uses }

end Sys2Proof.Machine
end

