-- ==== Sys2Proof/Machine/ValidateAll.lean ====
section
/-! DEFINITION. The operand check of every opcode, by class (R368). -/

namespace Sys2Proof.Machine

/-- Granules of the memory a column's MBIST tests (R612). -/
def testGranules (c : Nat) : Nat := if c < 8 then 7168 else if c < 12 then 1024 else 2048

/-- Class 0x6: LBIST, MBIST and RETRAIN, with their worst-case durations (R612, R613). -/
def checkMaint (s : State) (c : Bytes) : Option OpCheck :=
  let t := u8 c 8
  if cmdOpc c = 0x01 then
    some
      { clean := zeroAt c [(9, 55)] && decide (t < 16), within := columnExists s t
        durNs := cyclesNs s t (if t < 8 then 100000 else if t < 12 then 40000 else 30000) + 20000 }
  else if cmdOpc c = 0x02 then
    some
      { clean := zeroAt c [(9, 1), (14, 50)] && decide (t < 16)
        within := columnExists s t && decide (1 ≤ u16 c 12) && decide (u16 c 10 + u16 c 12 ≤ testGranules t)
        durNs := cyclesNs s t (u16 c 12 * 1280) + 5000 }
  else if cmdOpc c = 0x03 then
    some
      { clean := zeroAt c [(10, 54)] && decide (t < 16) && decide (u8 c 9 < 8), within := t == 13 && decide (u8 c 9 ≤ 5), durNs := 32000 }
  else none

/-- The operand check of a command; none for an opcode that is not defined for its class. -/
def opCheck (s : State) (q : Nat) (c : Bytes) : Option OpCheck :=
  if cmdClass c = 0 then checkControl c
  else if cmdClass c = 1 then checkTensor s q c
  else if cmdClass c = 2 then checkVector s q c
  else if cmdClass c = 3 then checkSearch s q c
  else if cmdClass c = 4 then checkDecision s q c
  else if cmdClass c = 5 then checkFrames s q c
  else if cmdClass c = 6 then checkMaint s c
  else none

end Sys2Proof.Machine
end

