-- ==== Sys2Proof/Machine/Queue.lean ====
section
/-! DEFINITION. The queues (13.3 to 13.10): ledgers and references, fetching and starting commands, completions, events, and
the abort of commands in flight. -/

namespace Sys2Proof.Machine
open Reg

/-! ### Status codes -/

/-- An error completion: a status that is not OK, OK_APPROX or PREEMPTED (R378). -/
def isError (c : Nat) : Bool := c != 0x00 && c != 0x01 && c != 0x09

/-! ### Ledgers and references (R390, R392) -/

namespace Ledger

def isEmpty (l : Ledger) : Bool := l.stages == 0

/-- The deadline-cut pair kept by a merge: the smaller SCANNED ÷ PROBED, on a tie the smaller SCANNED. -/
def cutPair (a b : Ledger) : Nat × Nat :=
  if !bit a.stages 6 then (b.scanned, b.probed)
  else if !bit b.stages 6 then (a.scanned, a.probed)
  else if a.scanned * b.probed < b.scanned * a.probed then (a.scanned, a.probed)
  else if b.scanned * a.probed < a.scanned * b.probed then (b.scanned, b.probed)
  else if a.scanned ≤ b.scanned then (a.scanned, a.probed) else (b.scanned, b.probed)

/-- Field by field: stages by OR, error fields by maximum, the deadline-cut pair as a whole (R392). -/
def merge (a b : Ledger) : Ledger where
  stages := a.stages ||| b.stages
  kvErr := max a.kvErr b.kvErr
  selMass := max a.selMass b.selMass
  jlsErr := max a.jlsErr b.jlsErr
  pwlErr := max a.pwlErr b.pwlErr
  pqErr := max a.pqErr b.pqErr
  scanned := (cutPair a b).1
  probed := (cutPair a b).2

/-- The 128-bit ledger word (R392). -/
def toNat (l : Ledger) : Nat :=
  l.stages % 2 ^ 7 + l.kvErr % 2 ^ 16 * 2 ^ 8 + l.selMass % 2 ^ 16 * 2 ^ 24 + l.jlsErr % 2 ^ 3 * 2 ^ 40 +
    l.pwlErr % 2 ^ 16 * 2 ^ 48 + l.pqErr % 2 ^ 16 * 2 ^ 64 + l.scanned % 2 ^ 16 * 2 ^ 80 + l.probed % 2 ^ 16 * 2 ^ 96

/-- The ledger of a 128-bit word (R392). -/
def ofNat (n : Nat) : Ledger where
  stages := bits n 0 7
  kvErr := bits n 8 16
  selMass := bits n 24 16
  jlsErr := bits n 40 3
  pwlErr := bits n 48 16
  pqErr := bits n 64 16
  scanned := bits n 80 16
  probed := bits n 96 16

end Ledger

namespace Ref

/-- The reference "none" (R390). -/
def isNone (r : Ref) : Bool := r.sid == 0xFFFFFFFFFFFFFFFF && r.fe == 0

/-- The earlier FE stands, EPOCH and HOLDOVER taken as 0, a tie goes to the lower SID; "none" aside (R390, R392). -/
def merge (a b : Ref) : Ref :=
  if a.isNone then b else if b.isNone then a
  else if tsPlain a.fe < tsPlain b.fe then a
  else if tsPlain b.fe < tsPlain a.fe then b
  else if a.sid ≤ b.sid then a else b

end Ref

/-! ### Queue geometry (13.3) -/

def sqSize (s : State) (q : Nat) : Nat := 2 ^ (s.rd (Q_CFG_SQ_SZ q) + 4)
def cqSize (s : State) (q : Nat) : Nat := 2 ^ (s.rd (Q_CFG_CQ_SZ q) + 4)
def sqAddr (s : State) (q n : Nat) : Nat := s.rd (Q_SQ_BASE q) * 4096 + 64 * (n % sqSize s q)
def cqAddr (s : State) (q n : Nat) : Nat := s.rd (Q_CQ_BASE q) * 4096 + 64 * (n % cqSize s q)

/-- Commands announced and not started (R373). -/
def backlog (s : State) (q : Nat) : Nat := (s.rd (Q_SQ_PTR_TAIL q) + 65536 - s.rd (Q_SQ_PTR_HEAD q)) % 65536

/-- Completions written and not consumed (R374). An announcement sets CQ_HEAD ahead of CQ_TAIL (R408): on a real-time queue the
difference may be negative. -/
def unread (s : State) (q : Nat) : Int :=
  let d := (s.rd (Q_CQ_PTR_CQ_TAIL q) + 65536 - s.rd (Q_CQ_PTR_CQ_HEAD q)) % 65536
  if s.rdb (Q_CFG_RT q) ∧ 32768 ≤ d then (d : Int) - 65536 else d

/-- The commands of a queue in flight. -/
def flightsOf (s : State) (q : Nat) : List Flight := s.drv.flights.filter (·.q == q)

/-- The commands in flight of a tenant (R397). -/
def tenantInFlight (s : State) (t : Nat) : Nat := (s.drv.flights.filter fun f => s.rd (Q_CFG_TID f.q) == t).length

def carriedLed (s : State) (q : Nat) : Ledger := s.drv.carriedLed.get {} q
def carriedRef (s : State) (q : Nat) : Ref := s.drv.carriedRef.get {} q

def setCarried (s : State) (q : Nat) (l : Ledger) (r : Ref) : State :=
  { s with drv := { s.drv with carriedLed := s.drv.carriedLed.put {} q l, carriedRef := s.drv.carriedRef.put {} q r } }

/-- Dispatch is stopped by the drain (R167, step D3) or the surprise removal (R173). -/
def draining (s : State) : Bool := s.rd LIV_STATUS_STATE != 0

/-! ### Starting commands -/

/-- A range of `a` overlaps a written range of `b`. -/
def rangesMeet (a b : List (Nat × Nat × Bool)) : Bool :=
  a.any fun x => b.any fun y => y.2.2 && decide (x.1 < y.1 + y.2.1) && decide (y.1 < x.1 + x.2.1)

/-- A command with PIPE waits for a running earlier command whose writes meet its ranges (R462, R544), an attention-path command for
another (R521), a GSEARCH for another (R562). -/
def pipeWaits (s : State) (q : Nat) (c : Bytes) : Bool :=
  let o := (opCheck s q c).getD {}
  let att := fun (b : Bytes) => cmdClass b == 1 && (cmdOpc b == 0x40 || cmdOpc b == 0x41 || cmdOpc b == 0x44)
  (cmdClass c == 1 || cmdClass c == 2 || cmdClass c == 3) && (flightsOf s q).any fun f =>
    let p := (opCheck s q f.cmd).getD {}
    rangesMeet o.ranges p.ranges || (o.pin == p.pin && rangesMeet o.locRanges p.locRanges) || (att c && att f.cmd) ||
      (cmdClass c == 3 && cmdClass f.cmd == 3)

/-- R375, R384, R397: the queue is ACTIVE, a completion entry is free, the tenant is below its in-flight limit, and, unless PIPE
lets the command overtake, every earlier command of the queue has completed; a WAIT never overtakes. -/
def startable (s : State) (q : Nat) (c : Bytes) : Bool :=
  s.rd (Q_STATE_STATE q) == 2 && !draining s &&
  decide (unread s q + (flightsOf s q).length < cqSize s q) && !s.drv.unbinding.contains q &&
  !((flightsOf s q).any (·.fetchErr)) &&
  ((cmdPipe c && !(cmdClass c == 0 && cmdOpc c == 5) && !pipeWaits s q c) || (flightsOf s q).isEmpty) &&
  (match quotaOf s (s.rd (Q_CFG_TID q)) with
   | some z => s.rd (Q_CFG_TID q) == 0 || decide (tenantInFlight s (s.rd (Q_CFG_TID q)) < u16 z 14)
   | none => true)

/-- The head of a queue leaves it as a command in flight (HEAD advances). -/
def launch (s : State) (q unit : Nat) (c : Bytes) : State :=
  let f : Flight :=
    { q := q, idx := s.rd (Q_SQ_PTR_HEAD q), cmd := c, unit := unit, start := s.ts64, startMono := s.mono
      inhLed := if cmdInherit c then carriedLed s q else {}
      inhRef := if cmdInherit c then carriedRef s q else {} }
  { s with drv := { s.drv with flights := s.drv.flights ++ [f], heads := s.drv.heads.erase q } }.wr
    (Q_SQ_PTR_HEAD q) (s.rd (Q_SQ_PTR_HEAD q) + 1)

/-- Change the newest command in flight of a queue. -/
def modifyLast (s : State) (q : Nat) (g : Flight → Flight) : State :=
  { s with drv := { s.drv with flights :=
      (s.drv.flights.reverse.foldl (fun (acc : List Flight × Bool) f =>
        if !acc.2 && f.q == q then (g f :: acc.1, true) else (f :: acc.1, acc.2)) ([], false)).1 } }

/-- Change every command in flight that passes a test. -/
def modifyFlights (s : State) (p : Flight → Bool) (g : Flight → Flight) : State :=
  { s with drv := { s.drv with flights := s.drv.flights.map fun f => if p f then g f else f } }

/-- The first error cause capture (R383). -/
def captureCause (q cause : Nat) (s : State) : State :=
  let s := s.wr (Q_STATE_CAUSE q) cause
  if s.rdb DRV_ERRCAP_VALID then s
  else ((s.wr DRV_ERRCAP_QID q).wr DRV_ERRCAP_CAUSE cause).set DRV_ERRCAP_VALID

/-- An external payload for the serving models that is not verified yet, at DEST (R76, R77). -/
def unverified (s : State) : List (Nat × Nat) :=
  ((s.img.extp.zipIdx).filter fun e => u64 e.1.payload 56 == 3 && !s.boot.verified.contains e.2).map fun e => (e.1.dest, u64 e.1.payload 48)

/-- A command reads from such a payload, and so needs it (R79). -/
def needsPayload (s : State) (q : Nat) (c : Bytes) : Bool :=
  ((opCheck s q c).getD {}).ranges.any fun r => !r.2.2 && (unverified s).any fun e => decide (r.1 < e.1 + e.2) && decide (e.1 < r.1 + r.2.1)

/-- Fetch and check the command at the head of a queue (R377, R382): a command that fails validation performs nothing and its
error completion stands ready; one that needs an external payload not yet verified completes BUSY (R79). An IDLE queue with commands becomes ACTIVE, an ACTIVE one without IDLE (R378). -/
def pump (q : Nat) (s : State) : State :=
  let s := if s.rd (Q_STATE_STATE q) = 1 ∧ backlog s q ≠ 0 then s.wr (Q_STATE_STATE q) 2
    else if s.rd (Q_STATE_STATE q) = 2 ∧ backlog s q = 0 ∧ flightsOf s q = [] then s.wr (Q_STATE_STATE q) 1 else s
  if s.rd (Q_STATE_STATE q) = 2 ∧ backlog s q ≠ 0 ∧ !draining s ∧ q ∉ s.drv.unbinding then
    let s :=
      match s.drv.heads.find q with
      | some _ => s
      | none =>
        let r := memRead s (s.rd (Q_CFG_TID q)) (sqAddr s q (s.rd (Q_SQ_PTR_HEAD q))) 64
        if r.1 = 0 then
          let s := noteRead 12 (s.rd (Q_CFG_TID q)) (sqAddr s q (s.rd (Q_SQ_PTR_HEAD q))) 64 s
          { s with drv := { s.drv with heads := s.drv.heads.insert q ⟨r.2⟩ } }
        else s
    match s.drv.heads.find q with
    | none => s
    | some h =>
      let s := s.wr (Q_STATE_CQFULL q) (ofBool (decide (cqSize s q ≤ unread s q + (flightsOf s q).length)))
      if startable s q h.cmd then
        match verdict s q h.cmd (opCheck s q h.cmd) with
        | none =>
          if needsPayload s q h.cmd then
            modifyLast (launch s q 15 h.cmd) q fun f => { f with status := 0x08, stop := s.ts64, inhLed := {}, inhRef := {} }
          else s
        | some v =>
          captureCause q v.2 (modifyLast (launch s q 15 h.cmd) q fun f =>
            { f with status := v.1, aux := v.2, stop := s.ts64, inhLed := {}, inhRef := {} })
      else s
  else s

/-- The command at the head of a queue, if it may start now and is the given opcode of the given class. -/
def headIs (s : State) (q cls opc : Nat) : Option Bytes :=
  match s.drv.heads.find q with
  | none => none
  | some h =>
    if cmdClass h.cmd = cls ∧ cmdOpc h.cmd = opc ∧ startable s q h.cmd ∧ verdict s q h.cmd (opCheck s q h.cmd) = none ∧
        !needsPayload s q h.cmd
    then some h.cmd else none

/-- The result of a command's execution. -/
structure Result where
  status : Nat := 0
  led : Ledger := {}
  ref : Ref := {}
  aux : Nat := 0
  deriving DecidableEq, Repr

/-- Record the result of the newest command in flight of a queue: its completion stands ready. -/
def settle (q : Nat) (r : Result) (s : State) : State :=
  modifyLast s q fun f =>
    { f with status := r.status, led := r.led, ref := r.ref, aux := r.aux, wait := 0 }

/-- Record the result of one command in flight (its queue and count). -/
def settleAt (q idx : Nat) (r : Result) (s : State) : State :=
  modifyFlights s (fun f => f.q == q && f.idx == idx) fun f =>
    { f with status := r.status, led := f.led.merge r.led, ref := f.ref.merge r.ref, aux := r.aux, stop := s.ts64, wait := 0 }

/-! ### Completions (R376, R389, R392 to R394) -/

/-- The ledger a completion reports (R393). -/
def reportedLed (f : Flight) : Ledger := f.inhLed.merge f.led
def reportedRef (f : Flight) : Ref := f.inhRef.merge f.ref

/-- The status a completion reports (R21, R22, R392). -/
def reportedStatus (f : Flight) : Nat :=
  if f.status ≠ 0 then f.status
  else if f.preempted then 0x09
  else if !(reportedLed f).isEmpty then 0x01 else 0x00

/-- The 64-byte completion (R389). -/
def completionBytes (s : State) (f : Flight) (endTs nd : Nat) : Bytes :=
  let n := s.rd (Q_CQ_PTR_CQ_TAIL f.q)
  let phase := 1 - n / cqSize s f.q % 2
  leBytes 4 (if f.fetchErr then 0 else cmdTag f.cmd) ++ leBytes 1 (reportedStatus f) ++
    leBytes 1 (phase + 2 * ofBool f.fetchErr) ++ leBytes 2 nd ++ leBytes 8 f.start ++ leBytes 8 endTs ++
    leBytes 16 (reportedLed f).toNat ++ leBytes 8 (reportedRef f).sid ++ leBytes 8 (reportedRef f).fe ++ leBytes 8 f.aux

/-- The increments of the queue's ND counter since its previous completion (R389, R634). -/
def ndDelta (s : State) (q : Nat) : Nat :=
  min (s.rd (Q_ND_COUNT q) - s.drv.ndSeen.get 0 q) 0xFFFF

/-- Interrupt accounting of a completion (R394). -/
def accountIrq (q : Nat) (eligible err : Bool) (s : State) : State :=
  if !eligible then s
  else
    let n := s.drv.irqCount.get 0 q + 1
    if err ∨ max 1 (s.rd (Q_CTL_IRQ_COUNT q)) ≤ n then
      raiseVector (s.rd (Q_ENG_VEC q)) { s with drv := { s.drv with irqCount := s.drv.irqCount.erase q, irqOldest := s.drv.irqOldest.erase q } }
    else
      { s with drv := { s.drv with
          irqCount := s.drv.irqCount.insert q n
          irqOldest := if n = 1 then s.drv.irqOldest.insert q s.mono else s.drv.irqOldest } }

/-- Carried ledger and reference after a completion (R393). -/
def carryOver (f : Flight) (s : State) : State :=
  if cmdLclr f.cmd && !f.fetchErr then setCarried s f.q {} {}
  else setCarried s f.q ((carriedLed s f.q).merge f.led) ((carriedRef s f.q).merge f.ref)

/-- No engine, cluster or Gleaner runs a command. -/
def enginesIdle (s : State) : Bool := !s.drv.flights.any fun f => decide (f.unit < 13)

/-- The DRAM of every running controller goes to self-refresh (3), or comes back from it (2) (R125, R126). -/
def setDram (v : Nat) (s : State) : State :=
  (List.range 6).foldl (fun (t : State) m => if t.rd (MC_STATUS_STATE m) = 5 - v then t.wr (MC_STATUS_STATE m) v else t) s

/-- After LOST, DRAM goes to self-refresh once nothing runs on the engines, the clusters and the Gleaner (R125). -/
def restMemory (s : State) : State := if s.clocks.lost && enginesIdle s then setDram 3 s else s

/-- A column with no command left on it is free again, unless a claim holds it (R409, R411, R414). -/
def freeColumn (u : Nat) (s : State) : State :=
  if u < 13 ∧ s.rd (COL_STATE_STATE u) = 1 ∧ !(s.drv.flights.any (·.unit == u)) then
    (s.wr (COL_STATE_STATE u) 0).wr (COL_STATE_QID u) 0
  else s

/-- The state of a queue after a completion (R378). -/
def afterCompletion (q : Nat) (stop : Bool) (s : State) : State :=
  if stop then s.wr (Q_STATE_STATE q) 4
  else if (s.rd (Q_STATE_STATE q) = 2 ∨ s.rd (Q_STATE_STATE q) = 3) ∧ backlog s q = 0 ∧ (flightsOf s q).isEmpty
  then s.wr (Q_STATE_STATE q) 1
  else if s.rd (Q_STATE_STATE q) = 3 ∧ !((flightsOf s q).any (·.wait == 1)) then s.wr (Q_STATE_STATE q) 2
  else s

/-- The next completion of a queue that may be written: its oldest command in flight, when that has ended and the ring has a
free entry (R375, R384). -/
def nextCompletion (s : State) (q : Nat) : Option Flight :=
  match flightsOf s q with
  | [] => none
  | f :: _ => if f.wait = 0 ∧ unread s q < cqSize s q ∧ bound s q ∧ q ∉ s.drv.cqFailed then some f else none

/-- Engine time served is charged to the tenant of a serving queue (R414). -/
def charge (f : Flight) (s : State) : State :=
  if f.unit < 13 ∧ !s.rdb (Q_CFG_RT f.q) then
    let t := s.rd (Q_CFG_TID f.q)
    { s with drv := { s.drv with served := s.drv.served.put 0 t (s.drv.served.get 0 t + (s.mono - f.startMono)) } }
  else s

/-- The engine counts a command that has completed: its commands, its cycles, and one that ran past its validated duration
(15.12, 18.8), or the longest query (19.10). -/
def countEngine (f : Flight) (s : State) : State :=
  let cyc := (s.mono - f.startMono) * s.rd (CLK_ISL_CUR (columnIsland f.unit)) / 40
  let long := decide (f.startMono + ((opCheck s f.q f.cmd).getD {}).durNs < s.mono)
  if f.unit < 8 then
    let s := (s.inc (TE_CMDS f.unit)).inc (TE_BUSY f.unit) cyc
    if long then s.inc (TE_OVRUN f.unit) else s
  else if f.unit < 12 then
    let s := (s.inc (VX_CMDS (f.unit - 8))).inc (VX_BUSY (f.unit - 8)) cyc
    if long then s.inc (VX_OVRUN (f.unit - 8)) else s
  else if f.unit = 12 then s.wr GL_LAT_MAX (max (s.rd GL_LAT_MAX) (min (s.mono - f.startMono) (2 ^ 32 - 1)))
  else s

/-- Take a command out of flight. -/
def dropFlight (f : Flight) (s : State) : State :=
  { s with drv := { s.drv with flights := s.drv.flights.filter fun g => !(g.q == f.q && g.idx == f.idx) } }

/-- A completion write answered with an error stops the queue (R391); while the queue is being unbound the completion is lost. -/
def completionFailed (q : Nat) (f : Flight) (endTs : Nat) (s : State) : State :=
  if q ∈ s.drv.unbinding then dropFlight f s
  else
    let s := modifyFlights s (fun g => g.q == q && g.idx == f.idx) fun g => { g with stop := endTs }
    (({ s with drv := { s.drv with cqFailed := q :: s.drv.cqFailed } }).set (Q_STATE_CQERR q)).wr (Q_STATE_STATE q) 4

/-- Write a queue's next completion (R376, R384, R389, R391 to R394). -/
def writeCompletion (q : Nat) (f : Flight) (s : State) : State :=
  let err := isError (reportedStatus f)
  let endTs := if f.stop = 0 then s.ts64 else f.stop
  let body := completionBytes s f endTs (ndDelta s q)
  let w := memWrite s 12 (s.rd (Q_CFG_TID q)) (cqAddr s q (s.rd (Q_CQ_PTR_CQ_TAIL q))) body
  let s := w.2
  if w.1 ≠ 0 then completionFailed q f endTs s
  else
    let s := countEngine f (charge f (dropFlight f s))
    let s := { s with drv := { s.drv with ndSeen := s.drv.ndSeen.put 0 q (s.rd (Q_ND_COUNT q)) } }
    let s := s.wr (Q_CQ_PTR_CQ_TAIL q) (s.rd (Q_CQ_PTR_CQ_TAIL q) + 1)
    let s := carryOver f s
    let s := accountIrq q ((cmdIrq f.cmd && !f.fetchErr) || (err && s.rdb (Q_CFG_ERRIRQ q))) err s
    let s := restMemory (freeColumn f.unit s)
    afterCompletion q ((err && s.rdb (Q_CFG_ERRSTOP q)) || f.fetchErr) s

/-- Maintenance requests pending: class 0x6 requests and retraining requests of the controllers (R431). -/
def mntPending (s : State) : Nat :=
  (s.drv.flights.filter (·.wait == 4)).length + s.mc.retrainAt.length

/-! ### Aborts -/

/-- End commands in flight with a status, the order of R21 deciding (R137, R372, R120); their completions follow in queue
order. -/
def endFlights (p : Flight → Bool) (status : Nat) (s : State) : State :=
  modifyFlights s p fun f =>
    { f with status := worse f.status status, stop := if f.wait = 0 then f.stop else s.ts64, wait := 0 }

/-- End the commands in flight ABORTED. -/
def abortFlights (p : Flight → Bool) (s : State) : State := endFlights p 0x0A s

/-- Write up to `n` completions of a queue, in order. -/
def writeReady (q : Nat) : Nat → State → State
  | 0, s => s
  | n + 1, s => match nextCompletion s q with
    | none => s
    | some f => writeReady q n (writeCompletion q f s)

/-- Every completion that may be written is written, queue by queue. -/
def writeAllReady (s : State) : State := (List.range 1024).foldl (fun t q => writeReady q (flightsOf t q).length t) s

/-- Every command in flight that has not ended completes ABORTED, in the order of its queue (R151, R167). -/
def completeAborted (s : State) : State := writeAllReady (abortFlights (fun f => f.stop == 0) s)

/-! ### Events (R386 to R388) -/

def eventAt (s : State) (e : Nat) : Event := s.drv.events.get {} e
def setEvent (s : State) (e : Nat) (v : Event) : State := { s with drv := { s.drv with events := s.drv.events.put {} e v } }

/-- A blocked WAIT on an event that its value now satisfies. -/
def waitSatisfied (s : State) (e : Nat) (f : Flight) : Bool :=
  f.wait == 1 && u16 f.cmd 8 == e && decide (u64 f.cmd 16 ≤ (eventAt s e).value)

/-- A satisfied WAIT takes up the event's ledger and reference when INHERIT is set (R388). -/
def takeUp (q e : Nat) (c : Bytes) (s : State) : State :=
  if cmdInherit c then
    setCarried s q ((carriedLed s q).merge (eventAt s e).led) ((carriedRef s q).merge (eventAt s e).ref)
  else s

/-- Re-evaluate the WAITs on an event that has changed (R388): the satisfied ones complete OK and their queues are ACTIVE. -/
def wake (e : Nat) (s : State) : State :=
  let ready := s.drv.flights.filter (waitSatisfied s e)
  let s := ready.foldl (fun s f => (takeUp f.q e f.cmd s).wr (Q_STATE_STATE f.q) 2) s
  modifyFlights s (waitSatisfied s e) fun f => { f with wait := 0, status := 0, stop := s.ts64 }

end Sys2Proof.Machine
end

