-- ==== Sys2Proof/Machine/Outputs.lean ====
section
/-! DEFINITION. Motor outputs, decisions and the fault collector (chapters 20 and 24): sending templates, withdrawing frames,
ending pending DCOMPAREs, safe and idle reactions, arming and disarming, and the reaction levels. -/

namespace Sys2Proof.Machine
open Reg

/-! ### Levels (R569, R590, R591) -/

/-- The level of a fault code (R569, R590, R591): 4 bits of SF_FLT_LVL. -/
def levelOf (s : State) (code : Nat) : Nat := bits (s.rd (SF_FLT_LVL (code / 8))) (4 * (code % 8)) 3

/-! ### Sending a template (R583, R584, R692 to R695, R711) -/

/-- SAFE and IDLE templates are not sent in RECOVERY, in the reset states and after step D8 (R584). -/
def templatesOff (s : State) : Bool :=
  s.rd BOOT_STATUS_PHASE == 0xF || s.power.resetNow.isSome || s.rd LIV_STATUS_STATE == 2

/-- Book or request a template's frame on its motor output: filled, in its object's slot or in the packet buffer. The flag is
false when an Ethernet output cannot take it. `rank` is its group in R666 and R709, `wait` the launch instant on MONO for a GO
frame. -/
def putTemplate (e : Bytes) (d : FillData) (mf : MotorFrame) (rank : Nat) (wait close : Option Nat) (s : State) : Bool × State :=
  let m := u8 e 2
  let p := fillTemplate e d (s.rd (MO_STAT_ROLL m))
  let unit := s.rd (MO_CFG_UNIT m)
  if !s.rdb (MO_CFG_EN m) then (false, s)
  else if s.rd (MO_CFG_TYPE m) = 0 then
    let o := u16 e 4
    let s := (putSlot o p s).wr (OBJ_DLC o) (bits (u8 e 7) 0 4)
    (true, addReq { ctrl := unit, obj := o, rank := rank, ready := wait.isNone, start := wait.getD s.mono, close := close
                    motor := some mf } s)
  else
    let k := bits (u16 e 4) 0 3
    let f : EthFrame :=
      { handle := 0, port := unit % 4, queue := k, bytes := p, account := accountOf (unit % 4) k, cells := cellsOf p.length
        group := if rank = 1 then 1 else if wait.isSome then 2 else 3
        ready := wait.isNone, start := wait.getD s.mono, close := close, motor := some mf }
    if !ethUp s (unit % 4) then (false, if rank = 1 then s.inc (TX_ABAND (unit % 4)) else s)
    else if placeable s f.account f.cells then (true, holdFrame f s)
    else (false, if rank = 1 then s.inc (TX_ABAND (unit % 4)) else s)

/-- A frame of a motor output that can still be withdrawn: a GO or OVR frame whose start bit has not passed (R695). -/
def withdrawable (m : Nat) (mf : MotorFrame) : Bool := mf.mo == m && (mf.kind == 0 || mf.kind == 3)

/-- A request's frame is on the wire. -/
def onWire (s : State) (r : CanReq) : Bool := (s.can.wire.find r.ctrl).any fun x => x.obj == r.obj

/-- The start bit of a request's first attempt falls in this very instant of MONO: an inhibit of the same cycle still stands (R28,
20.12). -/
def justBegun (s : State) (r : CanReq) : Bool := (s.can.wire.find r.ctrl).any fun x => x.obj == r.obj && x.first == some s.time.mono

/-- Withdraw the booked GO and OVR frames of an output that pass a test and whose start bit has not passed, with their launch
entries; a frame that begins in this very cycle leaves the wire (log 130). -/
def withdraw (p : MotorFrame → Bool) (s : State) : State :=
  let canP := fun (r : CanReq) => match r.motor with
    | some mf => p mf && (!onWire s r || justBegun s r)
    | none => false
  let ethP := fun (f : EthFrame) => match f.motor with | some mf => p mf | none => false
  let gone := (s.can.reqs.filter canP).map (fun r => (r.motor.getD ⟨0, 0, 0, 0, 0, 0⟩, r.start)) ++
    (s.eth.frames.filter ethP).map (fun f => (f.motor.getD ⟨0, 0, 0, 0, 0, 0⟩, f.start))
  let cut := s.can.reqs.filter fun r => canP r && justBegun s r
  let s := dropReqs canP s
  let c := s.can
  let s := { s with can := { c with wire := c.wire.keep fun n => !cut.any (·.ctrl == n) } }
  let s := releaseFrames ethP s
  let s := unbookLaunch (fun e => e.kind == 2 && gone.any fun g => g.1.mo == e.ref && g.2 == e.at_) s
  gone.foldl (fun t g => if g.1.kind = 0 then t.clr (MO_STAT_BOOKED g.1.mo) else t) s

/-! ### Ending a DCOMPARE (R578, R580 to R582) -/

/-- The outcome record (20.7). -/
def outcomeRecord (d : Decision) (outcome : Nat) : Bytes :=
  leBytes 1 outcome ++ leBytes 1 d.act ++ leBytes 2 d.lane ++ leBytes 4 d.pseq ++ leBytes 8 d.launchTs ++
    leBytes 8 d.releaseTs ++ zeros 40

/-- Count an outcome (R578, 20.13): the counters, the first-non-release capture, the late-launch event. -/
def countOutcome (stream act pseq outcome : Nat) (s : State) : State :=
  if outcome = 0 then (s.inc DC_RELEASED).clr (DC_CONSEC stream)
  else
    let s := s.inc DC_HELD
    let s := if 7 ≤ outcome ∧ outcome ≤ 9 then (s.inc DC_DISAGREE).inc (DC_CONSEC stream) else s
    let s := if outcome = 0xB then post 0x6003 0x03 [act, pseq] (s.inc DC_LATE) else s
    if s.rdb DC_CAP_VALID then s
    else (((s.wr DC_CAP_STREAM stream).wr DC_CAP_OUTCOME outcome).wr DC_CAP_PSEQ pseq).set DC_CAP_VALID

/-- End a DCOMPARE: its outcome record, its counters and its result; `aux` is the stamp of the last start bit. -/
def endDecision (d : Decision) (outcome aux : Nat) (s : State) : State :=
  let w := memWrite s 8 (s.rd (Q_CFG_TID d.q)) d.dst (outcomeRecord d outcome)
  let s := w.2
  let st := worse (if outcome = 0 then 0 else if outcome = 0xC then 0x08 else 0x0B) w.1
  let s := countOutcome d.stream d.act d.pseq outcome s
  let s := settleAt d.q d.idx { status := st, aux := aux } s
  let l := s.safety.pending.filter fun x => !(x.q == d.q && x.idx == d.idx)
  { s with safety := { s.safety with pending := l } }

/-! ### Safe and idle reactions (R583, R695) -/

/-- A decision's GO frame on an output is booked, or begins in this very cycle. -/
def holdsOutput (s : State) (m : Nat) (d : Decision) : Bool :=
  d.waiting.contains m || s.can.reqs.any fun r =>
    justBegun s r && r.motor.any fun mf => mf.kind == 0 && mf.mo == m && mf.q == d.q && mf.idx == d.idx

/-- Decisions waiting for an output give way to a priority frame: their GO frames are withdrawn, and other actuators take their safe
reaction, `again`. -/
def yieldTo (again : Nat → Nat → Nat → State → State) (m act : Nat) (s : State) : State :=
  (s.safety.pending.filter (holdsOutput s m)).foldl (fun t d =>
    let t := endDecision d 0xD 0 (withdraw (fun mf => mf.q == d.q && mf.idx == d.idx && mf.kind == 0) t)
    match actuator t d.act with
    | some a => if u16 a 10 = 0xFFFF ∨ d.act = act then t else again (u16 a 10) 1 d.act t
    | none => t) s

/-- A template goes out as a priority frame. -/
def sendWith (again : Nat → Nat → Nat → State → State) (e : Bytes) (kind act : Nat) (s : State) : State :=
  (putTemplate e {} { mo := u8 e 2, kind := kind, act := act } 1 none none
    (withdraw (withdrawable (u8 e 2)) (yieldTo again (u8 e 2) act s))).2

/-- Send a SAFE or IDLE template. The output's own booked GO and OVR frames are withdrawn first; the DCOMPAREs whose frame goes
end with outcome 0x0D, and their actuators take their safe reaction in turn (`fuel` bounds the chain). -/
def sendPriority : Nat → Nat → Nat → Nat → State → State
  | 0, _, _, _, s => s
  | fuel + 1, tidx, kind, act, s =>
    match template s tidx with
    | none => s
    | some e => if templatesOff s then s else sendWith (sendPriority fuel) e kind act s

/-- The safe reaction of an actuator (R583); an actuator without a SAFE_TMPL sends nothing. -/
def safeReaction (act : Nat) (s : State) : State :=
  match actuator s act with
  | some a => if u16 a 10 = 0xFFFF then s else sendPriority (s.safety.pending.length + 1) (u16 a 10) 1 act s
  | none => s

/-- The idle reaction of every actuator (R143). -/
def idleReactions (s : State) : State :=
  (List.range (nAct s)).foldl (fun t i =>
    let a := actEntry t i
    if u16 a 12 = 0xFFFF then t else sendPriority (t.safety.pending.length + 1) (u16 a 12) 2 (u8 a 0) t) s

/-- End one pending DCOMPARE by a fault reaction: withdrawn unless its start bit has passed, outcome 0x0D, or UNARMED where a disarm
meets its release in one cycle, and the safe reaction (R590, 20.12). -/
def reactDecision (disarms : Bool) (d : Decision) (s : State) : State :=
  if s.safety.pending.contains d then
    let s := withdraw (fun mf => mf.q == d.q && mf.idx == d.idx && mf.kind == 0) s
    safeReaction d.act (endDecision d (if disarms && d.releaseTs == s.ts64 then 0xA else 0xD) 0 s)
  else s

/-- Every pending decision takes its safe reaction (R125, R137, R167, R590). -/
def reactPending (disarms : Bool) (s : State) : State := s.safety.pending.foldl (fun t d => reactDecision disarms d t) s

/-- The pending decisions of one stream take their safe reaction. -/
def reactStream (n : Nat) (s : State) : State :=
  (s.safety.pending.filter (·.stream == n)).foldl (fun t d => reactDecision false d t) s

/-! ### Arming (R81, R586, R587) -/

/-- The device is ARMED. -/
def armed (s : State) : Bool := s.rdb SF_STATUS_ARMED

/-- The safe outputs have an edge now (R588). -/
def noteEdge (s : State) : State := { s with safety := { s.safety with edgeAt := some s.mono } }

/-- Drive SAFE_A, SAFE_B and MINH_N to the DISARMED levels (R586). -/
def safeLevels (s : State) : State :=
  (if s.rdb SF_STATUS_SAFE_A || s.rdb SF_STATUS_SAFE_B || s.rdb SF_STATUS_MINH_N then noteEdge s else s).wrs
    [(SF_STATUS_SAFE_A, 0), (SF_STATUS_SAFE_B, 0), (SF_STATUS_MINH_N, 0)]

/-- DISARMED: outputs at their safe levels, the motor outputs send no GO or OVR frame, counting of clean cycles restarts. -/
def disarm (s : State) : State :=
  let s := safeLevels ((s.clr SF_STATUS_ARMED).wr SF_STATUS_CLEAN 0)
  let s := s.clr BOOT_STATUS_ARMED
  withdraw (fun mf => mf.kind == 3) s

/-- ARMED: SAFE_A and SAFE_B in anti-phase, MINH_N high (R586). -/
def arm (s : State) : State :=
  (noteEdge s).wrs [(SF_STATUS_ARMED, 1), (SF_STATUS_SAFE_A, 1), (SF_STATUS_SAFE_B, 0), (SF_STATUS_MINH_N, 1), (BOOT_STATUS_ARMED, 1)]

/-- This major cycle is not clean (R81). -/
def spoilCycle (s : State) : State := { s with safety := { s.safety with dirty := true } }

/-- Every pending decision takes its safe reaction, the outputs are disarmed and arming restarts (R137, R590 level 2). -/
def loopReaction (s : State) : State := spoilCycle (disarm (reactPending true s))

/-! ### The fault collector (R590 to R592) -/

/-- The decision stream a fault names (R590): DCMP_CONSEC names one. -/
def faultStream (code arg : Nat) : Option Nat := if code = 0x0D then some arg else none

/-- Count, capture and post a fault with its level. -/
def recordFault (inj : Bool) (lvl code arg : Nat) (s : State) : State :=
  let s := s.inc SF_FLT_COUNT
  let s := if s.rdb SF_FLT_LAST_VALID then s
    else (((s.wr SF_FLT_LAST_CODE code).wr SF_FLT_LAST_LEVEL lvl).wr SF_FLT_LAST_ARG arg).set SF_FLT_LAST_VALID
  postInj inj 0x6001 0x03 [code, lvl, arg] s

/-- Hardware clears TRC_EN: every probe's trace ends (R365, R366). -/
def stopTrace (s : State) : State := { s with prb := { s.prb with on := [] } }.clr PRB_CTL_TRC_EN

/-- A reaction stops the sampling windows and the trace where FREEZE is 1 (R355, R366). -/
def freezeProbes (s : State) : State :=
  if s.rdb PRB_CTL_FREEZE then stopTrace (s.set PRB_WIN_STAT_FROZEN) else s

/-- What a level above 0 does (R590). -/
def reactAt (lvl code : Nat) (stream : Option Nat) (s : State) : State :=
  if lvl = 1 then
    spoilCycle (match stream with | some n => reactStream n s | none => reactPending false s)
  else if lvl = 2 then loopReaction s
  else
    let s := loopReaction s
    let s := if s.rdb SF_LATCH_L3 ∨ s.rdb SF_LATCH_L4 then s else s.wr SF_LATCH_CODE code
    if lvl = 3 then s.set SF_LATCH_L3 else (s.set SF_LATCH_L4).wr SF_LATCH_CODE code

/-- The reaction of a level (R590). -/
def react (lvl code : Nat) (stream : Option Nat) (s : State) : State :=
  if lvl = 0 then s
  else reactAt lvl code stream (freezeProbes s)

/-- The emergency reaction reaches every actuator: those without a pending decision take their safe reaction too (R33). -/
def emergencyReaction (s : State) : State :=
  let acts := (List.range (nAct s)).map fun i => u8 (actEntry s i) 0
  (acts.filter fun a => !s.safety.pending.any (·.act == a)).foldl (fun t a => safeReaction a t) s

/-- A fault reaches the collector (R590 to R592). -/
def raiseFault (code arg : Nat) (s : State) : State :=
  let s := recordFault false (levelOf s code) code arg s
  react (levelOf s code) code (faultStream code arg) (if code = 0x22 then emergencyReaction s else s)

/-- Several faults of one cycle: every one is counted and posted, the highest level applies, the lower code on a tie (R592). -/
def raiseFaults (l : List (Nat × Nat)) (s : State) : State :=
  let top := l.foldl (fun o e => match o with
    | none => some e
    | some b => if levelOf s b.1 < levelOf s e.1 ∨ (levelOf s b.1 = levelOf s e.1 ∧ e.1 < b.1) then some e else some b) none
  match top with
  | none => s
  | some b =>
    let s := recordFault false (levelOf s b.1) b.1 b.2 s
    let s := (l.erase b).foldl (fun t e => recordFault false (levelOf t e.1) e.1 e.2 t) s
    react (levelOf s b.1) b.1 (faultStream b.1 b.2) (if l.any (·.1 == 0x22) then emergencyReaction s else s)

/-- DCMP_CONSEC is raised once when the stream's run reaches DIS_LIMIT (R578). -/
def checkConsec (n : Nat) (s : State) : State :=
  let s := if s.rd (DC_CONSEC n) = 0 then { s with safety := { s.safety with consecRaised := s.safety.consecRaised.erase n } } else s
  match strOf s n with
  | some e =>
    if u8 e 38 ≤ s.rd (DC_CONSEC n) ∧ s.rd (DC_CONSEC n) ≠ 0 ∧ n ∉ s.safety.consecRaised then
      raiseFault 0x0D n { s with safety := { s.safety with consecRaised := n :: s.safety.consecRaised } }
    else s
  | none => s

end Sys2Proof.Machine
end

