-- ==== Sys2Proof/Machine/Exposure.lean ====
section
/-! DEFINITION. Exposure control (9.2 to 9.6): triggers and their frames, CCI transactions, exposure generations, and the automatic
exposure loop. -/

namespace Sys2Proof.Machine
open Reg

/-! ### Triggers (R262, R263) and generations (R268 to R270) -/

def triggersOf (s : State) (n : Nat) : List Trigger := s.intake.triggers.get [] n
def setTriggers (s : State) (n : Nat) (l : List Trigger) : State :=
  let i := s.intake
  { s with intake := { i with triggers := i.triggers.put [] n l } }

def commitsOf (s : State) (n : Nat) : List Commit := s.intake.commits.get [] n
def setCommits (s : State) (n : Nat) (l : List Commit) : State :=
  let i := s.intake
  { s with intake := { i with commits := i.commits.put [] n l } }

/-- A trigger is retired MISSED: commits it followed that have not applied are uncertain (R263, R270). -/
def missTrigger (n : Nat) (t : Trigger) (s : State) : State :=
  let l := (commitsOf s n).map fun c => if !c.applied && decide (c.mono < t.mono) then { c with missed := true } else c
  (setCommits s n l).inc (TRIG_CNT_MISSED n)

/-- A trigger is issued for a stream; of more than 16 the oldest is MISSED (R263). -/
def issueTrigger (n : Nat) (t : Trigger) (s : State) : State :=
  let l := triggersOf s n
  if l.length < 16 then setTriggers s n (l ++ [t])
  else match l with
    | o :: r => missTrigger n o (setTriggers s n (r ++ [t]))
    | [] => s

/-- A leading edge of a timed output is a trigger of every stream that names it (R262). -/
def triggerEdge (o ts mono : Nat) (s : State) : State :=
  ((List.range 32).filter fun n => s.rdb (EXP_CFG_TRIG_EN n) && s.rd (EXP_CFG_TRIGSEL n) == o).foldl
    (fun t n => issueTrigger n ⟨ts, mono⟩ t) s

/-- A frame matched to a trigger counts towards the commits the trigger followed; the LAT-th applies them (R269). -/
def countFrame (n tm : Nat) (s : State) : State :=
  setCommits s n ((commitsOf s n).map fun c =>
    if !c.applied && decide (c.mono < tm) then
      { c with count := c.count + 1, applied := decide (s.rd (EXP_CFG_LAT n) ≤ c.count + 1) }
    else c)

/-- The latest commit that has applied, and the older ones dropped. -/
def lastApplied (l : List Commit) : Option Commit := (l.filter (·.applied)).getLast?

/-- The EXPGEN and the exposure a matched frame carries (R270). -/
def inForce (s : State) (n : Nat) : Nat × Nat :=
  match lastApplied (commitsOf s n) with
  | some c => (if c.missed then setBit c.gen 31 true else c.gen, c.e)
  | none => (0x80000000, 0)

/-- Match a frame start at a MONO time to a trigger (R263): the TS64 of the trigger, and the state after. -/
def matchFrame (n fsTs fsMono : Nat) (s : State) : Option Nat × State :=
  if !s.rdb (EXP_CFG_TRIG_EN n) then (some fsTs, countFrame n fsMono s)
  else
    let old := fun (t : Trigger) => decide (t.mono + 1000 * s.rd (TRIG_WIN_FS_WIN_US n) < fsMono)
    let gone := (triggersOf s n).filter old
    let s := gone.foldl (fun s t => missTrigger n t s) (setTriggers s n ((triggersOf s n).filter fun t => !old t))
    match triggersOf s n with
    | t :: r =>
      if t.mono < fsMono then (some t.ts, countFrame n t.mono (setTriggers s n r))
      else (none, s.inc (TRIG_CNT_UNMATCHED n))
    | [] => (none, s.inc (TRIG_CNT_UNMATCHED n))

/-! ### Commits (R268, R274) -/

/-- The next generation (R268): 1 follows 0x7FFFFFFF. -/
def nextGen (g : Nat) : Nat := if g % 2 ^ 31 = 0x7FFFFFFF then 1 else g % 2 ^ 31 + 1

/-- Address of the DATA of script entry `i` (R265). -/
def scriptEntry (s : State) (n i : Nat) : Nat := s.rdPair (SCRIPT_ADDR_LO n) (SCRIPT_ADDR_HI n) + 8 * i

/-- The DATA of the entry EXPO_IDX names: the low LEN bytes. -/
def exposureData (s : State) (n : Nat) : Nat :=
  let e := s.ld (scriptEntry s n (s.rd (SCRIPT_CTL_EXPO_IDX n))) 8
  u32 e 4 % 2 ^ (8 * u8 e 2)

/-- Commit: EXPGEN advances, AE_ECUR follows the script. Commits older than the last applied one are forgotten. -/
def commit (n : Nat) (uncertain : Bool) (s : State) : State :=
  let g := setBit (nextGen (s.rd (EXPGEN n))) 31 uncertain
  let e := exposureData s n
  let l := commitsOf s n
  let keep := (match lastApplied l with | some c => [c] | none => []) ++ l.filter (fun c => !c.applied)
  let s := setCommits s n (keep ++ [{ gen := g, mono := s.mono, e := e }])
  (s.wr (EXPGEN n) g).wr (AE_ECUR n) e

/-! ### CCI transactions (R264 to R267) -/

/-- The bytes of one I2C write from the target address on. -/
def cciWrite (s : State) (n reg : Nat) (data : List Nat) : Bytes :=
  [BitVec.ofNat 8 (2 * s.rd (EXP_CFG_TADDR n))] ++
    (if s.rdb (EXP_CFG_RA16 n) then [BitVec.ofNat 8 (reg / 256), BitVec.ofNat 8 reg] else [BitVec.ofNat 8 reg]) ++
    data.map (BitVec.ofNat 8)

/-- The write of one script entry: the low LEN bytes of DATA, most significant first (R265). -/
def entryWrite (s : State) (n i : Nat) : Bytes :=
  let e := s.ld (scriptEntry s n i) 8
  cciWrite s n (u16 e 0) (((List.range (u8 e 2)).map fun k => u8 e (4 + k)).reverse)

/-- The writes of a transaction in order (R266). -/
def cciWrites (s : State) (n : Nat) : List Bytes :=
  [cciWrite s n (s.rd (EXP_HOLD_HOLD_REG n)) [s.rd (EXP_HOLD_HOLD_VAL n)]] ++
    (List.range (s.rd (SCRIPT_CTL_COUNT n))).map (entryWrite s n) ++
    [cciWrite s n (s.rd (EXP_HOLD_HOLD_REG n)) [s.rd (EXP_HOLD_REL_VAL n)]]

def setCci (s : State) (l : List Cci) : State :=
  let i := s.intake
  { s with intake := { i with cci := l } }

/-- BUSY of the masters and the streams. -/
def showCci (s : State) : State :=
  let s := (List.range 8).foldl (fun t b => t.wr (CCI_STAT_BUSY b) (ofBool (t.intake.cci.any (·.bus == b)))) s
  (List.range 32).foldl (fun t n => t.wr (EXP_STATUS_BUSY n) (ofBool (t.intake.cci.any (·.stream == n)))) s

/-- Start a stream's transaction, `auto` with the DATA word an automatic request replaced; the flag is false when it is ignored (R266).
Transactions of one master run in order of GO, of one cycle the lower stream first. -/
def startCci (n : Nat) (auto : Option Nat) (s : State) : Bool × State :=
  let b := s.rd (EXP_CFG_BUS n)
  if !s.rdb (EXP_CFG_EN n) ∨ !s.rdb (CCI_CFG_EN b) ∨ s.intake.cci.any (·.stream == n) then (false, s)
  else
    let c : Cci := { bus := b, stream := n, goAt := s.mono, writes := cciWrites s n, auto := auto }
    (true, showCci (setCci s (insertRank (fun (x : Cci) => x.goAt * 32 + x.stream) c s.intake.cci)))

/-- The address of the DATA of the entry EXPO_IDX names. -/
def exposureAddr (s : State) (n : Nat) : Nat := scriptEntry s n (s.rd (SCRIPT_CTL_EXPO_IDX n)) + 4

/-- A software GO meets an automatic start of its stream in one cycle: the automatic request is dropped, with the DATA it had written
(R274). -/
def dropAutomatic (n : Nat) (s : State) : State :=
  match s.intake.cci.find? fun c => c.stream == n && c.auto.isSome && c.goAt == s.mono with
  | none => s
  | some c => (memWrite (setCci s (s.intake.cci.filter fun x => x.stream != n)) 40 0 (exposureAddr s n) (leBytes 4 (c.auto.getD 0))).2

/-- SCRIPT_CTL is written; GO starts a transaction (R266). -/
def cciGo (w : Writer) (n v : Nat) (s : State) : State :=
  guarded w (0x209010 + 0x80 * n) (fun t =>
    let t := if bit v 16 then dropAutomatic n t else t
    let t := (t.wr (SCRIPT_CTL_COUNT n) (bits v 0 6)).wr (SCRIPT_CTL_EXPO_IDX n) (bits v 8 5)
    if bit v 16 then (startCci n none t).2 else t) s

def execCciGo (w : Writer) (n v : Nat) (s : State) : Out := .next (cciGo w n v s)

/-- The failed attempts of a write that are made: all of those that meet it, up to the first and RETRY more (R267). -/
def attempts (retry : Nat) (f : List Bool) : List Bool := f.take (retry + 1)

/-- The write failed for good (R267). -/
def writeFails (retry : Nat) (f : List Bool) : Bool := decide (retry < f.length)

/-- The entries that are sent, with the failed attempts each meets: up to the first that fails for good (R267). -/
def cciSent (retry : Nat) : List (Bytes × List Bool) → List (Bytes × List Bool)
  | [] => []
  | e :: l => if writeFails retry e.2 then [e] else e :: cciSent retry l

/-- The writes of a transaction as they go out: hold and entries up to the first that fails for good, then the release write, with the failed
attempts each meets (R266, R267). -/
def cciRun (retry : Nat) (ws : List Bytes) (fails : List (List Bool)) (release : List Bool) : List (Bytes × List Bool) :=
  cciSent retry (ws.dropLast.zipIdx.map fun e => (e.1, fails.getD e.2 [])) ++ (ws.drop (ws.length - 1)).map fun e => (e, release)

/-- CCI_COMMIT: the running transaction of a master ends. For each write up to the release write, `fails` lists the attempts that would fail in a
row, and `release` those of the release write: true answered with NACK, false stretched beyond 1 ms; a write is repeated up to RETRY times, and one that still fails ends the entries (R267, R268). -/
def cciCommit (b : Nat) (fails : List (List Bool)) (release : List Bool) (s : State) : State :=
  match s.intake.cci.find? (·.bus == b) with
  | none => s
  | some c =>
    let retry := s.rd (CCI_CFG_RETRY b)
    let run := cciRun retry c.writes fails release
    let fail := run.any fun e => writeFails retry e.2
    let nacks := (run.flatMap fun e => (attempts retry e.2).filter id).length
    let wire := run.flatMap fun e => List.replicate ((attempts retry e.2).length + (if writeFails retry e.2 then 0 else 1)) e.1
    let i := s.intake
    let s := { s with intake := { i with cciWire := i.cciWire.insert b wire } }
    let s := setCci s (s.intake.cci.filter fun x => x.stream != c.stream)
    let s := (s.inc (CCI_STAT_NACK b) nacks).inc (CCI_STAT_COMMITS b)
    let s := if fail then post 0x8001 0x05 [c.stream] (s.set (EXP_STATUS_CCI_FAIL c.stream)) else s
    showCci (commit c.stream fail s)

def execCciCommit (b : Nat) (fails : List (List Bool)) (release : List Bool) (s : State) : Out := .next (cciCommit b fails release s)

/-- Every stream with EN and BOOT set runs its script (9.9). -/
def bootScripts (s : State) : State :=
  ((List.range 32).filter fun n => s.rdb (EXP_CFG_EN n) && s.rdb (EXP_CFG_BOOT n)).foldl (fun t n => (startCci n none t).2) s

/-- After an Intake ISL reset or a FOLD exit (R284). -/
def exposureRestart (s : State) : State :=
  let s := showCci (setCci s [])
  let i := s.intake
  let s := { s with intake := { i with triggers := [], stats := [] } }
  bootScripts (((List.range 32).filter fun n => s.rdb (EXP_CFG_EN n)).foldl (fun t n => commit n true t) s)

/-! ### Automatic exposure (R272 to R274) -/

/-- E_NEW before its limits (R273). -/
def exposureWanted (t16 db16 e sum pixels : Nat) : Nat :=
  let m16 := (16 * sum + pixels / 2) / pixels
  if max m16 t16 - min m16 t16 ≤ db16 then e
  else if m16 = 0 then 2 * e
  else (e * t16 + m16 / 2) / m16

/-- The record qualifies (R272). -/
def qualifies (s : State) (n : Nat) (r : StatRec) : Bool :=
  r.expgen == s.rd (EXPGEN n) && !bit r.expgen 31 && r.flags == 0 && !(s.intake.cci.any (·.stream == n)) && r.pixels != 0

/-- AUTO_EXPOSURE: the newest statistics record of a stream is evaluated (R272, R273). -/
def autoExposure (n : Nat) (s : State) : State :=
  match s.intake.stats.find n with
  | none => s
  | some r =>
    let i := s.intake
    let s := { s with intake := { i with stats := i.stats.erase n } }
    if !s.rdb (EXP_CFG_AE_EN n) ∨ !qualifies s n r then s
    else
      let e := s.rd (AE_ECUR n)
      let want := exposureWanted (s.rd (AE_TARGET_T16 n)) (s.rd (AE_TARGET_DB16 n)) e r.sum r.pixels
      let lo := max (s.rd (AE_ELIM_E_MIN n)) ((e + 1) / 2)
      let hi := min (s.rd (AE_ELIM_E_MAX n)) (2 * e)
      let s := if want < lo ∨ hi < want then s.set (EXP_STATUS_AE_LIMIT n) else s
      let new := if want < lo then lo else if hi < want then hi else want
      if new = e then s
      else
        let old := u32 (s.ld (exposureAddr s n) 4) 0
        (startCci n (some old) (memWrite s 40 0 (exposureAddr s n) (leBytes 4 new)).2).2

def execAutoExposure (n : Nat) (s : State) : Out := .next (autoExposure n s)

end Sys2Proof.Machine
end

