-- ==== Sys2Proof/Machine/Pool.lean ====
section
/-! DEFINITION. The frame-buffer pool, the batch queues and the ways a sample leaves them (8.4 to 8.9). -/

namespace Sys2Proof.Machine
open Reg

/-! ### Buffers (R232, R237 to R241) -/

/-- Bytes of a prepared tensor; none with BYPASS. -/
def prepBytes (p : Profile) (fmt : Nat) : Nat := if p.bypass then 0 else prepRowBytes p fmt * p.outH

/-- Granules of a frame buffer of a stream with a profile (R232). -/
def frameGranules (s : State) (n prep : Nat) : Nat :=
  let w := s.rd (STREAM_DIM_WIDTH n)
  let h := s.rd (STREAM_DIM_HEIGHT n)
  let fmt := s.rd (STREAM_CFG_FMT n)
  ceilDiv (4096 * ceilDiv (stride fmt w * h) 4096 + prepBytes (profile s prep w h) fmt) (2 ^ 20)

/-- The samples queued, taken and awaiting their consumer's completion. -/
def queuedSamples (s : State) : List Sample := s.intake.queues.flatMap (·.2)
def takenSamples (s : State) : List Sample := s.intake.takes.flatMap (·.2) ++ s.intake.past.flatMap (·.samples)

/-- The buffers held, with their streams. -/
def heldBufs (s : State) : List (Nat × Buf) :=
  let fr := fun (l : List Frame) => l.filterMap fun f => f.buf.map fun b => (f.stream, b)
  fr s.intake.open_ ++ fr s.intake.closed ++ fr (s.intake.blocks.map (·.frame)) ++
    (queuedSamples s ++ takenSamples s).filterMap fun x => x.buf.map fun b => (x.stream, b)

def sumSizes (l : List (Nat × Buf)) : Nat := l.foldl (fun a e => a + e.2.size) 0

/-- Granules a stream holds, reserved or borrowed. -/
def heldOf (s : State) (n : Nat) (borrowed : Bool) : Nat :=
  sumSizes ((heldBufs s).filter fun e => e.1 == n && e.2.borrowed == borrowed)

def reservedBelow (s : State) (n : Nat) : Nat := (List.range n).foldl (fun a i => a + s.rd (STREAM_POOL_RESV i)) 0
def overflowTotal (s : State) : Nat := s.rd POOL_CFG_POOL_GRANULES - reservedBelow s 32
def overflowFree (s : State) : Nat := overflowTotal s - sumSizes ((heldBufs s).filter (·.2.borrowed))

/-- The lowest run of free granules in a stretch of the pool. DESIGN CHOICE: a reservation is a stretch of the pool in stream order,
the overflow follows, and a buffer is the lowest run that fits (log 31). -/
def freeRun (s : State) (lo n size : Nat) : Option Nat :=
  let used := (heldBufs s).map (·.2)
  ((List.range (n + 1 - size)).find? fun i =>
    !used.any fun b => decide (b.start < lo + i + size) && decide (lo + i < b.start + b.size)).map (lo + ·)

/-- Granules of a stream's own frame buffer. -/
def ownGranules (s : State) (n : Nat) : Nat := frameGranules s n (s.rd (STREAM_CFG_PREP n))

/-- Granules a replay with a profile takes: whole frame buffers of its stream, so that a reservation never splits below one (R240). -/
def replayGranules (s : State) (n prep : Nat) : Nat :=
  let k := ownGranules s n
  if k = 0 then frameGranules s n prep else k * ceilDiv (frameGranules s n prep) k

/-- The lowest free run of whole frame buffers in a stream's reservation (R240). -/
def reservedRun (s : State) (n size : Nat) : Option Nat :=
  let used := (heldBufs s).map (·.2)
  let lo := reservedBelow s n
  let k := max 1 (ownGranules s n)
  ((List.range (s.rd (STREAM_POOL_RESV n) / k)).map fun i => lo + i * k).find? fun a =>
    decide (a + size ≤ lo + s.rd (STREAM_POOL_RESV n)) &&
      !used.any fun b => decide (b.start < a + size) && decide (a < b.start + b.size)

/-- A buffer from the reservation, then from the overflow within BORROW_MAX (R238, sources 1 and 2). -/
def findBuf (s : State) (n size : Nat) : Option Buf :=
  let own := if heldOf s n false + size ≤ s.rd (STREAM_POOL_RESV n) then
    reservedRun s n size else none
  match own with
  | some a => some ⟨a, size, false⟩
  | none =>
    if heldOf s n true + size ≤ s.rd (STREAM_POOL_BORROW_MAX n) ∧ size ≤ overflowFree s then
      (freeRun s (reservedBelow s 32) (overflowTotal s) size).map fun a => ⟨a, size, true⟩
    else none

/-- POOL_FREE, POOL_EMPTY and the granules each stream holds. -/
def showPool (s : State) : State :=
  let free := overflowFree s
  let s := if free = 0 ∧ s.rd POOL_FREE_FREE ≠ 0 then s.set INT_STATUS_POOL_EMPTY else s
  let s := (s.wr POOL_FREE_FREE free).wr POOL_FREE_TOTAL (overflowTotal s)
  (List.range 32).foldl (fun t n => t.wr (STREAM_STATE_HELD n) (heldOf t n false + heldOf t n true)) s

/-- Device address of a buffer. -/
def bufAddr (s : State) (b : Buf) : Nat := s.rdPair POOL_BASE_LO POOL_BASE_HI + 2 ^ 20 * b.start

/-! ### Reasons (R250, R255) -/

/-- Count a drop or release of a stream by its reason (R250). -/
def countReason (n code : Nat) (s : State) : State :=
  if code = 0 then s
  else if code % 2 = 1 then s.inc (STREAM_DROP_LO n ((code - 1) / 2)) else s.inc (STREAM_DROP_HI n ((code - 1) / 2))

/-- The determinism kind of a reason (R255, R632). -/
def reasonKind (code : Nat) : Option Nat :=
  if code = 0x09 then some 1 else if code = 0x08 then some 2 else if code = 0x0A then some 5 else if code = 0x0B then some 6 else none

/-- Count a release, and a timing-dependent one for the group's consumer queue. -/
def countRelease (g n code : Nat) (s : State) : State :=
  let s := countReason n code s
  match reasonKind code with
  | some k => nondet (s.rd (BG_CFG_QID g)) k s
  | none => s

/-! ### Batch queues (R248 to R252) -/

def groupQueue (s : State) (g : Nat) : List Sample := s.intake.queues.get [] g

/-- A group's queue changes: LEVEL, and LOW when it falls to LOWATER (R252). -/
def setGroup (g : Nat) (l : List Sample) (s : State) : State :=
  let old := s.rd (BG_STATUS_LEVEL g)
  let i := s.intake
  let s := { s with intake := { i with queues := i.queues.put [] g l } }
  let s := s.wr (BG_STATUS_LEVEL g) l.length
  let low := s.rd (BG_CFG_LOWATER g)
  if low < l.length then
    let i := s.intake
    { s with intake := { i with lowArmed := if g ∈ i.lowArmed then i.lowArmed else g :: i.lowArmed } }
  else if low ≠ 0 ∧ l.length < old ∧ g ∈ s.intake.lowArmed then
    let i := s.intake
    let s := { s with intake := { i with lowArmed := i.lowArmed.erase g } }
    raiseVector (s.rd (Q_ENG_VEC (s.rd (BG_CFG_QID g)))) (s.set (BG_STATUS_LOW g))
  else s

/-- Release queued samples of a group that pass a test, with a reason. -/
def releaseQueued (g code : Nat) (p : Sample → Bool) (s : State) : State :=
  let out := (groupQueue s g).filter p
  if out = [] then s
  else
    let s := setGroup g ((groupQueue s g).filter fun x => !p x) s
    showPool (out.foldl (fun t x => countRelease g x.stream code t) s)

/-- Age of a sample beyond its stream's limit (R253); replays do not age. -/
def isStale (s : State) (x : Sample) : Bool :=
  !x.replay && decide (x.fsMono + s.rd (STREAM_STALE_STALE_MS x.stream) * 1000000 < s.mono)

/-- The candidates of reclaim: queued samples on borrowed granules, of the stream that holds most of them, oldest first (R239). -/
def reclaimVictim (s : State) : Option (Nat × Sample) :=
  let c := s.intake.queues.flatMap fun e => (e.2.filter fun x => x.buf.any (·.borrowed)).map fun x => (e.1, x)
  let better := fun (a b : Nat × Sample) =>
    decide (heldOf s b.2.stream true < heldOf s a.2.stream true) ||
      (heldOf s b.2.stream true == heldOf s a.2.stream true && (decide (a.2.stream < b.2.stream) ||
        (a.2.stream == b.2.stream && decide (a.2.fsMono < b.2.fsMono))))
  c.foldl (fun o x => match o with
    | none => some x
    | some y => if better x y then some x else some y) none

/-- Reclaim until the buffer fits or nothing remains (R239). -/
def reclaim (n size : Nat) : Nat → State → Option Buf × State
  | 0, s => (findBuf s n size, s)
  | fuel + 1, s =>
    match findBuf s n size with
    | some b => (some b, s)
    | none =>
      match reclaimVictim s with
      | none => (none, s)
      | some v => reclaim n size fuel (releaseQueued v.1 0x0B (fun x => x == v.2) s)

/-- Take a buffer for a stream (R238). -/
def takeBuf (n size : Nat) (s : State) : Option Buf × State :=
  match findBuf s n size with
  | some b => (some b, s)
  | none =>
    if s.rdb POOL_CFG_RECLAIM ∧ size ≤ s.rd (STREAM_POOL_BORROW_MAX n) then
      reclaim n size (queuedSamples s).length s
    else (none, s)

/-- The ring slot the next descriptor takes: the first after the last one that no queued sample lies in. -/
def nextSlot (s : State) (g : Nat) : Nat :=
  let n := s.intake.slotNext.get 0 g
  let used := (groupQueue s g).map (·.slot)
  ((List.range 64).map fun i => (n + i) % 64).find? (fun k => !used.contains k) |>.getD 0

/-- A sample enters its group's queue, or is dropped QFULL (R251); a group that is not enabled takes none (log 31). -/
def enterQueue (g : Nat) (x : Sample) (s : State) : State :=
  if !s.rdb (BG_CFG_EN g) then showPool (countRelease g x.stream 0x0C s)
  else if 64 ≤ (groupQueue s g).length then showPool (countRelease g x.stream 0x08 s)
  else
    let k := nextSlot s g
    let s := (memWrite s 40 0 (s.rdPair (BG_RING_LO g) (BG_RING_HI g) + 64 * k) x.desc).2
    let i := s.intake
    let s := { s with intake := { i with slotNext := i.slotNext.put 0 g ((k + 1) % 64) } }
    showPool ((setGroup g (groupQueue s g ++ [{ x with slot := k }]) s).inc (STREAM_FRAMES x.stream))

/-- A take of up to `m` samples for the group's consumer queue (R251, R253): stale samples are released, the others taken in queue
order. -/
def takeSamples (g m : Nat) (s : State) : List Sample × State :=
  let s := releaseQueued g 0x09 (fun x => isStale s x) s
  let l := (groupQueue s g).take m
  (l, setGroup g ((groupQueue s g).drop m) s)

/-! ### Stream slots (R174, R175) -/

/-- A slot is allocated: GEN advances, SEQ starts at 0 (R246). -/
def allocSlot (n : Nat) (s : State) : State :=
  let s := s.wrs [(STREAM_STATE_GEN n, s.rd (STREAM_STATE_GEN n) + 1), (STREAM_STATE_STATE n, 1), (STREAM_SEQ_LO n, 0),
    (STREAM_SEQ_HI n, 0)]
  let i := s.intake
  { s with intake := { i with lastFrame := i.lastFrame.insert n s.mono } }

/-- A dynamic slot takes the configuration of a template, but for its source and its reservation (8.4). -/
def newSlot (tpl src unit vc : Nat) (s : State) : Option Nat × State :=
  match firstWhere 32 fun n => !s.rdb (STREAM_CFG_EN n) && s.rd (STREAM_STATE_STATE n) == 0 with
  | none => (none, s.inc LIV_REFUSED_STREAM)
  | some n =>
    let s := s.wrs [(STREAM_CFG_EN n, 1), (STREAM_CFG_PIN n, 0), (STREAM_CFG_SRC n, src), (STREAM_CFG_UNIT n, unit),
      (STREAM_CFG_VC n, vc), (STREAM_CFG_FMT n, s.rd (STREAM_CFG_FMT tpl)), (STREAM_CFG_KEEP_BAD n, s.rd (STREAM_CFG_KEEP_BAD tpl)),
      (STREAM_CFG_LATEST n, s.rd (STREAM_CFG_LATEST tpl)), (STREAM_CFG_CACHE_EN n, s.rd (STREAM_CFG_CACHE_EN tpl)),
      (STREAM_CFG_NEAR n, s.rd (STREAM_CFG_NEAR tpl)), (STREAM_CFG_PREP n, s.rd (STREAM_CFG_PREP tpl)),
      (STREAM_CFG_GROUP n, s.rd (STREAM_CFG_GROUP tpl)), (STREAM_DIM_WIDTH n, s.rd (STREAM_DIM_WIDTH tpl)),
      (STREAM_DIM_HEIGHT n, s.rd (STREAM_DIM_HEIGHT tpl)), (STREAM_POOL_RESV n, 0),
      (STREAM_POOL_BORROW_MAX n, s.rd (STREAM_POOL_BORROW_MAX tpl)), (STREAM_STALE_STALE_MS n, s.rd (STREAM_STALE_STALE_MS tpl))]
    (some n, allocSlot n s)

/-- A block of a stream is over: what still comes of it is ignored (R231). The last 16 are remembered (log 35). -/
def endBlock (n block : Nat) (s : State) : State :=
  let i := s.intake
  { s with intake := { i with gvEnded := i.gvEnded.put [] n ((block :: i.gvEnded.get [] n).take 16) } }

/-- Discard the frames in reception and preparation that pass a test, with a reason. -/
def discardFrames (code : Nat) (p : Frame → Bool) (s : State) : State :=
  let i := s.intake
  let out := i.open_.filter p ++ i.closed.filter p ++ (i.blocks.map (·.frame)).filter p
  let no := fun f => !p f
  let s := (i.blocks.filter fun b => p b.frame).foldl (fun t b => endBlock b.stream b.blockId t) s
  let i := s.intake
  let s := { s with intake := { i with
    open_ := i.open_.filter no, closed := i.closed.filter no, blocks := i.blocks.filter fun b => !p b.frame } }
  let s := out.foldl (fun t f => countReason f.stream code
    (if f.chan < 256 then t.wr (UNIT_STATUS_OPEN (f.chan / 16)) (setBit (t.rd (UNIT_STATUS_OPEN (f.chan / 16))) (f.chan % 16) false) else t)) s
  showPool ((out.map (·.stream)).foldl (fun t n =>
    if t.rd (STREAM_STATE_STATE n) = 2 ∧ !t.intake.open_.any (·.stream == n) then t.wr (STREAM_STATE_STATE n) 1 else t) s)

/-- A dynamic slot is released: queued samples and frames go with reason RELEASED, the slot is free (R174, R175). -/
def releaseSlot (n : Nat) (s : State) : State :=
  let s := discardFrames 0x0C (fun f => f.stream == n) s
  let s := (List.range 8).foldl (fun t g => releaseQueued g 0x0C (fun x => x.stream == n) t) s
  let i := s.intake
  let s := { s with intake := { i with gvMap := i.gvMap.filter fun e => e.2.2 != n } }
  (s.wr (STREAM_STATE_STATE n) 0).clr (STREAM_CFG_EN n)

/-- STREAM_IDLE_RELEASE: a dynamic slot has had no frame for IDLE_MS (R174). -/
def execStreamIdleRelease (n : Nat) (s : State) : Out :=
  .next (if s.rdb (STREAM_CFG_EN n) ∧ !s.rdb (STREAM_CFG_PIN n) ∧ s.rd (STREAM_STATE_STATE n) = 1 ∧
      s.intake.lastFrame.get 0 n + s.rd LIV_STREAM_CFG_IDLE_MS * 1000000 ≤ s.mono then
    releaseSlot n s else s)

/-- SAMPLE_STALE: the queued samples of a stream beyond their limit are released (R253). -/
def execSampleStale (n : Nat) (s : State) : Out :=
  .next ((List.range 8).foldl (fun t g => releaseQueued g 0x09 (fun x => x.stream == n && isStale s x) t) s)

end Sys2Proof.Machine
end

