-- ==== Sys2Proof/Machine/Shep.lean ====
section
/-! DEFINITION. The Shepherd's judgement (21.2 to 21.5), and what starts and ends a command: the SHEP record, instances of supervised
tasks, violations. -/

namespace Sys2Proof.Machine
open Reg

/-! ### The SHEP record (R598) -/

/-- The SHEP entry of a queue. -/
def shepEntry (s : State) (q : Nat) : Option Bytes :=
  ((List.range (u32 s.img.shep 0)).map fun i => slice s.img.shep (16 + 32 * i) 32).find? fun e => bits (u16 e 0) 0 10 == q

/-- The entry of a queue with a given MODE bit: 0 WIN, 1 HB, 2 ERRCHK. -/
def taskOf (s : State) (q b : Nat) : Option Bytes := (shepEntry s q).filter fun e => bit (u8 e 2) b

/-- Supervision runs (R600). -/
def supervising (s : State) : Bool := s.rdb SHP_STATUS_SUPERVISING

/-! ### Violations (R609 to R611) -/

/-- The level of a violation of queue `q`: the task's LEVEL, or that of R569 (R610). -/
def violationLevel (s : State) (q code : Nat) : Nat :=
  if 0x18 ≤ code then levelOf s code
  else match shepEntry s q with
    | some e => if bits (u8 e 3) 0 4 = 0xF then levelOf s code else bits (u8 e 3) 0 4
    | none => levelOf s code

/-- The decision stream a level-1 reaction to it names (R610). -/
def violationStream (s : State) (q code : Nat) : Option Nat :=
  if 0x18 ≤ code then none
  else match shepEntry s q with
    | some e => if bits (u8 e 4) 0 4 = 0xF then none else some (bits (u8 e 4) 0 4)
    | none => none

/-- Count and capture a violation (R611). -/
def noteViolation (q code : Nat) (s : State) : State :=
  let s := (s.inc SHP_VIOL).inc (SHP_TASK_STAT_VIOL q)
  let s := if code ≤ 0x16 then spoilCycle s else s
  if s.rdb SHP_CAP_VALID then s
  else s.wrs [(SHP_CAP_QID, q), (SHP_CAP_CODE, code), (SHP_CAP_VALID, 1), (SHP_CAP_T, s.mono)]

/-- Raise a violation, injected or not (R609, R610, R611, R622). -/
def raiseViolation (inj : Bool) (q code : Nat) (s : State) : State :=
  let lvl := violationLevel s q code
  let str := violationStream s q code
  react lvl code str (recordFault inj lvl code q (noteViolation q code s))

/-! ### Instances (R601 to R604) -/

def instAt (s : State) (q : Nat) : Option Instance := s.shp.inst.find q

/-- An instance changes; SHP_STATUS and SHP_TASK_STAT follow. -/
def setInst (q : Nat) (i : Instance) (s : State) : State :=
  let s := { s with shp := { s.shp with inst := s.shp.inst.insert q i } }
  s.wrs [(SHP_TASK_STAT_STATE q, if i.runSince.isSome then 2 else 1), (SHP_STATUS_OPEN, s.shp.inst.length)]

/-- An instance goes without judgement (R600). -/
def dropInst (q : Nat) (s : State) : State :=
  let s := { s with shp := { s.shp with inst := s.shp.inst.erase q } }
  s.wrs [(SHP_TASK_STAT_STATE q, 0), (SHP_STATUS_OPEN, s.shp.inst.length)]

/-- Busy time of an instance up to now, in ns (R602). -/
def busyNs (s : State) (i : Instance) : Nat := i.busy + (match i.runSince with | some t => s.mono - t | none => 0)

/-- An instance closes: its close and busy time are shown. -/
def closeInst (q : Nat) (i : Instance) (s : State) : State :=
  let e := (s.mono - i.ref) / 1000
  let s := s.wrs [(SHP_TASK_END q, min e (2 ^ 20 - 1)), (SHP_TASK_BUSY q, min (busyNs s i / 1000) (2 ^ 20 - 1)),
    (SHP_TASK_MAXEND q, max (s.rd (SHP_TASK_MAXEND q)) (min e (2 ^ 20 - 1)))]
  dropInst q s

/-- Raise a violation of an open instance once (R602). -/
def judge (q code : Nat) (s : State) : State :=
  match instAt s q with
  | none => s
  | some i =>
    if code ∈ i.raised then s
    else raiseViolation (i.zero && code != 0x12) q code (setInst q { i with raised := code :: i.raised } s)

/-- The limit of an instance at an offset of its SHEP entry, in ns; 0 when judged with zero limits (R621). -/
def limitNs (s : State) (q o : Nat) (i : Instance) : Nat :=
  if i.zero then 0 else match shepEntry s q with | some e => u32 e o * 1000 | none => 0

/-- The limits that the open instance of a queue has passed are judged before a start or a completion hides them (R602). -/
def judgePassed (q : Nat) (s : State) : State :=
  match instAt s q with
  | none => s
  | some i =>
    let s := if !i.started ∧ i.ref + limitNs s q 8 i < s.mono then judge q 0x10 s else s
    let s := if i.ref + limitNs s q 12 i < s.mono then judge q 0x11 s else s
    match shepEntry s q with
    | some e => if u32 e 16 ≠ 0 ∧ u32 e 16 * 1000 < busyNs s i then judge q 0x12 s else s
    | none => s

/-- An announcement opens an instance of a WIN task; a previous one still open is late (R601, R603, R621). -/
def openInst (q count : Nat) (s : State) : State :=
  match taskOf s q 0 with
  | none => s
  | some _ =>
    if !supervising s then s
    else
      let s := match instAt s q with
        | none => s
        | some _ =>
          let s := judge q 0x11 s
          match instAt s q with | some i => closeInst q i s | none => s
      let z := decide (q ∈ s.shp.inject)
      let s := { s with shp := { s.shp with inject := s.shp.inject.erase q } }
      setInst q { ref := s.mono, left := count, zero := z } s

/-- A command of a queue starts: the instance runs, or UNEXPECTED is raised (R602, R604). -/
def commandStarts (q : Nat) (s : State) : State :=
  match taskOf s q 0 with
  | none => s
  | some _ =>
    if !supervising s then s
    else
    let s := judgePassed q s
    match instAt s q with
      | none => raiseViolation false q 0x13 s
      | some i => setInst q { i with started := true, runSince := some (i.runSince.getD s.mono) } s

/-- A command of a queue has completed, with an error or not: ERRCOMP, busy time, and the close of its instance (R601, R602,
R605). -/
def commandEnds (q : Nat) (err : Bool) (s : State) : State :=
  if !supervising s then s
  else
    let s := judgePassed q (if err && (taskOf s q 2).isSome then raiseViolation false q 0x17 s else s)
    match instAt s q with
    | none => s
    | some i =>
      let i := if (flightsOf s q).isEmpty then { i with busy := busyNs s i, runSince := none } else i
      if i.left ≤ 1 then closeInst q i s else setInst q { i with left := i.left - 1 } s

/-! ### Starting a command -/

/-- The port that the accesses of a command leave by (R313): its engine's, cluster's or the Gleaner's; for a unit of the steering side, that of CAN,
Ethernet, the comparator or the Drover. -/
def unitPid (s : State) (unit : Nat) (c : Bytes) : Nat :=
  if unit < 8 then enginePid s unit else if unit < 12 then [44, 45, 80, 81].getD (unit - 8) 44 else if unit = 12 then 76
  else if cmdClass c = 5 then (if cmdOpc c = 0x10 then 88 else 92) else if cmdClass c = 4 then 8 else 12

/-- What a command's reads leave at the controllers and in the fabric (R293, R334, R339). -/
def countReads (q unit : Nat) (c : Bytes) (s : State) : State :=
  if s.poison = [] ∧ s.mc.faulty = [] ∧ !someAway s then s
  else (((opCheck s q c).map (·.ranges)).getD []).foldl (fun t r =>
    if r.2.2 then t else noteRead (unitPid t unit c) (if q < 1024 then t.rd (Q_CFG_TID q) else 0) r.1 r.2.1 t) s

/-- Start the head of a queue on a unit and leave it in flight, waiting (`wait` as in `Flight`). -/
def startHead (q unit wait : Nat) (c : Bytes) (s : State) : State :=
  commandStarts q (modifyLast (launch (countReads q unit c s) q unit c) q fun f => { f with wait := wait })

/-- Start the head of a queue on a unit and record its result. -/
def runHead (q unit : Nat) (c : Bytes) (r : Result) (s : State) : State :=
  commandStarts q (settle q r (launch (countReads q unit c s) q unit c))

end Sys2Proof.Machine
end

