-- ==== Sys2Proof/Machine/Sched.lean ====
section
/-! DEFINITION. The rotation, the columns and the flocks (chapter 14): entries and claims, announcements, who may run on a column,
the choice of serving work, engine steps, and the interface by which an engine's command starts and ends. -/

namespace Sys2Proof.Machine
open Reg

/-! ### Time in the rotation (R404) -/

/-- The major cycle, in ns. -/
def majorNs (s : State) : Nat := s.rd ROT_MAJOR_MAJOR * 10000

/-- The rotation runs and its first boundary has come. -/
def rotating (s : State) : Bool := s.rdb ROT_STATUS_RUN && decide (s.drv.rot.first ≤ s.mono)

/-- The 10 µs tick since the first boundary, and the position in the major cycle. -/
def rotTick (s : State) : Nat := (s.mono - s.drv.rot.first) / 10000
def rotPos (s : State) : Nat := if rotating s then rotTick s % s.rd ROT_MAJOR_MAJOR else 0

/-- The first boundary after now by device time (R404), on MONO; `later` asks for one no earlier than that. -/
def firstBoundary (s : State) (later : Nat) : Nat :=
  let m := majorNs s
  let d := max (s.devNs + 1) (monoToDev s later)
  let ph := s.rd ROT_PHASE_PHASE * 10000
  devToMono s (d + (ph + m - d % m) % m)

/-- An entry comes up now and has not come up in this tick. -/
def comesUp (s : State) (e : Nat) : Bool :=
  rotating s && decide (e < s.rd ROT_COUNT_ENTRIES) && rotPos s == entryStart (rotEntry s e) &&
    s.drv.rot.seen.find e != some (rotTick s)

def setRot (r : Rotation) (s : State) : State := { s with drv := { s.drv with rot := r } }

/-- Note that an entry has come up. -/
def markSeen (e : Nat) (s : State) : State :=
  setRot { s.drv.rot with seen := s.drv.rot.seen.insert e (rotTick s) } s

/-! ### Columns -/

/-- Claims on a column. -/
def claimsOn (s : State) (c : Nat) : List Claim := s.drv.rot.claims.filter fun k => bit k.cols c

/-- A maintenance request holds the column: it runs there, or has been forced and waits for it (R615, R618). -/
def heldForTest (s : State) (c : Nat) : Bool := s.drv.maint.any fun m => m.col == c && (m.running || m.claim == 4096)

/-- A command runs on the column. -/
def columnBusy (s : State) (c : Nat) : Bool := s.drv.flights.any (·.unit == c)

/-- Serve time of a contender: a tenant, or 1,024 + flock (R414). -/
def addServed (k n : Nat) (s : State) : State :=
  { s with drv := { s.drv with served := s.drv.served.put 0 k (s.drv.served.get 0 k + n) } }

/-- A stretch of an engine step is over: the flock is charged for it (R414) and the engine counts its cycles (15.12). -/
def countStretch (t : EngineStep) (s : State) : State :=
  (addServed (1024 + t.flock) (s.mono - t.start) s).inc (TE_BUSY t.col) ((s.mono - t.start) * s.rd (CLK_ISL_CUR (columnIsland t.col)) / 40)

/-- The unpaused engine step on a column. -/
def stepOn (s : State) (c : Nat) : Option EngineStep := s.drv.steps.find? fun t => t.col == c && !t.paused

/-- The column can run commands: it exists, its island runs, and no test holds it (R109, R120, R125, R464, R615). -/
def columnReady (s : State) (c : Nat) : Bool :=
  let k := columnIsland c
  columnExists s c && !gated s k && !s.clocks.stopped.contains k && !s.clocks.islBusy.contains k && !s.clocks.lost && !heldForTest s c

/-- The start, on MONO, of the next FIXED, MAINT or armed CHAIN claim on a column (R410). -/
def nextClaim (s : State) (c : Nat) : Option Nat :=
  if !s.rdb ROT_STATUS_RUN then none
  else
    let at_ := fun (e : Nat) =>
      let b := s.drv.rot.first + entryStart (rotEntry s e) * 10000
      if s.mono ≤ b then b else b + ceilDiv (s.mono - b) (majorNs s) * majorNs s
    ((entries s).filter fun e =>
      let b := rotEntry s e
      bit (entryCols b) c && (entryKind b == 0 || entryKind b == 3 || (entryKind b == 2 && s.drv.rot.armed.contains e))).foldl
      (fun o e => match o with | none => some (at_ e) | some t => some (min t (at_ e))) none

/-- R410: work of a worst-case duration that starts now would pass the start of a claim. -/
def protected_ (s : State) (c dur : Nat) : Bool :=
  match nextClaim s c with
  | none => false
  | some t => decide (t < s.mono + dur)

/-- Show the state of a column: test, claim, serving work, free. -/
def showColumn (c : Nat) (s : State) : State :=
  match (claimsOn s c).getLast? with
  | some k =>
    let drain := s.drv.flights.any fun f => f.unit == c && !s.rdb (Q_CFG_RT f.q)
    s.wrs [(COL_STATE_STATE c, if k.kind = 3 then 3 else 2), (COL_STATE_DRAINING c, ofBool drain), (COL_STATE_QID c, if k.kind = 3 then 0 else k.q)]
  | none =>
    if heldForTest s c then s.wrs [(COL_STATE_STATE c, 3), (COL_STATE_DRAINING c, ofBool (columnBusy s c)), (COL_STATE_QID c, 0)]
    else if columnBusy s c ∨ (stepOn s c).isSome then s.wrs [(COL_STATE_STATE c, 1), (COL_STATE_DRAINING c, 0)]
    else s.wrs [(COL_STATE_STATE c, 0), (COL_STATE_DRAINING c, 0), (COL_STATE_QID c, 0)]

/-- Show every column of a mask. -/
def showColumns (mask : Nat) (s : State) : State :=
  ((List.range 14).filter (bit mask)).foldl (fun t c => showColumn c t) s

/-! ### Announcements (R408) -/

/-- An announcement of COUNT commands on a queue; the flag tells whether it stood. -/
def announce (q count : Nat) (s : State) : State :=
  if !bound s q ∨ sqSize s q < backlog s q + count then
    let s := (s.inc DRV_DBERR).inc ROT_OVF_OVF
    raiseFault 0x05 q (if bound s q then s.set (Q_STATE_DBOVF q) else s)
  else
    let s := s.wr (Q_SQ_PTR_TAIL q) (s.rd (Q_SQ_PTR_TAIL q) + count)
    let s := s.wr (Q_CQ_PTR_CQ_HEAD q) (s.rd (Q_CQ_PTR_CQ_HEAD q) + count)
    pump q (openInst q count s)

/-! ### Engine steps: pausing (R427) -/

def mapSteps (g : EngineStep → EngineStep) (s : State) : State := { s with drv := { s.drv with steps := s.drv.steps.map g } }

/-- Device address of a sequence entry (R417). -/
def seqAddr (s : State) (i : Nat) : Nat := s.rdPair SEQT_BASE_LO SEQT_BASE_HI + 64 * i
def seqEntry (s : State) (i : Nat) : Bytes := s.ld (seqAddr s i) 64
def seqState (s : State) (i : Nat) : Nat := bits (u8 (seqEntry s i) 0) 0 3

/-- Write bytes of a sequence entry. -/
def putSeq (i o : Nat) (b : Bytes) (s : State) : State := s.st (seqAddr s i + o) b

/-- The engine step on a column pauses at its command boundary, where commands of it are left: its sequences are marked PREEMPTED (R427). -/
def pauseStep (c : Nat) (s : State) : State :=
  match stepOn s c with
  | none => s
  | some t =>
    if t.status ≠ 0 ∨ s.rd (FLK_LIST_COUNT t.flock) ≤ t.next then s else
    let s := countStretch t s
    let s := mapSteps (fun x => if x.col = c ∧ !x.paused then { x with paused := true } else x) s
    let s := t.seqs.foldl (fun s e => putSeq e.1 1 (leBytes 1 (setBit (u8 (seqEntry s e.1) 1) 0 true)) s) s
    showColumn c (s.inc (FLK_PREEMPT t.flock))

/-! ### Claims -/

/-- A claim begins on its columns: engine steps there pause (R402, R427). -/
def beginClaim (e q : Nat) (s : State) : State :=
  let b := rotEntry s e
  let k : Claim :=
    { entry := e, kind := entryKind b, group := entryGroup b, cols := entryCols b, q := q
      ends := s.drv.rot.first + (rotTick s + entryLen b) * 10000 }
  let s := setRot { s.drv.rot with claims := s.drv.rot.claims ++ [k] } s
  let s := ((List.range 8).filter (bit k.cols)).foldl (fun t c => pauseStep c t) s
  showColumns k.cols s

/-- A group is armed while a chain of it waits for its claim or holds one (R406). -/
def showArmed (g : Nat) (s : State) : State :=
  let r := s.drv.rot
  let on := r.armed.any (fun e => entryGroup (rotEntry s e) == g) || r.claims.any (fun k => k.kind == 2 && k.group == g && !k.held)
  s.wr ROT_STATUS_ARMED (setBit (s.rd ROT_STATUS_ARMED) g on)

/-- A claim is taken off its columns. -/
def releaseClaim (k : Claim) (s : State) : State :=
  let s := setRot { s.drv.rot with claims := s.drv.rot.claims.erase k } s
  showArmed k.group (showColumns k.cols s)

/-- Commands of a claim's queue run on its columns. -/
def claimRuns (s : State) (k : Claim) : Bool := s.drv.flights.any fun f => f.q == k.q && decide (f.unit < 13) && bit k.cols f.unit

/-- Held claims whose commands have completed go (R411). -/
def releaseHeld (s : State) : State :=
  (s.drv.rot.claims.filter fun k => k.held && !claimRuns s k).foldl (fun t k => releaseClaim k t) s

/-! ### Starting and stopping the rotation (R405, R600, R617) -/

/-- The rotation starts with its first boundary at a MONO instant; the time served counts from here (R404, R405, R414). -/
def startRotation (first : Nat) (s : State) : State :=
  let s := setRot { first := first } { s with drv := { s.drv with served := [] } }
  s.wrs [(ROT_STATUS_RUN, 1), (ROT_STATUS_ARMED, 0), (ROT_CYCLE, 0), (BOOT_STATUS_PHASE, 8)]

/-- The BIST bit of a column's island. -/
def bistField (c : Nat) : Field := if c < 8 then TE_STATUS_BIST c else if c < 12 then VX_STATUS_BIST (c - 8) else GL_STATUS_BIST

/-- The maintenance run of a command in flight. -/
def maintOf (l : List MaintRun) (f : Flight) : Bool := l.any fun m => m.req == f.q && m.idx == f.idx

/-- Maintenance runs go, and their requests end ABORTED (R614). -/
def endMaint (p : MaintRun → Bool) (s : State) : State :=
  let out := s.drv.maint.filter p
  let s := abortFlights (maintOf out) { s with drv := { s.drv with maint := s.drv.maint.filter fun m => !p m } }
  out.foldl (fun t m => showColumn m.col (if m.running && decide (m.col < 13) then t.clr (bistField m.col) else t)) s

/-- A maintenance request that does not run yet completes BUSY (R431, R617). -/
def maintBusy (s : State) : State :=
  let out := s.drv.maint.filter fun m => !m.running
  let s := { s with drv := { s.drv with maint := s.drv.maint.filter (·.running) } }
  let s := out.foldl (fun t m => showColumn m.col t) s
  let s := modifyFlights s (fun f => f.wait == 4 || maintOf out f) fun f => { f with wait := 0, status := 0x08, stop := s.ts64 }
  let due := (List.range 6).filter fun m => (s.mc.retrainAt.find m).isSome || out.any fun x => x.req == 1024 + m
  let s := due.foldl (fun t m =>
    post 0x7002 0x01 [m] ((({ t with mc := { t.mc with retrainAt := t.mc.retrainAt.erase m } }).clr (MC_RETRAIN_STAT_PENDING m)).set
      (MC_RETRAIN_STAT_BUSYSEEN m))) s
  s.wr MNT_STATUS_PENDING 0

/-- The device takes part in a group, and leads it (R636). -/
def inGroup (s : State) : Bool := s.rdb MSYNC_CFG_EN
def leads (s : State) : Bool := s.straps.chipaddr == 0

/-- A device of a group is before its barrier: a follower in HOLD, the bellwether in WAIT, SYNC_OUT low (R639). DEDUCED (log 131): from
the seal on, and from each stop of the rotation. -/
def holdBarrier (s : State) : State :=
  if inGroup s then s.wrs [(MSYNC_STATUS_BELLWETHER, ofBool (leads s)), (MSYNC_STATUS_STATE, 1), (MSYNC_STATUS_SYNC_OUT, 0)] else s

/-- The rotation stops: claims and armed chains go, engine steps pause, open instances close unjudged, supervision is suspended,
pending maintenance requests complete BUSY, and the next start of a group's device runs its barrier (R405, R600, R617, R638). -/
def stopRotation (s : State) : State :=
  if !s.rdb ROT_STATUS_RUN then s
  else
    let s := (List.range 8).foldl (fun t c => pauseStep c t) s
    let s := showColumns (2 ^ 14 - 1) (setRot { s.drv.rot with claims := [], armed := [] } s)
    let s := s.wrs [(ROT_STATUS_RUN, 0), (ROT_STATUS_ARMED, 0)]
    let s := (s.shp.inst.map (·.1)).foldl (fun t q => dropInst q t) s
    holdBarrier (maintBusy (s.clr SHP_STATUS_SUPERVISING))

/-! ### Who may run on a column -/

/-- A command of class 0x1 that is no engine's: a flock request (14.6). -/
def isFlockReq (c : Bytes) : Bool := cmdClass c == 1 && cmdOpc c == 0x48

/-- The engine class of a column (R368). -/
def columnClass (c : Nat) : Nat := if c < 8 then 1 else if c < 12 then 2 else 3

/-- A queue's mask names the column (R367). -/
def mayUse (s : State) (q c : Nat) : Bool :=
  s.rd (Q_CFG_CLASS q) == columnClass c &&
    (if c < 8 then bit (s.rd (Q_ENG_ENG q)) c else if c < 12 then bit (s.rd (Q_ENG_ENG q)) (c - 8) else true)

/-- The head of a serving queue that may run on a column now, with its duration (R410, R414, R455). -/
def servingHead (s : State) (q c : Nat) : Option Bytes :=
  match s.drv.heads.find q with
  | none => none
  | some h =>
    let o := (opCheck s q h.cmd).getD {}
    if !s.rdb (Q_CFG_RT q) ∧ mayUse s q c ∧ cmdClass h.cmd = columnClass c ∧ !isFlockReq h.cmd ∧
        startable s q h.cmd ∧ verdict s q h.cmd (opCheck s q h.cmd) = none ∧ (o.pin = none ∨ o.pin = some c) ∧
        !protected_ s c o.durNs then some h.cmd else none

/-! ### The choice of serving work (R414, R415) -/

/-- A contender: its PRIO, its share, the time served, its identifier. -/
structure Contender where
  prio : Nat
  share : Nat
  served : Nat
  id : Nat
  deriving DecidableEq, Repr

/-- `a` goes before `b` (R414). -/
def Contender.before (a b : Contender) : Bool :=
  decide (b.prio < a.prio) || (a.prio == b.prio &&
    (decide (a.served * b.share < b.served * a.share) || (a.served * b.share == b.served * a.share && decide (a.id < b.id))))

/-- The SHARE of a tenant; tenant 0 has none and counts as 1 (log 50). -/
def tenantShare (s : State) (t : Nat) : Nat := match quotaOf s t with | some z => max 1 (u16 z 10) | none => 1

/-- Sequences of a flock in STATE ACTIVE. -/
def activeSeqs (s : State) (f : Nat) : List SeqRef := s.drv.seqs.filter fun r => r.flock == f && seqState s r.idx == 2

/-- A flock's paused step on a column. -/
def pausedOn (s : State) (f c : Nat) : Option EngineStep := s.drv.steps.find? fun t => t.flock == f && t.col == c && t.paused

/-- Worst case of a step-list command, in ns (R413). -/
def segNs (s : State) (f : Nat) : Nat := s.rd (FLK_LIST_SEG_US f) * 1000

/-- A flock is ready for a column (R414, R419). -/
def flockReady (s : State) (f c : Nat) : Bool :=
  s.rdb (FLK_CFG_EN f) && decide (c < 8) && bit (s.rd (FLK_CFG_ENG f)) c &&
    ((pausedOn s f c).isSome || !(activeSeqs s f).isEmpty) && !protected_ s c (segNs s f)

/-- Everything ready for a column. -/
def contenders (s : State) (c : Nat) : List Contender :=
  (((s.drv.heads.map (·.1)).filter fun q => (servingHead s q c).isSome).map fun q =>
    let t := s.rd (Q_CFG_TID q)
    ⟨s.rd (Q_CFG_PRIO q), tenantShare s t, s.drv.served.get 0 t, q⟩) ++
  (((List.range 32).filter fun f => flockReady s f c).map fun f =>
    ⟨s.rd (FLK_CFG_PRIO f), max 1 (s.rd (FLK_SHARE_SHARE f)), s.drv.served.get 0 (1024 + f), 1024 + f⟩)

/-- The contender chosen for a column (R414). -/
def chosen (s : State) (c : Nat) : Option Nat :=
  ((contenders s c).foldl (fun (o : Option Contender) x => match o with
    | none => some x
    | some b => if x.before b then some x else some b) none).map (·.id)

/-- SRV_THROTTLE.DUTY lets serving work start in this tick (R415). -/
def dutyAllows (s : State) : Bool :=
  let d := s.rd SRV_THROTTLE_DUTY
  let k := if rotating s then rotTick s else 0
  decide (k * d / 256 < (k + 1) * d / 256)

/-- A column is free for serving work (R410, R414): ready, unclaimed, idle. -/
def freeForServing (s : State) (c : Nat) : Bool :=
  columnReady s c && (claimsOn s c).isEmpty && !columnBusy s c && (stepOn s c).isNone && s.rd (COL_STATE_STATE c) == 0 &&
    !draining s && s.rd PWR_STATE_STATE == 0

/-! ### The engine's side of a command -/

/-- The context a command runs in: the queue, or 1,024 + flock for a step list, its column and its tenant. -/
structure Ctx where
  q : Nat
  col : Nat
  tid : Nat
  deriving DecidableEq, Repr

/-- The next step-list command of the engine step on a column (R421). -/
def stepCommand (s : State) (f c : Nat) : Option Bytes :=
  match stepOn s c with
  | none => none
  | some t =>
    if t.flock = f ∧ t.next < s.rd (FLK_LIST_COUNT f) ∧ t.status = 0 then
      some (s.ld (s.rdPair (FLK_LIST_LO f) (FLK_LIST_HI f) + 64 * t.next) 64)
    else none

/-- A step-list command of flock `f` on column `k` passes its checks, for tenant 0: none, or the status it ends with. -/
def stepVerdict (s : State) (f k : Nat) (c : Bytes) : Option Nat :=
  match opCheck s (stepKey f k) c with
  | none => some 0x0C
  | some o =>
    if o.denied || o.ranges.any (fun r => decide (2 ^ 48 ≤ r.1) || !permitted s 0 r.1 r.2.1 r.2.2) then some 0x07
    else if !o.clean || !o.within then some 0x03 else none

/-- The command of a class and opcode that may start now on a column: the head of queue `q`, or the next command of flock
`q - 1024`'s engine step (R409, R410, R414, R421, R455). -/
def engineCmd (s : State) (q c cls opc : Nat) : Option (Ctx × Bytes) :=
  if !columnReady s c ∨ columnBusy s c then none
  else if 1024 ≤ q then
    match stepCommand s (q - 1024) c with
    | none => none
    | some b =>
      if cmdClass b = cls ∧ cmdOpc b = opc ∧ stepVerdict s (q - 1024) c b = none ∧ !protected_ s c (segNs s (q - 1024)) then
        some (⟨q, c, 0⟩, b) else none
  else
    let o := fun b => (opCheck s q b).getD {}
    match headIs s q cls opc with
    | none => none
    | some b =>
      let rt := s.rdb (Q_CFG_RT q) && (claimsOn s c).any (fun k => k.kind != 3 && k.q == q) && (stepOn s c).isNone
      let srv := !s.rdb (Q_CFG_RT q) && s.rd (COL_STATE_STATE c) == 1 && s.rd (COL_STATE_QID c) == q && (stepOn s c).isNone &&
        !protected_ s c (o b).durNs
      if (rt || srv) ∧ mayUse s q c ∧ ((o b).pin = none ∨ (o b).pin = some c) then
        some (⟨q, c, s.rd (Q_CFG_TID q)⟩, b) else none

/-- The engine has run the command: its completion stands ready, or its step goes on to the next command, pausing where a claim is
near (R421, R427, R430). -/
def engineDone (x : Ctx) (b : Bytes) (r : Result) (s : State) : State :=
  if x.q < 1024 then runHead x.q x.col b r s
  else
    let s := (countReads (stepKey (x.q - 1024) x.col) x.col b s).inc (TE_CMDS x.col)
    let s := mapSteps (fun t => if t.col = x.col ∧ !t.paused then
      { t with next := t.next + 1, led := t.led.merge r.led, ref := t.ref.merge r.ref
               status := if isError r.status then r.status else t.status } else t) s
    match stepOn s x.col with
    | some t => if t.status = 0 ∧ t.next < s.rd (FLK_LIST_COUNT t.flock) ∧ protected_ s x.col (segNs s t.flock) then pauseStep x.col s else s
    | none => s

/-! ### Flocks: sequences (R416, R417, R424 to R426) -/

/-- FLK_STAT and SEQT_USE follow the sequence entries. -/
def showFlock (f : Nat) (s : State) : State :=
  let l := s.drv.seqs.filter (·.flock == f)
  s.wrs [(FLK_STAT_ACTIVE f, (l.filter fun r => decide (2 ≤ seqState s r.idx)).length),
    (FLK_STAT_QUEUED f, (l.filter fun r => seqState s r.idx == 1).length), (SEQT_USE_USE, s.drv.seqs.length)]

/-- A sequence changes its state (R426). -/
def setSeqState (i v : Nat) (s : State) : State := putSeq i 0 (leBytes 1 v) s

/-- QUEUED sequences become ACTIVE in the order they became QUEUED while MAXACT leaves room (R424). -/
def admitFlock (f : Nat) (s : State) : State :=
  let step := fun (t : State) (r : SeqRef) =>
    let n := ((t.drv.seqs.filter fun x => x.flock == f && decide (2 ≤ seqState t x.idx)).length)
    if seqState t r.idx = 1 ∧ n < t.rd (FLK_ADMIT_MAXACT f) then setSeqState r.idx 2 t else t
  showFlock f ((s.drv.seqs.filter (·.flock == f)).foldl step s)

/-- A sequence entry returns to FREE. -/
def freeSeq (i : Nat) (s : State) : State :=
  let s := setSeqState i 0 s
  { s with drv := { s.drv with seqs := s.drv.seqs.filter (·.idx != i) } }

/-- A sequence leaves its flock and its request ends with a status (R421, R422). -/
def leaveFlock (r : SeqRef) (status : Nat) (s : State) : State :=
  let e := seqEntry s r.idx
  let s := modifyFlights s (fun f => f.q == r.q && f.idx == r.cmd) fun f =>
    { f with
      status := worse f.status status, stop := s.ts64, wait := 0, preempted := bit (u8 e 1) 0
      start := if u64 e 32 = 0 then f.start else u64 e 32, led := Ledger.ofNat (leNat (slice e 48 16)) }
  freeSeq r.idx s

/-- The reference of a request: over the samples its steps read (R422). -/
def mergeFlightRef (q idx : Nat) (ref : Ref) (s : State) : State :=
  modifyFlights s (fun f => f.q == q && f.idx == idx) fun f => { f with ref := f.ref.merge ref }

/-! ### Engine steps (R418 to R421, R430) -/

/-- Tokens of a sequence in a step (R418). -/
def stepTokens (s : State) (f i : Nat) : Nat :=
  let pf := u32 (seqEntry s i) 16
  if pf = 0 then 1 else min pf (s.rd (FLK_STEP_CHUNK f))

/-- The sequences of the next step, with their tokens (R418). -/
def selectSeqs (s : State) (f : Nat) : List (Nat × Nat) :=
  let l := sortRank (fun (r : SeqRef) => u64 (seqEntry s r.idx) 24 * 16384 + r.idx) (activeSeqs s f)
  let pick := fun (acc : List (Nat × Nat) × Nat) (r : SeqRef) =>
    let k := stepTokens s f r.idx
    if acc.1.length < s.rd (FLK_CFG_CAP f) ∧ acc.2 + k ≤ s.rd (FLK_STEP_STEP_TOK f) then (acc.1 ++ [(r.idx, k)], acc.2 + k) else acc
  (l.foldl pick ([], 0)).1

/-- The batch descriptor (R420). -/
def batchBytes (no : Nat) (l : List (Nat × Nat)) : Bytes :=
  leBytes 8 no ++ leBytes 2 l.length ++ zeros 2 ++ leBytes 4 (l.foldl (fun a e => a + e.2) 0) ++ zeros 48 ++
    (l.map fun e => leBytes 2 e.1 ++ leBytes 2 e.2 ++ zeros 4).flatten

/-- An engine step of a flock starts on a column (R418, R420). -/
def startStep (f c : Nat) (s : State) : State :=
  let l := selectSeqs s f
  let no := s.drv.stepNo.get 0 f + 1
  let s := { s with drv := { s.drv with stepNo := s.drv.stepNo.put 0 f no } }
  let s := l.foldl (fun t e =>
    let t := putSeq e.1 24 (leBytes 8 no) (setSeqState e.1 3 t)
    if u64 (seqEntry t e.1) 32 = 0 then putSeq e.1 32 (leBytes 8 t.ts64) t else t) s
  let s := s.st (batchAddr s f c) (batchBytes no l)
  let z : EngineStep := { flock := f, col := c, no := no, seqs := l, start := s.mono }
  showFlock f (showColumn c { s with drv := { s.drv with steps := s.drv.steps ++ [z] } })

/-- Take the engine step off its column, and charge the engine time of its last stretch (R414). -/
def closeStep (t : EngineStep) (s : State) : State :=
  let s := countStretch t { s with drv := { s.drv with steps := s.drv.steps.erase t } }
  admitFlock t.flock (showColumn t.col s)

/-- Merge a ledger into a sequence's (R421). -/
def mergeSeqLedger (i : Nat) (l : Ledger) (s : State) : State :=
  putSeq i 48 (leBytes 16 ((Ledger.ofNat (leNat (slice (seqEntry s i) 48 16))).merge l).toNat) s

/-- What R421 does to one sequence of a completed step: `stop` is the STOP bit of its batch entry. -/
def advanceSeq (t : EngineStep) (s : State) (e : Nat × Nat) (stop : Bool) : State :=
  let b := seqEntry s e.1
  let pos := u32 b 8 + e.2
  let pf := u32 b 16
  let rem := if pf = 0 then u32 b 12 - 1 else u32 b 12
  let s := putSeq e.1 8 (leBytes 4 pos ++ leBytes 4 rem ++ leBytes 4 (pf - e.2)) s
  let s := if stop then putSeq e.1 1 (leBytes 1 (setBit (u8 b 1) 1 true)) s else s
  let s := mergeSeqLedger e.1 t.led s
  match s.drv.seqs.find? (·.idx == e.1) with
  | none => s
  | some r =>
    let s := mergeFlightRef r.q r.cmd t.ref s
    if rem = 0 ∨ stop ∨ s.drv.unbinding.contains r.q then leaveFlock r ((t.faults.lookup e.1).getD 0) s else setSeqState e.1 2 s

/-- The last command has completed: every sequence advances or leaves (R421). -/
def finishStep (t : EngineStep) (s : State) : State :=
  let stops := (List.range t.seqs.length).map fun i => bit (u8 (s.ld (batchAddr s t.flock t.col + 64 + 8 * i + 4) 1) 0) 0
  closeStep t (((t.seqs.zip stops).foldl (fun s e => advanceSeq t s e.1 e.2) s).inc (FLK_STEPS t.flock))

/-- The step is abandoned: every sequence leaves with the status (R430). -/
def abandonStep (t : EngineStep) (status : Nat) (s : State) : State :=
  closeStep t (t.seqs.foldl (fun s e =>
    match s.drv.seqs.find? (·.idx == e.1) with
    | none => s
    | some r => leaveFlock r (worse status ((t.faults.lookup e.1).getD 0)) (mergeFlightRef r.q r.cmd t.ref (mergeSeqLedger e.1 t.led s))) s)

/-- Steps on a column are run again from their first command (R430). -/
def rerunSteps (p : Nat → Bool) (s : State) : State :=
  let s := (s.drv.steps.filter fun t => p t.col).foldl (fun s t => s.inc (FLK_RERUN_RERUN t.flock)) s
  let s := mapSteps (fun t => if p t.col then { t with next := 0, led := {}, ref := {}, paused := true, status := 0, faults := [] } else t) s
  showColumns 0xFF s

end Sys2Proof.Machine
end

