-- ==== Sys2Proof/Machine/Operands.lean ====
section
/-! DEFINITION. The operands of an engine's command: samples of the current take (R440), reading and writing device memory and the
local memories (R446, R527), and the tensor layouts (R436 to R438). -/

namespace Sys2Proof.Machine
open Reg

/-! ### Samples (R440) -/

/-- The sample at a position of the current take; a step list has no take. -/
def sampleAt (s : State) (q i : Nat) : Option Sample := if q < 1024 then (s.intake.takes.get [] q)[i]? else none

/-- The positions a list of operands names. -/
def positions (l : List Opd) : List Nat := (l.filter (·.named)).map (·.pos)

/-- Every named position holds a sample that is not stale. -/
def takeFresh (s : State) (q : Nat) (l : List Nat) : Bool :=
  l.all fun i => match sampleAt s q i with | some y => !isStale s y | none => false

/-- The bound of R257 for a sample; 0 where it is no replay or NEAR is 0. -/
def jlsBound (y : Sample) : Nat :=
  let near := bits (u8 y.desc 55) 0 3
  let b := depthOf (bits (u8 y.desc 52) 0 3)
  if !y.replay then 0 else if b ≤ 8 then near else ceilDiv near (2 ^ (b - 8))

/-- The ledger of the samples named: JLS for a replay with NEAR above 0 (R260). -/
def takeLedger (s : State) (q : Nat) (l : List Nat) : Ledger :=
  l.foldl (fun a i => match sampleAt s q i with
    | some y => if jlsBound y = 0 then a else a.merge { stages := 8, jlsErr := jlsBound y }
    | none => a) {}

/-- The reference over the samples named (R390). -/
def takeRef (s : State) (q : Nat) (l : List Nat) : Ref :=
  l.foldl (fun a i => match sampleAt s q i with | some y => a.merge ⟨y.sid, u64 y.desc 16⟩ | none => a) {}

/-- A command completes STALE at its start (R440, R632). -/
def endStale (x : Ctx) (b : Bytes) (s : State) : State :=
  engineDone x b { status := 0x02 } (if x.q < 1024 then nondet x.q 3 s else (s.inc DET_ND_TOTAL).inc (DET_KIND 3))

/-! ### Local memories (R446, R527) -/

/-- The uncorrectable words of a range of a column's memory. -/
def badWords (s : State) (c a n : Nat) : List Nat :=
  (s.loc.bad.filter fun e => e.1 / 2 ^ 20 == c && decide (a < (e.1 % 2 ^ 20 + 1) * 32) && decide (e.1 % 2 ^ 20 * 32 < a + n)).map
    (·.1 % 2 ^ 20)

/-- Bytes of a column's memory. -/
def ldLocal (s : State) (c a n : Nat) : Bytes := readMem (s.loc.mem.get [] c) 0 a n

/-- Write a column's memory; a word wholly covered gets a fresh code, one partly covered keeps its error (log 52). -/
def stLocal (c a : Nat) (b : Bytes) (s : State) : State :=
  let gone := (badWords s c a b.length).filter fun w => decide (a ≤ w * 32) && decide (w * 32 + 32 ≤ a + b.length)
  let l := s.loc
  { s with loc := { mem := l.mem.put [] c (writeMem (l.mem.get [] c) 0 a b)
                    bad := gone.foldl (fun m w => m.put false (c * 2 ^ 20 + w) false) l.bad } }

/-- An uncorrectable word is read: counted, captured and raised (R446, R527, 19.9). -/
def noteBad (c w : Nat) (s : State) : State :=
  if c < 8 then
    let s := s.inc (PAST_UNC c)
    let s := if s.rdb (PAST_UNC_CAP_VALID c) then s else (s.wr (PAST_UNC_CAP_WORD c) w).set (PAST_UNC_CAP_VALID c)
    raiseFault 0x0A c s
  else if c < 12 then
    let s := s.inc (CLM_UNC (c - 8))
    let s := if s.rdb (CLM_UNC_CAP_VALID (c - 8)) then s else (s.wr (CLM_UNC_CAP_WORD (c - 8)) w).set (CLM_UNC_CAP_VALID (c - 8))
    raiseFault 0x0B c s
  else raiseFault 0x0C c (s.inc GLM_UNC)

/-! ### Reading and writing operands -/

/-- The device address of an operand's first byte. -/
def opdBase (s : State) (x : Ctx) (o : Opd) : Nat :=
  if o.named then
    match sampleAt s x.q o.pos with
    | none => 0
    | some y =>
      if o.sample then u64 y.desc 32 + ceilDiv (u32 y.desc 40) 4096 * 4096 + o.addr
      else s.rdPair SENT_BASE_LO SENT_BASE_HI + (16 * y.stream + bits y.sid 8 48 % 16) * 32768 + o.addr
  else o.addr

/-- `n` bytes of an operand from an offset, read for tenant `t`: status and data. -/
def readAs (s : State) (x : Ctx) (t : Nat) (o : Opd) (off n : Nat) : Nat × Bytes :=
  if o.loc then (if badWords s x.col (o.addr + off) n = [] then 0 else 0x06, ldLocal s x.col (o.addr + off) n)
  else memRead s t (opdBase s x o + off) n

/-- `n` bytes of an operand. -/
def readOpd (s : State) (x : Ctx) (o : Opd) (n : Nat) : Nat × Bytes := readAs s x x.tid o 0 n

/-- The port of a column's accesses (R313). -/
def columnPid (s : State) (c : Nat) : Nat := unitPid s c []

/-- What reading an operand leaves behind: errors of local words, and what a read of device memory that validation did not know leaves. -/
def noteOpd (x : Ctx) (o : Opd) (n : Nat) (s : State) : State :=
  if o.loc then (badWords s x.col o.addr n).foldl (fun t w => noteBad x.col w t) s
  else if o.named then noteRead (columnPid s x.col) x.tid (opdBase s x o) n s else s

/-- Write an operand from an offset: status and state. -/
def writeOpd (x : Ctx) (o : Opd) (off : Nat) (b : Bytes) (s : State) : Nat × State :=
  if o.loc then (0, stLocal x.col (o.addr + off) b s) else memWrite s (columnPid s x.col) x.tid (opdBase s x o + off) b

/-- Write several stretches of an operand. -/
def writeParts (x : Ctx) (o : Opd) (l : List (Nat × Bytes)) (s : State) : Nat × State :=
  l.foldl (fun r e => let w := writeOpd x o e.1 e.2 r.2; (worse r.1 w.1, w.2)) (0, s)

/-! ### Layouts (R436 to R438) -/

/-- Row `r` of a tensor in its bytes: `raw` bytes of it. -/
def rowIn (b : Bytes) (blk : Bool) (raw pitch r : Nat) : Bytes :=
  if blk then
    let cb := ceilDiv raw 32
    (((List.range cb).map fun j => slice b ((r / 32 * cb + j) * 1024 + 32 * (r % 32)) 32).flatten).take raw
  else slice b (r * pitch) raw

/-- The rows of a tensor. -/
def rowsIn (b : Bytes) (blk : Bool) (rows raw pitch : Nat) : List Bytes := (List.range rows).map (rowIn b blk raw pitch)

/-- Fill up with a byte to a length. -/
def padWith (v : Byte) (k : Nat) (b : Bytes) : Bytes := b ++ List.replicate (k - b.length) v

/-- The bytes of a tensor with its padding (R437, R438). -/
def layOut (blk : Bool) (pad : Byte) (raw : Nat) (rows : List Bytes) : Bytes :=
  if blk then
    let cb := ceilDiv raw 32
    ((List.range (ceilDiv rows.length 32)).map fun rb => ((List.range cb).map fun j => ((List.range 32).map fun r =>
      padWith pad 32 (slice (rows.getD (rb * 32 + r) []) (j * 32) 32)).flatten).flatten).flatten
  else (rows.map fun r => padTo (pitchOf raw) r).flatten

/-- The rows of a tensor operand: status and rows; a coded stream is decoded first, a decode error is FAULT (R306 to R308). -/
def readTensor (s : State) (x : Ctx) (o : Opd) (rows raw pitch span : Nat) : Nat × List Bytes :=
  if o.coded then
    let r := readOpd s x o (codedSpan span)
    match decodePrefix (span + 1) span r.2 with
    | some b => (r.1, rowsIn b o.blk rows raw pitch)
    | none => (if r.1 = 0 then 0x0B else r.1, [])
  else
    let r := readOpd s x o span
    (r.1, rowsIn r.2 o.blk rows raw pitch)

/-- What reading several operands leaves behind. -/
def noteReads (x : Ctx) (l : List (Opd × Nat)) (s : State) : State := l.foldl (fun t e => noteOpd x e.1 e.2 t) s

/-! ### Elements -/

/-- A signed or unsigned byte, a nibble (R436), 2, 4 and 8 bytes of a row. -/
def elemI8 (b : Bytes) (i : Nat) : Int := signed 8 (u8 b i)
def elemU8 (b : Bytes) (i : Nat) : Int := u8 b i
def elemI4 (b : Bytes) (i : Nat) : Int := signed 4 (bits (u8 b (i / 2)) (4 * (i % 2)) 4)

/-- An activation or weight of an integer type (R435). -/
def elemInt (t : Nat) (b : Bytes) (i : Nat) : Int := if t = 0 then elemI8 b i else if t = 1 then elemU8 b i else elemI4 b i

/-- The BF16 elements of a row. -/
def rowBf16 (b : Bytes) (n : Nat) : List Num := (List.range n).map fun i => bf16 (u16 b (2 * i))

/-- The last status of several reads (R21). -/
def worstOf (l : List Nat) : Nat := l.foldl worse 0

end Sys2Proof.Machine
end

