-- ==== Sys2Proof/Machine/Tensor.lean ====
section
/-! DEFINITION. The array commands of the tensor engines and their data movement (chapter 15). -/

namespace Sys2Proof.Machine
open Reg

/-! ### Arithmetic (R447 to R452) -/

/-- The exact sum of values, from +0. -/
def sumNum (l : List Num) : Num := l.foldl Num.add (.fin false 0 0)

/-- Chunks of 32 in order: each chunk's exact sum rounded once to FP32 and added to `acc` with one rounding (R450, R483). -/
def chunkSum : Nat → Nat → List Num → Nat
  | 0, acc, _ => acc
  | fuel + 1, acc, l => if l.isEmpty then acc else chunkSum fuel (fadd acc (rne32 (sumNum (l.take 32)))) (l.drop 32)

/-- A row sum in the chunk order (R483). -/
def rowSum (l : List Num) : Nat := chunkSum l.length 0 l

/-- A dot product in the chunk order from an accumulator (R450). -/
def dotFloat (acc : Nat) (a w : List Num) : Nat := chunkSum a.length acc (List.zipWith Num.mul a w)

/-- The exact sum of products of integers (R447, R448). -/
def dotInt (a w : List Int) : Int := (List.zipWith (· * ·) a w).foldl (· + ·) 0

/-- A shift right with ties away from zero (R449). -/
def shiftAway (p : Int) (k : Nat) : Int :=
  if k = 0 then p
  else
    let m : Int := (p.natAbs + 2 ^ (k - 1)) / 2 ^ k
    if p < 0 then -m else m

/-- Clamp. -/
def clampTo (lo hi v : Int) : Int := if v < lo then lo else if hi < v then hi else v

/-- The output stage's fields: OTYPE, ZPO, CLO, CHI. -/
structure OutStage where
  ot : Nat
  zpo : Nat := 0
  clo : Nat := 0
  chi : Nat := 0
  deriving DecidableEq, Repr

/-- The integer output stage (R449): the written word. -/
def outInt (f : OutStage) (rec : Bytes) (acc : Int) : Nat :=
  let acc1 := acc + signed 32 (u32 rec 0)
  let r := shiftAway (acc1 * signed 32 (u32 rec 4)) (bits (u8 rec 8) 0 6)
  if f.ot = 0 then unsigned 8 (clampTo (max (-128) (signed 8 f.clo)) (min 127 (signed 8 f.chi)) (signed 8 f.zpo + r))
  else if f.ot = 1 then unsigned 8 (clampTo f.clo f.chi (f.zpo + r))
  else if f.ot = 2 then unsigned 16 (clampTo (-32768) 32767 r)
  else if f.ot = 3 then unsigned 32 (clampTo (-2147483648) 2147483647 acc1)
  else unsigned 64 acc

/-- The float output stage (R451). -/
def outFloat (f : OutStage) (rec : Bytes) (acc : Nat) : Nat :=
  if f.ot = 5 then rne16 ((f32 (fmul acc (u32 rec 4))).add (f32 (u32 rec 0))) else rne32 (f32 acc)

/-- A written float word is NaN. -/
def isNanWord (ot w : Nat) : Bool := if ot = 5 then (bf16 w).isNan else ot == 6 && (f32 w).isNan

/-- The channel record of output channel `n` in the table's bytes (R454). -/
def channelRecord (table : Bytes) (pert : Bool) (n : Nat) : Bytes := slice table (if pert then 0 else 16 * n) 16

/-- The weight zero point of a channel; none is read where the channel table is not (log 53). -/
def zpwOf (ot wt : Nat) (rec : Bytes) : Int :=
  if !readsTable ot then 0 else if wt = 1 then u8 rec 9 else signed 8 (u8 rec 9)

/-- An accumulator that fits 40 bits stands; a stored one that makes it leave them leaves an open value of what it is computed from: the
rows of A, W and C and the element (log 54). -/
def fit40 (src : List Nat) (v : Int) : Int :=
  if -(2 ^ 39 : Int) ≤ v ∧ v < 2 ^ 39 then v else signed 40 (Config.openResult src)

/-! ### Ends of commands -/

/-- A command ends with a status; its ledger and reference are those of the samples it names. -/
def finish (x : Ctx) (b : Bytes) (pos : List Nat) (st : Nat) (s : State) : State :=
  engineDone x b { status := st, led := takeLedger s x.q pos, ref := takeRef s x.q pos } s

/-- Add the block-cycles of a command (15.12). -/
def addBlocks (c n : Nat) (s : State) : State := s.wrPair (TE_BLOCKS_LO c) (TE_BLOCKS_HI c) (s.rdPair (TE_BLOCKS_LO c) (TE_BLOCKS_HI c) + n)

/-- Write the rows of an output tensor (R438), count its NaN values, and end the command. -/
def storeRows (x : Ctx) (b : Bytes) (pos : List Nat) (o : Opd) (parts : List (Nat × Bytes)) (nans : Nat) (s : State) : State :=
  let w := writeParts x o parts s
  finish x b pos w.1 (w.2.inc (TE_NAN x.col) nans)

/-- The words of output rows as row bytes. -/
def packRows (ot : Nat) (rows : List (List Nat)) : List Bytes :=
  rows.map fun r => ((r.map (leBytes (outHalf ot / 2))).flatten)

def countNans (ot : Nat) (rows : List (List Nat)) : Nat := (rows.map fun r => (r.filter (isNanWord ot)).length).foldl (· + ·) 0

/-! ### GEMM (R453) -/

/-- The rows of C (R447 to R451): activation and weight rows, channel table, initial accumulators by row. -/
def gemmRows (at_ wt k : Nat) (zpa : Nat) (pert accin : Bool) (f : OutStage) (arows wrows : List Bytes) (table : Bytes)
    (crows : List Bytes) : List (List Nat) :=
  if at_ = 2 then
    let ws := wrows.map fun r => rowBf16 r k
    arows.mapIdx fun i r =>
      let av := rowBf16 r k
      ws.mapIdx fun j wv =>
        outFloat f (channelRecord table pert j) (dotFloat (if accin then u32 (crows.getD i []) (4 * j) else 0) av wv)
  else
    let za : Int := if at_ = 0 then signed 8 zpa else zpa
    let ws := wrows.mapIdx fun j r =>
      let z := zpwOf f.ot wt (channelRecord table pert j)
      (List.range k).map fun e => elemInt wt r e - z
    arows.mapIdx fun i r =>
      let av := (List.range k).map fun e => elemInt at_ r e - za
      ws.mapIdx fun j wv =>
        let src := fun (e : Nat) => [e, i, j, leNat r, leNat (wrows.getD j []), leNat (crows.getD i [])]
        let a0 := if accin then fit40 (src 0) (signed 64 (u64 (crows.getD i []) (8 * j))) else 0
        outInt f (channelRecord table pert j) (fit40 (src 1) (a0 + dotInt av wv))

/-- GEMM on its engine. -/
def runGemm (x : Ctx) (b : Bytes) (s : State) : State :=
  let a := opdOf (u64 b 8); let w := opdOf (u64 b 16); let o := opdOf (u64 b 24); let ch := opdOf (u64 b 32)
  let m := u32 b 40 % 2 ^ 24; let n := u32 b 44 % 2 ^ 24; let k := u32 b 48 % 2 ^ 24
  let at_ := bits (u8 b 60) 0 2; let wt := bits (u8 b 60) 2 2
  let ot := bits (u8 b 61) 0 3; let accin := bit (u8 b 61) 3; let pert := bit (u8 b 61) 4
  let f : OutStage := ⟨ot, u8 b 57, u8 b 58, u8 b 59⟩
  let ra := rowRaw k (aHalf at_); let rw_ := rowRaw k (wHalf wt); let ro := rowRaw n (outHalf ot)
  let pos := positions ([a, w, o] ++ if readsTable ot then [ch] else [])
  if !takeFresh s x.q pos then endStale x b s
  else
    let av := readTensor s x a m ra (pitchOf ra) (spanOf a.blk m ra)
    let wv := readTensor s x w n rw_ (pitchOf rw_) (spanOf w.blk n rw_)
    let tv := if readsTable ot then readOpd s x ch (16 * tableRecords pert n) else (0, [])
    let cv := if accin then readTensor s x o m ro (pitchOf ro) (spanOf o.blk m ro) else (0, [])
    let s := noteReads x ([(a, spanOf a.blk m ra), (w, srcSpan w n rw_)] ++ (if readsTable ot then [(ch, 16 * tableRecords pert n)] else []) ++
      if accin then [(o, spanOf o.blk m ro)] else []) s
    let st := worstOf [av.1, wv.1, tv.1, cv.1]
    if st ≠ 0 then finish x b pos st s
    else
      let rows := gemmRows at_ wt k (u8 b 56) pert accin f av.2 wv.2 tv.2 cv.2
      let kc := if wt = 2 then 64 else 32
      let s := addBlocks x.col (ceilDiv m 32 * ceilDiv n 32 * ceilDiv k kc * (if at_ = 2 then 4 else 1)) s
      storeRows x b pos o [(0, layOut o.blk 0 ro (packRows ot rows))] (countNans ot rows) s

/-- GEMM: the matrix product of R453 starts on column `c` for queue or flock `q`. -/
def execGemm (q c : Nat) (s : State) : Out :=
  .next (match engineCmd s q c 1 0x01 with | none => s | some (x, b) => runGemm x b s)

/-! ### CONV (R456) -/

/-- The input positions of one output element in the order of k: row, column, channel. -/
def convTaps (v : Conv) (oy ox g : Nat) : List (Int × Int × Nat) :=
  (List.range v.kh).flatMap fun ky => (List.range v.kw).flatMap fun kx => (List.range v.cg).map fun ch =>
    ((oy * v.sh + ky * v.dh : Nat) - (v.ph : Int), (ox * v.sw + kx * v.dw : Nat) - (v.pw : Int), g * v.cg + ch)

/-- The tap lies inside the image. -/
def tapInside (v : Conv) (t : Int × Int × Nat) : Bool :=
  decide (0 ≤ t.1) && decide (t.1 < v.h) && decide (0 ≤ t.2.1) && decide (t.2.1 < v.w)

/-- The index of a tap in its image row. -/
def tapIndex (v : Conv) (t : Int × Int × Nat) : Nat := t.2.1.toNat * v.c + t.2.2

/-- One output word of a convolution. -/
def convWord (v : Conv) (at_ wt zpa : Nat) (pert : Bool) (f : OutStage) (image : List Bytes) (wrow : Bytes) (table : Bytes)
    (oy ox o : Nat) : Nat :=
  let taps := convTaps v oy ox (o / max 1 v.og)
  let rec_ := channelRecord table pert o
  let row := fun (t : Int × Int × Nat) => image.getD t.1.toNat []
  if at_ = 2 then
    let av := taps.map fun t => if tapInside v t then bf16 (u16 (row t) (2 * tapIndex v t)) else .fin false 0 0
    outFloat f rec_ (dotFloat 0 av (rowBf16 wrow v.kg))
  else
    let za : Int := if at_ = 0 then signed 8 zpa else zpa
    let av := taps.map fun t => if tapInside v t then elemInt at_ (row t) (tapIndex v t) - za else 0
    outInt f rec_ (dotInt av ((List.range v.kg).map fun e => elemInt wt wrow e - zpwOf f.ot wt rec_))

/-- The output rows of one image. -/
def convImage (v : Conv) (at_ wt zpa : Nat) (pert : Bool) (f : OutStage) (image wrows : List Bytes) (table : Bytes) : List (List Nat) :=
  (List.range v.oh).map fun oy => (List.range v.ow).flatMap fun ox => (List.range v.oc).map fun o =>
    convWord v at_ wt zpa pert f image (wrows.getD o []) table oy ox o

/-- CONV on its engine. -/
def runConv (x : Ctx) (b : Bytes) (s : State) : State :=
  let i := opdOf (u64 b 8); let w := opdOf (u64 b 16); let o := opdOf (u64 b 24); let ch := opdOf (u64 b 32)
  let v := convOf b
  let at_ := bits (u8 b 58) 0 2; let wt := bits (u8 b 58) 2 2
  let ot := bits (u8 b 59) 0 3; let pert := bit (u8 b 59) 4
  let f : OutStage := ⟨ot, u8 b 55, u8 b 56, u8 b 57⟩
  let ri := rowRaw (v.w * v.c) (aHalf at_); let rw_ := rowRaw v.kg (wHalf wt); let ro := rowRaw (v.ow * v.oc) (outHalf ot)
  let pos := positions ([i, w, o] ++ if readsTable ot then [ch] else [])
  if !takeFresh s x.q pos then endStale x b s
  else
    let iv := readOpd s x i (v.imagesSpan v.h ri)
    let wv := readTensor s x w v.oc rw_ (pitchOf rw_) (spanOf w.blk v.oc rw_)
    let tv := if readsTable ot then readOpd s x ch (16 * tableRecords pert v.oc) else (0, [])
    let s := noteReads x ([(i, v.imagesSpan v.h ri), (w, srcSpan w v.oc rw_)] ++
      if readsTable ot then [(ch, 16 * tableRecords pert v.oc)] else []) s
    let st := worstOf [iv.1, wv.1, tv.1]
    if st ≠ 0 then finish x b pos st s
    else
      let image := fun n => rowsIn (iv.2.drop (n * Conv.imageStride v.h ri)) false v.h ri (pitchOf ri)
      let outs := (List.range v.batch).map fun n => convImage v at_ wt (u8 b 54) pert f (image n) wv.2 tv.2
      let kc := if wt = 2 then 64 else 32
      let m := v.batch * v.oh * v.ow
      let s := addBlocks x.col (v.g * ceilDiv m 32 * ceilDiv v.og 32 * ceilDiv v.kg kc * (if at_ = 2 then 4 else 1)) s
      storeRows x b pos o (outs.mapIdx fun n r => (n * Conv.imageStride v.oh ro, layOut false 0 ro (packRows ot r)))
        ((outs.map (countNans ot)).foldl (· + ·) 0) s

/-- CONV. -/
def execConv (q c : Nat) (s : State) : Out :=
  .next (match engineCmd s q c 1 0x02 with | none => s | some (x, b) => runConv x b s)

/-! ### REQ (R457) -/

/-- REQ on its engine. -/
def runReq (x : Ctx) (b : Bytes) (s : State) : State :=
  let i := opdOf (u64 b 8); let o := opdOf (u64 b 16); let ch := opdOf (u64 b 24)
  let m := u32 b 32 % 2 ^ 24; let n := u32 b 36 % 2 ^ 24
  let float := bits (u8 b 44) 0 2 == 2
  let ot := bits (u8 b 45) 0 3; let pert := bit (u8 b 45) 4
  let f : OutStage := ⟨ot, u8 b 41, u8 b 42, u8 b 43⟩
  let ri := rowRaw n (if float then 8 else 16); let ro := rowRaw n (outHalf ot)
  let pos := positions ([i, o] ++ if readsTable ot then [ch] else [])
  if !takeFresh s x.q pos then endStale x b s
  else
    let iv := readTensor s x i m ri (pitchOf ri) (spanOf i.blk m ri)
    let tv := if readsTable ot then readOpd s x ch (16 * tableRecords pert n) else (0, [])
    let s := noteReads x ([(i, spanOf i.blk m ri)] ++ if readsTable ot then [(ch, 16 * tableRecords pert n)] else []) s
    let st := worstOf [iv.1, tv.1]
    if st ≠ 0 then finish x b pos st s
    else
      let rows := iv.2.map fun r => (List.range n).map fun j =>
        if float then outFloat f (channelRecord tv.2 pert j) (u32 r (4 * j))
        else outInt f (channelRecord tv.2 pert j) (signed 64 (u64 r (8 * j)))
      storeRows x b pos o [(0, layOut o.blk 0 ro (packRows ot rows))] (countNans ot rows) s

/-- REQ. -/
def execReq (q c : Nat) (s : State) : Out :=
  .next (match engineCmd s q c 1 0x03 with | none => s | some (x, b) => runReq x b s)

/-! ### COPY, FILL, SIGCHK (R458 to R460) -/

/-- COPY on its engine. -/
def runCopy (x : Ctx) (b : Bytes) (s : State) : State :=
  let i := opdOf (u64 b 8); let o := opdOf (u64 b 16)
  let rows := u32 b 24 % 2 ^ 24; let raw := u32 b 28 % 2 ^ 24
  let pos := positions [i, o]
  if !takeFresh s x.q pos then endStale x b s
  else
    let iv := readTensor s x i rows raw (u32 b 32) (copySpan { i with coded := false } rows raw (u32 b 32))
    let s := noteReads x [(i, copySpan i rows raw (u32 b 32))] s
    if iv.1 ≠ 0 then finish x b pos iv.1 s
    else
      let parts := if o.blk then [(0, layOut true (BitVec.ofNat 8 (u8 b 41)) raw iv.2)]
        else iv.2.mapIdx fun r d => (r * u32 b 36, padTo (pitchOf raw) d)
      storeRows x b pos o parts 0 s

/-- COPY. -/
def execCopy (q c : Nat) (s : State) : Out :=
  .next (match engineCmd s q c 1 0x08 with | none => s | some (x, b) => runCopy x b s)

/-- FILL on its engine. -/
def runFill (x : Ctx) (b : Bytes) (s : State) : State :=
  let o := opdOf (u64 b 8)
  let pos := positions [o]
  if !takeFresh s x.q pos then endStale x b s
  else storeRows x b pos o [(0, (List.replicate (u64 b 16 / 4) (leBytes 4 (u32 b 24))).flatten)] 0 s

/-- FILL. -/
def execFill (q c : Nat) (s : State) : Out :=
  .next (match engineCmd s q c 1 0x09 with | none => s | some (x, b) => runFill x b s)

/-- Mark the entry of a SID failed in the sentinel table, where the entry holds that SID (R575). -/
def failSentinel (y : Sample) (s : State) : State :=
  let k := bits y.sid 0 5 * 16 + bits y.sid 8 48 % 16
  match s.safety.sent.find k with
  | some e => if e.sid = y.sid then { s with safety := { s.safety with sent := s.safety.sent.insert k { e with pass := false } } } else s
  | none => s

/-- SIGCHK on its engine. -/
def runSigchk (x : Ctx) (b : Bytes) (s : State) : State :=
  let i := opdOf (u64 b 8)
  let pos := u8 b 20 :: positions [i]
  if !takeFresh s x.q pos then endStale x b s
  else
    let iv := readOpd s x i (u32 b 16)
    let s := noteReads x [(i, u32 b 16)] s
    if iv.1 ≠ 0 then finish x b pos iv.1 s
    else match sampleAt s x.q (u8 b 20) with
      | none => finish x b pos 0 s
      | some y =>
        if crc32 iv.2 = s.rd (SENT_SP3_SIG y.stream) then finish x b pos 0 s
        else finish x b pos 0x0B (raiseFault 0x09 y.sid (failSentinel y (s.inc (SENT_SP3_FAILS y.stream))))

/-- SIGCHK. -/
def execSigchk (q c : Nat) (s : State) : Out :=
  .next (match engineCmd s q c 1 0x0A with | none => s | some (x, b) => runSigchk x b s)

/-! ### The patrol scrub (R446) -/

/-- The upsets a scrub of a local memory comes to: corrected ones are counted, the others stand in their words. -/
def scrubWords (c : Nat) (corr : Field) (errs : List (Nat × Bool)) (s : State) : State :=
  errs.foldl (fun t e =>
    if e.2 then { t with loc := { t.loc with bad := t.loc.bad.put false (c * 2 ^ 20 + e.1) true } } else t.inc corr) s

/-- PASTURE_SCRUB: the scrub of engine `e` reads words; `errs` gives the words with one bit wrong (false) and those with more (true),
`pass` tells whether the slice has been read whole. An uncorrectable word is counted when a command reads it. -/
def execPastureScrub (e : Nat) (errs : List (Nat × Bool)) (pass : Bool) (s : State) : Out :=
  .next (if e < engines s ∧ columnReady s e ∧ errs.all (fun w => decide (w.1 < 917504)) then
    let s := scrubWords e (PAST_CORR e) errs s
    if pass then s.incWrap (PAST_SCRUB_PASSES e) else s
  else s)

end Sys2Proof.Machine
end

