-- ==== Sys2Proof/Machine/Function.lean ====
section
/-! DEFINITION. The function unit commands (chapter 16). -/

namespace Sys2Proof.Machine
open Reg

/-! ### Conversion (R469, R470) -/

/-- Element `i` of a row as FP32 (R469). -/
def fuElem (it zpi scale : Nat) (row : Bytes) (i : Nat) : Nat :=
  let scaled := fun (v z : Int) => rne32 ((Num.ofInt (v - z)).mul (f32 scale))
  if it = 0 then scaled (signed 8 (u8 row i)) (signed 8 zpi)
  else if it = 1 then scaled (u8 row i) zpi
  else if it = 2 then scaled (signed 32 (u32 row (4 * i))) (signed 8 zpi)
  else if it = 3 then rne32 (bf16 (u16 row (2 * i)))
  else plain32 (u32 row (4 * i))

/-- The output fields of a function unit command. -/
structure FuOut where
  ot : Nat
  scale : Nat
  zpo : Nat
  clo : Nat
  chi : Nat
  deriving DecidableEq, Repr

/-- A result in the output type (R470). -/
def fuWord (f : FuOut) (y : Nat) : Nat :=
  if f.ot = 3 then plain32 y
  else if f.ot = 2 then rne16 (f32 y)
  else if isNan32 y then f.zpo
  else if y = inf32 then f.chi
  else if y = ninf32 then f.clo
  else
    let q := toInt .rna ((f32 y).mul (f32 f.scale))
    if f.ot = 0 then unsigned 8 (clampTo (signed 8 f.clo) (signed 8 f.chi) (signed 8 f.zpo + q))
    else unsigned 8 (clampTo f.clo f.chi (f.zpo + q))

/-! ### What a command leaves behind -/

/-- The ledger of full-rate evaluations (R481). -/
def fuLedger (t : Fu) : Ledger := if t.did then { stages := 16, pwlErr := t.err } else {}

/-- The function unit's counters, ERRMAX, and the lane-cycles of arbitration: a free value in shared mode (R476, log 61). -/
def fuCount (c : Nat) (t : Fu) (nans : Nat) (s : State) : State :=
  let s := (((s.inc (FU_EVAL_PWL c) t.pwl).inc (FU_EVAL_SHR c) t.shr).inc (FU_SAT c) t.sat).inc (FU_NAN c) nans
  let s := if t.did then s.wr (FU_ERRMAX c) (max (s.rd (FU_ERRMAX c)) t.err) else s
  if t.shr = 0 then s else let r := s.free; r.2.inc (FU_ARB_WAIT c) r.1

/-- End a command with the ledger of its evaluations and samples. -/
def fuFinish (x : Ctx) (b : Bytes) (pos : List Nat) (st : Nat) (t : Fu) (s : State) : State :=
  engineDone x b { status := st, led := (takeLedger s x.q pos).merge (fuLedger t), ref := takeRef s x.q pos } s

/-! ### Rows (R482 to R488) -/

def sumFu (l : List Fu) : Fu := l.foldl Fu.add {}

/-- ACT: one row. -/
def actRow (sh : Bool) (fn p0 : Nat) (xs : List Nat) : List Nat × Fu :=
  let r := xs.map (evalFn sh fn p0)
  (r.map (·.1), sumFu (r.map (·.2)))

/-- GLU: one row (R482). -/
def gluRow (sh : Bool) (fn p0 : Nat) (gs us : List Nat) : List Nat × Fu :=
  let r := actRow sh fn p0 gs
  (List.zipWith fmul r.1 us, r.2)

/-- The larger of two values, +0 over -0. -/
def max32 (a b : Nat) : Nat := if flt a b then b else if flt b a then a else if neg32 a then b else a

def anyNan (xs : List Nat) : Bool := xs.any isNan32
def anyInf (xs : List Nat) : Bool := xs.any fun x => (f32 x).isInf
def squares (xs : List Nat) : List Num := xs.map fun x => (f32 x).mul (f32 x)

/-- ROWSTAT: MAX, SUM, SUMSQ (R484). -/
def statRow (xs : List Nat) : List Nat :=
  if anyNan xs then [nan32, nan32, nan32]
  else [xs.foldl max32 ninf32, rowSum (xs.map f32), rowSum (squares xs)]

/-- An FP32 count. -/
def count32 (n : Nat) : Nat := rne32 (Num.ofInt n)

/-- RMSNORM: one row (R485, R488). -/
def rmsRow (sh : Bool) (p0 : Nat) (gamma xs : List Nat) : List Nat × Fu :=
  if anyNan xs || anyInf xs then (xs.map fun _ => nan32, {})
  else
    let m := fdiv (rowSum (squares xs)) (count32 xs.length)
    let r := rsqrtF sh (fadd m p0)
    (List.zipWith (fun x g => fmul (fmul x r.1) g) xs gamma, r.2)

/-- LNORM: one row (R486, R488). -/
def normRow (sh : Bool) (p0 : Nat) (gamma beta xs : List Nat) : List Nat × Fu :=
  if anyNan xs || anyInf xs then (xs.map fun _ => nan32, {})
  else
    let mu := fdiv (rowSum (xs.map f32)) (count32 xs.length)
    let d := xs.map fun x => fsub x mu
    let v := fdiv (rowSum (squares d)) (count32 xs.length)
    let r := rsqrtF sh (fadd v p0)
    (List.zipWith (fun x gb => ffma (fmul x r.1) gb.1 gb.2) d (gamma.zip beta), r.2)

/-- SOFTMAX: one row, and whether it held nothing but -Inf (R487, R488). -/
def softRow (sh : Bool) (p0 : Nat) (xs : List Nat) : List Nat × Fu × Bool :=
  if xs.any (fun x => isNan32 x || x == inf32) then (xs.map fun _ => nan32, {}, false)
  else if xs.all (· == ninf32) then (xs.map fun _ => 0, {}, true)
  else
    let z := xs.map fun x => fmul x p0
    let m := z.foldl max32 ninf32
    let e := z.map fun v => expF sh (fsub v m)
    let r := recipF sh (rowSum (e.map fun v => f32 v.1))
    (e.map fun v => fmul v.1 r.1, (sumFu (e.map (·.2))).add r.2, false)

/-! ### The commands -/

/-- One row of a command's output words, its evaluations, its NaN results, and whether it was an empty row. -/
structure FuRow where
  out : List Nat
  fu : Fu := {}
  empty : Bool := false
  deriving DecidableEq, Repr

/-- The row of a command (R465): elements of X and of u, and the normalisation vectors. -/
def fuRow (op : Nat) (sh : Bool) (fn p0 : Nat) (xs us gamma beta : List Nat) : FuRow :=
  if op = 0x20 then let r := actRow sh fn p0 xs; ⟨r.1, r.2, false⟩
  else if op = 0x21 then let r := gluRow sh fn p0 xs us; ⟨r.1, r.2, false⟩
  else if op = 0x22 then ⟨statRow xs, {}, false⟩
  else if op = 0x23 then let r := normRow sh p0 gamma beta xs; ⟨r.1, r.2, false⟩
  else if op = 0x24 then let r := rmsRow sh p0 gamma xs; ⟨r.1, r.2, false⟩
  else let r := softRow sh p0 xs; ⟨r.1, r.2.1, r.2.2⟩

/-- A function unit command on its engine: X and AUXP are read, every row evaluated in ascending order, Y written (R466 to R491). -/
def runFunction (op : Nat) (x : Ctx) (b : Bytes) (s : State) : State :=
  let xo := opdOf (u64 b 8); let yo := opdOf (u64 b 16); let uo := opdOf (u64 b 24)
  let rows := u32 b 32 % 2 ^ 24; let cols := u32 b 36 % 2 ^ 24
  let fn := bits (u8 b 44) 0 5; let sh := bit (u8 b 44) 5
  let it := bits (u8 b 45) 0 3; let ot := bits (u8 b 45) 3 3
  let f : FuOut := ⟨ot, u32 b 52, u8 b 56, u8 b 57, u8 b 58⟩
  let rx := cols * fuIn it; let ry := if op = 0x22 then 16 else cols * fuOut ot
  let px := fuPitch (u16 b 40) rx; let py := if op = 0x22 then 16 else fuPitch (u16 b 42) ry
  let aux := if op = 0x21 then rows * px else if op = 0x23 then 8 * cols else if op = 0x24 then 4 * cols else 0
  let pos := positions [xo]
  if !takeFresh s x.q pos then endStale x b s
  else
    let xs := (rows - 1) * px + pitchOf rx
    let xv := readOpd s x xo xs
    let uv := if aux = 0 then (0, []) else readOpd s x uo aux
    let s := noteReads x ([(xo, xs)] ++ if aux = 0 then [] else [(uo, aux)]) s
    let st := worstOf [xv.1, uv.1]
    if st ≠ 0 then fuFinish x b pos st {} s
    else
      let elems := fun (d : Bytes) => (List.range cols).map (fuElem it (u8 b 47) (u32 b 48) d)
      let vec := fun (o : Nat) => (List.range cols).map fun j => u32 uv.2 (4 * (o + j))
      let outs := (List.range rows).map fun r =>
        fuRow op sh fn (u32 b 60) (elems (slice xv.2 (r * px) rx)) (if op = 0x21 then elems (slice uv.2 (r * px) rx) else [])
          (vec 0) (vec cols)
      let parts := outs.mapIdx fun r z =>
        if op = 0x22 then (16 * r, padTo 16 ((z.out.map (leBytes 4)).flatten))
        else (r * py, padTo (pitchOf ry) ((z.out.map fun y => leBytes (fuOut ot) (fuWord f y)).flatten))
      let t := sumFu (outs.map (·.fu))
      let nans := (outs.map fun z => (z.out.filter isNan32).length).foldl (· + ·) 0
      let w := writeParts x yo parts s
      let s := (fuCount x.col t nans w.2).inc (FU_EMPTYROW x.col) (outs.filter (·.empty)).length
      fuFinish x b pos w.1 t s

/-- ACT: y = f(x), element by element. -/
def execAct (q c : Nat) (s : State) : Out :=
  .next (match engineCmd s q c 1 0x20 with | none => s | some (x, b) => runFunction 0x20 x b s)

/-- GLU: y = f(g) · u (R482). -/
def execGlu (q c : Nat) (s : State) : Out :=
  .next (match engineCmd s q c 1 0x21 with | none => s | some (x, b) => runFunction 0x21 x b s)

/-- ROWSTAT (R484). -/
def execRowstat (q c : Nat) (s : State) : Out :=
  .next (match engineCmd s q c 1 0x22 with | none => s | some (x, b) => runFunction 0x22 x b s)

/-- LNORM (R486). -/
def execLnorm (q c : Nat) (s : State) : Out :=
  .next (match engineCmd s q c 1 0x23 with | none => s | some (x, b) => runFunction 0x23 x b s)

/-- RMSNORM (R485). -/
def execRmsnorm (q c : Nat) (s : State) : Out :=
  .next (match engineCmd s q c 1 0x24 with | none => s | some (x, b) => runFunction 0x24 x b s)

/-- SOFTMAX (R487). -/
def execSoftmax (q c : Nat) (s : State) : Out :=
  .next (match engineCmd s q c 1 0x25 with | none => s | some (x, b) => runFunction 0x25 x b s)

/-- FU_ERRMAX_READ: the read returns the value and clears it (R10, R11, R481). -/
def execFuErrmaxRead (w : Writer) (e : Nat) (s : State) : Out := .next (readClear w (FU_ERRMAX (e % 8)) s)

end Sys2Proof.Machine
end

