-- ==== Sys2Proof/Machine/KvCache.lean ====
section
/-! DEFINITION. The key-value cache (17.3 to 17.5, 17.10): headers, page tables, pages, the coarse index, stored formats, appending,
and the sequences of a batch. -/

namespace Sys2Proof.Machine
open Reg

/-! ### Headers and pages (R494 to R497) -/

/-- A key-value header (R494). -/
structure KvHdr where
  at_ : Nat
  base : List Nat
  pt : Nat
  ix : Nat
  npg : List Nat
  maxpg : Nat
  layers : Nat
  hkv : Nat
  d : Nat
  tokbuf : Nat
  deriving DecidableEq, Repr

def kvHdr (a : Nat) (b : Bytes) : KvHdr where
  at_ := a
  base := [u64 b 0, u64 b 8, u64 b 16]
  pt := u64 b 24
  ix := u64 b 32
  npg := [u32 b 40, u32 b 44, u32 b 48]
  maxpg := u16 b 52
  layers := u8 b 54
  hkv := bits (u8 b 55) 0 5
  d := 32 * (bits (u8 b 55) 5 3 + 1)
  tokbuf := u64 b 56

/-- An access to a sequence's memory: its TID, its range, and its bytes where it writes. -/
structure KvAccess where
  tid : Nat
  addr : Nat
  len : Nat
  data : Option Bytes := none
  deriving DecidableEq, Repr

/-- What stops a sequence: a sequence fault with its cause and address, an access that is DENIED (cause 3), or an access whose status ends the
command (R518). -/
inductive KvErr where
  | seq (cause addr : Nat)
  | denied (a : KvAccess)
  | fatal (status : Nat) (a : KvAccess)
  deriving DecidableEq, Repr

/-- A read and a write with a sequence's TID (R517, R518). -/
def kvRead (s : State) (t a n : Nat) : Except KvErr Bytes :=
  let r := memRead s t a n
  if r.1 = 0 then .ok r.2 else if r.1 = 0x07 then .error (.denied ⟨t, a, n, none⟩) else .error (.fatal r.1 ⟨t, a, n, none⟩)

def kvWrite (pid t a : Nat) (b : Bytes) (s : State) : Except KvErr State :=
  let r := memWrite s pid t a b
  if r.1 = 0 then .ok r.2 else if r.1 = 0x07 then .error (.denied ⟨t, a, b.length, some b⟩) else .error (.fatal r.1 ⟨t, a, b.length, some b⟩)

/-- Read and check a header: heads, dimension and layer (R518, cause 1). -/
def readHdr (s : State) (t a hkv d layer : Nat) : Except KvErr KvHdr :=
  match kvRead s t a 64 with
  | .error e => .error e
  | .ok b =>
    let h := kvHdr a b
    if h.hkv ≠ hkv ∨ h.d ≠ d ∨ h.layers ≤ layer then .error (.seq 1 a) else .ok h

/-- Bytes of a head part and of a page in a format (R496). -/
def partBytes (fmt d : Nat) : Nat := [256, 136, 72].getD fmt 0 * d
def pageBytes (fmt d hkv : Nat) : Nat := ceilDiv (hkv * partBytes fmt d) 4096 * 4096

/-- Format and address of a logical page; a bad entry is cause 2 (R495). -/
def pageAt (s : State) (t : Nat) (h : KvHdr) (layer lp : Nat) : Except KvErr (Nat × Nat) :=
  let a := h.pt + 4 * (layer * h.maxpg + lp)
  match kvRead s t a 4 with
  | .error e => .error e
  | .ok b =>
    let w := u32 b 0
    let fmt := bits w 24 2
    if !bit w 31 || fmt == 3 || bits w 26 5 != 0 || decide (h.npg.getD fmt 0 ≤ bits w 0 24) then .error (.seq 2 a)
    else .ok (fmt, h.base.getD fmt 0 + bits w 0 24 * pageBytes fmt h.d h.hkv)

/-- Format and bytes of a head part of a logical page. -/
def readPart (s : State) (t : Nat) (h : KvHdr) (layer lp g : Nat) : Except KvErr (Nat × Bytes) :=
  match pageAt s t h layer lp with
  | .error e => .error e
  | .ok (fmt, a) =>
    match kvRead s t (a + g * partBytes fmt h.d) (partBytes fmt h.d) with
    | .error e => .error e
    | .ok b => .ok (fmt, b)

/-- Offset, in a head part, of the keys' or values' scale of block `b` of token `t`. -/
def scaleAt (fmt d : Nat) (v : Bool) (t b : Nat) : Nat :=
  (if v then partBytes fmt d / 2 else 0) + (if fmt = 1 then 64 * d else 32 * d) + 2 * (t * d / 32 + b)

/-- A stored key or value: element `i` of token `t` (R496, R499). -/
def kvVal (fmt d : Nat) (part : Bytes) (v : Bool) (t i : Nat) : Num :=
  let o := if v then partBytes fmt d / 2 else 0
  if fmt = 0 then bf16 (u16 part (o + 2 * (t * d + i)))
  else
    let q := if fmt = 1 then signed 8 (u8 part (o + t * d + i)) else signed 4 (bits (u8 part (o + (t * d + i) / 2)) (4 * (i % 2)) 4)
    (Num.ofInt q).mul (bf16 (u16 part (scaleAt fmt d v t (i / 32))))

/-- The row of a token. -/
def kvRow (fmt d : Nat) (part : Bytes) (v : Bool) (t : Nat) : List Num := (List.range d).map (kvVal fmt d part v t)

/-- The largest s/2 over the blocks of a token; blocks stored under R500 have none (R392, R514). -/
def tokenErr (fmt d : Nat) (part : Bytes) (v : Bool) (t : Nat) : Nat :=
  if fmt = 0 then 0
  else maxOf ((List.range (d / 32)).map fun b =>
    match bf16 (u16 part (scaleAt fmt d v t b)) with | .fin _ n e => rne16 (.fin false n (e - 1)) | _ => 0)

/-- The ledger of reading tokens of a page (R514). -/
def pageLedger (fmt d : Nat) (part : Bytes) (vs : List Bool) (ts : List Nat) : Ledger :=
  if fmt = 0 then {}
  else { stages := if fmt = 1 then 1 else 2, kvErr := maxOf (vs.flatMap fun v => ts.map (tokenErr fmt d part v)) }

/-! ### Stored formats (R498 to R500) -/

/-- A quotient of finite values rounded to the nearest integer, ties to even. -/
def divRne (a b : Num) : Int :=
  match a, b with
  | .fin s n e, .fin z m f =>
    if m = 0 then 0
    else
      let k := e - f
      let q := if 0 ≤ k then roundNat .rne false (n * 2 ^ k.toNat) m else roundNat .rne false n (m * 2 ^ (-k).toNat)
      if s != z then -(q : Int) else q
  | _, _ => 0

/-- The largest magnitude of finite values. -/
def maxAbs (l : List Num) : Num := l.foldl (fun a x => if a.lt x.abs then x.abs else a) (.fin false 0 0)

/-- A block of 32 BF16 values in KV8 or KV4: scale and integers (R498, R500). -/
def packBlock (fmt : Nat) (l : List Num) : Nat × List Int :=
  if l.any fun x => !x.isFinite then (0x7FC0, l.map fun _ => 0)
  else
    let s := divUp 8 (maxAbs l) (.fin false (if fmt = 1 then 127 else 7) 0)
    (s, l.map fun x => if s = 0 then 0 else divRne x (bf16 s))

/-- The stored bytes of one token's row in a format: values, scales, and blocks stored under R500. -/
def packToken (fmt d : Nat) (row : Bytes) : Bytes × Bytes × Nat :=
  if fmt = 0 then (row.take (2 * d), [], 0)
  else
    let bs := (List.range (d / 32)).map fun b => packBlock fmt ((List.range 32).map fun i => bf16 (u16 row (2 * (32 * b + i))))
    let qs := bs.flatMap (·.2)
    (if fmt = 1 then qs.map fun q => BitVec.ofInt 8 q else packNibbles (qs.map (unsigned 4)),
      bs.flatMap fun b => leBytes 2 b.1, (bs.filter (·.1 == 0x7FC0)).length)

/-! ### Appending (R502, R503) -/

/-- What a command collects on its way: index entries written, blocks under R500, tokens, and the ledger of what it read. -/
structure KvTally where
  ix : Nat := 0
  nanBlk : Nat := 0
  tokens : Nat := 0
  led : Ledger := {}
  deriving DecidableEq, Repr

/-- Address of an index entry (R497). -/
def indexAddr (h : KvHdr) (layer lp g : Nat) : Nat := h.ix + ((layer * h.maxpg + lp) * h.hkv + g) * indexBytes h.d

/-- A sum of squares with every step rounded towards +Inf, in the chunk order of R483 (log 64). -/
def squaresUp : Nat → Nat → List Num → Nat
  | 0, acc, _ => acc
  | fuel + 1, acc, l =>
    if l.isEmpty then acc
    else
      let c := roundUp 24 (sumNum ((l.take 32).map fun x => x.mul x))
      squaresUp fuel (roundUp 24 ((f32 acc).add (f32 c))) (l.drop 32)

/-- The norm of a vector, every step towards +Inf (R503, R513). -/
def normUp (l : List Num) : Nat := sqrtTo 24 .up (f32 (squaresUp l.length 0 l))

/-- The index entry of a full page and head (R503). A centroid byte whose quotient is no number is an open value of the page (log 65). -/
def indexEntry (fmt d : Nat) (part : Bytes) : Bytes :=
  let keys := (List.range 64).map fun t => kvRow fmt d part false t
  let mu := (List.range d).map fun i => scaleBy (rowSum (keys.map fun k => k.getD i .nan)) (-6)
  let finite := mu.all fun m => (f32 m).isFinite
  let cs := if finite then divUp 8 (maxAbs (mu.map f32)) (.fin false 127 0) else if anyNan mu then 0x7FC0 else 0x7F80
  let rmax := keys.foldl (fun a k => if k.any Num.isNan then 0x7F80 else max a (roundUp 8 (f32 (normUp k)))) 0
  padTo (indexBytes d)
    ((mu.mapIdx fun i m =>
      if cs = 0x7FC0 ∨ !(f32 m).isFinite then BitVec.ofNat 8 (Config.openResult [fmt, d, i, leNat part]) else if !finite then 0 else if cs = 0 then 0 else BitVec.ofInt 8 (divRne (f32 m) (bf16 cs))) ++
      leBytes 2 cs ++ leBytes 2 rmax)

/-- Write one token's row of keys or values of a head. -/
def putToken (pid t : Nat) (h : KvHdr) (fmt page g : Nat) (v : Bool) (tok : Nat) (row : Bytes) (r : State × KvTally) :
    Except KvErr (State × KvTally) :=
  let p := packToken fmt h.d row
  let a := page + g * partBytes fmt h.d
  let o := (if v then partBytes fmt h.d / 2 else 0) + tok * (partBytes fmt h.d / 2 - (if fmt = 0 then 0 else 4 * h.d)) / 64
  match kvWrite pid t (a + o) p.1 r.1 with
  | .error e => .error e
  | .ok s =>
    let k := { r.2 with nanBlk := r.2.nanBlk + p.2.2 }
    if fmt = 0 then .ok (s, k)
    else match kvWrite pid t (a + scaleAt fmt h.d v tok 0) p.2.1 s with
      | .error e => .error e
      | .ok s => .ok (s, k)

/-- Write the index entry of a head whose page is full. -/
def putIndex (pid t : Nat) (h : KvHdr) (layer lp fmt page : Nat) (r : State × KvTally) (g : Nat) : Except KvErr (State × KvTally) :=
  match kvRead r.1 t (page + g * partBytes fmt h.d) (partBytes fmt h.d) with
  | .error e => .error e
  | .ok part =>
    match kvWrite pid t (indexAddr h layer lp g) (indexEntry fmt h.d part) r.1 with
    | .error e => .error e
    | .ok s =>
      .ok (s,
        { r.2 with ix := r.2.ix + 1, led := r.2.led.merge (pageLedger fmt h.d part [false] (List.range 64)) })

/-- Append one token at a position: every head's K and V row, then the index of a page it fills (R502). -/
def appendToken (pid t : Nat) (h : KvHdr) (layer pos : Nat) (krow vrow : Bytes) (r : State × KvTally) : Except KvErr (State × KvTally) :=
  if h.maxpg * 64 ≤ pos then .error (.seq 4 h.at_)
  else match pageAt r.1 t h layer (pos / 64) with
    | .error e => .error e
    | .ok (fmt, page) => do
      let r ← (List.range h.hkv).foldlM (fun r g => do
        let r ← putToken pid t h fmt page g false (pos % 64) (slice krow (2 * h.d * g) (2 * h.d)) r
        putToken pid t h fmt page g true (pos % 64) (slice vrow (2 * h.d * g) (2 * h.d)) r) r
      let r ← if pos % 64 = 63 then (List.range h.hkv).foldlM (putIndex pid t h layer (pos / 64) fmt page) r else pure r
      pure (r.1, { r.2 with tokens := r.2.tokens + 1 })

/-! ### Sequences of a batch (R420, R516 to R518) -/

/-- A sequence as a command sees it: its place in the batch descriptor and table, TID, header, first position, tokens, first row, and
the queue of its request. Single mode has one, with no place. -/
structure KvSeq where
  place : Option (Nat × Nat)
  tid : Nat
  hdr : Nat
  pos : Nat
  tokens : Nat
  row : Nat
  qid : Nat
  deriving DecidableEq, Repr

/-- The sequences of the batch of the engine step on a column. -/
def batchSeqs (s : State) (x : Ctx) : List KvSeq :=
  let a := batchAddr s (x.q % 32) x.col
  let n := u16 (s.ld a 64) 8
  ((List.range n).foldl (fun (acc : List KvSeq × Nat) j =>
    let e := s.ld (a + 64 + 8 * j) 8
    let i := bits (u16 e 0) 0 14
    let b := seqEntry s i
    (acc.1 ++ [⟨some (j, i), bits (u16 b 2) 0 10, u32 b 20 * 64, u32 b 8, u16 e 2, acc.2, bits (u16 b 6) 0 10⟩], acc.2 + u16 e 2))
    ([], 0)).1

/-- The status a sequence fault gives its request (R518). -/
def seqFaultStatus (cause : Nat) : Nat := if cause = 3 then 0x07 else if cause = 4 then 0x03 else 0x0B

/-- A sequence fault of a batch: STOP, counter, capture, event, and the status its request will end with (R518). -/
def noteSeqFault (x : Ctx) (z : KvSeq) (cause addr : Nat) (s : State) : State :=
  let c := x.col
  let s := s.inc (KV_SEQERR c)
  let s := if s.rdb (KV_ERRCAP_VALID c) then s
    else s.wrs [(KV_ERRCAP_TID c, z.tid), (KV_ERRCAP_CAUSE c, cause), (KV_ERRCAP_QID c, z.qid), (KV_ERRCAP_VALID c, 1),
      (KV_ERRADDR_LO c, addr), (KV_ERRADDR_HI c, addr / 2 ^ 32)]
  let s := post 0x9001 (columnIsland c) [storedWord s (KV_ERRCAP_TID c).addr] s
  match z.place with
  | none => s
  | some (j, i) =>
    let a := batchAddr s (x.q % 32) c + 64 + 8 * j + 4
    let s := s.st a (leBytes 1 (setBit (u8 (s.ld a 1) 0) 0 true))
    let st := seqFaultStatus cause
    mapSteps (fun t => if t.col = c ∧ !t.paused then { t with faults := (i, worse st ((t.faults.lookup i).getD 0)) :: t.faults } else t) s

/-- What an access that is not answered OK leaves at the controllers and in the fabric (R293, R304, R334, R339). -/
def noteAccess (pid : Nat) (a : KvAccess) (s : State) : State :=
  match a.data with
  | none => noteRead pid a.tid a.addr a.len s
  | some b => (memWrite s pid a.tid a.addr b).2

end Sys2Proof.Machine
end

