-- ==== Sys2Proof/Machine/Attention.lean ====
section
/-! DEFINITION. The attention path's commands (chapter 17): KVAPPEND, ATTN, KVTOK, and the flock request. -/

namespace Sys2Proof.Machine
open Reg

/-! ### KVAPPEND (R501 to R503, R516) -/

/-- The tokens of one sequence, in row order. -/
def appendSeq (x : Ctx) (b : Bytes) (kv vv : Bytes) (maxctx : Option Nat) (z : KvSeq) (r : State × KvTally) :
    Except KvErr (State × KvTally) :=
  let d := 32 * (bits (u8 b 40) 0 3 + 1)
  let hkv := bits (u8 b 39) 0 5
  let raw := hkv * d * 2
  match readHdr r.1 z.tid z.hdr hkv d (u8 b 38) with
  | .error e => .error e
  | .ok h =>
    if maxctx.any (fun m => decide (m < z.pos + z.tokens)) then .error (.seq 4 z.hdr)
    else (List.range z.tokens).foldlM (fun r i =>
      appendToken (columnPid r.1 x.col) z.tid h (u8 b 38) (z.pos + i) (slice kv ((z.row + i) * raw) raw) (slice vv ((z.row + i) * raw) raw) r) r

/-- What a command of the attention path has come to: its state, tally, and the status that ended it with its AUX. -/
structure KvRun (τ : Type) where
  s : State
  tally : τ
  status : Nat := 0
  aux : Nat := 0

/-- Run the sequences in descriptor order. A sequence fault leaves what was before its sequence and goes on (batch) or ends the command
(single mode); any other failing access ends the command (R518). -/
def runSeqs {τ : Type} (x : Ctx) (f : KvSeq → State × τ → Except KvErr (State × τ)) (bad : KvSeq → State × τ → State × τ) :
    List KvSeq → KvRun τ → KvRun τ
  | [], r => r
  | z :: l, r =>
    match f z (r.s, r.tally) with
    | .ok v => runSeqs x f bad l { r with s := v.1, tally := v.2 }
    | .error (.fatal st a) => { r with s := noteAccess (columnPid r.s x.col) a r.s, status := st }
    | .error (.denied a) =>
      match z.place with
      | none => { r with s := noteAccess (columnPid r.s x.col) a r.s, status := 0x07, aux := 3 }
      | some _ =>
        let v := bad z (noteAccess (columnPid r.s x.col) a r.s, r.tally)
        runSeqs x f bad l { r with s := noteSeqFault x z 3 a.addr v.1, tally := v.2 }
    | .error (.seq cause a) =>
      match z.place with
      | none => { r with status := 0x0B, aux := cause }
      | some _ =>
        let v := bad z (r.s, r.tally)
        runSeqs x f bad l { r with s := noteSeqFault x z cause a v.1, tally := v.2 }

/-- The sequences a command works on: the batch, or the one its operands name. -/
def seqsOf (s : State) (x : Ctx) (batch : Bool) (hdr pos tokens : Nat) : List KvSeq :=
  if batch then batchSeqs s x else [⟨none, x.tid, hdr, pos, tokens, 0, x.q⟩]

def totalTokens (l : List KvSeq) : Nat := (l.map (·.tokens)).foldl (· + ·) 0

/-- KVAPPEND on its engine. -/
def runAppend (x : Ctx) (b : Bytes) (s : State) : State :=
  let ko := opdOf (u64 b 8); let vo := opdOf (u64 b 16)
  let batch := bit (u8 b 42) 2
  let raw := bits (u8 b 39) 0 5 * (32 * (bits (u8 b 40) 0 3 + 1)) * 2
  let l := seqsOf s x batch (u64 b 24) (u32 b 32) (u16 b 36)
  let n := totalTokens l
  if u16 b 36 < n then engineDone x b { status := 0x03 } s
  else
    let kv := readOpd s x ko (n * raw); let vv := readOpd s x vo (n * raw)
    let s := noteReads x [(ko, n * raw), (vo, n * raw)] s
    let st := worstOf [kv.1, vv.1]
    if st ≠ 0 then engineDone x b { status := st } s
    else
      let r := runSeqs x (appendSeq x b kv.2 vv.2 (if batch then some (u32 b 32) else none)) (fun _ v => v) l { s := s, tally := ({} : KvTally) }
      let s := ((r.s.inc (KV_TOKENS x.col) r.tally.tokens).inc (KV_IXWR x.col) r.tally.ix).inc (KV_NANBLK x.col) r.tally.nanBlk
      engineDone x b { status := r.status, led := r.tally.led, aux := r.aux } s

/-- KVAPPEND. -/
def execKvappend (q c : Nat) (s : State) : Out :=
  .next (match engineCmd s q c 1 0x41 with | none => s | some (x, b) => runAppend x b s)

/-! ### ATTN: its fields -/

/-- The fields of an ATTN (R504). -/
structure Attn where
  hq : Nat
  hkv : Nat
  d : Nat
  gfirst : Nat
  gcount : Nat
  layer : Nat
  staged : Bool
  select : Bool
  batch : Bool
  sh : Bool
  causal : Bool
  fp : Bool
  nsink : Nat
  nrecent : Nat
  topp : Nat
  scale : Nat
  deriving DecidableEq, Repr

def attnOf (b : Bytes) : Attn where
  hq := u8 b 47
  hkv := bits (u8 b 48) 0 5
  d := 32 * (bits (u8 b 50) 0 3 + 1)
  gfirst := bits (u8 b 49) 0 4
  gcount := bits (u8 b 49) 4 4 + 1
  layer := u8 b 46
  staged := bit (u8 b 52) 0
  select := bit (u8 b 52) 1
  batch := bit (u8 b 52) 2
  sh := bit (u8 b 52) 3
  causal := bit (u8 b 52) 4
  fp := bit (u8 b 52) 5
  nsink := u16 b 54
  nrecent := u16 b 60
  topp := u16 b 62
  scale := u32 b 56

namespace Attn
/-- Query heads of a key-value head; the covered query heads. -/
def per (v : Attn) : Nat := v.hq / max 1 v.hkv
def heads (v : Attn) : List Nat := (List.range (v.gcount * v.per)).map (v.gfirst * v.per + ·)
end Attn

/-- What an ATTN collects: rows, visits, omissions, empty and NaN rows, evaluations, the ledger of pages read, whether a page was
omitted, and the largest omitted-mass bound as FP32. -/
structure AttnTally where
  rows : Nat := 0
  pages : Nat := 0
  left : Nat := 0
  empty : Nat := 0
  nans : Nat := 0
  fu : Fu := {}
  led : Ledger := {}
  sel : Bool := false
  mass : Nat := 0
  out : List (Nat × Bytes) := []
  scores : List (Nat × Bytes) := []
  deriving DecidableEq, Repr

/-! ### Pages of a row (R507, R512) -/

/-- Insert a page by coarse score: a NaN counts as highest, a tie goes to the lower page. -/
def insertPage (x : Nat × Nat) : List (Nat × Nat) → List (Nat × Nat)
  | [] => [x]
  | y :: l =>
    let before := if isNan32 x.2 then !isNan32 y.2 || decide (x.1 < y.1)
      else !isNan32 y.2 && (flt y.2 x.2 || (!flt x.2 y.2 && decide (x.1 < y.1)))
    if before then x :: y :: l else y :: insertPage x l

/-- The coarse score of a page for a key-value head, over its query heads, and RMAX (R497, R512). -/
def coarse (s : State) (t : Nat) (h : KvHdr) (layer g : Nat) (qs : List (List Num)) (lp : Nat) : Except KvErr (Nat × Nat) :=
  match kvRead s t (indexAddr h layer lp g) (indexBytes h.d) with
  | .error e => .error e
  | .ok e =>
    let cs := bf16 (u16 e h.d)
    let c := (List.range h.d).map fun i => (Num.ofInt (signed 8 (u8 e i))).mul cs
    let l := qs.map fun q => dotFloat 0 q c
    .ok (if anyNan l then nan32 else l.foldl max32 ninf32, u16 e (h.d + 2))

/-- The pages a row visits, and the RMAX of the pages it omits, both in ascending page order; `n` is the number of pages that hold a
visible position (R512). -/
def pickPages (s : State) (t : Nat) (h : KvHdr) (v : Attn) (g n : Nat) (qs : List (List Num)) :
    Except KvErr (List Nat × List Nat) :=
  if !v.select then .ok (List.range n, [])
  else
    let fixed := fun p => decide (p < v.nsink) || decide (n ≤ p + v.nrecent)
    let cand := (List.range n).filter fun p => !fixed p
    match cand.mapM fun p => (coarse s t h v.layer g qs p).map fun c => (p, c) with
    | .error e => .error e
    | .ok l =>
      let order := l.foldl (fun acc e => insertPage (e.1, e.2.1) acc) []
      let sel := (order.take v.topp).map (·.1)
      .ok ((List.range n).filter fun p => fixed p || sel.contains p, (l.filter fun e => !sel.contains e.1).map fun e => e.2.2)

/-! ### One row (R508, R509, R511) -/

/-- A visited page as a row sees it: its keys, its values, and how many of its tokens are visible. -/
structure PageView where
  lp : Nat
  keys : List (List Num)
  vals : List (List Num)
  vis : Nat
  led : Ledger
  deriving DecidableEq, Repr

/-- Read a visited page; only visible tokens are looked at. -/
def viewPage (s : State) (t : Nat) (h : KvHdr) (v : Attn) (g limit lp : Nat) : Except KvErr PageView :=
  match readPart s t h v.layer lp g with
  | .error e => .error e
  | .ok (fmt, part) =>
    let vis := min 64 (limit - 64 * lp)
    .ok
      { lp := lp
        keys := (List.range vis).map (kvRow fmt v.d part false)
        vals := (List.range vis).map (kvRow fmt v.d part true)
        vis := vis
        led := pageLedger fmt v.d part [false, true] (List.range vis) }

/-- The 64 scores of a page; a token that is not visible scores -Inf. -/
def pageScores (scale : Nat) (q : List Num) (p : PageView) : List Nat :=
  p.keys.map (fun k => fmul (dotFloat 0 q k) scale) ++ List.replicate (64 - p.vis) ninf32

/-- The weighted sum of a page's values for element `i` (R508, R483). -/
def weighted (es : List Nat) (p : PageView) (i : Nat) : Nat :=
  rowSum ((List.zipWith (fun e (r : List Num) => f32 (rne32 ((f32 e).mul (r.getD i .nan)))) es p.vals))

/-- The running maximum, sum and values of fused mode. -/
structure Running where
  m : Nat := ninf32
  l : Nat := 0
  a : List Nat
  fu : Fu := {}
  deriving DecidableEq, Repr

/-- One page of fused mode (R508). -/
def fusedPage (v : Attn) (q : List Num) (r : Running) (p : PageView) : Running :=
  let sc := pageScores v.scale q p
  let m1 := sc.foldl max32 r.m
  if m1 = ninf32 then r
  else
    let c := expF v.sh (fsub r.m m1)
    let es := sc.map fun x => expF v.sh (fsub x m1)
    let e := es.map (·.1)
    { m := m1
      l := fadd (fmul r.l c.1) (rowSum (e.map f32))
      a := r.a.mapIdx fun i a => fadd (fmul a c.1) (weighted e p i)
      fu := (r.fu.add c.2).add (sumFu (es.map (·.2))) }

/-- The result of a row: its values, the final maximum and sum, its evaluations, and its scores in staged mode. -/
structure RowOut where
  o : List Nat
  m : Nat
  l : Nat
  fu : Fu
  empty : Bool
  scores : List Nat := []
  deriving DecidableEq, Repr

/-- Fused mode (R508, R509). -/
def fusedRow (v : Attn) (q : List Num) (ps : List PageView) : RowOut :=
  let r := ps.foldl (fusedPage v q) { a := List.replicate v.d 0 }
  if r.m = ninf32 then ⟨List.replicate v.d 0, r.m, r.l, r.fu, true, []⟩
  else
    let z := recipF v.sh r.l
    ⟨r.a.map fun a => fmul a z.1, r.m, r.l, r.fu.add z.2, false, []⟩

/-- The scores of a row over all positions of the context, by page (R511). -/
def rowScores (v : Attn) (q : List Num) (ctx : Nat) (ps : List PageView) : List Nat :=
  (((List.range (ceilDiv ctx 64)).map fun lp =>
    match ps.find? (·.lp == lp) with
    | some p => pageScores v.scale q p
    | none => List.replicate 64 ninf32).flatten).take ctx

/-- Staged mode (R511): the scores, the row soft maximum, and the weighted values. -/
def stagedRow (v : Attn) (q : List Num) (ctx : Nat) (ps : List PageView) : RowOut :=
  let sc := rowScores v q ctx ps
  let soft := softRow v.sh one32 sc
  if soft.2.2 then ⟨List.replicate v.d 0, ninf32, 0, soft.2.1, true, sc⟩
  else
    let m := sc.foldl max32 ninf32
    let l := rowSum ((sc.map fun x => (expF v.sh (fsub x m)).1).map f32)
    let o := (List.range v.d).map fun i => rowSum (ps.flatMap fun p => (List.range 64).map fun t =>
      match (p.vals[t]?).bind (·[i]?) with
      | some x => f32 (rne32 ((f32 (soft.1.getD (64 * p.lp + t) 0)).mul x))
      | none => .fin false 0 0)
    ⟨o, m, l, soft.2.1, false, sc⟩

/-! ### The omitted-mass bound (R513) -/

/-- Multiply by an exact factor n · 2^-e / 10^5 and round up or down. -/
def scaleUp (x : Nat) (n : Nat) (e : Int) : Nat := divUp 24 ((f32 x).mul (.fin false n (-e))) (.fin false 100000 0)
def scaleDown (x : Nat) (n : Nat) (e : Int) : Nat := divTo 24 .down ((f32 x).mul (.fin false n (-e))) (.fin false 100000 0)

/-- The bound B of a row as FP32, and the evaluations it made. `scores` are the visited visible scores. A bound that is
no number is 1 (log 104). -/
def omittedMass (v : Attn) (q : List Num) (m l : Nat) (scores rmax : List Nat) : Nat × Fu :=
  let big := scores.any fun x => flt 0x44800000 (fabs x)
  let norm := normUp q
  let up := fun (a b : Nat) => roundUp 24 ((f32 a).mul (f32 b))
  let es := rmax.map fun r =>
    let u := up (up v.scale norm) (rne32 (bf16 r))
    let x := (f32 u).sub (f32 m)
    expF v.sh (if x.neg? then roundTo 24 .up x else roundUp 24 x)
  let er : Nat × Nat × Int := if v.sh then (100000 * (2 ^ 22 + 1), 100000 * (2 ^ 22 - 1 - 2 ^ 10), 22) else (100095 * 2 ^ 12, (99905 * 2 ^ 12 - 100000), 12)
  let w := es.foldl (fun acc e =>
    roundUp 24 ((f32 acc).add (f32 (scaleUp (roundUp 24 ((f32 e.1).mul (.fin false 64 0))) er.1 er.2.2)))) 0
  let low := scaleDown l er.2.1 er.2.2
  let b := divUp 24 (f32 w) (f32 (roundDown 24 ((f32 low).add (f32 w))))
  (if big || w == inf32 || isNan32 b || flt one32 b then one32 else b, sumFu (es.map (·.2)))

/-! ### Rows of a command -/

/-- One query row of one head. -/
def attnRow (s : State) (z : KvSeq) (h : KvHdr) (v : Attn) (g : Nat) (qs : List (List Num)) (q : List Num) (limit ctx : Nat) :
    Except KvErr (RowOut × AttnTally) :=
  match pickPages s z.tid h v g (ceilDiv limit 64) qs with
  | .error e => .error e
  | .ok (pages, omitted) =>
    match pages.mapM (viewPage s z.tid h v g limit) with
    | .error e => .error e
    | .ok ps =>
      let nan := q.any Num.isNan || ps.any fun p => p.keys.any (·.any Num.isNan) || p.vals.any (·.any Num.isNan)
      let r := if v.staged then stagedRow v q ctx ps else fusedRow v q ps
      let o := if nan then List.replicate v.d nan32 else r.o
      let led := ps.foldl (fun a p => a.merge p.led) ({} : Ledger)
      let bounded := !omitted.isEmpty && !nan && o.all fun x => (f32 x).isFinite
      let sc := ps.flatMap fun p => (pageScores v.scale q p).take p.vis
      let b := if bounded then omittedMass v q r.m r.l sc omitted else (0, {})
      .ok ({ r with o := o },
        { rows := 1, pages := pages.length, left := omitted.length, empty := ofBool (r.empty && !nan), nans := ofBool nan
          fu := r.fu.add b.2, led := led, sel := !omitted.isEmpty, mass := b.1 })

def AttnTally.add (a b : AttnTally) : AttnTally :=
  { rows := a.rows + b.rows, pages := a.pages + b.pages, left := a.left + b.left, empty := a.empty + b.empty, nans := a.nans + b.nans
    fu := a.fu.add b.fu, led := a.led.merge b.led, sel := a.sel || b.sel, mass := max a.mass b.mass
    out := a.out ++ b.out, scores := a.scores ++ b.scores }

/-- The words of a row in OTYPE. -/
def attnWords (v : Attn) (o : List Nat) : Bytes :=
  (o.map fun x => if v.fp then leBytes 4 (plain32 x) else leBytes 2 (rne16 (f32 x))).flatten

/-- The rows of one query token: every covered head; the part of O they make, and their scores. -/
def attnToken (s : State) (z : KvSeq) (h : KvHdr) (v : Attn) (qrow : Bytes) (nq i : Nat) : Except KvErr AttnTally :=
  let ctx := z.pos + z.tokens
  let limit := if v.causal then z.pos + i + 1 else ctx
  let qh := fun hd => (List.range v.d).map fun e => bf16 (u16 qrow (2 * (hd * v.d + e)))
  match v.heads.mapM fun hd =>
    let g := hd / max 1 v.per
    (attnRow s z h v g ((List.range v.per).map fun j => qh (g * v.per + j)) (qh hd) limit ctx).map fun r => (hd, r) with
  | .error e => .error e
  | .ok l =>
    let t := l.foldl (fun a e => a.add e.2.2) ({} : AttnTally)
    let esz := if v.fp then 4 else 2
    let part : Nat × Bytes := ((z.row + i) * (v.hq * v.d * esz) + v.gfirst * v.per * v.d * esz, (l.map fun e => attnWords v e.2.1.o).flatten)
    let sp := pitchOf (4 * ctx)
    .ok { t with
      out := [part]
      scores := if v.staged then l.map fun e => ((e.1 * nq + i) * sp, padTo sp ((e.2.1.scores.map (leBytes 4)).flatten)) else [] }

/-- The rows of one sequence. -/
def attnSeq (b : Bytes) (v : Attn) (q : Bytes) (maxctx : Option Nat) (z : KvSeq) (r : State × AttnTally) :
    Except KvErr (State × AttnTally) :=
  match readHdr r.1 z.tid z.hdr v.hkv v.d v.layer with
  | .error e => .error e
  | .ok h =>
    if maxctx.any (fun m => decide (m < z.pos + z.tokens)) ∨ h.maxpg * 64 < z.pos + z.tokens then .error (.seq 4 z.hdr)
    else
      let rq := v.hq * v.d * 2
      match (List.range z.tokens).mapM fun i => attnToken r.1 z h v (slice q ((z.row + i) * rq) rq) (u16 b 44) i with
      | .error e => .error e
      | .ok l => .ok (r.1, l.foldl AttnTally.add r.2)

/-- The rows of a sequence that met a fault: +0 in every covered head (R518). -/
def zeroRows (v : Attn) (z : KvSeq) (r : State × AttnTally) : State × AttnTally :=
  let esz := if v.fp then 4 else 2
  (r.1, { r.2 with out := r.2.out ++ (List.range z.tokens).map fun i =>
    ((z.row + i) * (v.hq * v.d * esz) + v.gfirst * v.per * v.d * esz, zeros (v.gcount * v.per * v.d * esz)) })

/-- The ledger of an ATTN (R514). -/
def attnLedger (t : AttnTally) : Ledger :=
  (t.led.merge (fuLedger t.fu)).merge (if t.sel then { stages := 4, selMass := roundUp 8 (f32 t.mass) } else {})

/-- The counters of an ATTN. -/
def attnCount (c : Nat) (t : AttnTally) (s : State) : State :=
  let s := (((s.inc (ATT_ROWS c) t.rows).inc (ATT_PAGES c) t.pages).inc (ATT_OMIT c) t.left).inc (ATT_EMPTY c) t.empty
  let s := fuCount c t.fu 0 (s.inc (ATT_NAN c) t.nans)
  if t.sel then s.wr (ATT_SELMAX c) (max (s.rd (ATT_SELMAX c)) (roundUp 8 (f32 t.mass))) else s

/-- ATTN on its engine. -/
def runAttn (x : Ctx) (b : Bytes) (s : State) : State :=
  let v := attnOf b
  let qo := opdOf (u64 b 8); let o := opdOf (u64 b 16); let sb := opdOf (u64 b 32)
  let pos := positions [qo]
  let l := seqsOf s x v.batch (u64 b 24) (u32 b 40) (u16 b 44)
  let n := totalTokens l
  let rq := v.hq * v.d * 2
  let done := fun (st aux : Nat) (led : Ledger) (s : State) =>
    engineDone x b { status := st, aux := aux, led := (takeLedger s x.q pos).merge led, ref := takeRef s x.q pos } s
  if !takeFresh s x.q pos then endStale x b s
  else if u16 b 44 < n then done 0x03 0 {} s
  else
    let qv := readOpd s x qo (n * rq)
    let s := noteReads x [(qo, n * rq)] s
    if qv.1 ≠ 0 then done qv.1 0 {} s
    else
      let r := runSeqs x (attnSeq b v qv.2 (if v.batch then some (u32 b 40) else none)) (zeroRows v) l { s := s, tally := ({} : AttnTally) }
      if r.status ≠ 0 then done r.status r.aux (attnLedger r.tally) r.s
      else
        let w1 := writeParts x sb r.tally.scores r.s
        let w2 := writeParts x o r.tally.out w1.2
        done (worse w1.1 w2.1) 0 (attnLedger r.tally) (attnCount x.col r.tally w2.2)

/-- ATTN. -/
def execAttn (q c : Nat) (s : State) : Out :=
  .next (match engineCmd s q c 1 0x40 with | none => s | some (x, b) => runAttn x b s)

/-! ### KVTOK (R519) -/

/-- The token identifiers one sequence contributes, or takes. -/
def tokSeq (x : Ctx) (scatter : Bool) (buf : Bytes) (z : KvSeq) (r : State × (List Bytes × Nat)) : Except KvErr (State × (List Bytes × Nat)) :=
  match kvRead r.1 z.tid z.hdr 64 with
  | .error e => .error e
  | .ok hb =>
    let h := kvHdr z.hdr hb
    if scatter then
      if h.maxpg * 64 ≤ z.pos + z.tokens then .error (.seq 4 z.hdr)
      else match kvWrite (columnPid r.1 x.col) z.tid (h.tokbuf + 4 * (z.pos + z.tokens)) (slice buf (4 * r.2.2) 4) r.1 with
        | .error e => .error e
        | .ok s => .ok (s, (r.2.1, r.2.2 + 1))
    else
      if h.maxpg * 64 < z.pos + z.tokens then .error (.seq 4 z.hdr)
      else match kvRead r.1 z.tid (h.tokbuf + 4 * z.pos) (4 * z.tokens) with
        | .error e => .error e
        | .ok t => .ok (r.1, (r.2.1 ++ [t], r.2.2 + 1))

/-- KVTOK on its engine. -/
def runTok (x : Ctx) (b : Bytes) (s : State) : State :=
  let o := opdOf (u64 b 8)
  let scatter := bit (u8 b 16) 0
  let l := batchSeqs s x
  let n := if scatter then 4 * l.length else 0
  let bv := if scatter then readOpd s x o n else (0, [])
  let s := if scatter then noteReads x [(o, n)] s else s
  if bv.1 ≠ 0 then engineDone x b { status := bv.1 } s
  else
    let bad := fun (z : KvSeq) (r : State × (List Bytes × Nat)) => (r.1, (r.2.1 ++ [zeros (if scatter then 0 else 4 * z.tokens)], r.2.2 + 1))
    let r := runSeqs x (tokSeq x scatter bv.2) bad l { s := s, tally := ([], 0) }
    if r.status ≠ 0 then engineDone x b { status := r.status } r.s
    else if scatter then engineDone x b {} r.s
    else
      let w := writeOpd x o 0 r.tally.1.flatten r.s
      engineDone x b { status := w.1 } w.2

/-- KVTOK: gathers or scatters the token identifiers of a flock step. -/
def execKvtok (q c : Nat) (s : State) : Out :=
  .next (match engineCmd s q c 1 0x44 with | none => s | some (x, b) => runTok x b s)

/-! ### FLOCKREQ (R417, R424, R515) -/

/-- A validated flock request at the head of its queue takes its entry, if that is FREE, and the sequence becomes QUEUED. -/
def takeSequence (q : Nat) (c : Bytes) (s : State) : State :=
  let t := s.rd (Q_CFG_TID q)
  let i := (seqRange s t).1 + u16 c 10
  let f := bits (u8 c 8) 0 5
  if s.drv.seqs.any (·.idx == i) then s
  else
    let entry := leBytes 1 1 ++ leBytes 1 0 ++ leBytes 2 t ++ leBytes 2 f ++ leBytes 2 q ++ leBytes 4 (u32 c 12) ++ leBytes 4 (u32 c 20) ++
      leBytes 4 (u32 c 16) ++ leBytes 4 (u64 c 24 / 64) ++ zeros 40
    let n := s.rd (Q_SQ_PTR_HEAD q)
    let s := startHead q 14 6 c s
    let s := putSeq i 0 entry s
    admitFlock f { s with drv := { s.drv with seqs := s.drv.seqs ++ [⟨i, f, q, n, s.mono⟩] } }

/-- FLOCKREQ. -/
def execFlockreq (q : Nat) (s : State) : Out :=
  .next (match headIs s q 1 0x48 with | none => s | some c => takeSequence q c s)

/-- ATT_SELMAX_READ: the read returns the value and clears it (R10, R11, R514). -/
def execAttSelmaxRead (w : Writer) (e : Nat) (s : State) : Out := .next (readClear w (ATT_SELMAX (e % 8)) s)

end Sys2Proof.Machine
end

