-- ==== Sys2Proof/Machine/Crypto.lean ====
section
/-! DEFINITION. SHA-384 and the verification of ECDSA P-384 signatures (R757), as FIPS 180-4 and FIPS 186-5 define them (PRESUMED,
log 80), and the key and digest numbers of R754. -/

namespace Sys2Proof.Machine

/-! ### SHA-384 -/

def w64 (n : Nat) : Nat := n % 2 ^ 64
def rotr64 (n k : Nat) : Nat := n / 2 ^ k + n % 2 ^ k * 2 ^ (64 - k)

/-- The round constants. -/
def shaK : List Nat :=
  [0x428A2F98D728AE22, 0x7137449123EF65CD, 0xB5C0FBCFEC4D3B2F, 0xE9B5DBA58189DBBC, 0x3956C25BF348B538,
   0x59F111F1B605D019, 0x923F82A4AF194F9B, 0xAB1C5ED5DA6D8118, 0xD807AA98A3030242, 0x12835B0145706FBE,
   0x243185BE4EE4B28C, 0x550C7DC3D5FFB4E2, 0x72BE5D74F27B896F, 0x80DEB1FE3B1696B1, 0x9BDC06A725C71235,
   0xC19BF174CF692694, 0xE49B69C19EF14AD2, 0xEFBE4786384F25E3, 0x0FC19DC68B8CD5B5, 0x240CA1CC77AC9C65,
   0x2DE92C6F592B0275, 0x4A7484AA6EA6E483, 0x5CB0A9DCBD41FBD4, 0x76F988DA831153B5, 0x983E5152EE66DFAB,
   0xA831C66D2DB43210, 0xB00327C898FB213F, 0xBF597FC7BEEF0EE4, 0xC6E00BF33DA88FC2, 0xD5A79147930AA725,
   0x06CA6351E003826F, 0x142929670A0E6E70, 0x27B70A8546D22FFC, 0x2E1B21385C26C926, 0x4D2C6DFC5AC42AED,
   0x53380D139D95B3DF, 0x650A73548BAF63DE, 0x766A0ABB3C77B2A8, 0x81C2C92E47EDAEE6, 0x92722C851482353B] ++
  [0xA2BFE8A14CF10364, 0xA81A664BBC423001, 0xC24B8B70D0F89791, 0xC76C51A30654BE30, 0xD192E819D6EF5218,
   0xD69906245565A910, 0xF40E35855771202A, 0x106AA07032BBD1B8, 0x19A4C116B8D2D0C8, 0x1E376C085141AB53,
   0x2748774CDF8EEB99, 0x34B0BCB5E19B48A8, 0x391C0CB3C5C95A63, 0x4ED8AA4AE3418ACB, 0x5B9CCA4F7763E373,
   0x682E6FF3D6B2B8A3, 0x748F82EE5DEFB2FC, 0x78A5636F43172F60, 0x84C87814A1F0AB72, 0x8CC702081A6439EC,
   0x90BEFFFA23631E28, 0xA4506CEBDE82BDE9, 0xBEF9A3F7B2C67915, 0xC67178F2E372532B, 0xCA273ECEEA26619C,
   0xD186B8C721C0C207, 0xEADA7DD6CDE0EB1E, 0xF57D4F7FEE6ED178, 0x06F067AA72176FBA, 0x0A637DC5A2C898A6,
   0x113F9804BEF90DAE, 0x1B710B35131C471B, 0x28DB77F523047D84, 0x32CAAB7B40C72493, 0x3C9EBE0A15C9BEBC,
   0x431D67C49C100D4C, 0x4CC5D4BECB3E42B6, 0x597F299CFC657E2A, 0x5FCB6FAB3AD6FAEC, 0x6C44198C4A475817]

/-- The initial hash value of SHA-384. -/
def shaInit : List Nat :=
  [0xCBBB9D5DC1059ED8, 0x629A292A367CD507, 0x9159015A3070DD17, 0x152FECD8F70E5939, 0x67332667FFC00B31,
   0x8EB44A8768581511, 0xDB0C2E0D64F98FA7, 0x47B5481DBEFA4FA4]

/-- Big-endian value of bytes, and back. -/
def beValue (b : Bytes) : Nat := b.foldl (fun a x => a * 256 + x.toNat) 0
def beBytes (k n : Nat) : Bytes := (leBytes k n).reverse

/-- The padded message: a 1 bit, zeros, and the length in bits as 128 bits. -/
def shaPad (m : Bytes) : Bytes :=
  m ++ [0x80] ++ zeros ((111 + 128 - m.length % 128) % 128) ++ beBytes 16 (8 * m.length)

/-- The next word of the message schedule, the words so far newest first. -/
def shaNext (w : List Nat) : Nat :=
  let at_ := fun i => w.getD i 0
  let s0 := fun x => rotr64 x 1 ^^^ rotr64 x 8 ^^^ (x / 2 ^ 7)
  let s1 := fun x => rotr64 x 19 ^^^ rotr64 x 61 ^^^ (x / 2 ^ 6)
  w64 (s1 (at_ 1) + at_ 6 + s0 (at_ 14) + at_ 15)

/-- The 80 schedule words of a block, in order. -/
def shaSchedule (block : Bytes) : List Nat :=
  (Nat.repeat (fun w => shaNext w :: w) 64 ((List.range 16).map fun i => beValue (slice block (8 * i) 8)).reverse).reverse

/-- One round on the eight working words. -/
def shaRound (v : List Nat) (kw : Nat × Nat) : List Nat :=
  match v with
  | [a, b, c, d, e, f, g, h] =>
    let s1 := rotr64 e 14 ^^^ rotr64 e 18 ^^^ rotr64 e 41
    let ch := (e &&& f) ^^^ ((2 ^ 64 - 1 - e) &&& g)
    let t1 := h + s1 + ch + kw.1 + kw.2
    let s0 := rotr64 a 28 ^^^ rotr64 a 34 ^^^ rotr64 a 39
    let maj := (a &&& b) ^^^ (a &&& c) ^^^ (b &&& c)
    [w64 (t1 + s0 + maj), a, b, c, w64 (d + t1), e, f, g]
  | v => v

/-- One block. -/
def shaBlock (h : List Nat) (block : Bytes) : List Nat :=
  List.zipWith (fun x y => w64 (x + y)) h ((shaK.zip (shaSchedule block)).foldl shaRound h)

/-- The SHA-384 digest of bytes. -/
def sha384 (m : Bytes) : Bytes :=
  let p := shaPad m
  let h := (List.range (p.length / 128)).foldl (fun h i => shaBlock h (slice p (128 * i) 128)) shaInit
  (h.take 6).flatMap (beBytes 8)

/-! ### P-384 -/

def p384 : Nat := 2 ^ 384 - 2 ^ 128 - 2 ^ 96 + 2 ^ 32 - 1
def p384b : Nat := 0xB3312FA7E23EE7E4988E056BE3F82D19181D9C6EFE8141120314088F5013875AC656398D8A2ED19D2A85C8EDD3EC2AEF
def p384n : Nat := 0xFFFFFFFFFFFFFFFFFFFFFFFFFFFFFFFFFFFFFFFFFFFFFFFFC7634D81F4372DDF581A0DB248B0A77AECEC196ACCC52973
def p384gx : Nat := 0xAA87CA22BE8B05378EB1C71EF320AD746E1D3B628BA79B9859F741E082542A385502F25DBF55296C3A545E3872760AB7
def p384gy : Nat := 0x3617DE4A96262C6F5D9E98BF9292DC29F8F41DBD289A147CE9DA3113B5F0B8C00A60B1CE1D7E819D7A431D7C90EA0E5F

/-- x^e mod m, over the `k` low bits of e. -/
def powMod (m : Nat) : Nat → Nat → Nat → Nat
  | 0, _, _ => 1 % m
  | k + 1, x, e => (if e % 2 = 1 then x else 1) * powMod m k (x * x % m) (e / 2) % m

/-- The inverse modulo a prime of at most 384 bits. -/
def invMod (m x : Nat) : Nat := powMod m 384 (x % m) (m - 2)

/-- A point of the curve; none is the point at infinity. -/
abbrev Point := Option (Nat × Nat)

def onCurve (x y : Nat) : Bool :=
  decide (x < p384) && decide (y < p384) && y * y % p384 == (x * x * x + (p384 - 3) * x + p384b) % p384

/-- Point addition. -/
def pointAdd : Point → Point → Point
  | none, b => b
  | a, none => a
  | some (x1, y1), some (x2, y2) =>
    if x1 = x2 ∧ (y1 + y2) % p384 = 0 then none
    else
      let l := if x1 = x2 then (3 * x1 * x1 + (p384 - 3)) * invMod p384 (2 * y1) % p384
        else (y2 + p384 - y1) * invMod p384 (x2 + p384 - x1) % p384
      let x := (l * l + 2 * p384 - x1 - x2) % p384
      some (x, (l * (x1 + p384 - x) + p384 - y1) % p384)

/-- k · a, over the `n` low bits of k. -/
def pointMul : Nat → Nat → Point → Point
  | 0, _, _ => none
  | n + 1, k, a => pointAdd (if k % 2 = 1 then a else none) (pointMul n (k / 2) (pointAdd a a))

/-- ECDSA verification of (r, s) on a digest with the key (x, y) (R757). -/
def ecdsaOk (x y r s : Nat) (digest : Bytes) : Bool :=
  if !onCurve x y || r == 0 || s == 0 || decide (p384n ≤ r) || decide (p384n ≤ s) then false
  else
    let w := invMod p384n s
    let e := beValue digest
    match pointAdd (pointMul 384 (e * w % p384n) (some (p384gx, p384gy))) (pointMul 384 (r * w % p384n) (some (x, y))) with
    | none => false
    | some (px, _) => px % p384n == r

/-- A signature `r` then `s`, 96 bytes, on a message, with a 96-byte key `x` then `y` (R754, R757). -/
def signatureOk (key sig msg : Bytes) : Bool :=
  ecdsaOk (beValue (slice key 0 48)) (beValue (slice key 48 48)) (beValue (slice sig 0 48)) (beValue (slice sig 48 48)) (sha384 msg)

end Sys2Proof.Machine
end

