-- ==== Sys2Proof/Machine/Otp.lean ====
section
/-! DEFINITION. The OTP (28.2): its layout, the owner slots, the anti-rollback counter, and the queue of programs. -/

namespace Sys2Proof.Machine
open Reg

/-- `n` bytes of the OTP; unprogrammed bits read 0 (R753). -/
def ldOtp (s : State) (a n : Nat) : Bytes := readMem s.otp 0 a n

/-- Programming sets bits and clears none (R753). -/
def progOtp (a : Nat) (b : Bytes) (s : State) : State :=
  { s with otp := writeMem s.otp 0 a (List.zipWith (· ||| ·) (ldOtp s a b.length) b) }

/-- DIE_ID, the CFG word, an owner key (R753). -/
def dieId (s : State) : Nat := leNat (ldOtp s 0 8)
def otpCfg (s : State) : Nat := leNat (ldOtp s 8 8)
def ownKey (s : State) (k : Nat) : Bytes := ldOtp s (0x40 + 0x60 * k) 96

/-- R754: an owner slot is usable. -/
def slotUsable (s : State) (k : Nat) : Bool := decide (k < 4) && leNat (ownKey s k) != 0 && !bit (otpCfg s) (8 + k)

/-- The slot may sign debug responses (R753). -/
def slotDebug (s : State) (k : Nat) : Bool := decide (k < 4) && bit (otpCfg s) (12 + k)

/-- The V and C words of an ARB entry; it is used, and valid (R755). -/
def arbV (s : State) (e : Nat) : Nat := leNat (ldOtp s (0x200 + 16 * e) 8)
def arbC (s : State) (e : Nat) : Nat := leNat (ldOtp s (0x208 + 16 * e) 8)
def arbUsedAt (s : State) (e : Nat) : Bool := arbV s e != 0 || arbC s e != 0
def arbValid (s : State) (e : Nat) : Bool := arbC s e == 2 ^ 64 - 1 - arbV s e

/-- The anti-rollback counter: V of the highest valid entry (R755). -/
def arbCounter (s : State) : Nat :=
  match (List.range 128).reverse.find? (arbValid s) with
  | some e => arbV s e
  | none => 0

/-- Used entries, and the entry after the last used one (R756). -/
def arbUsed (s : State) : Nat := ((List.range 128).filter (arbUsedAt s)).length
def arbNext (s : State) : Nat :=
  match (List.range 128).reverse.find? (arbUsedAt s) with
  | some e => e + 1
  | none => 0

/-- A signature in the layout of R57's block, by the owner key that KEYSEL names (R758). -/
def ownerSigned (s : State) (keysel : Nat) (sig msg : Bytes) : Bool := slotUsable s keysel && signatureOk (ownKey s keysel) sig msg

/-- Program the CONFIRM word of a flash slot (R46); no state-sector word is programmed once the drain has begun (2.14). -/
def programConfirm (p : Nat) (s : State) : State := if s.rd LIV_STATUS_STATE = 0 then s.progFlash p 0x0C (zeros 4) else s

/-- The next OTP program starts, unless the drain has begun (28.7). -/
def startOtp (s : State) : State :=
  let c := s.secu
  if !c.running ∧ c.progs ≠ [] ∧ s.rd LIV_STATUS_STATE = 0 then { s with secu := { c with running := true } } else s

/-- Ask for OTP programs (R761). -/
def askOtp (l : List OtpProg) (s : State) : State :=
  let c := s.secu
  startOtp { s with secu := { c with progs := c.progs ++ l } }

/-- Raise the anti-rollback counter to `a` when it is above the counter, then program CONFIRM of a flash slot where asked (R61, R756). -/
def raiseArb (a : Nat) (then_ : Option Nat) (s : State) : State :=
  let confirm := fun (t : State) => match then_ with | some p => programConfirm p t | none => t
  if a ≤ arbCounter s then confirm s
  else if arbNext s = 128 then confirm (post 0x1006 0x01 [a] (s.set SEC_STATUS_ARB_FULL))
  else askOtp [{ kind := 1, arg := a }, { kind := 2, arg := a, then_ := then_ }] s

/-- What an OTP program does when it is over. -/
def performOtp (o : OtpProg) (s : State) : State :=
  let s :=
    if o.kind = 0 then post 0x1007 0x01 [o.arg] (progOtp 8 (leBytes 8 (2 ^ (8 + o.arg))) s)
    else if o.kind = 1 then (if arbNext s < 128 then progOtp (0x200 + 16 * arbNext s) (leBytes 8 o.arg) s else s)
    else if 0 < arbNext s then progOtp (0x208 + 16 * (arbNext s - 1)) (leBytes 8 (2 ^ 64 - 1 - o.arg)) s else s
  match o.then_ with
  | some p => programConfirm p s
  | none => s

end Sys2Proof.Machine
end

