-- ==== Sys2Proof/Machine/Image.lean ====
section
/-! DEFINITION. The Lamarn image (2.3 to 2.6): the state sector, the header, the records, the signature block, and checks 2 to 13 of
R56. -/

namespace Sys2Proof.Machine
open Reg

/-! ### Where an image lies (R44, R729) -/

/-- `n` bytes of an image from offset `o`: of flash slot 0 (A) or 1 (B), or of the host image (2). -/
def imageLd (s : State) (c o n : Nat) : Bytes :=
  if c < 2 then s.ldFlash c (0x10000 + o) n else s.ldHost (s.rdPair HL_IMG_ADDR_LO HL_IMG_ADDR_HI + o) n

/-- The header of an image. -/
def headerOf (s : State) (c : Nat) : Bytes := imageLd s c 0 0x200

/-! ### Header fields (R48) -/

def imageLen (h : Bytes) : Nat := u64 h 0x08
def prefixLen (h : Bytes) : Nat := u64 h 0x10
def imageGen (h : Bytes) : Nat := u64 h 0x18
def imageArb (h : Bytes) : Nat := u64 h 0x20
def imageFlags (h : Bytes) : Nat := u32 h 0x2C
def rollbackAdvance (h : Bytes) : Bool := bit (imageFlags h) 0
def startGatePtp (h : Bytes) : Bool := bit (imageFlags h) 1
def trialMax (h : Bytes) : Nat := bits (imageFlags h) 2 3
def recordCount (h : Bytes) : Nat := u32 h 0x3C

/-! ### State sector (R46) -/

/-- A word of a slot's state sector: GENCOPY at 0 and 4, TRIES at 8, CONFIRM at 0xC, REJECT at 0x10. -/
def sectorWord (s : State) (c o : Nat) : Nat := leNat (s.ldFlash c o 4)

/-- CONFIRM and REJECT count as programmed unless they read erased (R46). -/
def slotConfirmed (s : State) (c : Nat) : Bool := sectorWord s c 0x0C != 2 ^ 32 - 1
def slotRejected (s : State) (c : Nat) : Bool := sectorWord s c 0x10 != 2 ^ 32 - 1

/-- GENCOPY is written and equals the header's GEN (R47, R730). -/
def genCopyMatches (s : State) (c : Nat) (h : Bytes) : Bool :=
  let g := leNat (s.ldFlash c 0 8)
  g == imageGen h && g != 2 ^ 64 - 1

/-- The TRIES bits a slot has left within TRIAL_MAX, and the one that is cleared next (R46, R56). -/
def triesFree (s : State) (c : Nat) (h : Bytes) : List Nat := (List.range (trialMax h)).filter (bit (sectorWord s c 8))

/-- BOOT_TRIES of a slot: 0xF when it is confirmed (2.15). -/
def triesField (c : Nat) : Field := if c = 0 then BOOT_TRIES_A_LEFT else BOOT_TRIES_B_LEFT
def showTries (c : Nat) (s : State) : State :=
  s.wr (triesField c) (if slotConfirmed s c then 0xF else (triesFree s c (headerOf s c)).length)

/-- The next TRIES bit is cleared (R59). -/
def clearTry (c : Nat) (s : State) : State :=
  match triesFree s c (headerOf s c) with
  | [] => s
  | i :: _ => showTries c (s.progFlash c 8 (leBytes 4 (2 ^ 32 - 1 - 2 ^ i)))

/-- REJECT is programmed. -/
def programReject (c : Nat) (s : State) : State := s.progFlash c 0x10 (zeros 4)

/-! ### Checks 2 to 9 (R56) -/

/-- The stepping of an image is loadable on this part (R5): 1 is A2, 2 is B1. -/
def steppingLoads (s : State) (t : Nat) : Bool := t == 1 || (t == 2 && s.fuse.stepping == 1)

/-- The largest IMAGE_LEN of an image: a slot holds 4 GiB less 64 KiB (R44), the host image what HL_IMG_LEN says (R729). -/
def imageRoom (s : State) (c : Nat) : Nat := if c < 2 then 2 ^ 32 - 2 ^ 16 else s.rdPair HL_IMG_LEN_LO HL_IMG_LEN_HI

/-- The code of the first of checks 2 to 6 and 9 that fails, checks 7 and 8 of a slot among them where `sector` says so; 0 when all pass
(R56, R729). -/
def headerCheck (s : State) (c : Nat) (h : Bytes) (sector : Bool) (room : Nat) : Nat :=
  if u32 h 0 ≠ 0x4E4D414C ∨ u16 h 4 ≠ 3 then 0x02
  else if crc32 (slice h 0 0x1FC) ≠ u32 h 0x1FC then 0x03
  else if !bit (u32 h 0x28) s.fuse.grade then 0x04
  else if !steppingLoads s (bits (u32 h 0x28) 4 4) then 0x05
  else if imageArb h < arbCounter s then 0x06
  else if sector ∧ (slotRejected s c ∨ !genCopyMatches s c h) then 0x07
  else if sector ∧ !slotConfirmed s c ∧ triesFree s c h = [] then 0x08
  else if imageLen h < prefixLen h + 256 ∨ room < imageLen h then 0x10
  else 0

/-! ### Checks 10 and 11 (R50, R758, R759) -/

/-- The bytes that PSIG signs: the prefix with PSIG and HDR_CRC taken as zero (R50). -/
def psigBytes (s : State) (c : Nat) (h : Bytes) : Bytes :=
  slice h 0 0x100 ++ zeros 96 ++ slice h 0x160 0x9C ++ zeros 4 ++ imageLd s c 0x200 (prefixLen h - 0x200)

def psigOk (s : State) (c : Nat) (h : Bytes) : Bool :=
  ownerSigned s (u32 h 0x160) (slice h 0x100 96) ((psigBytes s c h).take (prefixLen h))

/-- Check 11 on a FW payload: the Myell signature in its 112-byte trailer (R759). -/
def fwOk (s : State) (p : Bytes) : Bool :=
  let n := p.length - 112
  let mkid := u32 p n
  decide (112 ≤ p.length) && decide (mkid ≤ 1) && !(mkid == 0 && bit (otpCfg s) 2) && leNat (slice p (n + 4) 12) == 0 &&
    signatureOk (Config.myellKey mkid) (slice p (n + 16) 96) (p.take n)

/-- The first record's payload, where it is FW. -/
def fwPayload (s : State) (c : Nat) : Bytes :=
  let r := imageLd s c 0x200 32
  if u16 r 0 = 1 then imageLd s c 0x220 (min (u64 r 8) (prefixLen (headerOf s c))) else []

/-- The payload of the record that follows FW (R54): PLAT. Record headers stand on 64-byte boundaries (2.5). -/
def platPayload (s : State) (c : Nat) : Bytes :=
  let o := 0x200 + ceilDiv (32 + u64 (imageLd s c 0x200 32) 8) 64 * 64
  let r := imageLd s c o 32
  if u16 r 0 = 2 then imageLd s c (o + 32) (min (u64 r 8) (prefixLen (headerOf s c))) else []

/-! ### Records (R51) and check 12 -/

/-- A record from its header and its payload as stored; a CODED payload is decoded, none on a decode error (R308). -/
def makeRecord (r p : Bytes) : Option Record :=
  (if bit (u16 r 2) 0 then decodeStream p.length p else some p).map fun d =>
    { type := u16 r 0, flags := u16 r 2, island := u16 r 4, phase := u16 r 6, dest := u64 r 16, payload := d }

/-- The records of an image from offset `o`, `n` of them, none past `stop`; none where an HCRC, a PCRC or a decode fails. The next header
stands on the 64-byte boundary after the payload (2.5). -/
def readRecords (s : State) (c stop : Nat) : Nat → Nat → Option (List Record)
  | 0, _ => some []
  | n + 1, o =>
    let r := imageLd s c o 32
    let len := u64 r 8
    if stop < o + 32 + len ∨ crc32 (slice r 0 28) ≠ u32 r 28 then none
    else
      let p := imageLd s c (o + 32) len
      if crc32 p ≠ u32 r 24 then none
      else match makeRecord r p, readRecords s c stop n (o + ceilDiv (32 + len) 64 * 64) with
        | some x, some l => some (x :: l)
        | _, _ => none

/-- The records that stream in from offset `o` before a check of theirs fails; the payload whose PCRC turns out wrong has streamed in too (R64). -/
def streamedRecords (s : State) (c stop : Nat) : Nat → Nat → List Record
  | 0, _ => []
  | n + 1, o =>
    let r := imageLd s c o 32
    let len := u64 r 8
    if stop < o + 32 + len ∨ crc32 (slice r 0 28) ≠ u32 r 28 then []
    else
      let p := imageLd s c (o + 32) len
      match makeRecord r p with
      | none => []
      | some x => if crc32 p ≠ u32 r 24 then [x] else x :: streamedRecords s c stop n (o + ceilDiv (32 + len) 64 * 64)

/-- Where the records end: after the `n` records from offset `o`. -/
def recordsEnd (s : State) (c : Nat) : Nat → Nat → Nat
  | 0, o => o
  | n + 1, o => recordsEnd s c n (o + ceilDiv (32 + u64 (imageLd s c o 32) 8) 64 * 64)

/-- The records of an image (check 12). No image holds more records than 64-byte units. -/
def imageRecords (s : State) (c : Nat) (h : Bytes) : Option (List Record) :=
  if imageLen h < 64 * recordCount h then none else readRecords s c (imageLen h - 256) (recordCount h) 0x200

/-! ### Check 13 (R57, R758) -/

/-- The signature block holds the image's digest, and it is signed. -/
def imageSigned (s : State) (c : Nat) (h : Bytes) : Bool :=
  let n := imageLen h - 256
  let g := imageLd s c n 256
  let body := imageLd s c 0 n
  u32 g 0 == 0x4749534C && u32 g 4 == u32 h 0x160 && slice g 8 48 == sha384 body &&
    ownerSigned s (u32 g 4) (slice g 0x38 96) body

end Sys2Proof.Machine
end

