-- ==== Sys2Proof/Machine/Comparator.lean ====
section
/-! DEFINITION. The decision comparator and the Safety island's own commands (chapter 20). -/

namespace Sys2Proof.Machine
open Reg

/-! ### The checks of DCOMPARE (R571 to R576, R579) -/

/-- A record of a channel: its read's status and its 64 bytes. -/
def readRecord (s : State) (q : Nat) (ring slot : Nat) : Nat × Bytes := memRead s (s.rd (Q_CFG_TID q)) (ring + 64 * slot) 64

/-- The record is present and current (checks 0x01, 0x02). -/
def recordHere (r : Nat × Bytes) (magic pseq : Nat) : Bool := r.1 == 0 && u32 r.2 0 == magic && u32 r.2 4 == pseq

/-- The SIDs a record names. -/
def namedSids (r : Bytes) : List Nat := [u64 r 8, u64 r 16].filter (· != 2 ^ 64 - 1)

/-- The key of a SID's entry in the sentinel table (R575). -/
def sentKey (sid : Nat) : Nat := bits sid 0 5 * 16 + bits sid 8 48 % 16

/-- A SID is known and its verdict is pass (R575). -/
def sentPass (s : State) (sid : Nat) : Bool :=
  match s.safety.sent.find (sentKey sid) with
  | some e => e.sid == sid && e.pass
  | none => false

/-- The carried ledger breaks a limit of the stream (R576). -/
def ledgerBreaks (e : Bytes) (l : Ledger) : Bool :=
  let above := fun (v o : Nat) => (bf16 (u16 e o)).lt (bf16 v) || (bf16 v).isNan
  ((bit l.stages 0 || bit l.stages 1) && above l.kvErr 32) || (bit l.stages 2 && above l.selMass 30) ||
    (bit l.stages 3 && decide (u8 e 36 < l.jlsErr)) || (bit l.stages 4 && above l.pwlErr 34) ||
    (bit l.stages 5 && above l.pqErr 28) ||
    (bit l.stages 6 && (u8 e 37 == 0 || decide (l.scanned * 256 < u8 e 37 * l.probed)))

/-- Device time, in ns, of a TS64 field of a record. -/
def recTime (s : State) (r : Bytes) (o : Nat) : Nat := tsToDev s (u64 r o)

/-- Two times differ by more than a tolerance in µs. -/
def timeOff (a b us : Nat) : Bool := decide (us * 1000 < (if a < b then b - a else a - b))

/-- The values of two DIVERT records differ by more than TOL_DIM tenths of a mm, or are not finite (check 0x08). -/
def dimOff (a b : Bytes) (tol : Nat) : Bool :=
  [48, 52, 56].any fun o =>
    let x := f32 (u32 a o)
    let y := f32 (u32 b o)
    !x.isFinite || !y.isFinite ||
      (Num.fin false tol 0).lt ((x.sub y).abs.mul (Num.fin false 10 0))

/-- The joint targets of two MOTION records differ by more than TOL_Q (check 0x08). -/
def jointOff (a b : Bytes) (tol : Nat) : Bool :=
  [48, 50, 52, 54, 56, 58].any fun o => decide (tol < (signed 16 (u16 a o) - signed 16 (u16 b o)).natAbs)

/-- A margin is NaN or below MARGIN_MIN (check 0x06). -/
def lowMargin (e r : Bytes) : Bool := !(bf16 (u16 e 26)).le (f32 (u32 r 28))

/-- The agreed window in device time: the later EARLIEST and the earlier LATEST (R579). -/
def windowOf (s : State) (a b : Bytes) : Nat × Nat :=
  (max (recTime s a 32) (recTime s b 32), min (recTime s a 40) (recTime s b 40))

/-- The launch instant on MONO: the first grid instant no earlier than max(E, now + LEAD_US) (R579). -/
def launchInstant (s : State) (g e : Nat) : Option Nat :=
  match s.tk.grids.find g with
  | none => none
  | some z =>
    if z.period = 0 then none
    else
      let low := max (devToMono s e) (s.mono + s.rd (LG_CTL_LEAD_US g) * 1000)
      some (if low ≤ z.first then z.first else z.first + ceilDiv (low - z.first) z.period * z.period)

/-- Checks 0x01 to 0x09 in order: the first that fails (R574); 0x09 passes for an agreed ACT of 0xFF (R581). REFUSE is how a
decode that reaches its token cap comes here (R35, 20.5; DEDUCED, log 129). -/
def firstChecks (s : State) (e : Bytes) (a b : Nat × Bytes) (pseq : Nat) (led : Ledger) : Nat :=
  let ra := a.2
  let rb := b.2
  if !recordHere a 0xDEC0000A pseq then 1
  else if !recordHere b 0xDEC0000B pseq then 2
  else if bit (u8 ra 25) 0 || bit (u8 rb 25) 0 then 3
  else if (namedSids ra ++ namedSids rb).any (fun x => !sentPass s x) then 4
  else if ledgerBreaks e led then 5
  else if lowMargin e ra || lowMargin e rb then 6
  else if u8 ra 24 != u8 rb 24 || (u8 e 1 == 0 && u16 ra 26 != u16 rb 26) then 7
  else if (if u8 e 1 = 0 then dimOff ra rb (u16 e 22) else jointOff ra rb (u16 e 24)) then 8
  else if u8 ra 24 = 0xFF then 0
  else if timeOff (recTime s ra 32) (recTime s rb 32) (u16 e 20) || timeOff (recTime s ra 40) (recTime s rb 40) (u16 e 20) ||
      decide ((windowOf s ra rb).2 < (windowOf s ra rb).1) then 9
  else 0

/-- Checks 0x0A and 0x0B: the device is ARMED, and an instant lies in the window (R574, R579). -/
def lastChecks (s : State) (a b : Bytes) : Nat :=
  if !armed s then 0xA
  else
    match (actuator s (u8 a 24)).bind (fun x => launchInstant s (u8 x 6 % 8) (windowOf s a b).1) with
    | some l => if devToMono s (windowOf s a b).2 < l then 0xB else 0
    | none => 0xB

/-- The fills a record gives (R693). -/
def fillsOf (r : Bytes) (nsWord : Nat) : FillData where
  lane := u16 r 26
  pseq := u32 r 4
  joints := [48, 50, 52, 54, 56, 58].map (u16 r)
  nsWord := nsWord

/-- The motor outputs of an actuator's release (R567, R580): MO0, and MO1 where it is defined. -/
def releaseOutputs (a : Bytes) : List Nat := u16 a 2 :: (if u16 a 4 = 0xFFFF then [] else [u16 a 4])

/-- The template sent on a motor output of a release (R580): GO_TMPL on its own output, and on another output that output's own
GO template where the record has one. -/
def goTemplate (s : State) (t : Bytes) (m : Nat) : Bytes :=
  if u8 t 2 = m then t
  else (((List.range (u32 s.img.tmpl 0)).map fun i => slice s.img.tmpl (16 + 128 * i) 128).find?
    fun e => u8 e 2 == m && u8 e 3 == 0).getD (patch t 2 [BitVec.ofNat 8 m])

/-- A GO booking meets an override of its output in the same cycle: the booking stands and the override is refused (R695). -/
def refuseOverride (m : Nat) (s : State) : State :=
  let now := fun (start : Nat) (o : Option MotorFrame) => start == s.mono && o.any fun mf => mf.mo == m && mf.kind == 3
  if s.can.reqs.any (fun r => now r.start r.motor && (!onWire s r || justBegun s r)) || s.eth.frames.any (fun f => now f.start f.motor) then
    (withdraw (fun mf => mf.mo == m && mf.kind == 3) s).inc (MO_CNT_MO_OVRREF m)
  else s

/-- Book the frame of one motor output of a release (R580). -/
def bookGo (tmpl : Bytes) (rec : Bytes) (d : Decision) (m l close nsWord : Nat) (s : State) : Bool × State :=
  let s := refuseOverride m s
  let e := goTemplate s tmpl m
  let b := bookLaunch ⟨(if s.rd (MO_CFG_TYPE m) = 0 then 0 else 8) + s.rd (MO_CFG_UNIT m), l, 2, m⟩ s
  if !b.1 then (false, b.2)
  else
    let p := putTemplate e (fillsOf rec nsWord)
      { mo := m, kind := 0, act := d.act, q := d.q, idx := d.idx, pseq := d.pseq } 3 (some l) (some close) b.2
    if p.1 then (true, p.2.set (MO_STAT_BOOKED m))
    else (false, unbookLaunch (fun x => x.kind == 2 && x.ref == m && x.at_ == l) p.2)

/-- Book every frame of a release; if one is refused, those booked are withdrawn (R574, outcome 0x0C). -/
def bookAll (tmpl rec : Bytes) (d : Decision) (l close nsWord : Nat) : List Nat → State → Bool × State
  | [], s => (true, s)
  | m :: ms, s =>
    let b := bookGo tmpl rec d m l close nsWord s
    if b.1 then bookAll tmpl rec d l close nsWord ms b.2
    else (false, withdraw (fun mf => mf.q == d.q && mf.idx == d.idx && mf.kind == 0) b.2)

/-- The actuator whose safe reaction a held decision takes (R582): channel A's, or B's when A's is unreadable. -/
def heldActuator (a b : Nat × Bytes) : Nat := if a.1 = 0 then u8 a.2 24 else u8 b.2 24

/-- Hold the decision: outcome, then the safe reaction (R582). -/
def holdDecision (d : Decision) (outcome : Nat) (s : State) : State :=
  checkConsec d.stream (safeReaction d.act (endDecision d outcome 0 s))

/-- Release the decision: book its frames on the grid (R579, R580). -/
def releaseDecision (d : Decision) (a b : Bytes) (s : State) : State :=
  match actuator s d.act with
  | none => holdDecision d 0xB s
  | some x =>
    match launchInstant s (u8 x 6 % 8) (windowOf s a b).1, template s (u16 x 8) with
    | some l, some t =>
      let ts := monoToTs s l
      let d := { d with launchTs := ts, waiting := releaseOutputs x }
      let k := bookAll t a d l (devToMono s (windowOf s a b).2) (ts % 2 ^ 32) (releaseOutputs x) s
      if k.1 then { k.2 with safety := { k.2.safety with pending := k.2.safety.pending ++ [d] } }
      else holdDecision { d with launchTs := 0, waiting := [] } 0xC k.2
    | _, _ => holdDecision d 0xB s

/-- DCOMPARE (R574, R577 to R582): it starts, its checks are made, and its frames are booked or its safe reaction follows; where no
actuator is agreed, check 0x0A is the last (R581). -/
def dcompare (q : Nat) (c : Bytes) (s : State) : State :=
  let n := u8 c 8 % 16
  let e := (strOf s n).getD []
  let led := carriedLed s q
  let a := readRecord s q (u64 e 4) (u8 c 9)
  let b := readRecord s q (u64 e 12) (u8 c 9)
  let k := firstChecks s e a b (u32 c 12) led
  let note := fun (ring : Nat) (t : State) => noteRead 8 (t.rd (Q_CFG_TID q)) (ring + 64 * u8 c 9) 64 t
  let s := startHead q 14 3 c (note (u64 e 12) (note (u64 e 4) s))
  let idx := (s.rd (Q_SQ_PTR_HEAD q) + 65535) % 65536
  let act := heldActuator a b
  let d : Decision :=
    { q := q, idx := idx, stream := n, act := act, lane := u16 a.2 26, pseq := u32 c 12, dst := u64 c 16, launchTs := 0
      releaseTs := s.ts64, waiting := [] }
  if k ≠ 0 then holdDecision d k s
  else if act = 0xFF then (if armed s then checkConsec n (endDecision d 0 0 s) else holdDecision d 0xA s)
  else
    let k2 := lastChecks s a.2 b.2
    if k2 ≠ 0 then holdDecision d k2 s else releaseDecision d a.2 b.2 s

/-- DCOMPARE: the head of the queue brings two decision records to the comparator. -/
def execDcompare (q : Nat) (s : State) : Out :=
  match headIs s q 4 0x01 with
  | some c => .next (dcompare q c s)
  | none => .next s

/-- DSAFE (R585): the safe reaction of an actuator, and an outcome record whose OUTCOME byte the spec does not state. -/
def dsafe (q : Nat) (c : Bytes) (s : State) : State :=
  let f := s.free
  let s := f.2
  let w := memWrite s 8 (s.rd (Q_CFG_TID q)) (u64 c 16)
    (leBytes 1 f.1 ++ leBytes 1 (u8 c 8) ++ leBytes 2 0 ++ leBytes 4 (u32 c 12) ++ leBytes 8 0 ++ leBytes 8 s.ts64 ++ zeros 40)
  runHead q 14 c { status := w.1 } (safeReaction (u8 c 8) w.2)

def execDsafe (q : Nat) (s : State) : Out :=
  match headIs s q 4 0x02 with
  | some c => .next (dsafe q c s)
  | none => .next s

/-! ### The fault collector's commands -/

/-- FAULT_REPORT (R592): faults, code and argument, that reach the collector in one cycle. -/
def execFaultReport (l : List (Nat × Nat)) (s : State) : Out := .next (raiseFaults l s)

/-- SF_FLT_CLR (R593): with KEY 0xC3 the level-3 latch clears; level 4 stays. -/
def clearLatch (key : Nat) (s : State) : State := if key = 0xC3 then s.clr SF_LATCH_L3 else s

def execSfFltClr (w : Writer) (clr key : Nat) (s : State) : Out :=
  .next (guarded w 0x30008 (fun t => if clr % 2 = 1 then clearLatch (key % 256) t else t) s)

/-! ### The safe outputs (R586, R588, R589) -/

/-- HALF_US has passed since the last edge (R586). -/
def halfPassed (s : State) : Bool := s.safety.edgeAt.all fun e => decide (e + s.rd SF_OUT_CFG_HALF_US * 1000 ≤ s.mono)

/-- The last edge lies within 100 ns (R588). -/
def edgeNear (s : State) : Bool := s.safety.edgeAt.any fun e => decide (s.mono ≤ e + 100)

/-- SAFE_TOGGLE (R586, R589): while ARMED, SAFE_A and SAFE_B change level together, in anti-phase, HALF_US after their last edge; the toggle
advances only while the self-check passes. -/
def execSafeToggle (s : State) : Out :=
  .next (if armed s ∧ halfPassed s ∧ s.safety.selfMissed = 0 ∧ s.rd DC_SELF_DIFF = 0 then
    let a := 1 - s.rd SF_STATUS_SAFE_A
    (noteEdge s).wrs [(SF_STATUS_SAFE_A, a), (SF_STATUS_SAFE_B, 1 - a)] else s)

/-- SAFE_OUTPUT_READBACK (R588): the levels read at the balls; SAFEOUT_FB after 4 consecutive samples that differ; a sample
within 100 ns of an edge is not compared. -/
def execSafeOutputReadback (a b m : Bool) (s : State) : Out :=
  let bad := s.rdb SF_STATUS_SAFE_A != a || s.rdb SF_STATUS_SAFE_B != b || s.rdb SF_STATUS_MINH_N != m
  if !s.rdb SF_OUT_CFG_FB_EN ∨ edgeNear s then .next s
  else if !bad then .next { s with safety := { s.safety with fbRun := 0 } }
  else
    let run := s.safety.fbRun + 1
    let s := { s with safety := { s.safety with fbRun := run } }
    .next (if run = 4 then raiseFault 0x21 0 s else s)

end Sys2Proof.Machine
end

