-- ==== Sys2Proof/Machine/Can.lean ====
section
/-! DEFINITION. The CAN FD controllers (chapter 23): receiving, transmitting, error states, joining, sleep, and the commands CANTX
and CANRD. -/

namespace Sys2Proof.Machine
open Reg

/-! ### Error counters (R670, R672) -/

/-- The controller is joined: error-active or error-passive (R673), its island running (R120). -/
def canJoined (s : State) (n : Nat) : Bool := (s.rd (CAN_STATUS_STATE n) == 2 || s.rd (CAN_STATUS_STATE n) == 3) && islandRuns s 0x49

/-- Raise the controller's vector when the event is enabled (R659). -/
def canIrq (n : Nat) (en : Field) (s : State) : State := if s.rdb en then raiseVector (s.rd (CAN_IRQ_VEC n)) s else s

/-- Set both error counters: EWARN at 96, error-passive at 128 (R670). -/
def setErrors (n tec rec : Nat) (s : State) : State :=
  let s := (s.wr (CAN_ERRCNT_TEC n) tec).wr (CAN_ERRCNT_REC n) (min rec 255)
  let warn := decide (96 ≤ tec) || decide (96 ≤ rec)
  let s := if warn ∧ !s.rdb (CAN_STATUS_EWARN n) then s.set (CAN_ERR_EWARN n) else s
  let s := s.wr (CAN_STATUS_EWARN n) (ofBool warn)
  if s.rd (CAN_STATUS_STATE n) = 2 ∧ (127 < tec ∨ 127 < rec) then
    canIrq n (CAN_IRQ_EN_EPASS n) (post 0xA001 0x49 [n] ((s.wr (CAN_STATUS_STATE n) 3).set (CAN_ERR_EPASS n)))
  else if s.rd (CAN_STATUS_STATE n) = 3 ∧ tec ≤ 127 ∧ rec ≤ 127 then s.wr (CAN_STATUS_STATE n) 2
  else s

/-- The controller begins to integrate (R673). -/
def canIntegrate (n : Nat) (s : State) : State :=
  let c := s.can
  { s with can := { c with wire := c.wire.erase n, joinR := c.joinR.erase n, good := c.good.erase n } }.wr (CAN_STATUS_STATE n) 1

/-- The run of frames without an error while joined restricted (R674). -/
def countGood (n : Nat) (s : State) : State :=
  if n ∈ s.can.joinR then
    let g := s.can.good.get 0 n + 1
    let c := s.can
    if s.rd (CAN_REST_REST_OK n) ≤ g then
      { s with can := { c with joinR := c.joinR.erase n, good := c.good.erase n } }.wr (CAN_STATUS_RESTRICTED n)
        (ofBool (s.rd (CAN_CTL_MODE n) == 1))
    else { s with can := { c with good := c.good.insert n g } }
  else s

/-! ### Receiving (R654 to R659, R670, R674) -/

/-- The first filter that matches a frame. -/
def firstFilter (s : State) (n : Nat) (f : CanFrame) : Option Nat := firstWhere 32 fun i => filterMatches s n i f

/-- Refresh the peers of every peer filter the frame matches (R658). -/
def feedPeers (n : Nat) (f : CanFrame) (s : State) : State :=
  ((List.range 32).filter fun i => s.rdb (FLT_TGT_PEER n i) && filterMatches s n i f).foldl
    (fun t i => seePeer n (f.id &&& s.rd (FLT_SRC n i)) f.xtd t) s

/-- Store, queue or discard a frame (R654). -/
def canStore (n : Nat) (f : CanFrame) (sof : Nat) (s : State) : State :=
  match firstFilter s n f with
  | none => s.inc (CAN_NOMATCH n)
  | some i =>
    if s.rd (FLT_ID_ACTION n i) = 1 then
      let o := s.rd (FLT_TGT_OBJ n i)
      if objectOk s n o 0 then canIrq n (CAN_IRQ_EN_RX n) (storeObject n o f sof s) else s
    else if s.rd (FLT_ID_ACTION n i) = 2 then storeFifo n f sof s
    else s

/-- A receive error counter after a frame received without error (ISO 11898-1:2015): one less, or a value of 119 to 127 from
above 127. -/
def recAfterGood (s : State) (n : Nat) : Nat × State :=
  let r := s.rd (CAN_ERRCNT_REC n)
  if 127 < r then (119 + s.free.1 % 9, s.free.2) else (r - 1, s)

/-- A frame is received without error. -/
def canReceive (n : Nat) (f : CanFrame) (s : State) : State :=
  if canJoined s n then
    let sof := monoToTs s (s.mono - f.sofAgo)
    let r := recAfterGood s n
    let s := setErrors n (s.rd (CAN_ERRCNT_TEC n)) r.1 r.2
    canStore n f sof (feedPeers n f (countGood n (s.inc (CAN_RXOK n))))
  else s

def execCanReceive (n : Nat) (f : CanFrame) (s : State) : Out := .next (canReceive n f s)

/-- CAN_RX_ERROR (R646, R670, R674): `kind` as CAN_STATUS's last error, 7 a recessive res bit; `heavy` when a dominant bit follows
the error flag. A protocol exception with PXHD clear is no error: the controller integrates again. -/
def canRxError (n kind : Nat) (heavy : Bool) (s : State) : State :=
  if canJoined s n then
    if kind = 7 ∧ !s.rdb (CAN_CTL_PXHD n) then canIntegrate n (s.set (CAN_ERR_PXE n))
    else
      let c := s.can
      let s := { s with can := { c with good := c.good.erase n } }
      let s := (s.inc (CAN_ERRDET n)).wr (CAN_STATUS_LASTERR n) (if kind = 7 then 2 else kind)
      setErrors n (s.rd (CAN_ERRCNT_TEC n)) (s.rd (CAN_ERRCNT_REC n) + (if heavy then 8 else 1)) s
  else s

def execCanRxError (n kind : Nat) (heavy : Bool) (s : State) : Out := .next (canRxError n kind heavy s)

/-! ### Shadows (R660) -/

/-- CAN_SHD_CTL.GO: the writing master's shadow takes the object, whose NEWDAT and MSGLOST clear. -/
def shadowGo (m n o : Nat) (s : State) : State :=
  let s := setMasterIdx m (0x340400 + 0x1000 * n) o s
  if objectOk s n o 0 then clearNew o (setShadow s m n (copyObject s o)) else setShadow s m n {}

def execCanShadowGo (w : Writer) (n o : Nat) (s : State) : Out :=
  .next (guarded w (0x340400 + 0x1000 * n) (shadowGo w.master n o) s)

/-- CAN_SHD_CTL.POP: the oldest FIFO entry is copied and removed; an empty FIFO sets EMPTY. -/
def shadowPop (m n : Nat) (s : State) : State :=
  if s.rd (CAN_FIFO_STAT_LEVEL n) = 0 then setShadow s m n { empty := true }
  else
    let o := fifoObject s n 0
    clearNew o (popFifo n (setShadow s m n (copyObject s o)))

def execCanShadowPop (w : Writer) (n : Nat) (s : State) : Out :=
  .next (guarded w (0x340400 + 0x1000 * n) (shadowPop w.master n) s)

/-! ### Abandoning requests (R667, R668, R672) -/

/-- The DCOMPARE that booked a GO frame. -/
def decisionOf (s : State) (mf : MotorFrame) : Option Decision :=
  s.safety.pending.find? fun d => d.q == mf.q && d.idx == mf.idx

/-- A GO frame is lost after its window: before any attempt the DCOMPARE ends LATE; either way the safe reaction and a
late-launch event (R668, R710). -/
def lateMotor (mf : MotorFrame) (begun : Bool) (s : State) : State :=
  if mf.kind ≠ 0 then s
  else
    let s := s.clr (MO_STAT_BOOKED mf.mo)
    match decisionOf s mf with
    | some d =>
      if begun then safeReaction mf.act (post 0x6003 0x03 [mf.act, mf.pseq] s)
      else
        let s := withdraw (fun x => x.q == d.q && x.idx == d.idx && x.kind == 0) s
        safeReaction mf.act (endDecision d 0xB 0 s)
    | none => safeReaction mf.act (post 0x6003 0x03 [mf.act, mf.pseq] s)

/-- Abandon one request (R667). -/
def abandonReq (r : CanReq) (s : State) : State :=
  let s := dropReqs (fun x => x == r) s
  let s := s.inc (CAN_TXABAND r.ctrl)
  match r.motor with
  | some mf => lateMotor mf r.begun (unbookLaunch (fun e => e.kind == 2 && e.ref == mf.mo && e.at_ == r.start) s)
  | none =>
    if r.rank = 2 then s.wr LIV_STATUS_LEAVE_FAIL (setBit (s.rd LIV_STATUS_LEAVE_FAIL) r.ctrl true)
    else settleAt r.q r.idx { status := 0x08 } s

/-- Abandon every request that passes a test. -/
def abandonAll (p : CanReq → Bool) (s : State) : State := (s.can.reqs.filter p).foldl (fun t r => abandonReq r t) s

/-! ### Transmitting (R664 to R668, R683) -/

/-- The order of identifiers on the wire: base identifier, then format and extension as arbitration meets them. -/
def wireRank (s : State) (o : Nat) : Nat :=
  let base := s.rd (OBJ_ID o) / 2 ^ 18
  let rtr := s.rd (OBJ_RTR o)
  base * 2 ^ 21 + (if s.rdb (OBJ_XTD o) then 2 ^ 20 + 2 ^ 19 + s.rd (OBJ_ID o) % 2 ^ 18 * 2 + rtr else rtr * 2 ^ 20)

/-- The rank of a request among the ready ones (R666). -/
def reqRank (s : State) (r : CanReq) : Nat := (r.rank * 2 ^ 32 + wireRank s r.obj) * 2048 + r.obj

/-- A request may begin an attempt: its instant has come and its window is open; on BOSC only safe-reaction frames go ahead (R667,
R683); GO and OVR frames only while ARMED (R584). -/
def reqReady (s : State) (n : Nat) (r : CanReq) : Bool :=
  r.ctrl == n && r.ready && (match r.close with | some c => decide (s.mono ≤ c) | none => true) &&
    (!s.clocks.lost || r.motor.any (·.kind == 1)) &&
    (match r.motor with | some mf => mf.kind == 1 || mf.kind == 2 || armed s | none => true)

/-- The request of smallest rank. -/
def bestReq (s : State) (l : List CanReq) : Option CanReq :=
  l.foldl (fun o r => match o with
    | none => some r
    | some b => if reqRank s r < reqRank s b then some r else some b) none

/-- The controller may start a frame (R671, R673, R675, R683). -/
def canMayStart (s : State) (n : Nat) : Bool :=
  s.rdb (CAN_CTL_EN n) && canJoined s n && !s.rdb (CAN_STATUS_RESTRICTED n) && !s.rdb (CAN_STATUS_MONITOR n) &&
    !s.rdb (CAN_CTL_SLEEP n) && (s.can.wire.find n).isNone && !s.clocks.relocking && s.power.resetNow.isNone &&
    s.rd LIV_STATUS_STATE != 2

/-- Change the request of an object. -/
def modifyReq (o : Nat) (g : CanReq → CanReq) (s : State) : State :=
  setReqs s (s.can.reqs.map fun r => if r.obj == o then g r else r)

/-- The start bit of a motor frame falls: a GO frame's DCOMPARE completes with the last of its frames, once the cycle of that bit has
passed, since an inhibit in that cycle stands (R580, 20.12). -/
def startBit (mf : MotorFrame) (sof : Nat) (s : State) : State :=
  if mf.kind ≠ 0 then s
  else match decisionOf s mf with
    | none => s
    | some d =>
      let left := d.waiting.erase mf.mo
      let l := s.safety.pending.map fun x => if x.q == d.q && x.idx == d.idx then
        { x with waiting := left, sof := if left.isEmpty then some sof else none } else x
      { s with safety := { s.safety with pending := l } }

/-- The DCOMPAREs whose last start bit has passed complete (R580). -/
def completeStarted (p : Decision → Bool) (s : State) : State :=
  (s.safety.pending.filter p).foldl (fun t d => match d.sof with | some a => endDecision d 0 a t | none => t) s

/-- The start bit of a motor frame lies behind: its DCOMPARE completes where it was the last. -/
def startPassed (mf : MotorFrame) (s : State) : State := completeStarted (fun d => d.q == mf.q && d.idx == mf.idx) s

/-- CAN_TX_ATTEMPT: the controller starts the frame of the highest-ranked ready request. -/
def canAttempt (n : Nat) (s : State) : State :=
  if canMayStart s n then
    match bestReq s (s.can.reqs.filter (reqReady s n)) with
    | none => s
    | some r =>
      let c := s.can
      let s := { s with can := { c with wire := c.wire.insert n ⟨r.obj, s.ts64, if r.begun then none else some s.time.mono⟩ } }
      let s := modifyReq r.obj (fun x => { x with begun := true }) s
      match r.motor with
      | some mf => if r.begun then s else startBit mf s.ts64 s
      | none => s
  else s

def execCanTxAttempt (n : Nat) (s : State) : Out := .next (canAttempt n s)

/-- TDC_EN with an FD frame with BRS: the transceiver delay measured while it was sent, a free value of TDCF or more, and a secondary
sample point past 127 (R649). -/
def measureDelay (n o : Nat) (s : State) : State :=
  if s.rdb (CAN_DBT_TDC_EN n) ∧ s.rdb (OBJ_FDF o) ∧ s.rdb (OBJ_BRS o) then
    let x := s.free
    let v := s.rd (CAN_TDC_TDCF n) + x.1 % (128 - s.rd (CAN_TDC_TDCF n))
    let t := x.2.wr (CAN_TDC_TDCV n) v
    if 127 < v + s.rd (CAN_DBT_TDCO n) then t.set (CAN_ERR_TDC_SAT n) else t
  else s

/-- CAN_TX_DONE: no error up to the end of EOF (R667). -/
def canTxDone (n : Nat) (s : State) : State :=
  match s.can.wire.find n with
  | none => s
  | some w =>
    let c := s.can
    let s := { s with can := { c with wire := c.wire.erase n } }
    let s := setErrors n (s.rd (CAN_ERRCNT_TEC n) - 1) (s.rd (CAN_ERRCNT_REC n)) ((measureDelay n w.obj s).inc (CAN_TXOK n))
    match s.can.reqs.find? (fun r => r.ctrl == n && r.obj == w.obj) with
    | none => s
    | some r =>
      let s := dropReqs (fun x => x == r) s
      match r.motor with
      | some mf =>
        let s := (startPassed mf s).incWrap (MO_STAT_ROLL mf.mo)
        if mf.kind = 0 then s.clr (MO_STAT_BOOKED mf.mo) else s
      | none => if r.rank = 2 then s else settleAt r.q r.idx { aux := w.sof } s

def execCanTxDone (n : Nat) (s : State) : Out := .next (canTxDone n s)

/-- Bus-off (R672). -/
def busOff (n : Nat) (s : State) : State :=
  let s := s.wr (CAN_STATUS_STATE n) (if s.rdb (CAN_CTL_AUTOREC n) then 5 else 4)
  let s := abandonAll (fun r => r.ctrl == n) s
  let s := unbookLaunch (fun e => e.ctrl == n) s
  canIrq n (CAN_IRQ_EN_BOFF n) (post 0xA002 0x49 [n] ((s.set (CAN_ERR_BOFF n)).inc (CAN_BOFFCNT_BOFF n)))

/-- CAN_TX_ERROR: lost arbitration (`arb`), or an error of `kind` as CAN_STATUS's last error (R667, R670, R672). -/
def canTxError (n : Nat) (arb : Bool) (kind : Nat) (s : State) : State :=
  match s.can.wire.find n with
  | none => s
  | some _ =>
    let c := s.can
    let s := { s with can := { c with wire := c.wire.erase n } }
    if arb then s.inc (CAN_ARBLOST n)
    else
      let s := (s.inc (CAN_ERRDET n)).wr (CAN_STATUS_LASTERR n) kind
      let c := s.can
      let s := { s with can := { c with good := c.good.erase n } }
      let t := if kind = 3 ∧ s.rd (CAN_STATUS_STATE n) = 3 then s.rd (CAN_ERRCNT_TEC n) else s.rd (CAN_ERRCNT_TEC n) + 8
      let s := setErrors n t (s.rd (CAN_ERRCNT_REC n)) s
      if 255 < t then busOff n s else s

def execCanTxError (n : Nat) (arb : Bool) (kind : Nat) (s : State) : Out := .next (canTxError n arb kind s)

/-- CAN_TX_WINDOW_CLOSE: the window of object `o`'s request has closed and no attempt is on the wire (R667, R668). -/
def canWindowClose (o : Nat) (s : State) : State :=
  match s.can.reqs.find? (·.obj == o) with
  | none => s
  | some r =>
    match r.close with
    | none => s
    | some c =>
      if c < s.mono ∧ !((s.can.wire.find r.ctrl).any (·.obj == o)) then abandonReq r s else s

def execCanTxWindowClose (o : Nat) (s : State) : Out := .next (canWindowClose o s)

/-! ### Recovery, joining, sleep (R672 to R675) -/

def execCanRecover (w : Writer) (n : Nat) (s : State) : Out :=
  .next (guarded w (0x340000 + 0x1000 * n)
    (fun t => if t.rd (CAN_STATUS_STATE n) = 4 then t.wr (CAN_STATUS_STATE n) 5 else t) s)

/-- Recovery ends: both counters 0, error-active once it has integrated (R672, R673). -/
def execCanRecoveryDone (n : Nat) (s : State) : Out :=
  .next (if s.rd (CAN_STATUS_STATE n) = 5 then
    canIntegrate n ((setErrors n 0 0 s).inc (CAN_BOFFCNT_RECOV n)) else s)

/-- CAN_INTEGRATED: 11 recessive bits have been seen (R673, R674). -/
def canIntegrated (n : Nat) (s : State) : State :=
  if s.rd (CAN_STATUS_STATE n) = 1 ∧ s.rdb (CAN_CTL_EN n) then
    let passive := decide (127 < s.rd (CAN_ERRCNT_TEC n)) || decide (127 < s.rd (CAN_ERRCNT_REC n))
    let s := s.wr (CAN_STATUS_STATE n) (if passive then 3 else 2)
    let s := s.wr (CAN_STATUS_MONITOR n) (ofBool (s.rd (CAN_CTL_MODE n) == 2))
    if s.rdb (CAN_CTL_JOINR n) ∧ s.rd (CAN_REST_REST_OK n) ≠ 0 then
      let c := s.can
      { s with can := { c with joinR := n :: c.joinR.erase n, good := c.good.erase n } }.set (CAN_STATUS_RESTRICTED n)
    else s.wr (CAN_STATUS_RESTRICTED n) (ofBool (s.rd (CAN_CTL_MODE n) == 1))
  else s

def execCanIntegrated (n : Nat) (s : State) : Out := .next (canIntegrated n s)

/-- CAN_SLEEP: with SLEEP set the controller stops once no frame of its own is on the wire (R675). -/
def execCanSleep (n : Nat) (s : State) : Out :=
  .next (if s.rdb (CAN_CTL_SLEEP n) ∧ s.rd (CAN_STATUS_STATE n) ≠ 0 ∧ (s.can.wire.find n).isNone then
    s.wr (CAN_STATUS_STATE n) 6 else s)

/-- CAN_AUTOWAKE: a dominant bit wakes the controller, which joins again (R673, R675). -/
def execCanAutowake (n : Nat) (s : State) : Out :=
  .next (if s.rd (CAN_STATUS_STATE n) = 6 ∧ s.rdb (CAN_CTL_AUTOWAKE n) then
    canIntegrate n (s.clr (CAN_CTL_SLEEP n)) else s)

/-! ### CANTX and CANRD (R663 to R665, R669) -/

/-- The launch of a request: now (mode 0), at a TS64 (mode 1), at the next grid instant (mode 2); on MONO. -/
def requestInstant (s : State) (mode lg ts : Nat) : Nat :=
  if mode = 1 then devToMono s (tsToDev s ts) else if mode = 2 then (gridInstant s lg).getD s.mono else s.mono

/-- The end of a request's window (R667, R710). -/
def windowEnd (l us : Nat) : Option Nat := if us = 0 then none else some (l + us * 1000)

/-- Write the payload and the DLC a CANTX carries (R664). -/
def canWrite (c : Bytes) (data : Bytes) (s : State) : State :=
  let o := u16 c 10 % 2048
  let s := if bit (u8 c 9) 2 then putSlot o data s else s
  if bit (u8 c 9) 3 then s.wr (OBJ_DLC o) (u8 c 12 % 16) else s

/-- Start a CANTX: the payload is written, and the request is made at once, booked, dropped or refused (R209, R212, R664,
R665). -/
def canTx (q : Nat) (c : Bytes) (s : State) : State :=
  let n := u8 c 8 % 8
  let o := u16 c 10 % 2048
  let mode := bits (u8 c 9) 0 2
  let r := if bit (u8 c 9) 2 then memRead s (s.rd (Q_CFG_TID q)) (u64 c 16) (txBytes s c) else (0, [])
  if r.1 ≠ 0 then runHead q 14 c { status := r.1 } s
  else
    let l := requestInstant s mode (u8 c 13 % 8) (u64 c 24)
    let late := mode == 1 && decide (l < s.mono)
    let s := canWrite c r.2 s
    let s := startHead q 14 3 c s
    let idx := (s.rd (Q_SQ_PTR_HEAD q) + 65535) % 65536
    let s := if late then s.inc LAUNCH_STAT_LATE else s
    if late ∧ !bit (u8 c 9) 4 then settleAt q idx { status := 0x08 } (s.inc (CAN_TXABAND n))
    else if mode = 0 ∨ late then
      addReq { ctrl := n, obj := o, rank := 3, ready := true, start := s.mono, close := windowEnd s.mono (u16 c 14), q := q
               idx := idx } s
    else
      let b := bookLaunch ⟨n, l, 0, o⟩ s
      if b.1 then
        addReq { ctrl := n, obj := o, rank := 3, ready := false, start := l, close := windowEnd l (u16 c 14), q := q
                 idx := idx } b.2
      else settleAt q idx { status := 0x08 } b.2

/-- CANTX: an object with PEND set makes it wait at the head of its queue (R664). -/
def execCantx (q : Nat) (s : State) : Out :=
  match headIs s q 5 0x01 with
  | some c => .next (if s.rdb (OBJ_PEND (u16 c 10 % 2048)) then s else canTx q c s)
  | none => .next s

/-- Copy up to `k` of the oldest FIFO entries to memory and remove them; answers status, records written and state. -/
def readFifo (n t : Nat) : Nat → Nat → Nat → State → Nat × Nat × State
  | 0, _, done, s => (0, done, s)
  | k + 1, dst, done, s =>
    if s.rd (CAN_FIFO_STAT_LEVEL n) = 0 then (0, done, s)
    else
      let o := fifoObject s n 0
      let w := memWrite s 92 t dst (canRecord s n o)
      if w.1 ≠ 0 then (w.1, done, w.2) else readFifo n t k (dst + 96) (done + 1) (clearNew o (popFifo n w.2))

/-- CANRD (R669). -/
def canRead (q : Nat) (c : Bytes) (s : State) : State :=
  let n := u8 c 8 % 8
  let o := u16 c 10 % 2048
  let t := s.rd (Q_CFG_TID q)
  if s.rd (CAN_FIFO_FIFO_COUNT n) ≠ 0 ∧ o = s.rd (CAN_FIFO_FIFO_FIRST n) then
    let r := readFifo n t (u16 c 12) (u64 c 16) 0 s
    runHead q 14 c { status := r.1, aux := if r.1 = 0 then r.2.1 else 0 } r.2.2
  else if objectOk s n o 0 ∧ s.rdb (OBJ_NEWDAT o) then
    let w := memWrite s 92 t (u64 c 16) (canRecord s n o)
    if w.1 = 0 then runHead q 14 c { aux := 1 } (clearNew o w.2) else runHead q 14 c { status := w.1 } w.2
  else runHead q 14 c {} s

def execCanrd (q : Nat) (s : State) : Out :=
  match headIs s q 5 0x02 with
  | some c => .next (canRead q c s)
  | none => .next s

end Sys2Proof.Machine
end

