-- ==== Sys2Proof/Machine/Ethernet.lean ====
section
/-! DEFINITION. The Ethernet ports (chapter 25): receiving and classifying, the receive rings, transmitting, and the link states. -/

namespace Sys2Proof.Machine
open Reg

/-- A big-endian field of a frame. -/
def beNat (b : Bytes) (o k : Nat) : Nat := (slice b o k).foldl (fun a x => a * 256 + x.toNat) 0

/-! ### Parsing (R698 to R700) -/

def dstMac (b : Bytes) : Nat := leNat (slice b 0 6)
def hasVlan (b : Bytes) : Bool := beNat b 12 2 == 0x8100
def etherType (b : Bytes) : Nat := if hasVlan b then beNat b 16 2 else beNat b 12 2
def l3Offset (b : Bytes) : Nat := if hasVlan b then 18 else 14
def isPause (b : Bytes) : Bool := beNat b 12 2 == 0x8808 && beNat b 14 2 == 0x0001

/-- The one's complement sum of 16-bit words. -/
def onesSum : Nat → Bytes → Nat
  | 0, _ => 0
  | k + 1, b => if b.isEmpty then 0 else beNat (padTo 2 (b.take 2)) 0 2 + onesSum k (b.drop 2)

/-- Fold the carries of a one's complement sum. -/
def foldSum (n : Nat) : Nat := let a := n % 65536 + n / 65536; let b := a % 65536 + a / 65536; b % 65536 + b / 65536

/-- The frame is IPv4. -/
def isIpv4 (b : Bytes) : Bool := etherType b == 0x0800 && beNat b (l3Offset b) 1 / 16 == 4

/-- Bytes of the IPv4 header. -/
def ipHeader (b : Bytes) : Nat := beNat b (l3Offset b) 1 % 16 * 4

/-- UDP over IPv4. -/
def isUdp (b : Bytes) : Bool := isIpv4 b && beNat b (l3Offset b + 9) 1 == 17

/-- Neither fragmented nor a fragment, with a correct header checksum (R700). -/
def ipWhole (b : Bytes) : Bool :=
  beNat b (l3Offset b + 6) 2 % 0x4000 == 0 && foldSum (onesSum 60 (slice b (l3Offset b) (ipHeader b))) == 0xFFFF

def udpOffset (b : Bytes) : Nat := l3Offset b + ipHeader b
def udpPort (b : Bytes) : Nat := beNat b (udpOffset b + 2) 2
def udpLen (b : Bytes) : Nat := beNat b (udpOffset b + 4) 2

/-- The UDP checksum is absent or right (R700). -/
def udpSumOk (b : Bytes) : Bool :=
  beNat b (udpOffset b + 6) 2 == 0 ||
    foldSum (onesSum 6000 (slice b (udpOffset b) (udpLen b)) + onesSum 4 (slice b (l3Offset b + 12) 8) + 17 + udpLen b) == 0xFFFF

/-- The port takes part in PTP. -/
def ptpPort (s : State) (n : Nat) : Bool := bit (s.rd PTP_CFG_PORT_EN) n

/-- Where the PTP header of a frame lies, over Ethernet or UDP over IPv4 (R192). PRESUMED: IEEE 1588-2019 (log 40). -/
def ptpHeader (b : Bytes) : Option Nat :=
  if etherType b = 0x88F7 then some (l3Offset b)
  else if isUdp b ∧ (udpPort b = 319 ∨ udpPort b = 320) then some (udpOffset b + 8) else none

/-- The message type of a PTP frame; below 4 it is an event message. PRESUMED: IEEE 1588-2019 (log 40). -/
def ptpType (b : Bytes) : Option Nat := (ptpHeader b).map fun o => beNat b o 1 % 16

/-- The device's own latency between the PCS and the ball, in tenths of a ns, by mode (R193). -/
def pcsLatency (s : State) (n : Nat) (tx : Bool) : Nat :=
  (if tx then [960, 192, 384, 480] else [1600, 352, 704, 800]).getD (s.rd (ETH_CFG_MODE n)) (if tx then 960 else 1600)

/-- What is added to the instant an SFD passes the PCS, in tenths of a ns, to stamp it at the ball. -/
def ballLatency (s : State) (n : Nat) (tx : Bool) : Int := if tx then (pcsLatency s n true : Int) else -(pcsLatency s n false : Int)

/-- What is added for a PTP event message: PTP_LAT beside the device's own latency, in tenths of a ns (R193). -/
def ptpLatency (s : State) (n : Nat) (tx : Bool) : Int :=
  ballLatency s n tx + signed 16 (s.rd (if tx then PTP_LAT_TX n else PTP_LAT_RX n))

/-- The instant, in ns, an SFD is stamped with that passes the PCS at `m`: the instant at the ball, and PTP_LAT more for a PTP event message
(R182, R193). -/
def sfdInstant (s : State) (n : Nat) (tx : Bool) (b : Bytes) (m : Nat) : Nat :=
  (((m : Int) * 10 + (if (ptpType b).any (· < 4) then ptpLatency s n tx else ballLatency s n tx)) / 10).toNat

/-- A PTP message leaves with a UDP checksum of 0 (R194). -/
def dropChecksum (b : Bytes) : Bytes := if isUdp b then patch b (udpOffset b + 6) (zeros 2) else b

/-- Add ns to the correctionField of the PTP message whose header lies at `o`. PRESUMED: IEEE 1588-2019, in 2^-16 ns (log 40). -/
def addCorrection (b : Bytes) (o ns : Nat) : Bytes := patch b (o + 8) ((leBytes 8 ((beNat b (o + 8) 8 + ns * 65536) % 2 ^ 64)).reverse)

/-- One-step insertion: a Sync leaves with its own stamp as originTimestamp, and in P2P a Pdelay_Resp with the turnaround since the port's last
Pdelay_Req in its correctionField; over UDP with a checksum of 0 (R194). -/
def oneStep (s : State) (n : Nat) (b : Bytes) (sfd : Nat) : Bytes :=
  match ptpHeader b with
  | some o =>
    if !bit (s.rd PTP_CFG_ONESTEP) n then b
    else if ptpType b = some 0 then
      let d := monoToDev s sfd
      dropChecksum (patch b (o + 34) ((leBytes 6 (d / 1000000000 % 2 ^ 48)).reverse ++ (leBytes 4 (d % 1000000000)).reverse))
    else if ptpType b = some 3 ∧ s.rd PTP_CFG_PROFILE ≠ 0 then
      dropChecksum (addCorrection b o (sfd - (s.eth.pdelayReq.find n).getD sfd))
    else b
  | none => b

/-- The Steward notes when a Pdelay_Req came, for the turnaround of its response (R194). -/
def notePdelayReq (n : Nat) (b : Bytes) (sfd : Nat) (s : State) : State :=
  if ptpType b = some 2 then
    let e := s.eth
    { s with eth := { e with pdelayReq := e.pdelayReq.insert n sfd } }
  else s

/-- The two PTP multicast destinations, as little-endian numbers of their bytes. -/
def ptpMulticast (m : Nat) : Bool := m == 0x000000191B01 || m == 0x0E0000C28001

/-- R699. -/
def passesFilter (s : State) (n : Nat) (b : Bytes) : Bool :=
  let m := dstMac b
  m == s.rd (ETH_MAC_LO n) + 2 ^ 32 * s.rd (ETH_MAC_HI n) ||
    ((List.range 16).any fun k => s.rdb (ETH_MCAST_HI_EN n k) &&
      m == s.rd (ETH_MCAST_LO n k) + 2 ^ 32 * s.rd (ETH_MCAST_HI_MAC n k)) ||
    (m == 2 ^ 48 - 1 && s.rdb (ETH_CFG_BCAST n)) || s.rdb (ETH_CFG_PROMISC n) || (ptpMulticast m && ptpPort s n)

/-- Where a frame goes (R700): the Steward, the Intake, or a receive queue. -/
inductive RxClass where
  | ptp | gvsp | queue (q : Nat)
  deriving DecidableEq, Repr

def rxClass (s : State) (n : Nat) (b : Bytes) : RxClass :=
  if ptpPort s n ∧ (etherType b = 0x88F7 ∨ (isUdp b ∧ (udpPort b = 319 ∨ udpPort b = 320))) then .ptp
  else if isUdp b ∧ ipWhole b ∧ (List.range 16).any fun f =>
      s.rdb (GV_FILT_EN f) && s.rd (GV_FILT_PORT f) == n && s.rd (GV_FILT_DPORT f) == udpPort b then .gvsp
  else if hasVlan b then .queue (bits (s.rd (ETH_PCPMAP n)) (3 * (beNat b 14 1 / 32)) 3)
  else .queue (s.rd (ETH_CFG_DEFQ n))

/-! ### Delivery (R702, R703, R705) -/

/-- Frames written and not consumed. -/
def rxUnread (s : State) (n q : Nat) : Nat := (s.rd (RXQ_PTR_WRITTEN n q) + 65536 - s.rd (RXQ_PTR_HEAD n q)) % 65536

def rxSize (s : State) (n q : Nat) : Nat := 2 ^ s.rd (RXQ_CFG_SZ n q)
def rxSlot (s : State) (n q : Nat) : Nat := 2048 * 2 ^ s.rd (RXQ_CFG_SLOT n q)

/-- The 32-byte receive descriptor (R702). -/
def rxDescriptor (n q sz k : Nat) (b : Bytes) (stamp : Nat) : Bytes :=
  leBytes 2 b.length ++ leBytes 1 ((1 - k / 2 ^ sz % 2) + 2 * ofBool (hasVlan b) + 4 * ofBool (isIpv4 b)) ++
    leBytes 1 (n + 4 * q) ++ leBytes 4 (if hasVlan b then beNat b 12 4 else 0) ++ leBytes 8 stamp ++ leBytes 4 k ++ zeros 12

/-- Write a frame to a receive ring: the slot, then the descriptor; RXQ_PTR shows the low half of the frame count (R702, R703). -/
def toRing (n q : Nat) (b : Bytes) (stamp : Nat) (s : State) : State :=
  let k := s.eth.rxCount.get 0 (8 * n + q)
  let at_ := k % rxSize s n q
  if !s.rdb (RXQ_CFG_EN n q) then s.inc (RX_FILTERED n)
  else if rxSlot s n q < b.length then s.inc (RX_LENERR n)
  else if rxSize s n q ≤ rxUnread s n q then s.inc (RX_RINGFULL n)
  else if !placeable s (accountOf n (8 + q)) (cellsOf b.length) then s.inc (RX_NOBUF n)
  else
    let w := memWrite s 88 0 (s.rdPair (RXQ_DATA_LO n q) (RXQ_DATA_HI n q) + at_ * rxSlot s n q) b
    let w := memWrite w.2 88 0 (s.rdPair (RXQ_BASE_LO n q) (RXQ_BASE_HI n q) + at_ * 32)
      (rxDescriptor n q (s.rd (RXQ_CFG_SZ n q)) k b stamp)
    let t := w.2
    let e := t.eth
    let s := { t with eth := { e with rxCount := e.rxCount.put 0 (8 * n + q) ((k + 1) % 2 ^ 32) } }.wr (RXQ_PTR_WRITTEN n q) (k + 1)
    if s.rdb (RXQ_CFG_ENIRQ n q) then raiseVector (s.rd (RXQ_CFG_VEC n q)) s else s

/-- Steer a GVSP packet to the Intake (R700). -/
def toIntake (n : Nat) (b : Bytes) (ago : Nat) (s : State) : State :=
  if !udpSumOk b then s.inc (GV_BADCSUM n)
  else if !placeable s (accountOf n 16) (cellsOf b.length) then s.inc (RX_NOBUF n)
  else
    let p : GvPacket :=
      { port := n, udp := udpPort b, srcIp := beNat b (l3Offset b + 12) 4, dstIp := beNat b (l3Offset b + 16) 4
        srcPort := beNat b (udpOffset b) 2, cells := cellsOf b.length, payload := slice b (udpOffset b + 8) (udpLen b - 8)
        stamp := monoToTs s (sfdInstant s n false b (s.mono - ago)), mono := s.mono - ago }
    takeCells (accountOf n 16) (cellsOf b.length) { s with eth := { s.eth with gv := s.eth.gv ++ [p] } }

/-- ETH_RECEIVE: a frame's bytes without FCS, whether its FCS was right, and how many ns ago its SFD passed the PCS (R193, R698 to R705). -/
def ethReceive (n : Nat) (b : Bytes) (fcsOk : Bool) (ago : Nat) (s : State) : State :=
  if !ethUp s n then s
  else if !fcsOk then s.inc (RX_FCSERR n)
  else if b.length + 4 < 64 ∨ s.rd (ETH_CFG_MAXFRAME n) < b.length + 4 then s.inc (RX_LENERR n)
  else
    let s := (s.inc (RX_FRAMES n)).inc (RX_BYTES n) (b.length + 4)
    if isPause b then s.inc (RX_PAUSE n)
    else if !passesFilter s n b then s.inc (RX_FILTERED n)
    else match rxClass s n b with
      | .ptp =>
        if placeable s (accountOf n 15) (cellsOf b.length) then notePdelayReq n b (sfdInstant s n false b (s.mono - ago)) s
        else s.inc (RX_NOBUF n)
      | .gvsp => toIntake n b ago s
      | .queue q => toRing n q b (monoToTs s (sfdInstant s n false b (s.mono - ago))) s

def execEthReceive (n : Nat) (b : Bytes) (fcsOk : Bool) (ago : Nat) (s : State) : Out := .next (ethReceive n b fcsOk ago s)

/-- RXQ_DB (R703): the head advances by the sum written. -/
def execRxqDb (w : Writer) (n q v : Nat) (s : State) : Out :=
  .next (guarded w (0x301018 + 0x10000 * n + 0x20 * q)
    (fun t => t.wr (RXQ_PTR_HEAD n q) (t.rd (RXQ_PTR_HEAD n q) + v % 65536)) s)

/-! ### Transmitting (R707 to R711) -/

/-- Start an ETHTX: the frame is copied, then queued, booked or dropped (R212, R708). -/
def ethTx (q : Nat) (c : Bytes) (s : State) : State :=
  let n := u8 c 8 % 4
  let k := u8 c 9 % 8
  let mode := bits (u8 c 10) 0 2
  let len := u16 c 12
  let r := memRead s (s.rd (Q_CFG_TID q)) (u64 c 16) len
  if r.1 ≠ 0 then runHead q 14 c { status := r.1 } s
  else
    let l := requestInstant s mode (u8 c 11 % 8) (u64 c 24)
    let late := mode == 1 && decide (l < s.mono)
    let s := startHead q 14 3 c s
    let idx := (s.rd (Q_SQ_PTR_HEAD q) + 65535) % 65536
    let now := mode == 0 || late
    let s := if late then s.inc LAUNCH_STAT_LATE else s
    let f : EthFrame :=
      { handle := s.eth.next, port := n, queue := k, bytes := r.2, account := accountOf n k, cells := cellsOf len
        group := if mode = 0 then 3 else 2, ready := now, start := if now then s.mono else l
        close := windowEnd (if now then s.mono else l) (u16 c 32), tsreq := bit (u8 c 10) 2, tsid := u16 c 14, q := q
        idx := idx }
    if !ethUp s n ∨ (late ∧ !bit (u8 c 10) 3) then settleAt q idx { status := 0x08 } (countAbandoned f s)
    else if now then holdFrame f s
    else
      let b := bookLaunch ⟨8 + n, l, 1, f.handle⟩ s
      if b.1 then holdFrame f b.2 else settleAt q idx { status := 0x08 } b.2

/-- ETHTX: a frame that cannot be placed waits at the head of its queue (R705). -/
def execEthtx (q : Nat) (s : State) : Out :=
  match headIs s q 5 0x10 with
  | some c =>
    .next (if placeable s (accountOf (u8 c 8 % 4) (u8 c 9 % 8)) (cellsOf (u16 c 12)) then ethTx q c s else s)
  | none => .next s

/-- Time of one byte on a port, in tenths of a ns (R697). -/
def byteTenths (s : State) (n : Nat) : Nat := [80, 8, 16, 32, 80, 80, 80, 80].getD (s.rd (ETH_CFG_MODE n)) 80

/-- The next launch instant booked on a port (R709). -/
def nextLaunch (s : State) (n : Nat) : Option Nat :=
  (s.tk.launch.filter (·.ctrl == 8 + n)).foldl (fun o e => match o with
    | none => some e.at_
    | some a => some (min a e.at_)) none

/-- LGUARD passes over a frame of group 3 that would end after the next booked launch (R709). -/
def guardHolds (s : State) (n now : Nat) (f : EthFrame) : Bool :=
  f.group == 3 && s.rdb (ETH_CFG_LGUARD n) &&
    (match nextLaunch s n with
     | some l => decide (l * 10 < now * 10 + (8 + f.bytes.length + 4 + 12) * byteTenths s n)
     | none => false)

/-- The head of each transmit queue among the frames of group 3. -/
def isQueueHead (s : State) (f : EthFrame) : Bool :=
  f.group != 3 ||
    (s.eth.frames.find? fun g => g.port == f.port && g.queue == f.queue && g.group == 3).any (·.handle == f.handle)

/-- A frame may start at an instant (R584, R709, R710). -/
def frameReady (s : State) (n now : Nat) (f : EthFrame) : Bool :=
  f.port == n && f.ready && decide (f.start ≤ now) && isQueueHead s f && !guardHolds s n now f &&
    (match f.close with | some c => decide (now ≤ c) | none => true) &&
    (match f.motor with | some mf => mf.kind == 1 || mf.kind == 2 || armed s | none => true)

/-- The order of R709: group, then queue number highest first, then entry order. -/
def frameRank (f : EthFrame) : Nat := (f.group * 16 + (8 - f.queue)) * 2 ^ 32 + f.handle

def bestFrame (l : List EthFrame) : Option EthFrame :=
  l.foldl (fun o f => match o with
    | none => some f
    | some b => if frameRank f < frameRank b then some f else some b) none

/-- ETH_TX_DONE: the frame the port chose `ago` ns ago has left (R193, R196, R708, R709). -/
def ethTxDone (n ago : Nat) (s : State) : State :=
  if ethUp s n ∧ s.power.resetNow.isNone ∧ s.rd LIV_STATUS_STATE ≠ 2 then
    let start := s.mono - ago
    match bestFrame (s.eth.frames.filter (frameReady s n start)) with
    | none => s
    | some f =>
      let sfd := sfdInstant s n true f.bytes (start + 7 * byteTenths s n / 10)
      let out := oneStep s n f.bytes sfd
      let ts := monoToTs s sfd
      let s := releaseFrames (fun x => x.handle == f.handle) s
      let e := s.eth
      let s := { s with eth := { e with wire := e.wire.insert n out } }
      let s := (s.inc (TX_FRAMES n)).inc (TX_BYTES n) (f.bytes.length + 4)
      let s := if f.tsreq then
          pushTxts n ⟨f.tsid, monoToDev s sfd / 1000000000 % 2 ^ 48, ts % 2 ^ 32⟩ s else s
      match f.motor with
      | some mf =>
        let s := startPassed mf (startBit mf ts s)
        let s := s.incWrap (MO_STAT_ROLL mf.mo)
        if mf.kind = 0 then s.clr (MO_STAT_BOOKED mf.mo) else s
      | none => settleAt f.q f.idx { aux := ts } s
  else s

def execEthTxDone (n ago : Nat) (s : State) : Out := .next (ethTxDone n ago s)

/-- Abandon a frame (R199, R710): BUSY with AUX 0, or the safe reaction of a motor frame (R668). -/
def abandonFrame (f : EthFrame) (s : State) : State :=
  let s := releaseFrames (fun x => x.handle == f.handle) s
  let s := unbookLaunch (fun e => e.kind == 1 && e.ref == f.handle) s
  let s := countAbandoned f s
  match f.motor with
  | some mf => lateMotor mf false (unbookLaunch (fun e => e.kind == 2 && e.ref == mf.mo && e.at_ == f.start) s)
  | none => settleAt f.q f.idx { status := 0x08 } s

def abandonFrames (p : EthFrame → Bool) (s : State) : State := (s.eth.frames.filter p).foldl (fun t f => abandonFrame f t) s

/-- ETH_TX_ABANDON: a frame has not started by the end of its window. -/
def execEthTxAbandon (h : Nat) (s : State) : Out :=
  .next (match s.eth.frames.find? (·.handle == h) with
    | some f => (match f.close with | some c => if c < s.mono then abandonFrame f s else s | none => s)
    | none => s)

/-! ### Links (R706, R712, R713) -/

/-- The backoff before the next TRAIN attempt, in ns (R712). -/
def backoff (s : State) (n : Nat) : Nat := [0, 10000000, 100000000].getD (s.eth.attempts.get 0 n) 1000000000

/-- A link can train: the island runs, REFCLK is not LOST, and the drain and a power entry have not dropped the links (R713). -/
def mayTrain (s : State) : Bool :=
  islandRuns s 0x48 && s.power.resetNow.isNone && !s.clocks.lost && s.rd LIV_STATUS_STATE != 2 && decide (s.rd PWR_STATE_STATE < 4)

/-- The port enters DOWN: its frames are abandoned (R706, R713). -/
def dropLink (n : Nat) (s : State) : State :=
  let e := s.eth
  let s := { s with eth := { e with since := e.since.insert n s.mono } }
  abandonFrames (fun f => f.port == n) ((s.wr (ETH_STATUS_STATE n) 0).clr (ETH_STATUS_AN_DONE n))

/-- Every port that is in TRAIN or UP drops to DOWN without a LINK_DOWN event (R713). -/
def dropLinks (s : State) : State :=
  (List.range 4).foldl (fun t n => if t.rd (ETH_STATUS_STATE n) = 1 ∨ t.rd (ETH_STATUS_STATE n) = 2 then dropLink n t else t) s

def execLinkTrainStart (n : Nat) (s : State) : Out :=
  .next (if s.rd (ETH_STATUS_STATE n) = 0 ∧ s.rd (ETH_CFG_MODE n) ≠ 0 ∧ s.eth.since.get 0 n + backoff s n ≤ s.mono ∧ mayTrain s then
    let e := s.eth
    { s with eth := { e with attempts := e.attempts.insert n (e.attempts.get 0 n + 1), since := e.since.insert n s.mono } }.wr
      (ETH_STATUS_STATE n) 1
  else s)

/-- The end of the 500 ms that a TRAIN attempt has (R712). -/
def trainEnd (s : State) (n : Nat) : Nat := s.eth.since.get 0 n + 500000000

/-- LINK_UP: lock and, where enabled, auto-negotiation succeed within 500 ms (R712). -/
def execLinkUp (n : Nat) (s : State) : Out :=
  .next (if s.rd (ETH_STATUS_STATE n) = 1 ∧ s.mono ≤ trainEnd s n ∧ mayTrain s then
    let e := s.eth
    ({ s with eth := { e with attempts := e.attempts.erase n } }.wr (ETH_STATUS_STATE n) 2).wrs
      [(ETH_STATUS_AN_DONE n, if 4 ≤ s.rd (ETH_CFG_MODE n) then s.rd (ETH_CFG_AN_EN n) else 0), (ETH_STATUS_RFAULT n, 0)]
  else s)

def execLinkTrainTimeout (n : Nat) (s : State) : Out :=
  .next (if s.rd (ETH_STATUS_STATE n) = 1 ∧ trainEnd s n ≤ s.mono then dropLink n s else s)

/-- The drops from UP within the last 10 s. -/
def recentDrops (s : State) (n : Nat) : List Nat := (s.eth.drops.get [] n).filter fun t => decide (s.mono < t + 10000000000)

/-- LINK_DOWN: a fault of UP, coded as ETH_STATUS's last fault (R712). -/
def linkDown (n fault : Nat) (s : State) : State :=
  if s.rd (ETH_STATUS_STATE n) = 2 then
    let l := recentDrops s n ++ [s.mono]
    let e := s.eth
    let s := { s with eth := { e with drops := e.drops.insert n l } }
    let s := (dropLink n s).wrs [(ETH_STATUS_LASTFAULT n, fault), (ETH_STATUS_RFAULT n, ofBool (fault == 4))]
    let s := s.inc (LINK_DOWN n)
    let word := fun (t : State) => t.rd (ETH_STATUS_STATE n) + 4 * t.rd (ETH_STATUS_RFAULT n) + 8 * t.rd (ETH_STATUS_LASTFAULT n)
    let s := post 0xB001 0x48 [n, word s] s
    if s.rd (ETH_CFG_FLAP_MAX n) ≠ 0 ∧ s.rd (ETH_CFG_FLAP_MAX n) ≤ l.length then
      let s := s.wr (ETH_STATUS_STATE n) 3
      post 0xB002 0x48 [n, word s] s
    else s
  else s

def execLinkDown (n fault : Nat) (s : State) : Out := .next (linkDown n fault s)

/-- ETH_CTL.RESTART leaves HELD, with the backoff reset (R712). -/
def execEthRestart (w : Writer) (n : Nat) (s : State) : Out :=
  .next (guarded w (0x300004 + 0x10000 * n) (fun t =>
    if t.rd (ETH_STATUS_STATE n) = 3 then
      let e := t.eth
      { t with eth := { e with attempts := e.attempts.erase n, since := e.since.insert n t.mono, drops := e.drops.erase n } }.wr
        (ETH_STATUS_STATE n) 0
    else t) s)

end Sys2Proof.Machine
end

