-- ==== Sys2Proof/Machine/Memory.lean ====
section
/-! DEFINITION. The memory controllers (chapter 10): the accesses that reach them over the fabric, refresh, retraining requests and the patrol
scrub. -/

namespace Sys2Proof.Machine
open Reg

/-- The controller runs (MC_STATUS.STATE 2). -/
def mcRuns (s : State) (m : Nat) : Bool := s.rd (MC_STATUS_STATE m) == 2

/-- A controller performs a read within one 256-byte block (R289, R293, R303, R304): status and data. `errs` are errors that have arisen in
units by then. -/
def mcRead (pid tid a n : Nat) (errs : List (Nat × Nat)) (s : State) : (Nat × Bytes) × State :=
  let s := ariseAll errs s
  (ctlRead s tid a n, noteCtlRead pid tid a n s)

/-- A controller performs a write within one 256-byte block (R289, R294, R303, R304, R550). -/
def mcWrite (pid tid a : Nat) (b : Bytes) (errs : List (Nat × Nat)) (s : State) : Nat × State := ctlWrite pid tid a b (ariseAll errs s)

/-! ### Refresh, tracking and retraining (R296 to R298) -/

/-- REFRESH: MR4 of channel `c` reads at or above 85 °C, or below (R296). -/
def execRefresh (c : Nat) (hot : Bool) (s : State) : Out :=
  .next (if 24 ≤ c ∨ !mcRuns s (c / 4) then s
  else
    let was := decide (c ∈ s.mc.hot)
    let s := { s with mc := { s.mc with hot := if hot then (if was then s.mc.hot else c :: s.mc.hot) else s.mc.hot.erase c } }
    let s := s.wr (MC_STATUS_HOT (c / 4)) (ofBool (s.mc.hot.any fun d => d / 4 == c / 4))
    if hot && !was then post 0x7003 (0x40 + c / 4) [c] s else s)

/-- MNT_STATUS shows the requests pending (R431). -/
def showPending (s : State) : State := s.wr MNT_STATUS_PENDING (mntPending s)

/-- A full retraining is requested (R298); with 64 maintenance requests pending it is refused at once (R431). -/
def requestRetrain (m : Nat) (s : State) : State :=
  if s.rdb (MC_RETRAIN_STAT_PENDING m) then s
  else if 64 ≤ mntPending s then post 0x7002 0x01 [m] ((s.set (MC_RETRAIN_STAT_BUSYSEEN m)).set MNT_STATUS_BUSYSEEN)
  else showPending <| { s with mc := { s.mc with retrainAt := s.mc.retrainAt.insert m s.mono } }.set (MC_RETRAIN_STAT_PENDING m)

/-- The number, from 1, of the shadow that has begun last on local channel `c` of controller `m`, and how long ago it began (R297): one every
SHADOW_US, the four channels staggered by SHADOW_US ÷ 4. DESIGN CHOICE (log 110): channel 0's shadows begin at the multiples of SHADOW_US of MONO. -/
def shadowNow (s : State) (m c : Nat) : Nat × Nat :=
  let p := s.rd (MC_SHADOW_SHADOW_US m) * 1000
  let t := s.mono + p - c * p / 4
  (t / p, t % p)

/-- REFRESH_SHADOW: a shadow of local channel `c` of a controller has tracked a drift, in ps; `beyond` tells that it exceeds the PLAT limit. A
shadow lasts at most 400 ns, and each runs once (R297, R298). -/
def execRefreshShadow (m drift : Nat) (beyond : Bool) (s : State) (c : Nat := 0) : Out :=
  .next (if 6 ≤ m ∨ 4 ≤ c ∨ !mcRuns s m ∨ 400 < (shadowNow s m c).2 ∨ s.mc.shadow.get 0 (4 * m + c) = (shadowNow s m c).1 then s
  else
    let s := { s with mc := { s.mc with shadow := s.mc.shadow.insert (4 * m + c) (shadowNow s m c).1 } }.incWrap (MC_RETRAIN_STAT_SHADOWS m)
    let s := s.wr (MC_DRIFT_PS m) (max (s.rd (MC_DRIFT_PS m)) (min drift 255))
    if beyond then requestRetrain m s else s)

/-- MC_RETRAIN_REQ: a write of MC_RETRAIN_CTL (R298). -/
def execMcRetrainReq (w : Writer) (m v : Nat) (s : State) : Out :=
  .next (if 6 ≤ m then s else guarded w (0x230044 + 0x10000 * m) (fun s => if bit v 0 then requestRetrain m s else s) s)

/-- Two major cycles, in ns (R298). -/
def twoMajors (s : State) : Nat := 2 * s.rd ROT_MAJOR_MAJOR * 10000

/-- RETRAIN_TIMEOUT: no MAINT slot has taken a retraining within two major cycles (R298). -/
def execRetrainTimeout (m : Nat) (s : State) : Out :=
  .next (match s.mc.retrainAt.find m with
  | none => s
  | some t =>
    if 6 ≤ m ∨ s.mono < t + twoMajors s then s
    else
      let s := { s with mc := { s.mc with retrainAt := s.mc.retrainAt.erase m } }
      post 0x7002 0x01 [m] (showPending (((s.clr (MC_RETRAIN_STAT_PENDING m)).set (MC_RETRAIN_STAT_BUSYSEEN m)).set MNT_STATUS_BUSYSEEN)))

/-! ### Patrol scrub (R299) -/

/-- 64-byte units of a channel. -/
def channelUnits (s : State) : Nat := visible s / (24 * 64)

/-- The MONO time at which unit `v` of `n` of a pass is due: the units of a pass are spread over HOURS (R299). -/
def patrolDue (s : State) (m v n : Nat) : Nat := s.mc.patrolFrom.get 0 m + v * (s.rd (MC_SCRUB_CFG_HOURS m) * 3600000000000) / n

/-- PATROL_SCRUB: the patrol of controller `m` reads its next unit, in which the given error has arisen (R293, R299). DESIGN CHOICE (log 111): the
patrol takes the controller's four channels in turn, its units at equal distances over HOURS, and a pass is over once it has read every unit of
all four; the next begins HOURS after this one began. -/
def execPatrolScrub (m kind : Nat) (s : State) : Out :=
  .next (if 6 ≤ m ∨ !mcRuns s m ∨ channelUnits s = 0 then s
  else
    let n := 4 * channelUnits s
    let v := s.mc.patrol.get 0 m % n
    if s.mono < patrolDue s m v n then s
    else
      let u := unitOf (4 * m + v % 4) (v / 4)
      let s :=
        if inlineEcc s then meetUnit (mcPid m) u (arise (u, kind) s)
        else if kind = 4 then s.inc (MC_LINK_CORR m) else s
      let from_ := if v + 1 = n then s.mc.patrolFrom.put 0 m (patrolDue s m n n) else s.mc.patrolFrom
      let s := { s with mc := { s.mc with patrol := s.mc.patrol.put 0 m ((v + 1) % n), patrolFrom := from_ } }
      let s := s.wr (MC_SCRUB_STAT_PROGRESS m) ((v + 1) % n * 65536 / n)
      if v + 1 = n then s.incWrap (MC_SCRUB_STAT_PASSES m) else s)

end Sys2Proof.Machine
end

