-- ==== Sys2Proof/Machine/Probes.lean ====
section
/-! DEFINITION. The weevil probes (chapter 12): filters and counters, sampling windows, latency histograms, and the trace from the
probes' FIFOs to the trace port and the memory ring. -/

namespace Sys2Proof.Machine
open Reg

/-! ### Counting into the live bank (R352, R354, R355) -/

/-- Add to a counter of the live bank; it saturates, and it stands while frozen (R354, R355). -/
def count (f : Field) (n : Nat) (s : State) : State :=
  if s.rdb PRB_WIN_STAT_FROZEN then s
  else { s with prb := { s.prb with live := s.prb.live.wr f (satAdd f.width (s.prb.live.rd f) n) } }

/-- Raise a maximum of the live bank. -/
def countMax (f : Field) (n : Nat) (s : State) : State :=
  if s.rdb PRB_WIN_STAT_FROZEN then s
  else { s with prb := { s.prb with live := s.prb.live.wr f (max (s.prb.live.rd f) (min n (2 ^ f.width - 1))) } }

/-- The bank that reads return: the live one with LEN_US at 0 (R352). -/
def readBank (s : State) : RegStore := if s.rd PRB_WIN_CFG_LEN_US = 0 then s.prb.live else s.prb.bank

/-- A sum of latencies is one counter of two words (12.7). -/
def latSumAt (p k : Nat) : Bool := k == (LAT_SUM_LO p).key || k == (LAT_SUM_HI p).key

/-- A counter of the readable bank has saturated (R354). -/
def bankSaturated (s : State) : Bool :=
  let b := readBank s
  b.any (fun e => e.2 == 2 ^ 32 - 1 && !(List.range 96).any fun p => latSumAt p e.1) ||
    (List.range 96).any fun p => b.rd (LAT_SUM_LO p) == 2 ^ 32 - 1 && b.rd (LAT_SUM_HI p) == 2 ^ 32 - 1

/-- A window tick: the live bank becomes the readable one (R352). -/
def tick (s : State) : State :=
  if s.rd PRB_WIN_CFG_LEN_US = 0 ∨ s.rdb PRB_WIN_STAT_FROZEN then s
  else { s with prb := { s.prb with bank := s.prb.live, live := [], lastTick := s.mono } }.incWrap PRB_WIN_STAT_WIN_SEQ

/-- WINDOW_TICK: MONO has passed a multiple of LEN_US; with ALIGN the major-cycle boundary ticks (R352). -/
def execWindowTick (s : State) : Out :=
  .next (let p := s.rd PRB_WIN_CFG_LEN_US * 1000
    if s.rdb PRB_WIN_CFG_ALIGN ∨ p = 0 ∨ s.mono / p = s.prb.lastTick / p then s else tick s)

/-- What CLEAR clears: every counter and FROZEN; in the cycle of a tick the readable bank stands (R353). -/
def clearProbes (ticked : Bool) (s : State) : State :=
  let s := { s with prb := { s.prb with live := [], bank := if ticked then s.prb.bank else [] } }
  (List.range 24).foldl (fun t n => t.wr (PRB_TRC_LOST n) 0) ((s.clr PRB_WIN_STAT_FROZEN).wr TRC_LOST 0)

/-- PRB_CLEAR: a write of PRB_CTL.CLEAR, in the cycle of a window tick or not (R353). -/
def execPrbClear (w : Writer) (ticked : Bool) (s : State) : Out :=
  .next (guarded w 0x228000 (fun s => clearProbes ticked (if ticked then tick s else s)) s)

/-! ### Latency histograms and bandwidth (R356 to R358) -/

/-- The bin of a latency in fabric cycles (R357). -/
def latencyBin (l : Nat) : Nat := ((List.range 15).filter fun k => decide (64 * 2 ^ k ≤ l)).length

/-- The 64-bit sum of latencies. -/
def addLatSum (p l : Nat) (s : State) : State :=
  if s.rdb PRB_WIN_STAT_FROZEN then s
  else
    let v := satAdd 64 (s.prb.live.rd (LAT_SUM_LO p) + 2 ^ 32 * s.prb.live.rd (LAT_SUM_HI p)) l
    { s with prb := { s.prb with live := (s.prb.live.wr (LAT_SUM_LO p) v).wr (LAT_SUM_HI p) (v / 2 ^ 32) } }

/-- Measure a request of initiator `p` delivered now (R356, R357); `tgt` is its target with MEM as 127. -/
def measure (p tgt : Nat) (rt : Bool) (start status : Nat) (s : State) : State :=
  let l := (s.mono - start) * 8 / 5
  let cls := s.rd (HIST_CFG_CLASS p)
  if (cls = 1 ∧ !rt) ∨ (cls = 2 ∧ rt) ∨ (s.rdb (HIST_CFG_DSEL p) ∧ s.rd (HIST_CFG_DPID p) ≠ tgt) then s
  else
    let s := count (HIST p (latencyBin l)) 1 s
    let s := countMax (LAT_MAX p) l (count (RSP_COUNT p) 1 (addLatSum p l s))
    if status = 0 then s else count (ERRRSP p) 1 s

/-! ### Trace (R359 to R366) -/

/-- MONO[31:0] in bits 31:0, KIND and NODE of a record (R360). -/
def recordHead (s : State) (kind node : Nat) : Nat := s.mono % 2 ^ 32 + 2 ^ 32 * kind + 2 ^ 34 * node

/-- A PACKET record (R360). -/
def packetRecord (s : State) (n f : Nat) (p : Packet) : Nat :=
  recordHead s 0 n + 2 ^ 39 * (p.point % 4) + 2 ^ 42 * f + 2 ^ 44 * (p.typ % 16) + 2 ^ 48 * ofBool p.rt + 2 ^ 49 * (p.oc % 4) +
    2 ^ 51 * (p.spid % 128) + 2 ^ 58 * (p.dpid % 128) + 2 ^ 65 * (p.tag % 256) + 2 ^ 73 * (p.len % 64) +
    2 ^ 79 * (p.status % 16) + 2 ^ 83 * ofBool p.poison + 2 ^ 84 * (p.tid % 1024) + 2 ^ 94 * (p.addr / 64 % 2 ^ 34)

/-- A SYNC record and a LOSS record (R360). -/
def syncRecord (s : State) (n : Nat) : Nat := recordHead s 1 n + 2 ^ 64 * (s.mono / 2 ^ 32 % 2 ^ 32)
def lossRecord (s : State) (n lost : Nat) : Nat := recordHead s 2 n + 2 ^ 64 * min lost (2 ^ 32 - 1)

def fifoAt (s : State) (n : Nat) : List Nat := s.prb.fifo.get [] n

/-- A probe's FIFO changes, and PRB_TRC shows its level; `lost` counts towards the next LOSS record. -/
def setFifo (n : Nat) (l : List Nat) (lost : Nat) (s : State) : State :=
  { s with prb := { s.prb with fifo := s.prb.fifo.put [] n l, lost := s.prb.lost.put 0 n lost } }.wr (PRB_TRC_LEVEL n) l.length

/-- A probe makes a record; a full FIFO, or losses not yet reported, lose it and count it (R361). -/
def emit (n : Nat) (r : Nat) (s : State) : State :=
  let lost := s.prb.lost.get 0 n
  if 64 ≤ (fifoAt s n).length ∨ lost ≠ 0 then (setFifo n (fifoAt s n) (lost + 1) s).inc (PRB_TRC_LOST n) else setFifo n (fifoAt s n ++ [r]) 0 s

/-- A probe traces: TRC_EN is set and one of its filters is enabled with TRACE. -/
def tracing (s : State) (n : Nat) : Bool :=
  s.rdb PRB_CTL_TRC_EN && (List.range 4).any fun f => s.rdb (PF_MATCH_EN n f) && s.rdb (PF_MATCH_TRACE n f)

/-- Every tracing probe emits a SYNC record (R361). -/
def syncAll (s : State) : State :=
  let s := (List.range 24).foldl (fun t n => if tracing t n then emit n (syncRecord t n) t else t) s
  { s with prb := { s.prb with syncBit := s.mono / 2 ^ 31 % 2 } }

/-- A probe whose trace starts emits a SYNC record first (R361). -/
def noteTracing (s : State) : State :=
  let s := (List.range 24).foldl (fun t n => if tracing t n && !t.prb.on.contains n then emit n (syncRecord t n) t else t) s
  { s with prb := { s.prb with on := (List.range 24).filter (tracing s) } }

/-- TRACE_SYNC: MONO[31] has changed (R361). -/
def execTraceSync (s : State) : Out := .next (if s.mono / 2 ^ 31 % 2 = s.prb.syncBit then s else syncAll s)

/-- TRACE_LOSS: the FIFO of a probe has room for the LOSS record and the SYNC record behind it (R361). -/
def execTraceLoss (n : Nat) (s : State) : Out :=
  .next (let lost := s.prb.lost.get 0 n
    if lost = 0 ∨ 62 < (fifoAt s n).length then s
    else setFifo n (fifoAt s n ++ [lossRecord s n lost, syncRecord s n]) 0 s)

/-! ### Filters (R349, R350) -/

/-- A filter matches a packet (R349). -/
def matchesFilter (s : State) (n f : Nat) (p : Packet) : Bool :=
  let masked := fun (a b m : Nat) => ((a % 1024) ^^^ b) &&& m == 0
  let hi := p.addr / 4096 % 2 ^ 32
  s.rdb (PF_MATCH_EN n f) && bit (s.rd (PF_MATCH_POINTS n f)) p.point && bit (s.rd (PF_MATCH_TYPES n f)) p.typ &&
    (s.rd (PF_MATCH_RTSEL n f) == 0 || (s.rd (PF_MATCH_RTSEL n f) == 1 && !p.rt) || (s.rd (PF_MATCH_RTSEL n f) == 2 && p.rt)) &&
    bit (s.rd (PF_MATCH_OCS n f)) p.oc && masked p.spid (s.rd (PF_PID_SPID n f)) (s.rd (PF_PID_SPID_MASK n f)) &&
    masked p.dpid (s.rd (PF_PID_DPID n f)) (s.rd (PF_PID_DPID_MASK n f)) &&
    masked p.tid (s.rd (PF_TID_TID n f)) (s.rd (PF_TID_TID_MASK n f)) &&
    (decide (s.rd (PF_AHI n f) < s.rd (PF_ALO n f)) || (decide (s.rd (PF_ALO n f) ≤ hi) && decide (hi ≤ s.rd (PF_AHI n f)))) &&
    (!s.rdb (PF_MATCH_ERRONLY n f) || p.status != 0 || p.poison)

/-- A filter sees a packet: it counts and traces a match (R350, R359). -/
def filterSees (n : Nat) (p : Packet) (s : State) (f : Nat) : State :=
  if !matchesFilter s n f p then s
  else
    let s := count (PF_BEATS n f) (p.clen + 1) (count (PF_PKTS n f) 1 s)
    let s := if p.typ ≤ 2 then count (PF_DATA n f) (p.len + 1) s else s
    if s.rdb PRB_CTL_TRC_EN ∧ s.rdb (PF_MATCH_TRACE n f) then emit n (packetRecord s n f p) s else s

/-- PROBE_OBSERVE: in one cycle the given packets pass points of node `n` and `flits` SV flits enter or leave it (R348 to R350,
R359). -/
def execProbeObserve (n flits : Nat) (l : List Packet) (s : State) : Out :=
  .next (if 24 ≤ n then s
  else
    let s := if flits = 0 then s else count (PRB_SVFLITS n) flits s
    (sortRank (fun (p : Packet) => p.point) (l.filter fun p => decide (p.point < 4))).foldl (fun t p => (List.range 4).foldl (filterSees n p) t) s)

/-! ### From the probes to the sinks (R362 to R365) -/

/-- Trace output on the pins is permitted (R364, R764): TRACE_OPEN in the OTP, or a debug grant. -/
def traceOpen (s : State) : Bool := bit (leNat (readMem s.otp 0 8 8)) 1 || s.rd SEC_DBG_LEVEL != 0

/-- The Thefin port sends a record, or loses it (R364). -/
def toTracePort (r : Nat) (s : State) : State :=
  if traceOpen s then { s with prb := { s.prb with port := some r } } else s.inc TRC_LOST

/-- The memory sink takes a record (R365). -/
def toTraceRing (r : Nat) (s : State) : State :=
  let size := s.rd TRC_RING_SIZE_KIB * 1024
  let w := s.rd TRC_RING_WPTR
  let put := fun (o : Nat) (s : State) =>
    ((memWrite s 95 0 (s.rdPair TRC_RING_BASE_LO TRC_RING_BASE_HI + o) (leBytes 16 r)).2).wr TRC_RING_WPTR (o + 16)
  if w + 16 ≤ size then put w s
  else if s.rdb TRC_CFG_WRAP ∧ 16 ≤ size then put 0 s
  else (stopTrace (s.set TRC_STAT_RING_FULL)).inc TRC_LOST

/-- The collector takes a record, or loses it (R363). -/
def collect (s : State) (r : Nat) : State :=
  let c := s.prb.collector
  if c.length < 256 then { s with prb := { s.prb with collector := c ++ [r] } }
  else { s with prb := { s.prb with collectorLost := s.prb.collectorLost + 1 } }.inc TRC_LOST

/-- The collector passes its oldest record to the sinks, and reports its losses once it has room (R363). -/
def passOn (s : State) : State :=
  match s.prb.collector with
  | [] => s
  | r :: l =>
    let l := if s.prb.collectorLost = 0 then l else l ++ [lossRecord s 23 s.prb.collectorLost]
    let s := { s with prb := { s.prb with collector := l, collectorLost := 0 } }
    let sink := s.rd TRC_CFG_SINK
    let s := if sink % 2 = 1 then toTracePort r s else s
    if 2 ≤ sink then toTraceRing r s else s

/-- What the trace path does in a cycle: the probe with the lowest node sends a PROBE packet of up to four records, unless the
service ring is bypassed, and the collector passes one record on (R362, R363). DESIGN CHOICE (log 47): the order of the probes. -/
def traceCycle (s : State) : State :=
  let s :=
    if s.rdb FAB_STATUS_SV_BYPASS then s
    else match s.prb.fifo with
      | [] => s
      | (n, l) :: _ => (l.take 4).foldl collect (setFifo n (l.drop 4) (s.prb.lost.get 0 n) s)
  passOn s

/-- A probe's node is reset: counters and FIFO go, and the discarded records are reported as lost (12.6). -/
def resetProbe (n : Nat) (s : State) : State :=
  let mine := fun (k : Nat) => decide ((0x228414 + 0x100 * n) * 32 ≤ k) && decide (k < (0x228500 + 0x100 * n) * 32)
  let clear := fun (r : RegStore) => Sparse.keep r fun k => !mine k
  let s := { s with prb := { s.prb with live := clear s.prb.live, bank := clear s.prb.bank } }
  (setFifo n [] (s.prb.lost.get 0 n + (fifoAt s n).length) s).wr (PRB_TRC_LOST n) 0

/-- The Thefin island is reset: the collector's records are lost and counted (12.6). -/
def resetCollector (s : State) : State :=
  let n := s.prb.collector.length
  { s with prb := { s.prb with collector := [], collectorLost := 0, port := none } }.inc TRC_LOST n

end Sys2Proof.Machine
end

