-- ==== Sys2Proof/Machine/Drover.lean ====
section
/-! DEFINITION. The rows of chapters 13 and 14: binding, doorbells, control commands, completions, the rotation, serving work and
flocks, and the taking of maintenance requests. -/

namespace Sys2Proof.Machine
open Reg

/-- Register addresses of a queue (13.13). -/
def qCtlAddr (q : Nat) : Nat := 0x4401C + 0x20 * q
def sqDbAddr (q : Nat) : Nat := 0x42000 + 8 * q
def cqDbAddr (q : Nat) : Nat := 0x42004 + 8 * q

/-! ### Binding (R367 to R372) -/

/-- Queues bound for a tenant. -/
def boundFor (s : State) (t : Nat) : Nat :=
  ((List.range 1024).filter fun q => bound s q && s.rd (Q_CFG_TID q) == t).length

/-- The code of the first check a binding fails, 0 when it passes them all (R369). -/
def bindError (s : State) (q : Nat) (image : Bool) : Nat :=
  let t := s.rd (Q_CFG_TID q)
  let z := quotaOf s t
  let cls := s.rd (Q_CFG_CLASS q)
  let eng := s.rd (Q_ENG_ENG q)
  let rings := [(s.rd (Q_SQ_BASE q) * 4096, 64 * sqSize s q), (s.rd (Q_CQ_BASE q) * 4096, 64 * cqSize s q)]
  if t ≠ 0 ∧ z = none then 1
  else if (match z with | some z => t != 0 && decide (u16 z 2 < boundFor s t + 1) | none => false) then 2
  else if rings.any (fun r => !permitted s t r.1 r.2 false || !permitted s t r.1 r.2 true) then 3
  else if cls = 0 ∨ 6 < cls ∨ (cls = 1 ∧ (eng = 0 ∨ 2 ^ engines s ≤ eng)) ∨ (cls = 2 ∧ (eng = 0 ∨ 16 ≤ eng)) then 4
  else if (match z with | some z => t != 0 && decide (bits (u8 z 12) 0 3 < s.rd (Q_CFG_PRIO q)) | none => false) then 5
  else if s.rdb (Q_CFG_RT q) && !image then 6
  else if s.rdb (Q_CFG_PIN q) && !image then 7
  else if 11 < s.rd (Q_CFG_SQ_SZ q) ∨ 11 < s.rd (Q_CFG_CQ_SZ q) then 8
  else if bound s q then 9
  else 0

/-- A binding stands (R369, R370). -/
def bindStands (q : Nat) (image : Bool) (s : State) : State :=
  let det := if image ∨ s.rdb (Q_CFG_DET_EXPL q) then s.rd (Q_CFG_DET q) else ofBool s.img.detDefault
  let s := s.wrs [(Q_CFG_DET q, det), (Q_SQ_PTR_HEAD q, 0), (Q_SQ_PTR_TAIL q, 0), (Q_CQ_PTR_CQ_TAIL q, 0), (Q_CQ_PTR_CQ_HEAD q, 0),
    (Q_STATE_STATE q, 1), (Q_STATE_BIND_ERR q, 0), (Q_STATE_CQFULL q, 0), (DRV_QCOUNT_COUNT, s.rd DRV_QCOUNT_COUNT + 1)]
  let s := if det = 0 then s.wr DET_QRELAXED_COUNT (s.rd DET_QRELAXED_COUNT + 1) else s
  setCarried s q {} {}

/-- Bind a queue, or record why not (R369). -/
def bindQueue (q : Nat) (image : Bool) (s : State) : State :=
  let c := bindError s q image
  if c = 0 then bindStands q image s else s.wr (Q_STATE_BIND_ERR q) c

/-- BIND: a write of Q_CTL.BIND (R367, R369): after the seal, and only where the page is owned by HOST or IMAGE. -/
def execBind (w : Writer) (q : Nat) (s : State) : Out :=
  .next (if 1024 ≤ q then s
  else guarded w (qCtlAddr q) (fun s =>
    let own := s.rd (PAGE_OWN_OWNER (qCtlAddr q / 0x1000))
    if !s.rdb BOOT_STATUS_SEALED ∨ (own ≠ 0x800 ∧ own ≠ 0x801) then s else bindQueue q false s) s)

/-- The queue reads UNBOUND (R372, R378). -/
def finishUnbind (q : Nat) (s : State) : State :=
  let d := s.drv
  let s := { s with drv := { d with
    heads := d.heads.erase q, irqCount := d.irqCount.erase q, irqOldest := d.irqOldest.erase q
    cqFailed := d.cqFailed.erase q, unbinding := d.unbinding.erase q } }
  let i := s.intake
  let s := showPool { s with intake := { i with takes := i.takes.erase q, past := i.past.filter (·.q != q) } }
  let s := if s.rdb (Q_CFG_DET q) then s else s.wr DET_QRELAXED_COUNT (s.rd DET_QRELAXED_COUNT - 1)
  s.wrs [(Q_STATE_STATE q, 0), (Q_STATE_CQFULL q, 0), (DRV_QCOUNT_COUNT, s.rd DRV_QCOUNT_COUNT - 1)]

/-- Frames and decisions that the commands of a queue wait for are withdrawn; decisions take their safe reaction. -/
def withdrawRequests (q : Nat) (s : State) : State :=
  let s := (s.safety.pending.filter (·.q == q)).foldl (fun t d => reactDecision false d t) s
  let s := (s.can.reqs.filter fun r => r.q == q && r.motor.isNone).foldl (fun t r => unbookLaunch (fun e => e.kind == 0 && e.ref == r.obj) t) s
  let s := dropReqs (fun r => r.q == q && r.motor.isNone && !((s.can.wire.find r.ctrl).any fun x => x.obj == r.obj)) s
  let mine := fun (f : EthFrame) => f.q == q && f.motor.isNone
  let s := (s.eth.frames.filter mine).foldl (fun t f => unbookLaunch (fun e => e.kind == 1 && e.ref == f.handle) t) s
  loseFrames mine s

/-- Sequences of a queue that are not INSTEP leave ABORTED (R426). -/
def dropSeqs (q : Nat) (s : State) : State :=
  let s := (s.drv.seqs.filter fun r => r.q == q && seqState s r.idx != 3).foldl (fun t r => leaveFlock r 0x0A t) s
  (List.range 32).foldl (fun t f => if t.drv.seqs.any (·.flock == f) || s.drv.seqs.any (·.flock == f) then admitFlock f t else t) s

/-- Unbind a queue: dispatch stops, its commands in flight end ABORTED in order, a sequence INSTEP when its step ends (R372,
14.11). -/
def unbindQueue (q : Nat) (s : State) : State :=
  let s := { s with drv := { s.drv with
    unbinding := if q ∈ s.drv.unbinding then s.drv.unbinding else q :: s.drv.unbinding, cqFailed := s.drv.cqFailed.erase q } }
  let s := dropSeqs q (withdrawRequests q s)
  let s := modifyFlights s (fun f => f.q == q && f.wait == 6) fun f => { f with status := worse f.status 0x0A }
  let s := { s with drv := { s.drv with maint := s.drv.maint.filter fun m => m.req != q || m.running } }
  let s := abortFlights (fun f => f.q == q && f.wait != 6) s
  let s := showPending s
  if (flightsOf s q).isEmpty then finishUnbind q s else s

/-- UNBIND: a write of Q_CTL.UNBIND (R372). -/
def execUnbind (w : Writer) (q : Nat) (s : State) : Out :=
  .next (if 1024 ≤ q then s
  else guarded w (qCtlAddr q) (fun s =>
    if s.rdb (Q_CFG_PIN q) then s.wr (Q_STATE_BIND_ERR q) 7 else if bound s q then unbindQueue q s else s) s)

/-- RESUME: a STOPPED queue goes on; a completion that failed is written again (R378, R391). -/
def execResume (w : Writer) (q : Nat) (s : State) : Out :=
  .next (if 1024 ≤ q then s
  else guarded w (qCtlAddr q) (fun s =>
    if s.rd (Q_STATE_STATE q) ≠ 4 then s
    else
      let again := decide (q ∈ s.drv.cqFailed)
      let s := ({ s with drv := { s.drv with cqFailed := s.drv.cqFailed.erase q } }).wr (Q_STATE_STATE q) 2
      let s := if again then (match nextCompletion s q with | some f => writeCompletion q f s | none => s) else s
      pump q s) s)

/-! ### Doorbells (R373, R374, R100) -/

/-- The number and the sum of the values of the writes of a cycle that are permitted; each write is answered (log 132). -/
def doorbellSum (a : Nat) (l : List (Writer × Nat)) (s : State) : (Nat × Nat) × State :=
  l.foldl (fun acc e =>
    let s := acc.2
    let c := writeStatus s e.1.master a
    if c ≠ 0 then (acc.1, writeRefused e.1 a c s)
    else if e.1.master = 0x801 ∧ draining s then (acc.1, s.answer 0x08 0)
    else ((acc.1.1 + 1, acc.1.2 + e.2 % 65536), s.answer 0 0)) ((0, 0), s)

/-- TAIL advances by the sum of a cycle's doorbells, `n` writes; the writes to an unbound queue are each counted (R373). -/
def advanceTail (q n v : Nat) (s : State) : State :=
  if !bound s q then s.inc DRV_DBERR n
  else if v = 0 then s
  else if sqSize s q < (backlog s q + v) % 65536 then (s.set (Q_STATE_DBOVF q)).inc DRV_DBERR
  else pump q (s.wr (Q_SQ_PTR_TAIL q) (s.rd (Q_SQ_PTR_TAIL q) + v))

/-- CQ_HEAD advances by the sum of a cycle's doorbells, `n` writes; the writes to an unbound queue are each counted (R374). -/
def advanceHead (q n v : Nat) (s : State) : State :=
  if !bound s q then s.inc DRV_DBERR n
  else if v = 0 then s
  else if unread s q < v then (s.set (Q_STATE_DBOVF q)).inc DRV_DBERR
  else
    let s := s.wr (Q_CQ_PTR_CQ_HEAD q) (s.rd (Q_CQ_PTR_CQ_HEAD q) + v)
    pump q (s.wr (Q_STATE_CQFULL q) (ofBool (decide ((cqSize s q : Int) ≤ unread s q + (flightsOf s q).length))))

/-- SQ_DB: the doorbell writes of a cycle advance TAIL together (R100, R373). -/
def execSqDb (q : Nat) (l : List (Writer × Nat)) (s : State) : Out :=
  .next (if 1024 ≤ q then s else let r := doorbellSum (sqDbAddr q) l s; advanceTail q r.1.1 r.1.2 r.2)

/-- CQ_DB: the doorbell writes of a cycle advance CQ_HEAD together (R100, R374). -/
def execCqDb (q : Nat) (l : List (Writer × Nat)) (s : State) : Out :=
  .next (if 1024 ≤ q then s else let r := doorbellSum (cqDbAddr q) l s; advanceHead q r.1.1 r.1.2 r.2)

/-! ### Fetching and completing (R384, R391) -/

/-- FETCH_ERROR: the fetch of the next command is answered TIMEOUT, or with the status the memory gives (R391). -/
def execFetchError (q : Nat) (s : State) : Out :=
  .next (if s.rd (Q_STATE_STATE q) = 2 ∧ backlog s q ≠ 0 ∧ (s.drv.heads.find q).isNone ∧ !draining s ∧
      unread s q + (flightsOf s q).length < cqSize s q ∧ !((flightsOf s q).any (·.fetchErr)) ∧ q ∉ s.drv.unbinding then
    let r := memRead s (s.rd (Q_CFG_TID q)) (sqAddr s q (s.rd (Q_SQ_PTR_HEAD q))) 64
    let st := if r.1 = 0 ∨ r.1 = 0x07 then 0x04 else r.1
    let s := if r.1 = 0 then s else noteRead 12 (s.rd (Q_CFG_TID q)) (sqAddr s q (s.rd (Q_SQ_PTR_HEAD q))) 64 s
    modifyLast (launch s q 15 (zeros 64)) q fun f => { f with status := st, fetchErr := true, stop := s.ts64 }
  else s)

/-- A command of index `k` comes before index `upto`. -/
def comesBefore (k upto : Nat) : Bool := let d := (upto + 65536 - k) % 65536; d != 0 && decide (d < 32768)

/-- Every command of an earlier take has completed (R241). -/
def takeOver (s : State) (p : PastTake) : Bool :=
  !comesBefore (s.rd (Q_SQ_PTR_HEAD p.q)) p.upto && !(flightsOf s p.q).any fun f => comesBefore f.idx p.upto

/-- The samples of a queue's take go back once its commands have completed, and those of an earlier take once that one's have (R241). -/
def releaseTake (q : Nat) (s : State) : State :=
  let i := s.intake
  let s := if i.past.any (takeOver s) then
    showPool { s with intake := { i with past := i.past.filter fun p => !takeOver s p } } else s
  if (flightsOf s q).isEmpty ∧ backlog s q = 0 ∧ (s.intake.takes.find q).isSome then
    let i := s.intake
    showPool { s with intake := { i with takes := i.takes.erase q } }
  else s

/-- The consumer queue takes samples; those of its last take stay while commands announced for them are left (R241). -/
def giveTake (q : Nat) (l : List Sample) (s : State) : State :=
  let i := s.intake
  let old : PastTake := ⟨q, s.rd (Q_SQ_PTR_TAIL q), i.takes.get [] q⟩
  { s with intake := { i with
    past := if old.samples = [] ∨ takeOver s old then i.past else i.past ++ [old]
    takes := i.takes.put [] q l } }

/-- The heads of a tenant's queues that its in-flight limit may have held are looked at again (R397). -/
def pumpTenant (t : Nat) (s : State) : State :=
  ((s.drv.heads.map (·.1)).filter fun q => s.rd (Q_CFG_TID q) == t).foldl (fun u q => pump q u) s

/-- What follows a completion of a queue: the Shepherd, the take, the columns, an unbinding, the next command. -/
def afterWrite (f : Flight) (s : State) : State :=
  let q := f.q
  let s := commandEnds q (isError (reportedStatus f)) s
  let s := releaseHeld (releaseTake q s)
  let s := if f.unit < 13 then showColumn f.unit s else s
  let s := if q ∈ s.drv.unbinding ∧ (flightsOf s q).isEmpty then finishUnbind q s else s
  pumpTenant (s.rd (Q_CFG_TID q)) (pump q s)

/-- A command has ended and its completion cannot be written yet: its END is now (13.12). -/
def noteReady (q : Nat) (s : State) : State :=
  match flightsOf s q with
  | f :: _ => if f.wait = 0 ∧ f.stop = 0 then modifyFlights s (fun g => g.q == q && g.idx == f.idx) fun g => { g with stop := s.ts64 } else s
  | [] => s

/-- COMMAND_COMPLETE: the oldest command in flight of a queue has ended, and its completion is written (R384, R389, R392 to
R394), at once or when the ring has room. -/
def execCommandComplete (q : Nat) (s : State) : Out :=
  .next (match nextCompletion s q with
  | none => noteReady q s
  | some f =>
    let n := s.drv.flights.length
    let s := writeCompletion q f s
    if s.drv.flights.length < n then afterWrite f s else s)

/-- IRQ_TIMER: IRQ_TIME_US has elapsed since the oldest unsignalled eligible completion (R394). -/
def execIrqTimer (q : Nat) (s : State) : Out :=
  .next (match s.drv.irqOldest.find q with
  | none => s
  | some t =>
    if s.rd (Q_CTL_IRQ_TIME_US q) = 0 ∨ s.mono < t + s.rd (Q_CTL_IRQ_TIME_US q) * 1000 then s
    else raiseVector (s.rd (Q_ENG_VEC q))
      { s with drv := { s.drv with irqCount := s.drv.irqCount.erase q, irqOldest := s.drv.irqOldest.erase q } })

/-! ### Control commands (R381, R386 to R388) -/

/-- NOP. -/
def execNop (q : Nat) (s : State) : Out :=
  .next (match headIs s q 0 0x00 with | some c => pump q (runHead q 14 c {} s) | none => s)

/-- SIGNAL: the event advances and takes up the queue's carried ledger and reference (R387). -/
def signalEvent (q : Nat) (c : Bytes) (s : State) : State :=
  let e := u16 c 8
  let v := eventAt s e
  wake e (setEvent s e
    { value := satAdd 64 v.value (u32 c 12), led := v.led.merge (carriedLed s q), ref := v.ref.merge (carriedRef s q) })

def execSignalEvent (q : Nat) (s : State) : Out :=
  .next (match headIs s q 0 0x04 with | some c => pump q (runHead q 14 c {} (signalEvent q c s)) | none => s)

/-- EVSET: the event holds VALUE, its ledger and reference emptied (R381). -/
def execEvset (q : Nat) (s : State) : Out :=
  .next (match headIs s q 0 0x06 with
  | some c => pump q (runHead q 14 c {} (wake (u16 c 8) (setEvent s (u16 c 8) { value := u64 c 16 })))
  | none => s)

/-- WAIT: OK at once when the event is at TARGET, else the queue waits (R388). -/
def execWaitEvent (q : Nat) (s : State) : Out :=
  .next (match headIs s q 0 0x05 with
  | some c =>
    if u64 c 16 ≤ (eventAt s (u16 c 8)).value then pump q (takeUp q (u16 c 8) c (runHead q 14 c {} s))
    else (startHead q 14 1 c s).wr (Q_STATE_STATE q) 3
  | none => s)

/-- WAIT_TIMEOUT: TO_US has passed and the event is below TARGET (R388). -/
def execWaitTimeout (q : Nat) (s : State) : Out :=
  .next (match s.drv.flights.find? fun f => f.q == q && f.wait == 1 with
  | none => s
  | some f =>
    if u32 f.cmd 12 = 0 ∨ s.mono < f.startMono + u32 f.cmd 12 * 1000 ∨ waitSatisfied s (u16 f.cmd 8) f then s
    else (settleAt q f.idx { status := 0x08 } s).wr (Q_STATE_STATE q) 2)

/-! ### The rotation (R399 to R411) -/

/-- ROTATION_START: the rotation is started, outside a group under R404; inside one the barrier comes first (R405, R638). -/
def mayRotate (s : State) : Bool :=
  s.rdb BOOT_STATUS_SEALED && s.rd PWR_STATE_STATE == 0 && !s.rdb ROT_STATUS_RUN && (s.boot.ptpGate.isNone || s.rd TK_STATUS_SERVO == 2) && !s.clocks.lost &&
    !draining s && s.rd ROT_MAJOR_MAJOR != 0

def execRotationStart (s : State) : Out :=
  .next (if mayRotate s ∧ !s.rdb MSYNC_CFG_EN then startRotation (firstBoundary s 0) s else s)

/-- The DCMP self-check at a boundary: 0 right, 1 wrong, 2 not run, 3 the lanes differ (R589). -/
def selfCheck (r : Nat) (s : State) : State :=
  if r = 0 then { s with safety := { s.safety with selfMissed := 0 } }.incWrap DC_SELF_PASSED
  else if r = 1 then raiseFault 0x20 0 s
  else if r = 3 then raiseFault 0x20 0 (s.set DC_SELF_DIFF)
  else
    let n := s.safety.selfMissed + 1
    let s := { s with safety := { s.safety with selfMissed := n } }
    if 2 ≤ n ∧ armed s then raiseFault 0x20 0 s else s

/-- Clean cycles are counted, and the outputs armed after ARM_CYCLES of them (R81, R282, R587, R764). -/
def countClean (s : State) : State :=
  let clean := !s.safety.dirty && !s.safety.dirtySent
  let n := if clean ∧ s.rd SEC_DBG_LEVEL ≠ 2 then s.rd SF_STATUS_CLEAN + 1 else 0
  let n := min n 1023
  let s := s.wr SF_STATUS_CLEAN n
  let s := { s with boot := { s.boot with cleanConfirm := if s.safety.dirty then 0 else s.boot.cleanConfirm + 1 } }
  let s := { s with safety := { s.safety with dirty := false, dirtySent := false } }
  if s.img.armCycles ≤ n ∧ n ≠ 0 ∧ !s.rdb SF_LATCH_L3 ∧ !s.rdb SF_LATCH_L4 ∧ !armed s then arm s else s

/-- The first boundary of a start: supervision and heartbeat supervision begin (R600, R607). -/
def beginSupervision (s : State) : State :=
  let hb := ((List.range (u32 s.img.shep 0)).map fun i => slice s.img.shep (16 + 32 * i) 32).filter fun e => bit (u8 e 2) 1
  let s := hb.foldl (fun t e =>
    let q := bits (u16 e 0) 0 10
    { t with shp := { t.shp with hbFrom := t.shp.hbFrom.insert q t.mono, hbLast := t.shp.hbLast.erase q } }.wr (SHP_TASK_STAT_CHK q) 0) s
  let s := { s with safety := { s.safety with dirty := false, dirtySent := false } }
  (s.wr SF_STATUS_CLEAN 0).set SHP_STATUS_SUPERVISING

/-- The first boundary after a start takes BOOT_TIME and posts IMAGE_LOADED (R80, 2.15). -/
def firstStart (s : State) : State :=
  if s.boot.timed then s
  else
    let b := s.boot
    let s := { s with boot := { b with timed := true } }.wr BOOT_TIME_US ((s.mono - b.startMono) / 1000)
    post 0x1001 0x01 [s.rd BOOT_STATUS_SLOT, s.rd BOOT_GEN_LO_GEN, s.rd BOOT_GEN_HI_GEN, s.rd BOOT_TIME_US] s

/-- MAJOR_BOUNDARY: a boundary passes, with the result of the DCMP self-check (R81, R404, R589). -/
def execMajorBoundary (check : Nat) (s : State) : Out :=
  .next (if !rotating s ∨ s.mono < s.drv.rot.first + s.drv.rot.passed * majorNs s then s
  else
    let s := selfCheck check s
    let s := if s.drv.rot.passed = 0 then firstStart (beginSupervision s) else countClean (s.incWrap ROT_CYCLE)
    let s := setRot { s.drv.rot with passed := s.drv.rot.passed + 1 } s
    if s.rdb PRB_WIN_CFG_ALIGN then tick s else s)

/-- FIXED_CLAIM_START: a FIXED entry comes up: it claims its columns and announces its queue (R402, R408). -/
def execFixedClaimStart (e : Nat) (s : State) : Out :=
  .next (let b := rotEntry s e
    if comesUp s e ∧ entryKind b = 0 then
      announce (entryQid b) (entryCount b) (beginClaim e (entryQid b) (markSeen e s))
    else s)

/-- The CHAINs that name a HEAD (R406). -/
def chainsOf (s : State) (e : Nat) : List Nat :=
  (entries s).filter fun k => entryKind (rotEntry s k) == 2 && entryHead (rotEntry s k) == e

/-- HEAD_FIRE: a HEAD comes up: with samples waiting it fires, or counts SKIP while its group is armed (R406). -/
def execHeadFire (e : Nat) (s : State) : Out :=
  .next (let b := rotEntry s e
    let g := entryGroup b
    if comesUp s e ∧ entryKind b = 1 then
      let s := markSeen e s
      if s.rd (BG_STATUS_LEVEL (entryBg b)) = 0 then s
      else if bit (s.rd ROT_STATUS_ARMED) g then s.inc ROT_FIRED_SKIP
      else
        let s := (s.inc ROT_FIRED_FIRED).wr ROT_LAST_IDX e
        let s := showArmed g (setRot { s.drv.rot with armed := s.drv.rot.armed ++ chainsOf s e } s)
        let r := takeSamples (entryBg b) (s.rd (BG_CFG_BATCH_MAX (entryBg b))) s
        let s := giveTake (entryQid b) r.1 r.2
        announce (entryQid b) (entryCount b) (beginClaim e (entryQid b) (showPool s))
    else s)

/-- CHAIN_CLAIM_START: an armed CHAIN comes up: it claims once and announces its queue (R402, R408). -/
def execChainClaimStart (e : Nat) (s : State) : Out :=
  .next (let b := rotEntry s e
    if comesUp s e ∧ entryKind b = 2 ∧ e ∈ s.drv.rot.armed then
      let s := markSeen e s
      let s := setRot { s.drv.rot with armed := s.drv.rot.armed.erase e } s
      announce (entryQid b) (entryCount b) (showArmed (entryGroup b) (beginClaim e (entryQid b) s))
    else s)

/-- CLAIM_END: a claim ends; while commands of its queue run on its columns it is held (R406, R411). -/
def execClaimEnd (e : Nat) (s : State) : Out :=
  .next (match s.drv.rot.claims.find? fun k => k.entry == e && !k.held && decide (k.ends ≤ s.mono) with
  | none => s
  | some k =>
    if claimRuns s k then
      showArmed k.group (setRot { s.drv.rot with claims := s.drv.rot.claims.map fun x => if x = k then { x with held := true } else x } s)
    else releaseClaim k s)

/-! ### Serving work (R412, R414, R415) -/

/-- SERVING_DISPATCH: a free column goes to the queue chosen for it, or back to a flock's paused step (R414, R428). -/
def execServingDispatch (c : Nat) (s : State) : Out :=
  .next (if !freeForServing s c ∨ !dutyAllows s then s
  else match chosen s c with
    | none => s
    | some id =>
      if id < 1024 then s.wrs [(COL_STATE_STATE c, 1), (COL_STATE_QID c, id)]
      else match pausedOn s (id - 1024) c with
        | some t => showColumn c (mapSteps (fun x => if x = t then { x with paused := false, start := s.mono } else x) s)
        | none => s)

/-- SERVING_OVERRUN: a serving command has run past its validated duration (R412). -/
def execServingOverrun (c : Nat) (s : State) : Out :=
  .next (match s.drv.flights.find? fun f => f.unit == c && !s.rdb (Q_CFG_RT f.q) && !f.late with
  | none => s
  | some f =>
    if 13 ≤ c ∨ s.mono ≤ f.startMono + ((opCheck s f.q f.cmd).getD {}).durNs then s
    else
      let s := modifyFlights s (fun g => g.q == f.q && g.idx == f.idx) fun g => { g with late := true }
      raiseFault 0x06 c (s.inc ROT_OVF_SRV))

/-! ### Flocks (R418 to R430) -/

/-- FLOCK_STEP_START: an engine step of a flock starts on a free column (R414, R418 to R420). -/
def execFlockStepStart (f c : Nat) (s : State) : Out :=
  .next (if freeForServing s c ∧ dutyAllows s ∧ chosen s c = some (1024 + f) ∧ (pausedOn s f c).isNone then startStep f c s else s)

/-- FLOCK_STEP_END: the last command of the engine step on a column has completed, or one has ended in error (R421, R430). -/
def execFlockStepEnd (c : Nat) (s : State) : Out :=
  .next (match stepOn s c with
  | none => s
  | some t =>
    if t.status ≠ 0 then abandonStep t t.status s
    else if s.rd (FLK_LIST_COUNT t.flock) ≤ t.next then finishStep t s
    else match (stepCommand s t.flock c).bind (stepVerdict s t.flock c) with
      | some st => abandonStep t st s
      | none => s)

/-- FLOCK_ADMIT_TIMEOUT: a sequence of a RELAXED queue has been QUEUED for ADMIT_MS (R425). -/
def execFlockAdmitTimeout (i : Nat) (s : State) : Out :=
  .next (match s.drv.seqs.find? (·.idx == i) with
  | none => s
  | some r =>
    if seqState s i = 1 ∧ !s.rdb (Q_CFG_DET r.q) ∧ r.queuedAt + s.rd (FLK_ADMIT_ADMIT_MS r.flock) * 1000000 ≤ s.mono then
      nondet r.q 8 (showFlock r.flock ((leaveFlock r 0x08 s).inc (FLK_RERUN_REFUSED r.flock)))
    else s)

/-! ### Maintenance requests (R431, R612, R616, R618) -/

/-- A class 0x6 command becomes a pending request, or completes BUSY while 64 are pending (R431). -/
def requestMaint (q opc : Nat) (s : State) : State :=
  match headIs s q 6 opc with
  | none => s
  | some c =>
    if 64 ≤ mntPending s then pump q (runHead q 14 c { status := 0x08 } (s.set MNT_STATUS_BUSYSEEN))
    else showPending (startHead q 14 4 c s)

/-- LBIST, MBIST and RETRAIN (R612). -/
def execLbist (q : Nat) (s : State) : Out := .next (requestMaint q 0x01 s)
def execMbist (q : Nat) (s : State) : Out := .next (requestMaint q 0x02 s)
def execRetrain (q : Nat) (s : State) : Out := .next (requestMaint q 0x03 s)

/-- A pending request: since when, its requester (a queue, or 1,024 + controller) and count, its column, its worst-case duration, and whether it is an
LBIST. -/
structure Request where
  since : Nat
  req : Nat
  idx : Nat
  col : Nat
  dur : Nat
  lbist : Bool := false
  deriving DecidableEq, Repr

/-- The pending requests, oldest first. -/
def requests (s : State) : List Request :=
  sortRank (·.since)
    (((s.drv.flights.filter (·.wait == 4)).map fun f => ⟨f.startMono, f.q, f.idx, u8 f.cmd 8, ((checkMaint s f.cmd).getD {}).durNs, cmdOpc f.cmd == 1⟩) ++
      ((List.range 6).filterMap fun m => (s.mc.retrainAt.find m).map fun t => ⟨t, 1024 + m, 0, 13, 32000, false⟩))

/-- A request starts to run (R614, R615). -/
def runRequest (m : MaintRun) (s : State) : State :=
  let s := { s with drv := { s.drv with maint := s.drv.maint.map fun x => if x = m then { x with running := true } else x } }
  let s := modifyFlights s (fun f => f.q == m.req && f.idx == m.idx && f.wait == 5) fun f => { f with start := s.ts64, startMono := s.mono }
  let s := if m.col < 13 then s.set (bistField m.col) else s
  showColumn m.col s

/-- The next request of a claim starts when none of it runs (R616). -/
def runNext (claim : Nat) (s : State) : State :=
  let l := s.drv.maint.filter (·.claim == claim)
  if l.any (·.running) then s else match l with | [] => s | m :: _ => runRequest m s

/-- A request is taken. -/
def takeRequest (claim : Nat) (s : State) (r : Request) : State :=
  let s := { s with drv := { s.drv with maint := s.drv.maint ++ [{ req := r.req, idx := r.idx, claim := claim, col := r.col, lbist := r.lbist }] } }
  if r.req < 1024 then modifyFlights s (fun f => f.q == r.req && f.idx == r.idx) fun f => { f with wait := 5 }
  else { s with mc := { s.mc with retrainAt := s.mc.retrainAt.erase (r.req - 1024) } }

/-- The requests a claim takes: on its columns, oldest first, fitting one after another (R431, R616). -/
def fitting (cols : Nat) : Nat → List Request → List Request
  | _, [] => []
  | left, r :: l => if bit cols r.col ∧ r.dur ≤ left then r :: fitting cols (left - r.dur) l else fitting cols left l

/-- MAINT_CLAIM_START: a MAINT entry comes up, claims its columns and takes the pending requests that fit (R431, R616). -/
def execMaintClaimStart (e : Nat) (s : State) : Out :=
  .next (let b := rotEntry s e
    if comesUp s e ∧ entryKind b = 3 then
      let s := beginClaim e 0 (markSeen e s)
      let left := s.drv.rot.first + (rotTick s + entryLen b) * 10000 - s.mono
      let s := (fitting (entryCols b) left (requests s)).foldl (takeRequest e) s
      runNext e (showPending s)
    else s)

/-- A MAINT claim that starts now can take the request of a flight (21.11). -/
def takenNow (s : State) (f : Flight) : Bool :=
  (entries s).any fun e =>
    comesUp s e && entryKind (rotEntry s e) == 3 &&
      (fitting (entryCols (rotEntry s e)) (s.drv.rot.first + (rotTick s + entryLen (rotEntry s e)) * 10000 - s.mono) (requests s)).any fun r =>
        r.req == f.q && r.idx == f.idx

/-- MAINT_EXPIRY: no MAINT claim has taken a request within 2 × MAJOR, and none that starts now can: it completes BUSY, or is forced (R431,
R618). -/
def execMaintExpiry (q : Nat) (s : State) : Out :=
  .next (match s.drv.flights.find? fun f => f.q == q && f.wait == 4 with
  | none => s
  | some f =>
    if s.mono < f.startMono + 2 * majorNs s ∨ takenNow s f then s
    else if cmdForce f.cmd then
      let r : Request := ⟨f.startMono, q, f.idx, u8 f.cmd 8, 0, cmdOpc f.cmd == 1⟩
      let s := (takeRequest 4096 s r).inc MNT_FORCED
      raiseViolation false q 0x19 (showColumn r.col (showPending s))
    else showPending ((settleAt q f.idx { status := 0x08 } s).set MNT_STATUS_BUSYSEEN))

/-- FORCED_RUN: the column of a forced request has drained, and the request runs (R618). -/
def execForcedRun (q : Nat) (s : State) : Out :=
  .next (match s.drv.maint.find? fun m => m.req == q && m.claim == 4096 && !m.running with
  | none => s
  | some m =>
    let s := if m.col < 8 then pauseStep m.col s else s
    if columnBusy s m.col then s else runRequest m s)

end Sys2Proof.Machine
end

