-- ==== Sys2Proof/Machine/Intake.lean ====
section
/-! DEFINITION. The Intake (chapters 8 and 9): frames from CSI-2 and GVSP, sentinels, samples, the cache and replays. -/

namespace Sys2Proof.Machine
open Reg

/-- The Intake receives: the main rails are on, its island runs, no drain has begun, the device is not on its way into FOLD or OFF or back from FOLD,
and REFCLK is not LOST (R125, R149, R151, R167, R261, 8.11). -/
def intakeOn (s : State) : Bool :=
  !s.railsOff && s.rd LIV_STATUS_STATE == 0 && !s.clocks.islBusy.contains 0x05 && !s.clocks.stopped.contains 0x05 &&
    !s.clocks.lost && s.rd PWR_STATE_STATE < 4

/-! ### Frames -/

def setOpen (s : State) (l : List Frame) : State :=
  let i := s.intake
  { s with intake := { i with open_ := l } }

/-- Pixels reach the prepare stage, which takes 8 a ns; those of a decoded image have come over `span` eighths of a ns. Live input that keeps the
stage more than 120 µs behind exceeds its rate (R245, R247). DESIGN CHOICE (log 124): the spec states no interval that the rate is measured
over. -/
def notePixels (px span : Nat) (s : State) : State :=
  let now := 8 * s.mono
  let i := s.intake
  let busy := max i.prepTo (now - span) + px
  let s := { s with intake := { i with prepTo := busy } }
  if now + 960000 < busy then s.set INT_STATUS_PREP_OVER else s

def setClosed (s : State) (l : List Frame) : State :=
  let i := s.intake
  { s with intake := { i with closed := l } }

/-- Change the open frame of a channel. -/
def onOpen (ch : Nat) (g : Frame → Frame) (s : State) : State :=
  setOpen s (s.intake.open_.map fun f => if f.chan = ch then g f else f)

def addMark (code : Nat) (f : Frame) : Frame := if code ∈ f.marks then f else { f with marks := code :: f.marks }

/-- The reason code a frame reports: the lowest that holds of it (log 34). -/
def frameStatus (f : Frame) : Nat := f.marks.foldl (fun a c => if a = 0 ∨ c < a then c else a) 0

def showOpen (u v : Nat) (b : Bool) (s : State) : State := s.wr (UNIT_STATUS_OPEN u) (setBit (s.rd (UNIT_STATUS_OPEN u)) v b)

/-- A stream's state returns to idle when no frame of it is in reception. -/
def settleState (n : Nat) (s : State) : State :=
  if s.rd (STREAM_STATE_STATE n) = 2 ∧ !s.intake.open_.any (·.stream == n) ∧ !s.intake.blocks.any (·.stream == n) then
    s.wr (STREAM_STATE_STATE n) 1 else s

/-- The next SEQ of a stream as a SID, and SEQ advanced (R246). -/
def nextSid (n : Nat) (s : State) : Nat × State :=
  let q := s.rdPair (STREAM_SEQ_LO n) (STREAM_SEQ_HI n)
  (n + 2 ^ 8 * q + 2 ^ 56 * s.rd (STREAM_STATE_GEN n), s.wrPair (STREAM_SEQ_LO n) (STREAM_SEQ_HI n) (q + 1))

def sidSeq (sid : Nat) : Nat := bits sid 8 48

/-- R233 on received dimensions. -/
def dimsOk (s : State) (n w h : Nat) : Bool :=
  decide (w ≤ s.rd (STREAM_DIM_WIDTH n)) && decide (h ≤ s.rd (STREAM_DIM_HEIGHT n)) &&
    cropOk (profile s (s.rd (STREAM_CFG_PREP n)) w h) w h

/-- A frame that starts gets a sequence number and, unless it is JPEG, a buffer. -/
def openFrame (f : Frame) (s : State) : Option Frame × State :=
  let x := nextSid f.stream s
  let f := { f with sid := x.1 }
  if f.jpeg then (some f, x.2)
  else
    let b := takeBuf f.stream (frameGranules x.2 f.stream f.prep) x.2
    match b.1 with
    | none => (none, countReason f.stream 0x07 b.2)
    | some a => (some { f with buf := some a }, b.2)

/-- A frame begins on a stream: triggers are matched, R233 is checked, SEQ advances, and a buffer is taken unless it waits for the
JPEG dimensions (R233, R235, R236, R238, R246, R263, R270). -/
def beginFrame (n ch w h srcSeq fs fsMono : Nat) (jpeg ok : Bool) (s : State) : Option Frame × State :=
  let i := s.intake
  let m := matchFrame n fs fsMono { s with intake := { i with lastFrame := i.lastFrame.insert n s.mono } }
  let s := m.2
  let exp := if 256 ≤ ch then (0, 0) else if m.1.isNone then (0xFFFFFFFF, 0) else inForce s n
  if !ok ∨ (!jpeg && !dimsOk s n w h) then (none, countReason n 0x06 s)
  else
    openFrame { stream := n, chan := ch, sid := 0, fs := fs, fsMono := fsMono, expgen := exp.1, trig := m.1, expE := exp.2
                width := w, height := h, fmt := s.rd (STREAM_CFG_FMT n), srcSeq := srcSeq, lastPkt := s.mono, jpeg := jpeg
                prep := s.rd (STREAM_CFG_PREP n), group := s.rd (STREAM_CFG_GROUP n) } s

/-- Store a line in the frame's buffer (R234). -/
def storeLine (f : Frame) (k : Nat) (l : Bytes) (s : State) : State :=
  match f.buf with
  | some b => (memWrite s 40 0 (bufAddr s b + k * stride f.fmt f.width) (l.take (stride f.fmt f.width))).2
  | none => s

/-! ### Sentinels at the end of a frame (R275 to R278) -/

/-- The two sentinel lines: inserted (SRC 0) or received (SRC 1); none where they are missing. -/
def sentinelLines (s : State) (f : Frame) (truncated : Bool) : Option (Bytes × Bytes) :=
  if truncated then none
  else if s.rdb (SENT_CFG_SRC f.stream) then
    match f.sentLines with | [a, b] => some (a, b) | _ => none
  else if f.chan < 256 ∧ f.lines.length < f.height then none
  else
    some (patternLine f.fmt f.width (s1Value (sidSeq f.sid) f.stream),
      patternLine f.fmt f.width (s2Value (s.rd (SENT_CFG_SHIFT f.stream))))

/-- SP2 is checked on this frame (R277). -/
def sp2On (s : State) (f : Frame) : Bool := s.rdb (SENT_CFG_EN f.stream) && s.rdb (SENT_CFG_SP2 f.stream) && !s.rdb (PREP_CTL_BYPASS f.prep)

/-- The verdict at a point: 3 missing, 2 fail, 1 pass. -/
def verdictOf (lines : Option (Bytes × Bytes)) (good : Bytes × Bytes → Bool) : Nat :=
  match lines with | none => 3 | some l => if good l then 1 else 2

/-- The SENT word (R278). `bad1` and `bad2` say that the path under test corrupted the lines at SP1 and SP2. -/
def sentWordOf (s : State) (f : Frame) (lines : Option (Bytes × Bytes)) (bad1 bad2 : Bool) : Nat :=
  let n := f.stream
  let src := s.rdb (SENT_CFG_SRC n)
  let sp1 := if s.rdb (SENT_CFG_EN n) then
      verdictOf lines (fun l => !bad1 && (!src || (crc32 l.1 == s.rd (SENT_EXP1 n) && crc32 l.2 == s.rd (SENT_EXP2 n)))) else 0
  let sp2 := if sp2On s f then verdictOf lines (fun _ => !bad2) else 0
  sp1 + 4 * sp2 + 16 * ofBool src + 2 ^ 8 * (if src then f.srcSeq % 256 else sidSeq f.sid % 256)

/-- The prepared row of a sentinel line; what a path that corrupted it made of it is free values. -/
def sentinelRow (s : State) (p : Profile) (fmt : Nat) (bad : Bool) (line : Bytes) : Bytes :=
  let row := prepLine p s.freeCount fmt line
  if bad then (List.range row.length).map fun i => BitVec.ofNat 8 (Config.freeValue (s.freeCount + i)) else row

/-- The prepared sentinel rows go to the sentinel area; `bad` when the path under test corrupted them (R277). -/
def storeSentinels (f : Frame) (lines : Option (Bytes × Bytes)) (bad : Bool) (s : State) : State :=
  match lines with
  | none => s
  | some l =>
    if !s.rdb (SENT_CFG_EN f.stream) ∨ s.rdb (PREP_CTL_BYPASS f.prep) then s
    else
      let p := profile s f.prep f.width f.height
      let a := s.rdPair SENT_BASE_LO SENT_BASE_HI + (16 * f.stream + sidSeq f.sid % 16) * 32768
      let s := (memWrite s 40 0 a (sentinelRow s p f.fmt bad l.1)).2
      let s := (memWrite s 40 0 (a + 16384) (sentinelRow s p f.fmt bad l.2)).2
      if bad then { s with freeCount := s.freeCount + 2 ^ 14 } else s

/-! ### The end of a frame -/

/-- The statistics record (R271). -/
def writeStats (f : Frame) (s : State) : State :=
  let n := f.stream
  if !s.rdb (EXP_CFG_STAT_EN n) then s
  else
    let rows := lumaRows s.freeCount f.fmt f.width f.lines
    let flags := ofBool (frameStatus f != 0 || f.lines.length != s.rd (STREAM_DIM_HEIGHT n)) + 2 * ofBool f.trig.isNone
    let rec_ := statRecord f.sid f.expgen flags (f.trig.getD 0) f.fs f.width (s.rd (STAT_CFG_SAT_LEVEL n))
      (s.rd (STAT_CFG_DARK_LEVEL n)) f.expE rows
    let s := (memWrite s 40 0 (s.rdPair EXPS_BASE_LO EXPS_BASE_HI + (16 * n + sidSeq f.sid % 16) * 576) rec_).2
    let i := s.intake
    { s with intake := { i with stats := i.stats.insert n ⟨f.expgen, sumList rows.flatten, f.width * f.lines.length, flags⟩ } }

/-- Free values are used up for the pixels of an incomplete frame. -/
def usePixels (f : Frame) (s : State) : State :=
  if f.marks = [] then s else { s with freeCount := s.freeCount + 2 ^ 28 }

/-- A frame leaves reception: dropped with its reason, or kept for its descriptor. `ended` when it reached its FE. -/
def closeFrame (f : Frame) (ended bad1 bad2 : Bool) (s : State) : State :=
  let st := frameStatus f
  let kept := st == 0 || s.rdb (STREAM_CFG_KEEP_BAD f.stream)
  let lines := sentinelLines s f (f.marks.contains 1)
  let f := { f with sentWord := sentWordOf s f lines bad1 bad2 }
  let s := if kept then storeSentinels f lines (bad1 || bad2) s else s
  let s := if ended || kept then writeStats f s else s
  let s := settleState f.stream (usePixels f s)
  if !kept then showPool (countReason f.stream st s)
  else
    let cache := s.rdb (STREAM_CFG_CACHE_EN f.stream) && s.rd CACHE_CFG_MIB != 0 && st == 0
    let f := { f with cached := cache }
    let s := setClosed s (s.intake.closed ++ [f])
    let i := s.intake
    showPool (if cache then { s with intake := { i with encoding := i.encoding ++ [f] } } else s)

/-- Close the open frame of a channel. -/
def closeOpen (ch : Nat) (mark : Option Nat) (ended : Bool) (fe : Nat) (bad1 bad2 : Bool) (s : State) : State :=
  match s.intake.open_.find? (·.chan == ch) with
  | none => s
  | some f =>
    let f := { f with fe := fe }
    let f := match mark with | some c => addMark c f | none => f
    let f := if ended ∧ f.lines.length + f.extra ≠ f.height then addMark 3 f else f
    let s := showOpen (ch / 16) (ch % 16) false (setOpen s (s.intake.open_.filter fun x => x.chan != ch))
    closeFrame f ended bad1 bad2 s

/-! ### CSI-2 (8.2, 8.4) -/

/-- The unit is in use: enabled, and on an odd number only when its port is split (8.2). -/
def unitOn (s : State) (u : Nat) : Bool :=
  decide (u < 16) && s.rdb (UNIT_CFG_EN u) && (u % 2 == 0 || s.rdb (UNIT_CFG_SPLIT (u - 1)))

/-- The slot of a virtual channel. -/
def csiStream (s : State) (u v : Nat) : Option Nat :=
  firstWhere 32 fun n => s.rdb (STREAM_CFG_EN n) && !s.rdb (STREAM_CFG_SRC n) && s.rd (STREAM_CFG_UNIT n) == u &&
    s.rd (STREAM_CFG_VC n) == v && s.rd (STREAM_STATE_STATE n) != 0

/-- A packet header with its ECC: 0 right, 1 corrected, 2 uncorrectable (R225). A header lost inside a frame marks the frames open on
the unit BADLEN (R250). The flag says whether the packet goes on. -/
def packetHeader (u ecc : Nat) (s : State) : Bool × State :=
  let s := s.set (UNIT_STATUS_HS u)
  if ecc = 0 then (true, s)
  else if ecc = 1 then (true, s.inc (UNIT_ERR_ECC_CORR u))
  else (false, setOpen (s.inc (UNIT_ERR_ECC_UNC u)) (s.intake.open_.map fun f => if f.chan / 16 = u then addMark 3 f else f))

/-- A unit joins once its lanes have been seen in the stop state; until then its lanes are ignored (R166). -/
def joinUnit (u : Nat) (stop : Bool) (s : State) : State :=
  let i := s.intake
  if !stop ∨ u ∈ i.csiJoined then s else { s with intake := { i with csiJoined := u :: i.csiJoined } }

/-- FS with a frame number on a virtual channel (R166, R228, R233). -/
def frameStart (u v fn ecc : Nat) (stop : Bool) (s : State) : State :=
  if !intakeOn s ∨ !unitOn s u ∨ 16 ≤ v ∨ !(stop || s.intake.csiJoined.contains u) then s
  else
    let s := joinUnit u stop s
    let h := packetHeader u ecc s
    let s := h.2
    if !h.1 then s
    else
      let ch := 16 * u + v
      let s := closeOpen ch (some 1) false s.ts64 false false s
      let r := match csiStream s u v with
        | some n => (some n, s)
        | none => if s.rdb (UNIT_CFG_DYN_EN u) then newSlot (s.rd (UNIT_CFG_DYN_TPL u)) 0 u v s else (none, s)
      match r.1 with
      | none => r.2
      | some n =>
        let s := r.2
        let b := beginFrame n ch (s.rd (STREAM_DIM_WIDTH n)) (s.rd (STREAM_DIM_HEIGHT n)) (fn % 65536) s.ts64 s.mono false true s
        match b.1 with
        | none => b.2
        | some f => showPool (showOpen u v true ((setOpen b.2 (b.2.intake.open_ ++ [f])).wr (STREAM_STATE_STATE n) 2))

/-- The order in which frame starts of one cycle compete for a slot: the lower port, then the lower virtual channel (R177). -/
def startRank (x : FrameStart) : Nat := x.unit / 2 * 64 + x.vc * 2 + x.unit % 2

/-- FRAME_START: an FS packet, and those that other ports receive in the same Intake cycle (R177, R233). -/
def execFrameStart (u v fn ecc : Nat) (s : State) (stop : Bool := true) (more : List FrameStart := []) : Out :=
  .next ((sortRank startRank (⟨u, v, fn, ecc, stop⟩ :: more)).foldl (fun t x => frameStart x.unit x.vc x.number x.ecc x.stop t) s)

/-- A long packet's effect on its frame (R226, R234, R276). -/
def takeLine (f : Frame) (crcOk : Bool) (data : Bytes) (now : Nat) (sent : Bool) : Frame :=
  let f := { f with lastPkt := now }
  let f := if crcOk then f else addMark 2 f
  let f := if data.length = wireBytes f.fmt f.width then f else addMark 3 f
  if f.lines.length < f.height then { f with lines := f.lines ++ [unpack f.fmt data] }
  else if sent ∧ f.sentLines.length < 2 then { f with sentLines := f.sentLines ++ [unpack f.fmt data] }
  else { f with extra := f.extra + 1 }

/-- LINE_PACKET: a long packet of a data type, its payload and whether its CRC matched (R224 to R226, R234). -/
def linePacket (u v dt ecc : Nat) (crcOk : Bool) (data : Bytes) (s : State) : State :=
  if !intakeOn s ∨ !unitOn s u ∨ 16 ≤ v then s
  else
    let h := packetHeader u ecc s
    let s := h.2
    if !h.1 then s
    else
      let s := if crcOk then s else s.inc (UNIT_CRC_CRC u)
      let ch := 16 * u + v
      let known := dt ∈ [0x2A, 0x2B, 0x2C, 0x2E, 0x1E, 0x24]
      match s.intake.open_.find? (·.chan == ch) with
      | none => if known then s else s.inc (UNIT_CRC_DT_DISCARD u)
      | some f =>
        if dt ≠ dataType f.fmt then onOpen ch (fun x => { x with lastPkt := s.mono }) (s.inc (UNIT_CRC_DT_DISCARD u))
        else
          let k := f.lines.length
          let sent := s.rdb (SENT_CFG_SRC f.stream)
          let s := if k < f.height then storeLine f k (unpack f.fmt data) (notePixels f.width 0 s) else s
          onOpen ch (fun x => takeLine x crcOk data s.mono sent) s

def execLinePacket (u v dt ecc : Nat) (crcOk : Bool) (data : Bytes) (s : State) : Out :=
  .next (linePacket u v dt ecc crcOk data s)

/-- FRAME_END: FE on a virtual channel (R228, R234, R235). -/
def frameEnd (u v ecc : Nat) (bad1 bad2 : Bool) (s : State) : State :=
  if !intakeOn s ∨ !unitOn s u ∨ 16 ≤ v then s
  else
    let h := packetHeader u ecc s
    let s := h.2
    if !h.1 then s
    else if s.intake.open_.any (·.chan == 16 * u + v) then closeOpen (16 * u + v) none true s.ts64 bad1 bad2 s
    else s.inc (UNIT_CRC_DT_DISCARD u)

def execFrameEnd (u v ecc : Nat) (bad1 bad2 : Bool) (s : State) : Out := .next (frameEnd u v ecc bad1 bad2 s)

/-- Truncate every frame open on a unit that passes a test (R227). -/
def truncateUnit (u : Nat) (p : Frame → Bool) (s : State) : State :=
  ((s.intake.open_.filter fun f => f.chan / 16 == u && p f).map (·.chan)).foldl
    (fun t ch => closeOpen ch (some 1) false t.ts64 false false t) s

/-- LINE_TIMEOUT: no packet of the frame has arrived for LINE_TO_US (R227). -/
def execLineTimeout (u v : Nat) (s : State) : Out :=
  .next (if unitOn s u ∧ v < 16 then
    truncateUnit u (fun f => f.chan % 16 == v && decide (f.lastPkt + s.rd (UNIT_CFG_LINE_TO_US u) * 1000 ≤ s.mono)) s else s)

/-- CLOCK_LANE_LOSS: the clock lane has left HS for more than 1 µs (R227); between frames the unit joins again (8.11). -/
def execClockLaneLoss (u : Nat) (s : State) : Out :=
  .next (if unitOn s u then
    let s := s.clr (UNIT_STATUS_HS u)
    let i := s.intake
    let s := if i.open_.any (·.chan / 16 == u) then s else { s with intake := { i with csiJoined := i.csiJoined.erase u } }
    if s.rdb (UNIT_CFG_CONTCLK u) then truncateUnit u (fun _ => true) s else s
  else s)

/-! ### GVSP (8.3) -/

/-- A GVSP packet's header: block ID, packet format, packet ID, and the offset of its body. PRESUMED from the GVSP standard (log 35). -/
structure GvHeader where
  block : Nat
  format : Nat
  id : Nat
  off : Nat
  deriving DecidableEq, Repr

def gvHeader (b : Bytes) : GvHeader :=
  let e := u8 b 4
  if 128 ≤ e then ⟨beNat b 8 8, e % 16, beNat b 16 4, 20⟩ else ⟨beNat b 2 2, e % 16, beNat b 5 3, 8⟩

/-- The PFNC pixel format of a FMT (R229, log 35). -/
def pixelFormat (fmt : Nat) : Nat := [0x01080001, 0x01100003, 0x01100005, 0x01100007, 0x0210003B, 0x02180014].getD fmt 0

/-- The filter a packet matches (R230). -/
def gvFilter (s : State) (p : GvPacket) : Option Nat :=
  firstWhere 16 fun f => s.rdb (GV_FILT_EN f) && s.rd (GV_FILT_PORT f) == p.port && s.rd (GV_FILT_DPORT f) == p.udp &&
    (s.rd (GV_SRCIP f) == 0 || s.rd (GV_SRCIP f) == p.srcIp)

/-- The stream of a packet: the filter's slot, or a slot of its own for each source of a wildcard filter (R174, R230). -/
def gvStream (f : Nat) (p : GvPacket) (fresh : Bool) (s : State) : Option Nat × State :=
  if s.rd (GV_SRCIP f) = 0 ∧ s.rdb (GV_FILT_DYN_EN f) then
    match s.intake.gvMap.find? fun e => e.1 == f && e.2.1 == p.srcIp with
    | some e => (some e.2.2, s)
    | none =>
      if !fresh then (none, s)
      else
        let r := newSlot (s.rd (GV_FILT_DYN_TPL f)) 1 f 0 s
        match r.1 with
        | none => r
        | some n =>
          let i := r.2.intake
          (some n, { r.2 with intake := { i with gvMap := i.gvMap ++ [(f, p.srcIp, n)] } })
  else
    let n := s.rd (GV_FILT_STREAM f)
    (if s.rdb (STREAM_CFG_EN n) ∧ s.rd (STREAM_STATE_STATE n) ≠ 0 then some n else none, s)

/-- A block is over: its later packets are ignored (R231). -/
def isEnded (s : State) (n block : Nat) : Bool := (s.intake.gvEnded.get [] n).contains block

def setBlocks (s : State) (l : List Block) : State :=
  let i := s.intake
  { s with intake := { i with blocks := l } }

/-- Drop blocks as INCOMPLETE or with another reason (R231). -/
def dropBlocks (code : Nat) (p : Block → Bool) (s : State) : State :=
  let out := s.intake.blocks.filter p
  let s := setBlocks s (s.intake.blocks.filter fun b => !p b)
  showPool (out.foldl (fun t b => settleState b.stream (countReason b.stream code (endBlock b.stream b.blockId t))) s)

/-- The stored line of a GVSP line: YCbCr422_8 arrives Y Cb Y Cr. -/
def gvLine (fmt : Nat) (l : Bytes) : Bytes :=
  if fmt = 4 then (List.range (l.length / 4)).flatMap fun i =>
    [l.getD (4 * i + 1) 0, l.getD (4 * i) 0, l.getD (4 * i + 3) 0, l.getD (4 * i + 2) 0]
  else l

/-- Cut a payload into lines. -/
def cutLines (n : Nat) : Nat → Bytes → List Bytes
  | 0, _ => []
  | k + 1, b => b.take n :: cutLines n k (b.drop n)

/-- Store all lines of a frame. -/
def storeLines (f : Frame) (s : State) : State :=
  f.lines.zipIdx.foldl (fun t (e : Bytes × Nat) => storeLine f e.2 e.1 t) s

/-- A complete block: its lines, or its JPEG payload waiting for the decoder (R231, R233, R244). `bad1` and `bad2` say that the path under test
corrupted the sentinel lines (R277). -/
def finishBlock (b : Block) (bad1 bad2 : Bool) (s : State) : State :=
  match b.trailer with
  | none => s
  | some t =>
    let data := b.packets.flatMap (·.2)
    let s := endBlock b.stream b.blockId (setBlocks s (s.intake.blocks.filter fun x => !(x.stream == b.stream && x.blockId == b.blockId)))
    let f := { b.frame with fe := t.2.1 }
    if b.ptype = 6 then
      if s.rd (GV_CFG_JPEG_MAX_KIB b.filter) * 1024 < data.length then settleState b.stream (countReason b.stream 0x06 s)
      else settleState b.stream (setClosed s (s.intake.closed ++ [{ f with scan := some data }]))
    else if data.length ≠ stride f.fmt f.width * f.height then showPool (settleState b.stream (countReason b.stream 0x04 s))
    else
      let f := { f with lines := (cutLines (stride f.fmt f.width) f.height data).map (gvLine f.fmt) }
      closeFrame f true bad1 bad2 (storeLines f s)

/-- Every payload packet before the trailer has arrived. -/
def blockComplete (b : Block) : Bool :=
  match b.trailer with
  | none => false
  | some t => (List.range (t.1 - 1)).all fun i => (b.packets.find (i + 1)).isSome

/-- A block ID is later than another; the IDs of 16 bits run round. PRESUMED from the GVSP standard (log 35). -/
def laterBlock (a b : Nat) : Bool :=
  if 2 ^ 16 ≤ a ∨ 2 ^ 16 ≤ b then decide (b < a) else a != b && decide ((a + 65536 - b) % 65536 < 32768)

/-- A packet's effect by its format: 1 leader, 2 trailer, 3 payload (R229 to R235). What comes of a block that is over is ignored. -/
def gvPacket (f n : Nat) (p : GvPacket) (h : GvHeader) (bad1 bad2 : Bool) (s : State) : State :=
  let body := p.payload.drop h.off
  let mine := fun (b : Block) => b.stream == n && b.blockId == h.block
  if isEnded s n h.block then s
  else if h.format = 1 then
    if s.intake.blocks.any mine then s
    else
      let s := dropBlocks 0x04 (fun b => b.stream == n && b.trailer.isNone && laterBlock h.block b.blockId) s
      let pt := beNat body 2 2
      let w := beNat body 16 4
      let ht := beNat body 20 4
      let ok := pt == 6 || (pt == 1 && beNat body 12 4 == pixelFormat (s.rd (STREAM_CFG_FMT n)))
      let r := beginFrame n (256 + f) w ht (h.block % 2 ^ 32) p.stamp p.mono (pt == 6) ok s
      match r.1 with
      | none => endBlock n h.block r.2
      | some fr =>
        showPool ((setBlocks r.2 (r.2.intake.blocks ++
          [{ stream := n, filter := f, blockId := h.block, ptype := pt, frame := fr }])).wr (STREAM_STATE_STATE n) 2)
  else if h.format = 2 then
    match s.intake.blocks.find? mine with
    | none => s
    | some b =>
      if b.trailer.isSome then s
      else
        let b := { b with trailer := some (h.id, p.stamp, p.mono) }
        let s := setBlocks s (s.intake.blocks.map fun x => if mine x then b else x)
        if blockComplete b then finishBlock b bad1 bad2 s else s
  else if h.format = 3 then
    match s.intake.blocks.find? mine with
    | none => endBlock n h.block (countReason n 0x04 s)
    | some b =>
      match b.packets.find h.id with
      | some old => if old.length = body.length then s else dropBlocks 0x04 mine s
      | none =>
        let b := { b with packets := b.packets.insert h.id body }
        let s := if b.ptype = 6 then s else notePixels (body.length / storedBpp b.frame.fmt) 0 s
        let s := setBlocks s (s.intake.blocks.map fun x => if mine x then b else x)
        if blockComplete b then finishBlock b bad1 bad2 s else s
  else s

/-- A packet that a filter matches goes to its stream. The filter joins with its first leader; before that, and from a source without a
stream, packets count as unmatched (R166, R230). -/
def gvMatched (f : Nat) (p : GvPacket) (h : GvHeader) (bad1 bad2 : Bool) (s : State) : State :=
  if h.format ≠ 1 ∧ f ∉ s.intake.gvJoined then s.inc GV_UNMATCHED
  else
    let i := s.intake
    let s := if f ∈ i.gvJoined then s else { s with intake := { i with gvJoined := f :: i.gvJoined } }
    let r := gvStream f p (h.format == 1) s
    match r.1 with
    | some n => gvPacket f n p h bad1 bad2 r.2
    | none => if h.format = 1 then r.2 else r.2.inc GV_UNMATCHED

/-- Take the oldest steered packet, if it has the row's format; every packet that matches no filter is counted and discarded
(R230). -/
def gvTake (kind : GvHeader → Bool) (bad1 bad2 : Bool) (s : State) : State :=
  match s.eth.gv with
  | [] => s
  | p :: rest =>
    let h := gvHeader p.payload
    if !kind h then s
    else
      let e := s.eth
      let s := freeCells (accountOf p.port 16) p.cells { s with eth := { e with gv := rest } }
      if !intakeOn s then s
      else match gvFilter s p with
        | none => s.inc GV_UNMATCHED
        | some f => gvMatched f p h bad1 bad2 s

def execGvspLeader (s : State) : Out := .next (gvTake (fun h => h.format == 1) false false s)
def execGvspPayload (s : State) (bad1 bad2 : Bool := false) : Out := .next (gvTake (fun h => h.format != 1 && h.format != 2) bad1 bad2 s)
def execGvspTrailer (s : State) (bad1 bad2 : Bool := false) : Out := .next (gvTake (fun h => h.format == 2) bad1 bad2 s)

/-- GVSP_BLOCK_TIMEOUT: a packet is missing WAIT_US after the trailer (R231). -/
def execGvspBlockTimeout (n : Nat) (s : State) : Out :=
  .next (dropBlocks 0x04 (fun b => b.stream == n &&
    (match b.trailer with | some t => decide (t.2.2 + s.rd (GV_CFG_WAIT_US b.filter) * 1000 ≤ s.mono) | none => false)) s)

/-- The frame of lowest SEQ in a list. -/
def firstSeq (l : List Frame) : Option Frame :=
  l.foldl (fun o f => match o with
    | none => some f
    | some b => if sidSeq f.sid < sidSeq b.sid then some f else some b) none

/-- The JPEG payload of a stream of lowest SEQ not yet decoded. -/
def nextScan (s : State) (n : Nat) : Option Frame := firstSeq (s.intake.closed.filter fun f => f.stream == n && f.scan.isSome)

/-- The JPEG payload of a frame leaves the frames closed, and the frame is dropped for a reason. -/
def dropScan (n : Nat) (f : Frame) (code : Nat) (s : State) : State :=
  showPool (countReason n code (setClosed s (s.intake.closed.filter fun x => x.sid != f.sid)))

/-- The decoder's rate (R244): 1.2 Gpixel/s, on A2 0.9; the time it takes an image, in eighths of a ns. -/
def decodeTime (s : State) (px : Nat) : Nat := if s.fuse.stepping = 0 then px * 80 / 9 else px * 20 / 3

/-- The decoded image of a frame takes a buffer and is stored. -/
def placeImage (n : Nat) (f : Frame) (w h : Nat) (rows : List Bytes) (bad1 bad2 : Bool) (s : State) : State :=
  let b := takeBuf n (frameGranules s n f.prep) s
  match b.1 with
  | none => dropScan n f 0x07 b.2
  | some a =>
    let s := setClosed (b.2.inc JPEG_STAT_DECODED) (s.intake.closed.filter fun x => x.sid != f.sid)
    let f := { f with scan := none, buf := some a, width := w, height := h, lines := rows }
    closeFrame f true bad1 bad2 (storeLines f (notePixels (w * h) (decodeTime s (w * h)) s))

/-- JPEG_DECODE_DONE (R233, R244): dimensions are checked, a buffer is taken, the image is stored, or the frame is dropped. -/
def jpegDone (n : Nat) (bad1 bad2 : Bool) (s : State) : State :=
  match nextScan s n with
  | none => s
  | some f =>
    match Jpg.sof (f.scan.getD []).length ((f.scan.getD []).drop 2) with
    | none => dropScan n f 0x05 (s.inc JPEG_STAT_DECERR)
    | some d =>
      if !dimsOk s n d.1 d.2.1 ∨ (d.2.2 = 1 ∧ f.fmt ≠ 0) ∨ (d.2.2 = 3 ∧ f.fmt ≠ 5) then dropScan n f 0x06 s
      else match Jpg.decode (f.scan.getD []) with
        | none => dropScan n f 0x05 (s.inc JPEG_STAT_DECERR)
        | some im => placeImage n f im.width im.height im.rows bad1 bad2 s

def execJpegDecodeDone (n : Nat) (s : State) (bad1 bad2 : Bool := false) : Out := .next (jpegDone n bad1 bad2 s)

/-! ### Samples (R247 to R250, R279) -/

/-- The descriptor (R249). -/
def descriptor (s : State) (f : Frame) (status flags near : Nat) : Bytes :=
  let p := profile s f.prep f.width f.height
  let b := f.buf.getD ⟨0, 0, false⟩
  leBytes 8 f.sid ++ leBytes 8 f.fs ++ leBytes 8 f.fe ++ leBytes 4 f.fsMono ++ leBytes 4 f.expgen ++
    leBytes 8 (if f.buf.isSome then bufAddr s b else 0) ++ leBytes 4 (f.lines.length * stride f.fmt f.width) ++ leBytes 2 f.width ++
    leBytes 2 f.lines.length ++ leBytes 2 (if p.bypass then 0 else p.outW) ++ leBytes 2 (if p.bypass then 0 else p.outH) ++
    leBytes 1 (f.fmt + 8 * ofBool f.jpeg + 16 * f.prep) ++ leBytes 1 status ++
    leBytes 1 (flags + 2 * ofBool b.borrowed + 4 * ofBool f.cached + 8 * ofBool (!p.bypass && prepComps p f.fmt == 3)) ++ leBytes 1 near ++
    leBytes 4 f.srcSeq ++ leBytes 2 f.sentWord ++ zeros 2

/-- Write the prepared tensor behind the raw frame (R243). -/
def writeTensor (f : Frame) (s : State) : State :=
  let p := profile s f.prep f.width f.height
  match f.buf with
  | some b =>
    if p.bypass then s
    else
      (memWrite s 40 0 (bufAddr s b + 4096 * ceilDiv (f.lines.length * stride f.fmt f.width) 4096)
        (prepTensor p s.freeCount f.fmt f.lines)).2
  | none => s

/-- The points whose verdict is fail or missing where enabled. -/
def failedPoints (s : State) (f : Frame) : List Nat :=
  (if s.rdb (SENT_CFG_EN f.stream) && bits f.sentWord 0 2 != 1 then [1] else []) ++
    (if sp2On s f && bits f.sentWord 2 2 != 1 then [2] else [])

/-- A live sample is queued: its sentinels are judged (R279, R281, R282, R575). -/
def judgeSentinels (f : Frame) (s : State) : State :=
  let n := f.stream
  let bad := failedPoints s f
  let z := s.safety
  let s := { s with safety := { z with sent := z.sent.insert (16 * n + sidSeq f.sid % 16) ⟨f.sid, bad == []⟩ } }
  let s := s.wr (SENT_STAT_LAST n) f.sentWord
  if bad = [] then
    let s := s.wr (SENT_STAT_CONSEC n) 0
    let z := s.safety
    { s with safety := { z with sentRaised := z.sentRaised.erase n } }
  else
    let s := bad.foldl (fun t k => post 0x6002 0x05 [f.sid, f.sid / 2 ^ 32, k] t) s
    let s := (s.inc (SENT_FAILS n)).inc (SENT_STAT_CONSEC n)
    let z := s.safety
    let s := if s.rdb (SENT_CFG_ARM n) then { s with safety := { z with dirtySent := true } } else s
    if s.rd (SENT_CFG_FAIL_LIMIT n) ≤ s.rd (SENT_STAT_CONSEC n) ∧ n ∉ s.safety.sentRaised then
      let z := s.safety
      raiseFault 0x08 n { s with safety := { z with sentRaised := n :: z.sentRaised } }
    else s

/-- A group's consumer queue is in RELAXED mode. -/
def relaxedGroup (s : State) (g : Nat) : Bool := s.rd (Q_CFG_DET (s.rd (BG_CFG_QID g))) == 0

/-- With LATEST and a RELAXED consumer, the queued samples of a stream give way to its newly ready one (R254). DEDUCED (log 125): in every group,
replays among them, but for a group whose own consumer is in DETERMINISTIC mode; a replay makes none give way. -/
def giveWay (n g : Nat) (s : State) : State :=
  if s.rdb (STREAM_CFG_LATEST n) ∧ relaxedGroup s g then
    (List.range 8).foldl (fun t k => if relaxedGroup t k then releaseQueued k 0x0A (fun x => x.stream == n) t else t) s
  else s

/-- A sample enters its group's queue. -/
def queueSample (f : Frame) (status flags near : Nat) (s : State) : State :=
  let n := f.stream
  let g := f.group
  let replay := bit flags 0
  let s := if replay then s else giveWay n g s
  let x : Sample :=
    { stream := n, sid := f.sid, fsMono := f.fsMono, desc := descriptor s f status flags near, buf := f.buf, slot := 0
      replay := replay }
  let before := (groupQueue s g).length
  let s := enterQueue g x s
  if !replay ∧ before < 64 ∧ s.rdb (BG_CFG_EN g) then judgeSentinels f s else s

/-- A frame of a stream that came before is still in reception. -/
def earlierOpen (s : State) (f : Frame) : Bool :=
  (s.intake.open_ ++ s.intake.blocks.map (·.frame)).any fun x => x.stream == f.stream && decide (sidSeq x.sid < sidSeq f.sid)

/-- One stream's closed frame of lowest SEQ becomes a sample; those that came later wait for it (R247, R248). -/
def sampleReady (n : Nat) (s : State) : State :=
  match firstSeq (s.intake.closed.filter (·.stream == n)) with
  | none => s
  | some f =>
    if f.scan.isSome ∨ earlierOpen s f then s
    else
      let s := writeTensor f s
      let s := setClosed s (s.intake.closed.filter fun x => x.sid != f.sid)
      queueSample f (frameStatus f) 0 0 s

/-- SAMPLE_READY: the streams whose samples become ready in one cycle, entering in ascending number (R248). -/
def execSampleReady (l : List Nat) (s : State) : Out := .next ((sortRank id l).foldl (fun t n => sampleReady n t) s)

/-! ### Cache and replays (8.10) -/

def cacheBytes (l : List CacheEntry) : Nat := l.foldl (fun a e => a + e.code.length) 0

/-- Evict the oldest entries until `n` more bytes fit. -/
def evict (cap n : Nat) : List CacheEntry → List CacheEntry
  | [] => []
  | e :: l => if cacheBytes (e :: l) + n ≤ cap then e :: l else evict cap n l

/-- The entry a frame makes. -/
def encodeFrame (s : State) (f : Frame) : CacheEntry :=
  let near := s.rd (STREAM_CFG_NEAR f.stream)
  let y := Jls.encode (depthOf f.fmt) near (f.lines.map (codedRow f.fmt f.width))
  { sid := f.sid, near := near, code := y.1, frame := { f with lines := y.2.map (decodedRow f.fmt f.width), buf := none } }

/-- The code of an entry goes to the cache region, which is filled round and round (R256). DESIGN CHOICE (log 32): where in the region. -/
def storeCode (cap : Nat) (code : Bytes) (s : State) : State :=
  let at_ := s.intake.cacheNext % max 1 cap
  let base := s.rdPair CACHE_BASE_LO CACHE_BASE_HI
  let head := code.take (cap - at_)
  let s := (memWrite s 40 0 (base + at_) head).2
  let s := if head.length < code.length then (memWrite s 40 0 base (code.drop (cap - at_))).2 else s
  let i := s.intake
  { s with intake := { i with cacheNext := (at_ + code.length) % max 1 cap } }

/-- CACHE_ENCODE_DONE: the oldest frame in encoding ends, or did not keep the rate (R256 to R258). -/
def cacheDone (late : Bool) (s : State) : State :=
  match s.intake.encoding with
  | [] => s
  | f :: rest =>
    let i := s.intake
    let s := { s with intake := { i with encoding := rest } }
    let e := encodeFrame s f
    let cap := s.rd CACHE_CFG_MIB * 2 ^ 20
    if late ∨ cap < e.code.length then s.inc CACHE_STAT_SKIP
    else
      let kept := evict cap e.code.length s.intake.cache
      let s := if kept.length < s.intake.cache.length then s.set INT_STATUS_CACHE_EVICT else s
      let s := storeCode cap e.code s
      let i := s.intake
      { s with intake := { i with cache := kept ++ [e] } }.wr CACHE_STAT_ENTRIES (kept.length + 1)

def execCacheEncodeDone (late : Bool) (s : State) : Out := .next (cacheDone late s)

def setReplays (s : State) (l : List Replay) : State :=
  let i := s.intake
  { s with intake := { i with replays := l } }.wr REPLAY_STAT_PENDING l.length

/-- REPLAY_GO: a write of REPLAY_CTL (R259). -/
def replayGo (w : Writer) (v : Nat) (s : State) : State :=
  guarded w 0x200038 (fun t =>
    let t := (t.wr REPLAY_CTL_PREP (bits v 0 4)).wr REPLAY_CTL_GROUP (bits v 4 3)
    if !bit v 8 then t
    else if t.intake.replays.length < 16 then
      setReplays t (t.intake.replays ++ [⟨t.rdPair REPLAY_SID_LO REPLAY_SID_HI, t.rd REPLAY_CTL_PREP, t.rd REPLAY_CTL_GROUP⟩])
    else t.inc REPLAY_STAT_REFUSED) s

def execReplayGo (w : Writer) (v : Nat) (s : State) : Out := .next (replayGo w v s)

/-- A replayed sample that the cache no longer holds joins the queue without a buffer (R238, R259). -/
def replayMiss (r : Replay) (n : Nat) (s : State) : State :=
  let s := countReason n 0x0D (s.inc REPLAY_STAT_MISS)
  let s := nondet (s.rd (BG_CFG_QID r.group)) 4 s
  enterQueue r.group
    { stream := n, sid := r.sid, fsMono := 0, buf := none, slot := 0, replay := true
      desc := leBytes 8 r.sid ++ zeros 45 ++ leBytes 1 0x0D ++ leBytes 1 1 ++ zeros 9 } s

/-- A replayed sample that the cache holds takes a buffer and joins the queue. -/
def replayHit (r : Replay) (n : Nat) (e : CacheEntry) (s : State) : State :=
  let b := takeBuf n (replayGranules s n r.prep) s
  match b.1 with
  | none => countReason n 0x07 b.2
  | some a =>
    let f := { e.frame with buf := some a, prep := r.prep, group := r.group }
    queueSample f 0 1 e.near (writeTensor f (storeLines f b.2))

/-- REPLAY_READY: the oldest pending replay ends (R238, R257, R259, R283); while the prepare stage is behind with live input it waits (R245). -/
def replayReady (s : State) : State :=
  match s.intake.replays with
  | [] => s
  | r :: rest =>
    if 8 * s.mono < s.intake.prepTo then s
    else match s.intake.cache.find? (·.sid == r.sid) with
    | none => replayMiss r (r.sid % 32) (setReplays s rest)
    | some e => replayHit r (r.sid % 32) e (setReplays s rest)

def execReplayReady (s : State) : Out := .next (replayReady s)

/-! ### Drain, reset (8.11) -/

/-- Step D3 of the drain: open frames go, pending replays are abandoned. -/
def intakeDrain (s : State) : State := setReplays (discardFrames 0x0C (fun _ => true) s) []

/-- Frames and queued samples are released: an ISL reset of the Intake, and step F1 of FOLD entry (DEDUCED, log 133). -/
def intakeStop (s : State) : State := (List.range 8).foldl (fun t g => releaseQueued g 0x0C (fun _ => true) t) (intakeDrain s)

/-- An ISL reset of the Intake (R261, R284 apart): frames and queued samples are released, dynamic slots freed. -/
def intakeReset (s : State) : State :=
  let s := intakeStop s
  let s := ((List.range 32).filter fun n => s.rdb (STREAM_CFG_EN n) && !s.rdb (STREAM_CFG_PIN n)).foldl (fun t n => releaseSlot n t) s
  let i := s.intake
  let z := s.safety
  { s with intake := { i with encoding := [], lowArmed := [], csiJoined := [], gvJoined := [], prepTo := 0 }, safety := { z with sentRaised := [] } }

end Sys2Proof.Machine
end

