-- ==== Sys2Proof/Machine/Wake.lean ====
section
/-! DEFINITION. Wake sources (R147, R156 to R159): which are latched, which begin an exit, and WAKE#. -/

namespace Sys2Proof.Machine
open Reg

/-- A wake source is valid in the power state in force (R156). -/
def wakeValid (st k : Nat) : Bool :=
  if st = 1 ∨ st = 2 then k != 2 else if st = 4 ∨ st = 6 then k != 3 else false

/-- ORDER once the exit has begun: HOST was latched first, and the sources of this cycle include a device source (R158). -/
def showOrder (l : List Nat) (s : State) : State :=
  if bit (s.rd WAKE_CAUSE_SRC) 2 && s.rd WAKE_CAUSE_FIRST == 2 && l.any (· != 2) then s.set WAKE_CAUSE_ORDER else s

/-- Set bits of a source field. -/
def addSources (f : Field) (l : List Nat) (s : State) : State := s.wr f (l.foldl (fun v k => setBit v k true) (s.rd f))

/-- The first of several sources of one AON cycle: a device source before HOST (R158), the lowest of several. -/
def firstSource (l : List Nat) : Nat :=
  match (l.filter (· != 2)) with
  | [] => 2
  | k :: ks => ks.foldl min k

/-- The AON island begins to power up: the main rails alone while the memory rails are good or FOLD's memory is held; group 2 first otherwise,
once the insertion conditions hold (R130, R153, R165). -/
def startPower (s : State) : State :=
  let p := s.power
  if s.rd PWR_STATE_STATE = 5 ∨ (p.penMem ∧ p.pgMem) then { s with power := { p with penMain := true, wait := 5 } }
  else if p.penMem ∨ (p.qualified ∧ !p.ejectLow) then { s with power := { p with penMem := true, wait := 4 } }
  else { s with power := { p with wait := 0 } }

/-- An exit begins: from DOZE; from FOLD entry before its commit word, which is abandoned, or from FOLD; from OFF (R147, R150, R152, R153). -/
def beginExit (s : State) : State :=
  let st := s.rd PWR_STATE_STATE
  let p := s.power
  if st = 1 ∨ st = 2 then s.wr PWR_STATE_STATE 3
  else if st = 4 ∧ !s.snap.commit then ({ s with snap := {} }.set SNAP_STATUS_ABANDONED).wr PWR_STATE_STATE 3
  else if st = 4 ∧ s.railsOff then startPower (s.wr PWR_STATE_STATE 5)
  else if st = 6 ∧ s.railsOff ∧ !p.penMem ∧ !p.pgMem then startPower s
  else s

/-- Latch the sources of one AON cycle (R157 to R159); in RUN into WAKE_LATE alone (5.11); while DRAINED a wake starts no exit (R171). -/
def latchWake (l : List Nat) (s : State) : State :=
  let l := l.filter fun k => decide (k < 12) && bit (s.rd WAKE_EN_EN) k
  let st := s.rd PWR_STATE_STATE
  if st = 0 then addSources WAKE_LATE_SRC l s
  else if s.power.exiting ∨ st = 3 ∨ st = 5 then
    showOrder l (addSources WAKE_CAUSE_SRC (l.filter (· == 2)) (addSources WAKE_LATE_SRC (l.filter (· != 2)) s))
  else
    let l := l.filter (wakeValid st)
    if l = [] then s
    else
      let k := firstSource l
      let p := s.power
      let s := (addSources WAKE_CAUSE_SRC l { s with power := { p with exiting := true } }).wrs [(WAKE_CAUSE_FIRST, k), (WAKE_CAUSE_ORDER, 0)]
      if s.rd LIV_STATUS_STATE = 2 then s
      else
        let s := if k ≠ 2 ∧ s.hl.l2 ∧ s.rdb PWR_CFG_HOSTWAKE then
            { s with power := { s.power with wakePin := true } }.set WAKE_CAUSE_WAKEOUT else s
        beginExit s

/-- Sources of one AON cycle are latched; a new wake tries again where power-up was given up (R131). -/
def wakeNow (l : List Nat) (s : State) : State :=
  let enabled := l.any fun k => decide (k < 12) && bit (s.rd WAKE_EN_EN) k
  let s := latchWake l s
  if enabled ∧ s.power.wait = 2 ∧ s.rd LIV_STATUS_STATE ≠ 2 then startPower s else s

/-- WAKE# is released: PERST# deasserted or link L0 (R159). -/
def releaseWakePin (s : State) : State :=
  let p := s.power
  { s with power := { p with wakePin := false } }

/-- QEI0 has moved by WAKE_QEI_COUNTS since DOZE entry (R147). -/
def motionWake (s : State) : State :=
  if s.rd PWR_STATE_STATE = 2 ∧
      s.rd PWR_CFG_WAKE_QEI_COUNTS ≤ (signed 32 (s.rd (QEI_COUNT 0)) - signed 32 s.joint.dozeCount).natAbs then
    latchWake [3] s
  else s

end Sys2Proof.Machine
end

