-- ==== Sys2Proof/Machine/Timekeeper.lean ====
section
/-! DEFINITION. The Timekeeper's commands (chapter 7): steps, the servo and PTP, timed outputs, captures, launches, the calendar
and the real-time clock. -/

namespace Sys2Proof.Machine
open Reg

/-! ### Timed outputs (R200 to R205) -/

def toutAt (s : State) (n : Nat) : Tout := s.tk.tout.get {} n
def setTout (s : State) (n : Nat) (t : Tout) : State :=
  let k := s.tk
  { s with tk := { k with tout := k.tout.put {} n t } }

/-- A leading edge of output `n`: it is stamped, it triggers cameras (R262), starts joint-sensor frames (R685) and takes encoder
snapshots (R691). -/
def toutEdge (n : Nat) (s : State) : State :=
  let ts := s.ts64
  let s := (s.wr (TOUT_LAST_SEC n) (ts / 2 ^ 32)).wr (TOUT_LAST_NS n) ts
  let s := setTout s n { toutAt s n with until_ := s.mono + (toutAt s n).width }
  let s := triggerEdge n ts s.mono s
  let s := ((List.range 8).filter fun p => s.rdb (JSP_CFG_TRIG_TOUT p) && s.rd (JSP_CFG_TOUTSEL p) == n).foldl (fun t p => jspStart p t) s
  ((List.range 4).filter fun k => jointRuns s && s.rdb (QEI_CFG_SNAP_TOUT k) && s.rd (QEI_CFG_TOUTSEL k) == n).foldl (fun t k => qeiSnap k t) s

/-- The output is active: within WIDTH_NS of its last leading edge; OFF is inactive at once (R200). -/
def toutActive (s : State) (n : Nat) : Bool := (toutAt s n).mode != 0 && decide (s.mono < (toutAt s n).until_)

/-- The level of the output's pin: POL makes it active low (7.11). -/
def toutLevel (s : State) (n : Nat) : Bool := toutActive s n != s.rdb (TOUT_CTL_POL n)

/-- The scheduled edge of an output has come: its instant on MONO, or on device time in REALIGN (R205). -/
def toutDue (s : State) (n : Nat) : Bool :=
  let t := toutAt s n
  s.rdb (TOUT_STATUS_RUNNING n) && (t.mode == 1 || t.mode == 2) && decide (t.due ≤ (if t.realign then s.devNs else s.mono))

/-- What follows an edge: a oneshot and the last pulse of a count end the mode (R200). -/
def toutNext (n : Nat) (s : State) : State :=
  let t := toutAt s n
  if t.mode = 1 ∨ (t.count ≠ 0 ∧ t.count ≤ t.edge + 1) then
    (setTout s n { t with edge := t.edge + 1 }).clr (TOUT_STATUS_RUNNING n)
  else setTout s n { t with edge := t.edge + 1, due := t.due + t.period }

/-- Produce a scheduled edge. -/
def produceEdge (n : Nat) (s : State) : State := toutNext n (toutEdge n s)

/-- TOUT_EDGE: a scheduled edge falls due (R204). -/
def execToutEdge (n : Nat) (s : State) : Out := .next (if toutDue s n then produceEdge n s else s)

/-- The staging of an output is acceptable (R202). -/
def toutOk (s : State) (n : Nat) : Bool :=
  s.rd (TOUT_WIDTH_NS n) != 0 &&
    !(s.rd (TOUT_CTL_MODE n) == 2 && decide (s.rd (TOUT_PERIOD_NS n) < s.rd (TOUT_WIDTH_NS n) + 100))

/-- Copy the staging into force and start the mode (R201, R203). -/
def armTout (n : Nat) (s : State) : State :=
  let mode := s.rd (TOUT_CTL_MODE n)
  let realign := s.rdb (TOUT_CTL_REALIGN n)
  let start := tsToDev s (s.rd (TOUT_START_NS n) + 2 ^ 32 * s.rd (TOUT_START_SEC n))
  let period := s.rd (TOUT_PERIOD_NS n)
  let count := s.rd (TOUT_COUNT n)
  let late := decide (start < s.devNs)
  let k := if mode = 2 ∧ late then (s.devNs - start) / period + 1 else 0
  let edgeDev := start + k * period
  let t : Tout :=
    { mode := mode, realign := realign, qei := s.rd (TOUT_CTL_QEISEL n), period := period, width := s.rd (TOUT_WIDTH_NS n)
      count := if mode = 2 then count else 0, edge := k, due := if realign then edgeDev else devToMono s edgeDev
      cmp := s.rd (TOUT_QEI_CMP n), step := s.rd (TOUT_QEI_STEP n), until_ := (toutAt s n).until_ }
  let s := setTout s n t
  let s := if late ∧ (mode = 1 ∨ mode = 2) then s.set (TOUT_STATUS_LATE n) else s
  let runs := mode == 3 || (mode == 1 && !late) || (mode == 2 && (count == 0 || decide (k < count)))
  s.wr (TOUT_STATUS_RUNNING n) (ofBool runs)

/-- TOUT_ARM: a write of TOUT_CTL (R201 to R203). -/
def toutArm (w : Writer) (n v : Nat) (s : State) : State :=
  guarded w (0x21000 + 0x40 * n) (fun s =>
    let s := if bit v 6 ∧ toutDue s n then produceEdge n s else s
    let s := s.wrs [(TOUT_CTL_MODE n, bits v 0 2), (TOUT_CTL_POL n, bits v 2 1), (TOUT_CTL_REALIGN n, bits v 3 1),
      (TOUT_CTL_QEISEL n, bits v 4 2)]
    if !bit v 6 then s else if toutOk s n then armTout n s else s.set (TOUT_STATUS_BADCFG n)) s

def execToutArm (w : Writer) (n v : Nat) (s : State) : Out := .next (toutArm w n v s)

/-- Outputs in QEICMP mode whose compare the count of an encoder has reached fire, and their compare advances (R200). -/
def fireCompares (k : Nat) (s : State) : State :=
  ((List.range 16).filter fun n =>
    s.rdb (TOUT_STATUS_RUNNING n) && (toutAt s n).mode == 3 && (toutAt s n).qei == k && (toutAt s n).cmp == s.rd (QEI_COUNT k)).foldl
    (fun t n =>
      let t := toutEdge n t
      let o := toutAt t n
      setTout t n { o with cmp := (o.cmp + o.step) % 2 ^ 32, edge := o.edge + 1 }) s

/-! ### Steps (R184, R187, R205) -/

/-- The gap since the last step has passed (R184). -/
def stepAllowed (s : State) : Bool :=
  match s.tk.lastStep with
  | none => true
  | some m => decide (m + s.rd TK_STEP_CFG_GAP_MS * 1000000 ≤ s.mono)

/-- The REALIGN edges a forward step passes over are produced once, at the step, with LATE set (R205). -/
def realignEdges (s : State) : State :=
  ((List.range 16).filter fun n => (toutAt s n).realign && toutDue s n && decide ((toutAt s n).due < s.devNs)).foldl (fun s n =>
    let s := toutEdge n (s.set (TOUT_STATUS_LATE n))
    let t := toutAt s n
    let k := if t.mode = 2 then (s.devNs - t.due) / t.period + 1 else 1
    let t2 := { t with edge := t.edge + k, due := t.due + k * t.period }
    if t.mode = 1 ∨ (t.count ≠ 0 ∧ t.count ≤ t2.edge) then (setTout s n t2).clr (TOUT_STATUS_RUNNING n) else setTout s n t2) s

/-- Back inside its range, the calendar forgets the second it stayed on (R218). -/
def rangeAgain (s : State) : State :=
  let t := s.time
  if overrange s then s else { s with time := { t with lastShown := 86399 } }

/-- Step device time by a signed amount of ns (R187). -/
def applyStep (d : Int) (s : State) : State :=
  let t := s.time
  let s := rangeAgain { s with time := { t with dev := ((t.dev : Int) + d * 65536).toNat } }
  let k := s.tk
  let s := { s with tk := { k with lastStep := some s.mono, deferred := none } }
  let s := (s.incWrap TK_STEP_COUNT_COUNT).wrPair TK_LAST_STEP_LO_NS TK_LAST_STEP_HI_NS (unsigned 64 d)
  let s := (s.set TK_STATUS_STEPPED).clr TK_STATUS_DEFERRED
  realignEdges (post 0x4001 0x02 [unsigned 64 d, unsigned 64 d / 2 ^ 32] s)

/-- Step now, or at the end of the gap; a newer request replaces a deferred one (R184). -/
def requestStep (d : Int) (s : State) : State :=
  if stepAllowed s then applyStep d s
  else
    let k := s.tk
    { s with tk := { k with deferred := some d } }.set TK_STATUS_DEFERRED

/-- The amount in TK_STEP_SEC and TK_STEP_NS. -/
def stepAmount (s : State) : Int := signed 32 (s.rd TK_STEP_SEC) * 1000000000 + (s.rd TK_STEP_NS : Int)

/-- TIME_STEP: TK_STEP_CTL.GO (R187). -/
def execTimeStep (w : Writer) (s : State) : Out := .next (guarded w 0x20028 (fun t => requestStep (stepAmount t) t) s)

/-- DEFERRED_STEP: the gap ends (R184). -/
def execDeferredStep (s : State) : Out :=
  .next (match s.tk.deferred with
    | some d => if stepAllowed s then applyStep d s else s
    | none => s)

/-! ### The servo (R185 to R190) -/

/-- 2^k seconds in ns, k a 4-bit signed number (R192). -/
def logInterval (k : Nat) : Nat :=
  if signed 4 k < 0 then 1000000000 / 2 ^ (signed 4 k).natAbs else 1000000000 * 2 ^ (signed 4 k).natAbs

/-- The mean rate recorded over the last HOLD_AVG_S seconds of LOCKED; 0 with no record (R190). -/
def holdRate (s : State) : Int :=
  let l := s.tk.rates.map (·.2)
  if l = [] then 0 else (l.foldl (· + ·) 0) / (l.length : Int)

/-- Enter HOLDOVER: the rate is held (R188, R190). -/
def enterHoldover (s : State) : State :=
  let r := holdRate s
  let k := s.tk
  (({ s with tk := { k with lockRun := 0, lastSync := none } }.wr TK_STATUS_SERVO 0).set TK_STATUS_HOLDOVER).wr TK_RATE_PPT (unsigned 32 r)

/-- Leave LOCKED or ACQUIRE for HOLDOVER. -/
def dropServo (s : State) : State := if s.rd TK_STATUS_SERVO = 0 then s else enterHoldover s

/-- Clamp to plus or minus `m`. -/
def clampInt (m : Nat) (v : Int) : Int := max (-(m : Int)) (min v m)

/-- The largest rate, in 10^-12. -/
def rateLimit (s : State) : Nat := s.rd TK_SERVO_CFG_MAXADJ_PPM * 1000000

/-- RATE_LIMIT is set where a rate of more than MAXADJ_PPM is needed (R186). -/
def noteRate (want : Int) (s : State) : State := if rateLimit s < want.natAbs then s.set TK_STATUS_RATE_LIMIT else s

/-- The rate the servo sets: its estimate and correction are not stated, so they are free values within the limits of R185. -/
def slew (s : State) : State :=
  let f := s.free
  let g := f.2.free
  let s := g.2
  let want := signed 48 f.1 + clampInt (s.rd TK_SERVO_CFG_SLEW_PPM * 1000000) (signed 48 g.1)
  (noteRate want s).wr TK_RATE_PPT (unsigned 32 (clampInt (rateLimit s) want))

/-- The servo steps, and where its estimate needs more than MAXADJ_PPM says so; the estimate is a free value (R185, R186). -/
def servoStep (off : Int) (s : State) : State :=
  let f := s.free
  requestStep (-off) (noteRate (signed 48 f.1) f.2)

/-- The step that the servo makes when an offset exceeds STEP_US (R185). -/
def wantsStep (s : State) (off : Int) : Bool :=
  decide (s.rd TK_SERVO_LIM_STEP_US * 1000 < off.natAbs) && (s.rd TK_STATUS_SERVO == 1 || s.rdb TK_SERVO_CFG_STEP_IN_LOCK)

/-- Lock after 8 Sync intervals within LOCK_NS (R188). DEDUCED (log 123): the run counts Syncs; one that is missing does not break it. -/
def trackLock (off : Int) (s : State) : State :=
  let k := s.tk
  let run := if off.natAbs ≤ s.rd TK_SERVO_LIM_LOCK_NS then k.lockRun + 1 else 0
  let s := { s with tk := { k with lockRun := run } }
  if s.rd TK_STATUS_SERVO = 1 ∧ 8 ≤ run then (s.wr TK_STATUS_SERVO 2).clr TK_STATUS_HOLDOVER else s

/-- Record the rate in LOCKED (R190). -/
def recordRate (s : State) : State :=
  if s.rd TK_STATUS_SERVO = 2 then
    let k := s.tk
    let l := (k.rates ++ [(s.mono, signed 32 (s.rd TK_RATE_PPT))]).filter fun e =>
      decide (s.mono < e.1 + s.rd TK_SERVO_CFG_HOLD_AVG_S * 1000000000)
    { s with tk := { k with rates := l } }
  else s

/-- The last day of the current UTC month, as a calendar day. -/
def monthEnd (s : State) : Nat :=
  let t := dateOfDay (calView s).1
  dayOfDate t.year t.month (monthDays t.year t.month)

/-- CAL_OFFSET and CAL_LEAP follow the parent while LOCKED (R217). -/
def followCalendar (s : State) : State :=
  if s.rdb CAL_CTL_FROM_PTP ∧ s.rd TK_STATUS_SERVO = 2 then
    match s.tk.parentMsg with
    | none => s
    | some a =>
      let s := if a.utcValid then s.wr CAL_OFFSET_SEC a.utcOffset else s
      if a.leap61 ∨ a.leap59 then
        s.wrs [(CAL_LEAP_DAYS, monthEnd s), (CAL_LEAP_DELETE, ofBool (!a.leap61)), (CAL_LEAP_PENDING, 1)]
      else s.clr CAL_LEAP_PENDING
  else s

/-- A saturated signed 32-bit value. -/
def sat32 (v : Int) : Nat := unsigned 32 (max (-2147483648) (min v 2147483647))

/-- PTP_SYNC: a Sync on a port with its originTimestamp in ns, its correction, and how many ns ago its SFD passed the PCS (R185, R188,
R193). -/
def ptpSync (n origin : Nat) (corr : Int) (ago : Nat) (s : State) : State :=
  if s.rd PTP_CFG_MODE = 0 ∨ !ptpPort s n ∨ s.tk.parent ≠ some n then s
  else
    let k := s.tk
    let s := { s with tk := { k with lastSync := some s.mono } }
    let off := (((s.devNs : Int) - ago) * 10 + ptpLatency s n false) / 10 - origin - corr - (s.rd (PTP_MEANDELAY_NS n) : Int)
    let s := s.wr TK_SERVO_OFS_NS (sat32 off)
    if s.rd TK_STATUS_SERVO = 0 then
      if n ∈ s.tk.delaySeen then s.wr TK_STATUS_SERVO 1 else s
    else
      let s := trackLock off s
      let s := if wantsStep s off then servoStep off s else slew s
      followCalendar (recordRate s)

def execPtpSync (n origin : Nat) (corr : Int) (ago : Nat) (s : State) : Out := .next (ptpSync n origin corr ago s)

/-- SYNC_LOSS: no Sync from the parent for 3 Sync intervals (R188). -/
def execSyncLoss (s : State) : Out :=
  .next (match s.tk.lastSync with
    | some m => if m + 3 * logInterval (s.rd PTP_PRIO_LOG_SYNC) ≤ s.mono then dropServo s else s
    | none => s)

/-- A write of PTP_CFG: with PTP off, or the parent's port taken out, the servo enters HOLDOVER (R188). -/
def ptpConfigured (s : State) : State :=
  if s.rd PTP_CFG_MODE = 0 ∨ s.tk.parent.any (fun n => !ptpPort s n) then
    let s := dropServo s
    let k := s.tk
    { s with tk := { k with parent := none, parentMsg := none } }
  else s

/-! ### Best master (R192) and the tables of R174 -/

/-- The order of two data sets: the lower is better. PRESUMED: the comparison of IEEE 1588-2019 in its order of members (log 40). -/
def masterKey (a : Announce) : List Nat := [a.prio1, a.clockClass, a.accuracy, a.variance, a.prio2, a.gm, a.steps, a.sender]

def lexLess : List Nat → List Nat → Bool
  | [], _ => false
  | _, [] => false
  | a :: l, b :: m => decide (a < b) || (a == b && lexLess l m)

/-- The device's own data set. -/
def ownDataSet (s : State) : List Nat :=
  let c := Config.ownClock
  [s.rd PTP_PRIO_PRIORITY1, c.1, c.2.1, c.2.2.1, s.rd PTP_PRIO_PRIORITY2, c.2.2.2, 0, c.2.2.2]

/-- The best foreign master. -/
def bestForeign (s : State) : Option Foreign :=
  s.tk.foreign.foldl (fun o f => match o with
    | none => some f
    | some b => if lexLess (masterKey f.msg) (masterKey b.msg) then some f else some b) none

/-- Best-master selection: the parent, the port states and the grandmaster; a parent lost or changed drops the servo (R188, R192). -/
def selectMaster (s : State) : State :=
  let best : Option Foreign := match bestForeign s with
    | some f => if s.rdb PTP_CFG_SLAVE_ONLY || lexLess (masterKey f.msg) (ownDataSet s) then some f else none
    | none => none
  let new : Option Nat := best.map (·.port)
  let s := if s.tk.parent.isSome ∧ (new ≠ s.tk.parent ∨
      (best.map fun (f : Foreign) => f.msg.sender) ≠ (s.tk.parentMsg.map fun m => m.sender)) then dropServo s else s
  let k := s.tk
  let s := { s with tk := { k with parent := new, parentMsg := best.map fun (f : Foreign) => f.msg } }
  let gm := match best with | some f => f.msg.gm | none => Config.ownClock.2.2.2
  let s := s.wrPair PTP_GM_LO_ID PTP_GM_HI_ID gm
  (List.range 4).foldl (fun t n =>
    if !ptpPort t n then t
    else t.wr (PTP_PORT_STATE n) (if new = some n then 9 else if t.rdb PTP_CFG_SLAVE_ONLY then 4
      else if t.rd PTP_CFG_MODE = 1 ∧ new.isSome then 7 else 6)) s

def setForeign (s : State) (l : List Foreign) : State :=
  let k := s.tk
  { s with tk := { k with foreign := l } }

/-- The oldest foreign master of a port. -/
def oldestForeign (l : List Foreign) (n : Nat) : Option Foreign :=
  (l.filter (·.port == n)).foldl (fun o f => match o with
    | none => some f
    | some b => if f.heard < b.heard then some f else some b) none

/-- PTP_ANNOUNCE: an Announce on a port (R174, R192, R217). -/
def ptpAnnounce (n : Nat) (a : Announce) (s : State) : State :=
  if s.rd PTP_CFG_MODE = 0 ∨ !ptpPort s n ∨ a.domain ≠ (if s.rd PTP_CFG_PROFILE = 2 then 0 else s.rd PTP_CFG_DOMAIN) then s
  else
    let same := fun (f : Foreign) => f.port == n && f.msg.sender == a.sender
    let l := s.tk.foreign.filter fun f => !same f
    let l := if 16 ≤ (l.filter (·.port == n)).length then
        (match oldestForeign l n with | some o => l.erase o | none => l) else l
    followCalendar (selectMaster (setForeign s (l ++ [⟨n, a, s.mono⟩])))

def execPtpAnnounce (n : Nat) (a : Announce) (s : State) : Out := .next (ptpAnnounce n a s)

/-- PTP_FOREIGN_AGEOUT: a foreign master not heard for 4 announce intervals (R174). -/
def execPtpForeignAgeout (n sender : Nat) (s : State) : Out :=
  .next (selectMaster (setForeign s (s.tk.foreign.filter fun (f : Foreign) =>
    !(f.port == n && f.msg.sender == sender && decide (f.heard + 4 * logInterval (s.rd PTP_PRIO_LOG_ANNOUNCE) ≤ s.mono)))))

/-- PTP_PDELAY_RESP: a response from a neighbour, with the round trip measured here at the PCS and the turnaround it reports, corrections included
(R174). The Delay_Resp of the E2E profile comes the same way (log 41). -/
def ptpPdelayResp (n sender round turn : Nat) (s : State) : State :=
  if s.rd PTP_CFG_MODE = 0 ∨ !ptpPort s n then s
  else
    let k := s.tk
    let p2p := s.rd PTP_CFG_PROFILE != 0
    let s := { s with tk := { k with
      neighbour := if p2p then k.neighbour.insert n sender else k.neighbour
      missed := k.missed.erase n
      delaySeen := if n ∈ k.delaySeen then k.delaySeen else n :: k.delaySeen } }
    let s := s.wr (PTP_MEANDELAY_NS n) ((((round : Int) - turn) * 10 + ptpLatency s n false - ptpLatency s n true) / 20).toNat
    if s.rd PTP_CFG_PROFILE = 2 then s.set (PTP_PORT_ASCAPABLE n) else s

def execPtpPdelayResp (n sender round turn : Nat) (s : State) : Out := .next (ptpPdelayResp n sender round turn s)

/-- PDELAY_NEIGHBOUR_LOSS: 3 missed responses (R174). -/
def execPdelayNeighbourLoss (n : Nat) (s : State) : Out :=
  .next (if 3 ≤ s.tk.missed.get 0 n then
    let k := s.tk
    { s with tk := { k with neighbour := k.neighbour.erase n, missed := k.missed.erase n, delaySeen := k.delaySeen.erase n } }.clr
      (PTP_PORT_ASCAPABLE n)
  else s)

/-- A port sends messages of a kind: 0 Sync and 1 Announce as a master, 2 Delay_Req as a slave with E2E, 3 Pdelay_Req and 4 Pdelay_Resp
with P2P, 6 Delay_Resp as a master with E2E, and 8 the answer to a management read (R192). Two-step Syncs and Pdelay_Resps are followed by
their 5 Follow_Up and 7 Pdelay_Resp_Follow_Up. -/
def ptpSends (s : State) (n kind : Nat) : Bool :=
  s.rd PTP_CFG_MODE != 0 && ptpPort s n && ethUp s n &&
    (if kind ≤ 1 then s.rd (PTP_PORT_STATE n) == 6
     else if kind = 2 then s.rd (PTP_PORT_STATE n) == 9 && s.rd PTP_CFG_PROFILE == 0
     else if kind ≤ 4 then s.rd PTP_CFG_PROFILE != 0
     else if kind = 6 then s.rd (PTP_PORT_STATE n) == 6 && s.rd PTP_CFG_PROFILE == 0
     else kind == 8)

/-- The device time in ns that a port stamps a message with, whose SFD passes the PCS `ago` ns ago. -/
def ptpStamp (s : State) (n : Nat) (tx : Bool) (ago : Nat) : Nat := ((((s.devNs : Int) - ago) * 10 + ptpLatency s n tx) / 10).toNat

/-- One message of a kind leaves a port. -/
def sendPtp (n kind origin correction : Nat) (s : State) : State :=
  let k := s.tk
  let m : PtpSent :=
    { count := (k.sent.get {} (16 * n + kind)).count + 1, origin := origin, correction := correction
      udpZero := s.rdb PTP_CFG_UDP && bit (s.rd PTP_CFG_ONESTEP) n && (kind == 0 || kind == 4) }
  { s with tk := { k with
    sent := k.sent.insert (16 * n + kind) m
    missed := if kind = 3 ∧ (k.neighbour.find n).isSome then k.missed.insert n (k.missed.get 0 n + 1) else k.missed } }

/-- PTP_MESSAGE_INTERVAL: a port sends a PTP message; `turn` is how long ago the request came that it answers (kinds 4 and 6). A one-step Sync
carries its TX stamp, a one-step Pdelay_Resp the turnaround in its correctionField; a two-step message is followed by its Follow_Up, which
carries that stamp. A Delay_Resp and a two-step Pdelay_Resp carry the receipt stamp of their request (R192, R194; PRESUMED IEEE 1588-2019,
log 40). -/
def ptpMessage (n kind turn : Nat) (s : State) : State :=
  if !ptpSends s n kind then s
  else if kind = 0 then
    if bit (s.rd PTP_CFG_ONESTEP) n then sendPtp n 0 (ptpStamp s n true 0) 0 s
    else sendPtp n 5 (ptpStamp s n true 0) 0 (sendPtp n 0 0 0 s)
  else if kind = 4 then
    if bit (s.rd PTP_CFG_ONESTEP) n then sendPtp n 4 0 turn s
    else sendPtp n 7 (ptpStamp s n true 0) 0 (sendPtp n 4 (ptpStamp s n false turn) 0 s)
  else sendPtp n kind (if kind = 6 then ptpStamp s n false turn else 0) 0 s

def execPtpMessageInterval (n kind turn : Nat) (s : State) : Out := .next (ptpMessage n kind turn s)

/-! ### Stamps and captures (R196, R197, R206, R207) -/

/-- TXTS_NS_READ: the oldest stamp's NS word, which is removed (R197). -/
def execTxtsNsRead (w : Writer) (n : Nat) (s : State) : Out :=
  .next (guardedRead w (0x2040c + 0x20 * n) (match txtsAt s n with | t :: _ => t.nsWord | [] => 0) (popTxts n) s)

/-- TK_TIME_READ: NS, with the SEC and FRAC words latched for the reader (7.11). -/
def execTkTimeRead (w : Writer) (s : State) : Out :=
  .next (guardedRead w 0x20000 s.nsWord (fun t =>
    latchRead w.master 0x2000c (t.time.dev % 65536) (latchRead w.master 0x20008 (t.sec / 2 ^ 32)
      (latchRead w.master 0x20004 (t.sec % 2 ^ 32) t))) s)

/-- TCAP_EDGE: an edge at the ball `ago` ns ago, whose level has held since; it is accepted once that is FILTER times 5 ns (R206, R207). -/
def tcapEdge (n : Nat) (rising : Bool) (ago : Nat) (s : State) : State :=
  let sel := s.rd (TCAP_CTL_EDGE n)
  if !s.rdb (TCAP_CTL_EN n) ∨ !bit sel (if rising then 0 else 1) ∨ ago < 5 * s.rd (TCAP_CTL_FILTER n) then s
  else if (tcapAt s n).length < 8 then setTcap s n (tcapAt s n ++ [⟨monoToTs s (s.mono - ago), rising⟩])
  else s.set (TCAP_STATUS_OVF n)

def execTcapEdge (n : Nat) (rising : Bool) (ago : Nat) (s : State) : Out := .next (tcapEdge n rising ago s)

/-- TCAP_NS_READ: the oldest capture's NS word, which is removed (R207). -/
def execTcapNsRead (w : Writer) (n : Nat) (s : State) : Out :=
  .next (guardedRead w (0x21808 + 0x10 * n) (match tcapAt s n with | c :: _ => c.stamp % 2 ^ 32 | [] => 0) (popTcap n) s)

/-! ### Launches (R210, R211, R696) -/

/-- LAUNCH_GRID_ARM: a write of LG_CTL (R210). -/
def execLaunchGridArm (w : Writer) (g v : Nat) (s : State) : Out :=
  .next (guarded w (0x22000 + 0x10 * g) (fun t =>
    let t := t.wrs [(LG_CTL_EN g, bits v 0 1), (LG_CTL_TARGET g, bits v 1 4), (LG_CTL_LEAD_US g, bits v 8 8)]
    if bit v 0 then armGrid g t else disarmGrid g t) s)

/-- The guard of a motor output blocks a frame: its port's position is not VALID (R696). -/
def guardBlocks (s : State) (m : Nat) : Bool := s.rdb (MO_CFG_GUARD_EN m) && !jspFresh s (s.rd (MO_CFG_GUARD m))

/-- Offer the frames of a request whose instant has come. -/
def offer (canP : CanReq → Bool) (ethP : EthFrame → Bool) (s : State) : State :=
  let e := s.eth
  setReqs { s with eth := { e with frames := e.frames.map fun f => if ethP f then { f with ready := true } else f } }
    (s.can.reqs.map fun r => if canP r then { r with ready := true } else r)

/-- A frame of the output booked for an instant. -/
def bookedAt (m l : Nat) (mf : Option MotorFrame) (start : Nat) : Bool := (mf.any fun x => x.mo == m && x.kind == 0) && start == l

/-- A guarded GO frame is not sent: the DCOMPARE ends with outcome 0x0D and the actuator takes its safe reaction (R696). -/
def guardGo (m l : Nat) (s : State) : State :=
  let s := s.inc (MO_CNT_MO_GUARDED m)
  let mf := ((s.can.reqs.filter fun r => bookedAt m l r.motor r.start).filterMap (·.motor) ++
    (s.eth.frames.filter fun f => bookedAt m l f.motor f.start).filterMap (·.motor)).head?
  match mf with
  | none => s
  | some x =>
    let d := s.safety.pending.find? fun d => d.q == x.q && d.idx == x.idx
    let s := withdraw (fun y => y.q == x.q && y.idx == x.idx && y.kind == 0) s
    safeReaction x.act (match d with | some d => endDecision d 0xD 0 s | none => s)

/-- Release one launch-table entry (R211). -/
def launchEntry (e : LaunchEntry) (s : State) : State :=
  if e.kind = 0 then offer (fun r => r.obj == e.ref && r.motor.isNone && r.start == e.at_) (fun _ => false) s
  else if e.kind = 1 then offer (fun _ => false) (fun f => f.handle == e.ref) s
  else if guardBlocks s e.ref then guardGo e.ref e.at_ s
  else offer (fun r => bookedAt e.ref e.at_ r.motor r.start) (fun f => bookedAt e.ref e.at_ f.motor f.start) s

/-- LAUNCH_INSTANT: the entries of the earliest instant that has come are released together (R211, R213). -/
def launchInstantCmd (s : State) : State :=
  let due := s.tk.launch.filter fun e => decide (e.at_ ≤ s.mono)
  match due with
  | [] => s
  | e :: es =>
    let l := es.foldl (fun a x => min a x.at_) e.at_
    let now := due.filter (·.at_ == l)
    now.foldl (fun t x => if t.tk.launch.contains x ∨ x.kind ≠ 2 then launchEntry x t else t) (unbookLaunch (fun x => x.at_ == l && x.kind != 2) s)
      |> unbookLaunch (fun x => x.at_ == l)

def execLaunchInstant (s : State) : Out := .next (launchInstantCmd s)

/-! ### The calendar (R214 to R221) -/

/-- LEAP_SCHEDULE: a write of CAL_LEAP (R216). -/
def execLeapSchedule (w : Writer) (v : Nat) (s : State) : Out :=
  .next (guarded w 0x2080c (fun t =>
    if bit v 18 ∧ !leapOk t (bits v 0 18) then t.set CAL_STATUS_INVALID
    else t.wrs [(CAL_LEAP_DAYS, bits v 0 18), (CAL_LEAP_PENDING, bits v 18 1), (CAL_LEAP_DELETE, bits v 19 1)]) s)

/-- A leap at the end of the calendar's last day: the last second it shows is 23:59:60, or 23:59:58 (R218). -/
def lastLeap (sec : Nat) (s : State) : State :=
  let t := s.time
  if s.rd CAL_LEAP_DAYS = lastDay then { s with time := { t with lastShown := sec } } else s

/-- LEAP_SECOND: the leap's end is reached (R215). -/
def leapSecond (s : State) : State :=
  let dayEnd : Int := ((s.rd CAL_LEAP_DAYS + 1) * 86400 : Nat)
  if !s.rdb CAL_LEAP_PENDING then s
  else if s.rdb CAL_LEAP_DELETE then
    (if dayEnd - 1 ≤ utcSeconds s then lastLeap 86398 ((s.wr CAL_OFFSET_SEC (s.rd CAL_OFFSET_SEC + 65535)).clr CAL_LEAP_PENDING) else s)
  else if dayEnd + 1 ≤ utcSeconds s then lastLeap 86400 ((s.wr CAL_OFFSET_SEC (s.rd CAL_OFFSET_SEC + 1)).clr CAL_LEAP_PENDING)
  else s

def execLeapSecond (s : State) : Out := .next (leapSecond s)

/-- The date and time of a SET are valid (R219). -/
def setOk (s : State) : Bool :=
  let y := s.rd CAL_SET_DATE_YEAR
  let m := s.rd CAL_SET_DATE_MONTH
  let d := s.rd CAL_SET_DATE_DAY
  decide (2000 ≤ y) && decide (y ≤ 2399) && decide (1 ≤ m) && decide (m ≤ 12) && decide (1 ≤ d) && decide (d ≤ monthDays y m) &&
    decide (s.rd CAL_SET_TIME_HOUR ≤ 23) && decide (s.rd CAL_SET_TIME_MIN ≤ 59) && decide (s.rd CAL_SET_TIME_SEC ≤ 59)

/-- The TAI instant of a SET in ns (R220). -/
def setInstant (s : State) : Int :=
  let day := dayOfDate (s.rd CAL_SET_DATE_YEAR) (s.rd CAL_SET_DATE_MONTH) (s.rd CAL_SET_DATE_DAY)
  let tod := s.rd CAL_SET_TIME_HOUR * 3600 + s.rd CAL_SET_TIME_MIN * 60 + s.rd CAL_SET_TIME_SEC
  (((day * 86400 + tod + 946684800 : Nat) : Int) + signed 16 (s.rd CAL_OFFSET_SEC)) * 1000000000

/-- CAL_SET: a write of CAL_CTL (R219, R220). -/
def calSet (w : Writer) (v : Nat) (s : State) : State :=
  guarded w 0x20818 (fun t =>
    let t := t.wr CAL_CTL_FROM_PTP (bits v 1 1)
    if !bit v 0 then t
    else if !setOk t then t.set CAL_STATUS_INVALID
    else if t.rd TK_STATUS_SERVO = 2 then t.set CAL_STATUS_BLOCKED
    else requestStep (setInstant t - (t.devNs : Int)) t) s

def execCalSet (w : Writer) (v : Nat) (s : State) : Out := .next (calSet w v s)

/-- CAL_DATE_READ: the date, with CAL_TIME latched for the reader (R221). -/
def execCalDateRead (w : Writer) (s : State) : Out :=
  .next (guardedRead w 0x20800 (calDateWord s) (fun t => latchRead w.master 0x20804 (calTimeWord t) t) s)

/-! ### The AON real-time clock (R222, R223) -/

/-- RTC_REALIGN: a second boundary of device time in LOCKED (R222). -/
def execRtcRealign (s : State) : Out :=
  .next (if s.rd TK_STATUS_SERVO = 2 then
    let t := s.time
    ({ s with time := { t with rtcAcc := 0 } }.wrPair AON_RTC_LO AON_RTC_HI s.sec).wr AON_RTC_SUB (s.ns * 32768 / 1000000000)
  else s)

/-- A write of AON_ALARM or AON_ALARM_CTL sets the alarm in the current second (R223). -/
def setAlarm (s : State) : State :=
  let t := s.time
  { s with time := { t with alarmAt := some (s.rdPair AON_RTC_LO AON_RTC_HI) } }

/-- AON_ALARM: the real-time clock's seconds reach the alarm; one set at or before the current second waits for the next (R223). -/
def aonAlarm (s : State) : State :=
  if s.rdb AON_ALARM_CTL_EN ∧ s.time.alarmAt ≠ some (s.rdPair AON_RTC_LO AON_RTC_HI) ∧ s.rdPair AON_ALARM_LO_SEC AON_ALARM_HI_SEC ≤ s.rdPair AON_RTC_LO AON_RTC_HI then
    wakeNow [0] ((s.clr AON_ALARM_CTL_EN).set AON_ALARM_CTL_FIRED)
  else s

def execAonAlarm (s : State) : Out := .next (aonAlarm s)

/-- Seed device time from the real-time clock (R80, R155, R222). -/
def seedTime (s : State) : State :=
  let ns := s.rdPair AON_RTC_LO AON_RTC_HI * 1000000000 + s.rd AON_RTC_SUB * 1000000000 / 32768
  let t := s.time
  rangeAgain { s with time := { t with dev := ns * 65536 } }

end Sys2Proof.Machine
end

