-- ==== Sys2Proof/Machine/Encoders.lean ====
section
/-! DEFINITION. The commands of the joint-sensor ports, the encoders and the host override of a motor output (chapter 24). -/

namespace Sys2Proof.Machine
open Reg

/-- JSP_FRAME_START: the period of a port elapses (R685); a port with TRIG_TOUT starts on its timed output instead. -/
def execJspFrameStart (n : Nat) (s : State) : Out := .next (if s.rdb (JSP_CFG_TRIG_TOUT n) then s else jspStart n s)

/-- The 32-byte ring record (R688). -/
def jspRecord (seq outcome : Nat) (valid stale : Bool) (ts m pos : Nat) : Bytes :=
  leBytes 4 seq ++ leBytes 1 outcome ++ leBytes 1 (ofBool valid + 2 * ofBool stale) ++ zeros 2 ++ leBytes 8 ts ++ leBytes 4 m ++
    zeros 4 ++ leBytes 8 pos

/-- Count the outcome of a frame (R687). -/
def jspCount (n outcome : Nat) (s : State) : State :=
  if outcome = 0 then s.wr (JSP_ERR_CONSEC n) 0 else (s.inc (JSP_ERR_BAD n)).inc (JSP_ERR_CONSEC n)

/-- JSP_FRAME_END: the frame in progress ends; `ready` is the level of JSPn_DATA before the first edge, `raw` the bits received
(R686 to R689). -/
def jspFrameEnd (n : Nat) (ready : Bool) (raw : Nat) (s : State) : State :=
  match (if jointRuns s then (jspAt s n).frame else none) with
  | none => s
  | some f =>
    let raw := raw % 2 ^ s.rd (JSP_CFG_NBITS n)
    let out := jspOutcome s n ready raw
    let busy := if s.rd (JSP_CFG_MODE n) = 1 ∧ out ≠ 1 then s.mono + s.rd (JSP_TIME_TM_US n) * 1000 else s.mono
    let s := setJsp s n
      { good := if out = 0 then some f.2 else (jspAt s n).good, frame := none, busyUntil := busy }
    let s := jspCount n out s
    let valid := out == 0 || jspFresh s n
    let stale := !valid && (jspAt s n).good.isSome
    let s := s.wrs [(JSP_STATUS_OUTCOME n, out), (JSP_STATUS_VALID n, ofBool valid), (JSP_STATUS_STALE n, ofBool stale)]
    let r := if out = 1 then s.free else (jspPosition s n raw, s)
    let s := if out = 0 then r.2.wrPair (JSP_POS_LO n) (JSP_POS_HI n) r.1 else r.2
    let seq := s.rd (JSP_SEQ n)
    let w := memWrite s 93 0 (s.rdPair (JSP_RING_LO n) (JSP_RING_HI n) + 32 * (seq % 16)) (jspRecord seq out valid stale f.1 f.2 r.1)
    if w.1 = 0 then w.2.wr (JSP_SEQ n) (seq + 1) else w.2

def execJspFrameEnd (n : Nat) (ready : Bool) (raw : Nat) (s : State) : Out := .next (jspFrameEnd n ready raw s)

/-- JSP_STALE: STALE_US has elapsed since the last GOOD frame (R689). -/
def execJspStale (n : Nat) (s : State) : Out :=
  .next (if s.rdb (JSP_STATUS_VALID n) ∧ !jspFresh s n then (s.clr (JSP_STATUS_VALID n)).set (JSP_STATUS_STALE n) else s)

/-- The count of an encoder changes: it is stamped, and compares are made (R690, R691, R200, R147). -/
def setCount (k v : Nat) (s : State) : State :=
  let j := s.joint
  let s := { s with joint := { j with qeiStamp := j.qeiStamp.insert k s.ts64 } }
  let s := fireCompares k (s.wr (QEI_COUNT k) v)
  if k = 0 then motionWake s else s

/-- QEI_COUNT_CHANGE: an accepted change of A and B; `up` is its direction, `illegal` when both changed together (R690). -/
def execQeiCountChange (k : Nat) (up illegal : Bool) (s : State) : Out :=
  .next (if !s.rdb (QEI_CFG_EN k) ∨ !jointRuns s then s
    else if illegal then s.inc (QEI_ILLEGAL k)
    else setCount k (s.rd (QEI_COUNT k) + (if up != s.rdb (QEI_CFG_DIR k) then 1 else 2 ^ 32 - 1)) s)

/-- QEI_SNAP: a write of QEI_CTL.SNAP (R691). -/
def execQeiSnap (w : Writer) (k : Nat) (s : State) : Out := .next (guarded w (0x361008 + 0x40 * k) (qeiSnap k) s)

/-- QEI_INDEX: an index pulse captures the count, and with ZRST clears it (R691). -/
def execQeiIndex (k : Nat) (s : State) : Out :=
  .next (if !s.rdb (QEI_CFG_EN k) ∨ !jointRuns s then s
    else
      let j := s.joint
      let s := { s with joint := { j with qeiIndex := j.qeiIndex.insert k (s.rd (QEI_COUNT k)) } }
      if s.rdb (QEI_CFG_ZRST k) ∧ s.rd (QEI_COUNT k) ≠ 0 then setCount k 0 s else s)

/-- The override data of a motor output (R693, 24.7). MO_OVR_DATA holds no NS word, and an override has no launch instant: what source 9 fills in is a
free value (log 126). -/
def ovrData (s : State) (m : Nat) : FillData where
  nsWord := s.free.1
  lane := s.rd (MO_OVR_DATA m 0) % 65536
  pseq := s.rd (MO_OVR_DATA m 1)
  joints := (List.range 6).map fun i => bits (s.rd (MO_OVR_DATA m (2 + i / 2))) (16 * (i % 2)) 16

/-- The OVR template of a motor output. -/
def ovrTemplate (s : State) (m : Nat) : Option Bytes :=
  ((List.range (u32 s.img.tmpl 0)).map fun i => slice s.img.tmpl (16 + 128 * i) 128).find? fun e => u8 e 2 == m && u8 e 3 == 3

/-- MO_OVR_GO: the host override of an output, under its guard (R695, R696). -/
def moOvrGo (w : Writer) (m : Nat) (s : State) : State :=
  guarded w (0x362004 + 0x40 * m) (fun t =>
    match ovrTemplate t m with
    | none => t.inc (MO_CNT_MO_OVRREF m)
    | some e =>
      if !armed t ∨ !t.rdb (MO_CFG_OVR_EN m) ∨ t.rdb (MO_STAT_BOOKED m) then t.inc (MO_CNT_MO_OVRREF m)
      else if guardBlocks t m then t.inc (MO_CNT_MO_GUARDED m)
      else (putTemplate e (ovrData t m) { mo := m, kind := 3 } 3 none none t.free.2).2) s

def execMoOvrGo (w : Writer) (m : Nat) (s : State) : Out := .next (moOvrGo w m s)

end Sys2Proof.Machine
end

