-- ==== Sys2Proof/Machine/Fabric.lean ====
section
/-! DEFINITION. The ring fabric (chapter 11): requests and their pieces, delivery in stream order, timeouts and quarantine, fences,
SYNC, links, and what resets do to requests in flight. -/

namespace Sys2Proof.Machine
open Reg

/-- The pieces change by a function. -/
def mapPieces (f : Piece → Piece) (s : State) : State := setPieces (s.fab.pieces.map f) s

/-! ### Routes (R322, R324) -/

/-- Hops clockwise from one node to another. -/
def hopsCw (src dst : Nat) : Nat := (dst + 24 - src) % 24

/-- A packet goes clockwise, by its two nodes only (R322). -/
def clockwise (src dst : Nat) : Bool := decide (hopsCw src dst < 12) || (hopsCw src dst == 12 && src % 2 == 0)

/-- A data-ring link of the way from one node to another is DOWN; link n joins N(n) and N(n + 1) (R315). -/
def wayDown (s : State) (cw : Bool) (src dst : Nat) : Bool :=
  if cw then (List.range (hopsCw src dst)).any fun i => s.rd (FAB_LINK_CW ((src + i) % 24)) == 2
  else (List.range (hopsCw dst src)).any fun i => s.rd (FAB_LINK_CCW ((src + 23 - i) % 24)) == 2

/-- The ring a new request goes by: that of R322, the opposite one where a link of that way is DOWN; a stream changes only once its requests on
the old ring have been answered (R324). -/
def ringFor (s : State) (p : Piece) : Bool :=
  match s.fab.pieces.find? fun q => q.init == p.init && q.tgt == p.tgt && q.oc == p.oc && !q.arrived && !q.orphan with
  | some q => q.cw
  | none =>
    let d := clockwise (p.init / 4) (p.tgt / 4)
    if wayDown s d (p.init / 4) (p.tgt / 4) then !d else d

/-! ### Headers and coded payloads (R310, R311, R316) -/

/-- Raw payload beats of a range. -/
def rawBeats (a n : Nat) : Nat := ceilDiv (a % 64 + n) 64

/-- The bytes of a range as its payload beats hold them: from the first byte of the first beat. -/
def beatsOf (a : Nat) (b : Bytes) : Bytes := padTo (64 * rawBeats a b.length) (zeros (a % 64) ++ b)

/-- The sending port's coder: coded only where that is shorter (R311). -/
def codePayload (on : Bool) (p : Piece) (b : Bytes) : Piece :=
  let c := zrEncode (beatsOf p.addr b)
  if on && decide (c.length < 64 * rawBeats p.addr b.length) then { p with zr := true, data := c } else { p with zr := false, data := b }

/-- The receiving port restores the raw payload (R311). -/
def restore (p : Piece) : Bytes := if p.zr then slice (zrDecode (rawBeats p.addr p.len) p.data) (p.addr % 64) p.len else p.data

/-- Beats of a payload on the ring. -/
def payloadBeats (p : Piece) : Nat := if p.zr then p.data.length / 64 else rawBeats p.addr p.len

/-- The header of a request, and of its answer, as the sideband of its first beat carries it (R316). -/
def header (p : Piece) (answer : Bool) : Nat :=
  let typ := if 6 ≤ p.kind then p.kind else if p.kind = 2 then 4 + ofBool answer else p.kind + 2 * ofBool answer
  let src := if answer then p.tgt else p.init
  let dst := if answer then p.init else p.tgt
  typ + 2 ^ 4 * ofBool p.rt + 2 ^ 5 * p.oc + 2 ^ 7 * ofBool p.zr + 2 ^ 8 * (dst / 4) + 2 ^ 13 * (dst % 4) + 2 ^ 15 * (src / 4) + 2 ^ 20 * (src % 4) +
    2 ^ 22 * p.tag + 2 ^ 30 * (rawBeats p.addr p.len - 1) + 2 ^ 36 * (payloadBeats p - 1) + 2 ^ 42 * p.tid +
    2 ^ 52 * (if answer then p.status else 0) + 2 ^ 56 * ofBool (answer && p.kind == 0 && p.status != 0) + 2 ^ 64 * (p.addr % 2 ^ 48) +
    2 ^ 112 * (p.addr % 64) + 2 ^ 118 * ((p.addr + p.len - 1) % 64)

/-! ### Delivery in stream order (R317, R326 to R328, R335) -/

/-- The target that orders a piece: the six controllers are one target, MEM, 127 (R317, R326). -/
def Piece.streamTgt (p : Piece) : Nat := if p.kind < 2 ∨ p.tgt ∈ (List.range 6).map mcPid then 127 else p.tgt

/-- An earlier piece of the same stream, or for a SYNC of the same initiator and target, that is not delivered yet. -/
def blocks (p q : Piece) : Bool :=
  q.init == p.init && q.streamTgt == p.streamTgt && (p.kind == 2 || q.oc == p.oc)

/-- The pieces that can be delivered now: an answer stands at the port and nothing before it in its stream is missing; a SYNC
needs no other answer (R328). -/
def deliverable : List Piece → List Piece → List Piece
  | _, [] => []
  | waiting, p :: l =>
    if p.delivered ∨ p.orphan then deliverable waiting l
    else if (p.arrived || (p.kind == 2 && p.stage == 1)) && !waiting.any (blocks p) then p :: deliverable waiting l
    else deliverable (waiting ++ [p]) l

/-- Hand a piece to its request; the last piece completes it (R317, R356). -/
def deliverOne (s : State) (p : Piece) : State :=
  let w := s.fab.wholes.get {} p.whole
  let w : Whole :=
    { status := worse w.status p.status
      poison := w.poison || (p.kind == 0 && p.status != 0)
      data := if p.kind = 0 then w.data ++ p.data else [] }
  if p.last then
    let s := { s with fab := { s.fab with wholes := s.fab.wholes.erase p.whole, answers := s.fab.answers.insert p.init w } }
    measure p.init p.streamTgt p.rt p.start w.status s
  else { s with fab := { s.fab with wholes := s.fab.wholes.insert p.whole w } }

/-- The same piece: its request, its address. -/
def samePiece (p q : Piece) : Bool := p.whole == q.whole && p.addr == q.addr && p.init == q.init

/-- Deliver what can be delivered; a delivered piece keeps its tag slot only in quarantine (R321, R334). -/
def deliver (s : State) : State :=
  let out := deliverable [] s.fab.pieces
  let s := out.foldl deliverOne s
  setPieces ((s.fab.pieces.map fun p => if out.any (samePiece p) then { p with delivered := true, arrived := true } else p).filter
    fun p => !p.delivered || p.quar) s

/-! ### The target's side -/

/-- The target performs a request it has not performed yet (R293, R294). -/
def performAt (errs : List (Nat × Nat)) (p : Piece) (s : State) : Piece × State :=
  if p.done ∨ 2 ≤ p.kind then (p, s)
  else if p.kind = 0 then
    let r := mcRead p.init p.tid p.addr p.len errs s
    (codePayload (s.rdb (FAB_INIT_CFG_ZR_EN p.tgt)) { p with done := true, status := r.1.1 } r.1.2, r.2)
  else
    let r := mcWrite p.init p.tid p.addr (restore p) errs s
    ({ p with done := true, status := r.1 }, r.2)

/-- The node answers a piece itself with a status: zero data, and POISON for a read. -/
def nodeAnswer (status : Nat) (p : Piece) : Piece :=
  { p with stage := 2, done := true, status := status, zr := p.zr && p.kind != 0, data := if p.kind = 0 then zeros p.len else p.data }

/-- The target's island is in ISL reset or re-apply (R343) or its clock is stopped (R112), or it is gated in DOZE (R344). -/
def targetHeld (s : State) (pid : Nat) : Bool := (s.clocks.islBusy ++ s.clocks.stopped).any fun k => islandPid s k == some pid
def targetGated (s : State) (pid : Nat) : Bool :=
  ((List.range 0x4E).filter dozeIsland).any fun k => islandPid s k == some pid && gated s k

/-- A piece reaches its target's node (R316, R339, R343, R344): answered there, held there, or forwarded, and performed by a
controller that runs and is not among `dead`. -/
def reachNode (dead : List Nat) (errs : List (Nat × Nat)) (p : Piece) (s : State) : Piece × State :=
  if p.oc = 3 ∨ 6 ≤ p.kind then (nodeAnswer 0x0C p, s)
  else if p.tgt = 127 then ({ p with stage := 1 }, s)
  else if fenced s p.tgt then
    (nodeAnswer 0x05 p, if p.kind = 0 then s.inc FAB_FENCE_RFEN else if p.kind = 1 then s.inc FAB_FENCE_WDROP else s)
  else if targetGated s p.tgt then (nodeAnswer 0x08 p, s)
  else if targetHeld s p.tgt then ({ p with stage := 0 }, s)
  else
    let m := if p.kind = 2 then 6 else mcOf s p.addr p.len
    if m < 6 ∧ mcRuns s m ∧ m ∉ dead then performAt errs p s else (p, s)

/-! ### Issuing (R317, R321, R330, R333) -/

/-- The class of a port's traffic (R330): tensor engines, vector clusters and the Gleaner take it from their queue. -/
def classOf (s : State) (p : Nat) (rt : Bool) : Bool :=
  if p ∈ ((List.range (engines s)).map (enginePid s)) ++ [44, 45, 80, 81, 76] then rt else s.rdb (FAB_INIT_CFG_RT p)

/-- An initiator port issues a request to device memory (R317): it waits at the port until enough tag slots are free. -/
def issue (p oc kind tid addr n : Nat) (rt : Bool) (data : Bytes) (dead : List Nat) (errs : List (Nat × Nat)) (s : State) : State :=
  let parts := splitBlocks addr n
  let tags := freeTags s p
  if !(usedPids s).contains p ∨ n = 0 ∨ 4 < oc ∨ tags.length < parts.length then s
  else
    let w := s.fab.next
    let s := { s with fab := { s.fab with next := w + 1 } }
    let r := (parts.zip tags).foldl (fun (acc : List Piece × State) e =>
      let a := e.1.1
      let z : Piece :=
        { init := p, tgt := mcPid (mcOf s a e.1.2), oc := oc % 4, kind := kind, tid := tid, addr := a, len := e.1.2, tag := e.2
          whole := w, last := a + e.1.2 == addr + n, rt := classOf s p rt, start := s.mono }
      let z := codePayload (kind == 1 && s.rdb (FAB_INIT_CFG_ZR_EN p)) { z with cw := ringFor s z } (slice data (a - addr) e.1.2)
      let r := reachNode dead errs z (count (BW_TX p) (if kind = 1 then payloadBeats z else 1) acc.2)
      (acc.1 ++ [r.1], r.2)) (([], s) : List Piece × State)
    setPieces (r.2.fab.pieces ++ r.1) r.2

/-- MC_READ: an initiator reads device memory on behalf of a tenant; `dead` are controllers that do not answer, `errs` the errors
met (unit, kind) (R293, R303, R304, R317). -/
def execMcRead (p oc tid addr n : Nat) (rt : Bool) (dead : List Nat) (errs : List (Nat × Nat)) (s : State) : Out :=
  .next (issue p oc 0 tid addr n rt [] dead errs s)

/-- MC_WRITE: an initiator writes device memory on behalf of a tenant (R294, R303, R304, R317). -/
def execMcWrite (p oc tid addr : Nat) (b : Bytes) (rt : Bool) (dead : List Nat) (errs : List (Nat × Nat)) (s : State) : Out :=
  .next (issue p oc 1 tid addr b.length rt b dead errs s)

/-- SYNC_REQUEST: an initiator sends a SYNC to a target, 127 for MEM (R328); or a request of a reserved TYPE, which the destination's node answers
UNSUPPORTED, as it does a reserved ordering class (R316). -/
def execSyncRequest (p tgt oc : Nat) (s : State) (typ : Nat := 4) : Out :=
  .next (match freeTags s p with
  | [] => s
  | t :: _ =>
    if !(usedPids s).contains p ∨ !(tgt == 127 || (usedPids s).contains tgt) then s
    else
      let z : Piece :=
        { init := p, tgt := tgt, oc := oc % 4, kind := if typ = 4 then 2 else typ, tid := 0, addr := 0, len := 0, tag := t, whole := s.fab.next
          last := true, rt := classOf s p false, start := s.mono }
      let z := { z with cw := ringFor s z }
      let s := { s with fab := { s.fab with next := s.fab.next + 1 } }
      let r := reachNode [] [] z (count (BW_TX p) 1 s)
      deliver (setPieces (r.2.fab.pieces ++ [if r.1.stage = 2 then { r.1 with arrived := true } else r.1]) r.2))

/-! ### Answers (R326, R335, R336, R338, R339) -/

/-- Replace the first piece that passes a test. -/
def replaceFirst (p : Piece → Bool) (z : Piece) : List Piece → List Piece
  | [] => []
  | x :: l => if p x then z :: l else x :: replaceFirst p z l

/-- A target's answer reaches its node: matched, absorbed by a fence, or discarded (R336, R338, R339). -/
def targetAnswers (p tag tgt : Nat) (s : State) : State :=
  let s := s.wr (FAB_TGT_STAT_CONSEC tgt) 0
  let want := fun (x : Piece) => x.init == p && x.tag == tag && x.tgt == tgt && x.stage == 1 && decide (x.kind < 2)
  match s.fab.pieces.find? want with
  | some x =>
    let r := performAt [] x s
    let z := if x.arrived then { x with done := true, stage := 2 } else { r.1 with stage := 2 }
    setPieces (replaceFirst want z r.2.fab.pieces) r.2
  | none => if fenced s tgt then s.inc FAB_FENCE_ABS else s.inc FAB_LATE_DROP

/-- Ring beats of an answer: the payload of a read, as it stands on the ring (R310, R358). -/
def answerBeats (x : Piece) : Nat := if x.kind = 0 then payloadBeats x else 1

/-- An answer reaches the initiator's port: delivered in its turn, or discarded under quarantine (R326, R335, R336, R345). -/
def answerArrives (p tag : Nat) (s : State) : State :=
  let want := fun (x : Piece) => x.init == p && x.tag == tag && x.stage == 2 && (!x.arrived || x.quar)
  match s.fab.pieces.find? want with
  | none => s
  | some x =>
    let s := count (BW_RX p) (answerBeats x) s
    if x.orphan then setPieces (s.fab.pieces.filter fun y => !(samePiece x y && y.orphan)) (s.inc FAB_LATE_DROP)
    else if x.quar then
      let s := s.inc FAB_LATE_DROP
      deliver (setPieces (if x.delivered then s.fab.pieces.filter fun y => !samePiece x y
        else replaceFirst want { x with quar := false } s.fab.pieces) s)
    else deliver (setPieces (replaceFirst want { x with arrived := true, zr := false, data := restore x } s.fab.pieces) s)

/-- FABRIC_RESPONSE: an answer from target `tgt` reaches its node (`fromTarget`), or an answer reaches the initiator's port
(R336). -/
def execFabricResponse (p tag tgt : Nat) (fromTarget : Bool) (s : State) : Out :=
  .next (if fromTarget then (if (usedPids s).contains tgt then targetAnswers p tag tgt s else s) else answerArrives p tag s)

/-! ### Timeouts (R333, R334) -/

/-- FABRIC_TIMEOUT: the timer of a piece expires without an answer (R333, R334). -/
def execFabricTimeout (p tag : Nat) (s : State) : Out :=
  .next (
    let want := fun (x : Piece) => x.init == p && x.tag == tag && !x.arrived && !x.orphan
    match s.fab.pieces.find? want with
    | none => s
    | some x =>
      if s.mono < x.start + s.rd (FAB_INIT_CFG_TO_US p) * 1000 then s
      else
        let s := noteTimeout p x.tgt tag x.addr false s
        let z := { x with
          arrived := true, quar := true, status := 0x04, zr := false, data := if x.kind = 0 then zeros x.len else [] }
        deliver (setPieces (replaceFirst want z s.fab.pieces) s))

/-! ### Fences (R338 to R342) -/

/-- The Steward and the Safety island are never fenced (R342). -/
def neverFenced (pid : Nat) : Bool := pid == 0 || pid == 8

/-- Show ANY_FENCE. -/
def showFences (s : State) : State := s.wr FAB_STATUS_ANY_FENCE (ofBool ((List.range 3).any fun k => s.rd (FAB_FENCE k) != 0))

/-- The node answers a request in the target's place; one already answered at its port by a timeout keeps that answer there. -/
def answerFor (status : Nat) (x : Piece) : Piece := if x.arrived then { x with stage := 2 } else nodeAnswer status x

/-- Fence a target (R338, R339): cause 0 software, 1 timeouts, 2 clock fault; a clock fault in the cycle of another fence of the target is the
cause recorded (11.11). -/
def fenceTarget (pid cause : Nat) (s : State) : State :=
  if neverFenced pid || !(usedPids s).contains pid then s
  else if fenced s pid then
    (if cause = 2 ∧ s.fab.fencedAt = s.mono ∧ s.rd FAB_FENCE_LAST_PID = pid then s.wr FAB_FENCE_LAST_CAUSE 2 else s)
  else
    let s := { s with fab := { s.fab with fencedAt := s.mono } }
    let s := s.wr (FAB_FENCE (pid / 32)) (setBit (s.rd (FAB_FENCE (pid / 32))) (pid % 32) true)
    let s := showFences (s.wrs [(FAB_FENCE_LAST_PID, pid), (FAB_FENCE_LAST_CAUSE, cause)])
    let s := mapPieces (fun x => if x.tgt = pid ∧ x.stage < 2 then answerFor 0x05 x else x) s
    raiseFault 0x03 pid s

/-- TONOTE: a TONOTE reaches the node of its target (R338, R342). -/
def execTonote (s : State) : Out :=
  .next (match s.fab.notes with
  | [] => s
  | pid :: rest =>
    let s := { s with fab := { s.fab with notes := rest } }
    let old := s.rd (FAB_TGT_STAT_CONSEC pid)
    let s := s.inc (FAB_TGT_STAT_CONSEC pid)
    let c := s.rd (FAB_TGT_STAT_CONSEC pid)
    if neverFenced pid then (if old < 15 ∧ c = 15 then raiseFault 0x04 pid s else s)
    else if s.rdb (FAB_TGT_CFG_AUTO_FENCE pid) ∧ s.rd (FAB_TGT_CFG_TO_FENCE pid) ≤ c then fenceTarget pid 1 s
    else s)

/-- FENCE_SET: a write of FAB_FENCE_SET[k] (R338, R342). -/
def execFenceSet (w : Writer) (k v : Nat) (s : State) : Out :=
  .next (if 3 ≤ k then s
  else guarded w (0x220050 + 4 * k) (fun s =>
    (List.range 32).foldl (fun t j => if bit v j then fenceTarget (32 * k + j) 0 t else t) s) s)

/-- Lift a fence (R341): CONSEC is 0 from then on. -/
def liftFence (pid : Nat) (s : State) : State :=
  if fenced s pid then
    showFences ((s.wr (FAB_FENCE (pid / 32)) (setBit (s.rd (FAB_FENCE (pid / 32))) (pid % 32) false)).wr (FAB_TGT_STAT_CONSEC pid) 0)
  else s

/-- FENCE_LIFT: a write of ones to FAB_FENCE[k] (R341). -/
def execFenceLift (w : Writer) (k v : Nat) (s : State) : Out :=
  .next (if 3 ≤ k then s
  else guarded w (0x220040 + 4 * k) (fun s =>
    (List.range 32).foldl (fun t j => if bit v j then liftFence (32 * k + j) t else t) s) s)

/-! ### Links (R319, R324, R325) -/

/-- The state field of a link: ring 0 CW, 1 CCW, 2 SV. -/
def linkField (n ring : Nat) : Field := if ring = 0 then FAB_LINK_CW n else if ring = 1 then FAB_LINK_CCW n else FAB_LINK_SV n

/-- Show ANY_DOWN and SV_BYPASS (R324, R325). -/
def showLinks (s : State) : State :=
  let down := fun (ring : Nat) => (List.range 24).any fun n => s.rd (linkField n ring) == 2
  s.wrs [(FAB_STATUS_ANY_DOWN, ofBool (down 0 || down 1)), (FAB_STATUS_SV_BYPASS, ofBool (down 2))]

/-- LINK_REPLAY: a replay of a beat on a link, good or failed (R319). -/
def execLinkReplay (n ring : Nat) (good : Bool) (s : State) : Out :=
  .next (if 24 ≤ n ∨ 3 ≤ ring ∨ s.rd (linkField n ring) = 2 then s
  else
    let s := s.inc (FAB_LINK_REPLAYS n)
    let k := 3 * n + ring
    if good then ({ s with fab := { s.fab with fails := s.fab.fails.erase k } }).wr (linkField n ring) 0
    else
      let c := s.fab.fails.get 0 k + 1
      if c < 8 then ({ s with fab := { s.fab with fails := s.fab.fails.insert k c } }).wr (linkField n ring) 1
      else
        let s := ({ s with fab := { s.fab with fails := s.fab.fails.erase k } }).wr (linkField n ring) 2
        raiseFault 0x02 k (showLinks s))

/-! ### Resets (R343, R345, R346) -/

/-- A target's island enters ISL reset: what was forwarded to it is answered ABORTED (R343). -/
def targetReset (pid : Nat) (s : State) : State :=
  mapPieces (fun x => if x.tgt = pid ∧ x.stage = 1 then answerFor 0x0A x else x) s

/-- The target's re-apply has ended: what its node held goes to it (R343). -/
def targetBack (pid : Nat) (s : State) : State :=
  let r := s.fab.pieces.foldl (fun (acc : List Piece × State) x =>
    if x.tgt = pid ∧ x.stage = 0 then
      let r := reachNode [] [] { x with stage := 1 } acc.2
      (acc.1 ++ [r.1], r.2)
    else (acc.1 ++ [x], acc.2)) (([], s) : List Piece × State)
  deliver (setPieces r.1 r.2)

/-- An initiator's island is reset: its tag slots are free and later answers are discarded (R345). -/
def initiatorReset (pid : Nat) (s : State) : State :=
  mapPieces (fun x => if x.init = pid then { x with orphan := true } else x) s

/-- A fabric node is reset: its links are DOWN, and the requests of its ports and to its targets end ABORTED (R346). -/
def nodeReset (n : Nat) (s : State) : State :=
  let s := showLinks (s.wrs [(FAB_LINK_CW n, 2), (FAB_LINK_CCW n, 2), (FAB_LINK_SV n, 2)])
  let s := mapPieces (fun x =>
    if x.init / 4 = n ∧ !x.arrived then { nodeAnswer 0x0A x with arrived := true }
    else if x.tgt / 4 = n ∧ x.tgt < 96 ∧ x.stage < 2 then answerFor 0x0A x
    else x) s
  deliver (resetProbe n s)

/-- The node's re-apply has ended: the links of the node it joins come up again (R324, R346). -/
def nodeBack (n : Nat) (s : State) : State :=
  let p := (n + 23) % 24
  showLinks (s.wrs [(FAB_LINK_CW n, 0), (FAB_LINK_CCW n, 0), (FAB_LINK_SV n, 0), (FAB_LINK_CW p, 0), (FAB_LINK_CCW p, 0), (FAB_LINK_SV p, 0)])

end Sys2Proof.Machine
end

