-- ==== Sys2Proof/Machine/Gleaner.lean ====
section
/-! DEFINITION. The Gleaner (chapter 19): slots, their checks, reload and swap, and the search. -/

namespace Sys2Proof.Machine
open Reg

def setGl (g : Gleaner) (s : State) : State := { s with gl := g }

/-- The slot's half of table memory, 4 MiB each (R548). -/
def tableBase (x : Nat) : Nat := (x - 1) * 2 ^ 22

/-- Bytes of table memory an index takes: top-level centroids and codebooks (R548). -/
def tableBytes (h : Bytes) : Nat := 2 * ixC1 h * ixDim h + 512 * ixDim h

/-- The Gleaner's own reads of an index, which no window limits. -/
def readIndex (s : State) (a n : Nat) : Nat × Bytes := memRead s 0 a n

/-! ### The checks of R548 -/

/-- Check 0x02: ranges and reserved bits; arrays begin on 4 KiB boundaries (R545). -/
def headerFields (h : Bytes) : Bool :=
  decide (16 ≤ ixDim h) && decide (ixDim h ≤ 512) && decide (1 ≤ ixM h) && decide (ixM h ≤ 64) && ixDim h % ixM h == 0 &&
    decide (ixDsub h ≤ 16) && u8 h 9 == 0 && decide (u8 h 10 < 4) && decide (1 ≤ ixC1 h) && decide (ixC1 h ≤ 4096) &&
    decide (1 ≤ ixC2 h) && decide (ixC2 h ≤ 4096) && decide (ixLists h ≤ 1048576) && decide (1 ≤ ixVecs h) &&
    decide (ixVecs h < 2 ^ 32) && zeroAt h [(11, 1), (28, 4), (104, 152)] && (ixArrays h).all fun a => a.1 % 4096 == 0

/-- No two of the stretches overlap. -/
def apart : List (Nat × Nat) → Bool
  | [] => true
  | a :: l => (l.all fun b => decide (a.1 + a.2 ≤ b.1) || decide (b.1 + b.2 ≤ a.1)) && apart l

/-- Check 0x04, with `extra` bytes of signature block. -/
def headerLayout (h : Bytes) (cap extra : Nat) : Bool :=
  ((0, 256) :: ixArrays h).all (fun a => decide (a.1 + a.2 ≤ ixTotal h)) && apart ((0, 256) :: ixArrays h) &&
    decide (ixTotal h + extra ≤ cap)

/-- Check 0x05 on one entry of the directory, after which FIRST + COUNT is kept. -/
def directoryEntry (h : Bytes) (acc : Option Nat) (e : Bytes) : Option Nat :=
  match acc with
  | none => none
  | some first =>
    if u64 e 0 = first ∧ u32 e 8 ≤ ixMaxList h ∧ (bf16 (u16 e 12)).isFinite ∧ u16 e 12 < 2 ^ 15 ∧ u16 e 14 = 0 then some (first + u32 e 8) else none

/-- The code of the first check that fails, for the index at `base` of a slot; none when all pass. -/
def indexVerdict (s : State) (base cap extra : Nat) : Option Nat :=
  let r := readIndex s base 256
  let h := r.2
  if r.1 ≠ 0 then some 0x07
  else if u32 h 0 ≠ 0x58465649 ∨ u16 h 4 ≠ 1 then some 0x01
  else if !headerFields h then some 0x02
  else if 2 ^ 22 < tableBytes h then some 0x03
  else if !headerLayout h cap extra then some 0x04
  else
    let d := readIndex s (base + u64 h 56) (16 * ixLists h)
    if d.1 ≠ 0 then some 0x07
    else if ((List.range (ixLists h)).map fun l => slice d.2 (16 * l) 16).foldl (directoryEntry h) (some 0) ≠ some (ixVecs h) then some 0x05
    else if (u64 h 88 != 0) != ixFull h then some 0x06
    else none

/-- Copy the centroids and codebooks of a slot into table memory (R548). -/
def copyTables (x : Nat) (s : State) : State :=
  let h := slotHead s x
  let b := slotBase s x
  let s := stLocal 12 (tableBase x) (s.ld (b + u64 h 40) (2 * ixC1 h * ixDim h)) s
  let s := stLocal 12 (tableBase x + 2 * ixC1 h * ixDim h) (s.ld (b + u64 h 64) (512 * ixDim h)) s
  setGl { s.gl with copy := s.gl.copy.erase x } s

/-- A LOADED slot is checked: VALID and copied, and active where none is (R548, R551), or its ERR set. -/
def checkSlot (x extra : Nat) (s : State) : State :=
  match indexVerdict s (slotBase s x) (slotCap s x) extra with
  | some e => s.wr (slotErr x) e
  | none =>
    let h := (readIndex s (slotBase s x) 256).2
    let g := s.gl
    let s := setGl { g with
      heads := g.heads.put [] x h
      greatest := some (max (ixGen h) (g.greatest.getD 0))
      active := if g.active = 0 ∧ s.rd GL_CFG_INIT_SLOT = x then x else g.active } s
    copyTables x (s.wrs [(slotErr x, 0), (slotValid x, 1), (slotGen x, ixGen h)])

/-- The signature and generation of a reload hold (R549, R758). -/
def reloadOk (s : State) (x : Nat) : Bool :=
  let b := slotBase s x
  let r := readIndex s b 256
  let total := ixTotal r.2
  if r.1 ≠ 0 ∨ slotCap s x < total + 256 ∨ total < 256 then false
  else
    let m := readIndex s b total
    let g := readIndex s (b + total) 256
    m.1 == 0 && g.1 == 0 && u32 g.2 0 == 0x4C444E49 && slice g.2 8 48 == sha384 m.2 && zeroAt g.2 [(0x98, 0x68)] &&
      ownerSigned s (u32 g.2 4) (slice g.2 0x38 96) m.2 &&
      (match s.gl.greatest with | none => true | some y => decide (y < ixGen r.2))

/-- Take a slot off the list of hashes and checks under way. -/
def endLoading (x : Nat) (s : State) : State := setGl { s.gl with loading := s.gl.loading.filter (·.1 != x) } s

/-- INDEX_CHECK: the check of a LOADED slot ends, or its tables are copied again after a reset (R548, 19.9). -/
def execIndexCheck (x : Nat) (s : State) : Out :=
  .next (if x ≠ 1 ∧ x ≠ 2 then s
  else match s.gl.loading.find? (·.1 == x) with
    | some (_, k) => if k = 0 then s else checkSlot x (if k = 2 then 256 else 0) (endLoading x s)
    | none => if s.gl.copy.contains x then copyTables x s else s)

/-- RELOAD_VERIFY_DONE: the hash and signature check of a reloaded slot ends: LOADED, and to be checked, or ERR 0x09 (R549). -/
def execReloadVerifyDone (x : Nat) (s : State) : Out :=
  .next (if s.gl.loading.contains (x, 0) then
    let t := endLoading x s
    if reloadOk s x then (setGl { t.gl with loading := t.gl.loading ++ [(x, 2)] } t).set (slotLoaded x) else t.wr (slotErr x) 0x09
  else s)

/-- GL_LOAD: a write of GL_LOAD (R549). -/
def execGlLoad (w : Writer) (v : Nat) (s : State) : Out :=
  .next (guarded w 0x210028 (fun s =>
    let s := s.wr GL_LOAD_SLOT v
    let x := s.rd GL_LOAD_SLOT
    if !bit v 8 ∨ (x ≠ 1 ∧ x ≠ 2) ∨ s.gl.loading ≠ [] then s
    else if s.gl.active = x ∨ slotUsed s x then s.wr (slotErr x) 0x08
    else setGl { s.gl with loading := [(x, 0)], copy := s.gl.copy.erase x } ((s.clr (slotValid x)).clr (slotLoaded x))) s)

/-- GL_SWAP: a write of GL_SWAP (R551). -/
def execGlSwap (w : Writer) (v : Nat) (s : State) : Out :=
  .next (guarded w 0x21002c (fun s =>
    let s := s.wr GL_SWAP_TGT v
    let s := if bit v 9 then s.clr GL_SWAP_REFUSED else s
    let x := s.rd GL_SWAP_TGT
    if !bit v 8 then s
    else if (x ≠ 1 ∧ x ≠ 2) ∨ !s.rdb (slotValid x) then s.set GL_SWAP_REFUSED
    else if s.gl.active = x then s
    else
      let old := if s.gl.active = 0 then 0 else ixGen (slotHead s s.gl.active)
      post 0x9002 0x06 [x, old, ixGen (slotHead s x)] (setGl { s.gl with active := x } (s.inc GL_SWAPS))) s)

/-! ### Distances (R555) -/

/-- FP32 patterns of a row of BF16. -/
def widen (b : Bytes) (n : Nat) : List Nat := (rowBf16 b n).map rne32

/-- The rounded differences of two rows. -/
def differ (a b : List Nat) : List Nat := List.zipWith fsub a b

/-- The sum of the squares of a row, in the chunk order (R483). -/
def sumSquares (l : List Nat) : Nat := rowSum (l.map fun d => (f32 d).mul (f32 d))

/-- Squared distance of two rows. -/
def distance (a b : List Nat) : Nat := sumSquares (differ a b)

/-- Insert into a list kept in rising order of key, no longer than `k`. -/
def keepBest {α : Type} (k : Nat) (l : List (Nat × α)) (x : Nat × α) : List (Nat × α) := (insertRank (·.1) x l).take k

/-- The order of R556: value, then index. Patterns of values that are not negative order as numbers; +Inf sorts after them. -/
def orderKey (value index : Nat) : Nat := value * 2 ^ 64 + index

/-- One entry of a list's distance table: one rounding per step in rising t (R555). -/
def subDistance (r p : List Nat) : Nat :=
  (differ r p).foldl (fun acc d => ffma d d acc) 0

/-- The distance tables of a residual: M rows of 256. -/
def distanceTables (h cb : Bytes) (r : List Nat) : List (List Nat) :=
  let ds := ixDsub h
  (List.range (ixM h)).map fun m => (List.range 256).map fun j =>
    subDistance ((r.drop (m * ds)).take ds) (widen (cb.drop ((m * 256 + j) * ds * 2)) ds)

/-- The distance of a code: table entries added left to right. -/
def codeDistance (t : List (List Nat)) (code : Bytes) : Nat :=
  match List.zipWith (fun (row : List Nat) (b : Byte) => row.getD b.toNat 0) t code with
  | [] => 0
  | d :: l => l.foldl fadd d

/-- The error bound of a reported PQ distance, FP32 steps toward +Inf, to BF16 (R558). -/
def pqBound (dist r2 eps : Nat) : Nat :=
  let up := roundUp 24
  let e := bf16 eps
  let rho := up ((f32 (up ((f32 dist).add (f32 r2)))).mul (.fin false 1 (-16)))
  let root := sqrtTo 24 .up (f32 (up ((f32 dist).add (f32 rho))))
  let t := up ((e.mul (.fin false 2 0)).mul (f32 root))
  let u := up ((f32 t).add (f32 (up (e.mul e))))
  roundUp 8 (f32 (up ((f32 u).add (f32 rho))))

/-! ### A query -/

/-- A candidate: its distance, vector index, list bound and R2. -/
structure Candidate where
  dist : Nat
  v : Nat
  eps : Nat
  r2 : Nat
  deriving DecidableEq, Repr

/-- A scan in progress: the status met, the units of the read that met it, the candidates. -/
structure Scan where
  status : Nat := 0
  bad : Nat × Nat := (0, 0)
  best : List (Nat × Candidate) := []
  deriving DecidableEq, Repr

/-- Read within a scan; the first error ends it. -/
def Scan.read (z : Scan) (s : State) (a n : Nat) : Scan × Bytes :=
  if z.status ≠ 0 then (z, zeros n)
  else
    let r := readIndex s a n
    (if r.1 = 0 then z else { z with status := r.1, bad := (a, n) }, r.2)

/-- The list centroids under a kept top-level centroid: d2 and list (R555). -/
def rankLists (s : State) (base : Nat) (h : Bytes) (q : List Nat) (probe : Nat) (z : Scan × List (Nat × Nat)) (i1 : Nat) :
    Scan × List (Nat × Nat) :=
  let dim := ixDim h
  let r := z.1.read s (base + u64 h 48 + 2 * dim * (i1 * ixC2 h)) (2 * dim * ixC2 h)
  if r.1.status ≠ 0 then (r.1, z.2)
  else (r.1, (List.range (ixC2 h)).foldl (fun l i2 =>
    let d := distance q (widen (r.2.drop (2 * dim * i2)) dim)
    keepBest probe l (orderKey d (i1 * ixC2 h + i2), d)) z.2)

/-- Scan one list: its directory entry, centroid and codes (R555). -/
def scanList (s : State) (base : Nat) (h cb : Bytes) (q : List Nat) (keep : Nat) (z : Scan) (e : Nat × Nat) : Scan :=
  let l := e.1 % 2 ^ 64
  let d := z.read s (base + u64 h 56 + 16 * l) 16
  let c := d.1.read s (base + u64 h 48 + 2 * ixDim h * l) (2 * ixDim h)
  let first := u64 d.2 0
  let codes := c.1.read s (base + u64 h 72 + ixM h * first) (ixM h * u32 d.2 8)
  if codes.1.status ≠ 0 then codes.1
  else
    let r := if ixResid h then differ q (widen c.2 (ixDim h)) else q
    let r2 := if ixResid h then e.2 else sumSquares q
    let t := distanceTables h cb r
    { codes.1 with best := (List.range (u32 d.2 8)).foldl (fun b i =>
        let x := codeDistance t (slice codes.2 (ixM h * i) (ixM h))
        keepBest keep b (orderKey x (first + i), ⟨x, first + i, u16 d.2 12, r2⟩)) z.best }

/-- The exact distances of the candidates to be re-ranked (R555). -/
def rerank (s : State) (base : Nat) (h : Bytes) (q : List Nat) (g : Search) (z : Scan) : Scan :=
  (z.best.take g.rr).foldl (fun y c =>
    let r := y.read s (base + u64 h 88 + 2 * ixDim h * c.2.v) (2 * ixDim h)
    if r.1.status ≠ 0 then r.1
    else
      let d := distance q (widen r.2 (ixDim h))
      { r.1 with best := keepBest g.k r.1.best (orderKey d c.2.v, { c.2 with dist := d }) }) { z with best := [] }

/-- A result block (R554); `n` lists scanned. -/
def resultBlock (g : Search) (x n : Nat) (cut : Bool) (entries : List (Bytes × Nat × Nat)) : Bytes :=
  padTo g.rb (leBytes 4 entries.length ++ leBytes 2 n ++ leBytes 2 g.probe ++ leBytes 1 x ++
    leBytes 1 (ofBool cut + 2 * ofBool (g.rr != 0)) ++ zeros 6 ++
    (entries.map fun e => e.1 ++ leBytes 4 e.2.1 ++ leBytes 2 e.2.2 ++ zeros 2).flatten)

/-- The outcome of one query: status, the read that met it, the block, the largest bound of a reported PQ distance. -/
structure Found where
  status : Nat
  bad : Nat × Nat
  block : Bytes
  worst : Option Nat
  deriving DecidableEq, Repr

/-- Rank, scan the first `n` lists, and report (R555, R558, R560). -/
def runQuery (s : State) (g : Search) (x n : Nat) (q : List Nat) : Found :=
  let h := slotHead s x
  let base := slotBase s x
  let dim := ixDim h
  let t := ldLocal s 12 (tableBase x) (tableBytes h)
  let cb := t.drop (2 * ixC1 h * dim)
  let top := (List.range (ixC1 h)).foldl (fun l i =>
    keepBest g.beam l (orderKey (distance q (widen (t.drop (2 * dim * i)) dim)) i, i)) []
  let p := (top.map (·.2)).foldl (rankLists s base h q g.probe) ({}, [])
  let z := (p.2.take n).foldl (scanList s base h cb q (max g.k g.rr)) p.1
  let z := if g.rr = 0 ∨ z.status ≠ 0 then z else rerank s base h q g z
  let r := (z.best.take g.k).foldl (fun (y : Scan × List (Bytes × Nat × Nat)) c =>
    let i := y.1.read s (base + u64 h 80 + 8 * c.2.v) 8
    (i.1, y.2 ++ [(i.2, c.2.dist, if g.rr = 0 then pqBound c.2.dist c.2.r2 c.2.eps else 0)])) (z, [])
  if r.1.status ≠ 0 then ⟨r.1.status, r.1.bad, resultBlock g x 0 false [], none⟩
  else ⟨0, (0, 0), resultBlock g x n (decide (n < g.probe)) r.2, if g.rr = 0 ∧ r.2 ≠ [] then some (maxOf (r.2.map (·.2.2))) else none⟩

/-! ### GSEARCH -/

/-- The queries of a command so far: the worst status, the ledger, the state. -/
structure Progress where
  status : Nat := 0
  led : Ledger := {}
  s : State

/-- One query of a command that scans `n` lists of it; after an error every block holds COUNT 0 (R559, R560, R562). -/
def stepQuery (x : Ctx) (g : Search) (slot : Nat) (y : Progress) (e : Nat × Nat × List Nat) : Progress :=
  let put := fun (b : Bytes) (t : State) => memWrite t 76 x.tid (g.dst + g.rb * e.1) b
  if y.status ≠ 0 then { y with s := (put (resultBlock g slot 0 false []) y.s).2 }
  else
    let f := runQuery y.s g slot e.2.1 e.2.2
    let s := noteRead 76 0 f.bad.1 f.bad.2 y.s
    let w := put f.block s
    if f.status ≠ 0 then { y with status := f.status, s := w.2 }
    else
      let cut := decide (e.2.1 < g.probe)
      let s := (w.2.inc GL_QUERIES).inc GL_LISTS e.2.1
      let s := if cut then nondet x.q 7 (s.inc GL_DCUT) else s
      let led : Ledger := match f.worst with | some k => { stages := 0x20, pqErr := k } | none => {}
      let led := if cut then led.merge { stages := 0x40, scanned := e.2.1, probed := g.probe } else led
      { status := w.1, led := y.led.merge led, s := s }

/-- GSEARCH with the lists scanned of each query. -/
def runSearch (x : Ctx) (b : Bytes) (lists : Nat → Nat) (s : State) : State :=
  let g := searchOf b
  let slot := if g.slot = 0 then s.gl.active else g.slot
  let h := slotHead s slot
  let fail := fun (st : Nat) (t : State) => engineDone x b { status := st } t
  let zeroBlocks := fun (st : Nat) (t : State) =>
    let y := (List.range g.nq).foldl (fun y i => stepQuery x g slot y (i, 0, [])) { status := st, s := t }
    fail st y.s
  if slot = 0 ∨ !s.rdb (slotValid slot) then fail 0x08 s
  else if ixC1 h < g.beam ∨ g.beam * ixC2 h < g.probe ∨ (g.rr ≠ 0 ∧ !ixFull h) then fail 0x03 s
  else
    let r := memRead s x.tid g.qry (g.nq * queryPitch (ixDim h))
    let rows := rowsIn r.2 false g.nq (2 * ixDim h) (queryPitch (ixDim h))
    let bad := badWords s 12 (tableBase slot) (tableBytes h)
    if r.1 ≠ 0 then zeroBlocks r.1 s
    else if rows.any (fun q => (rowBf16 q (ixDim h)).any fun e => !e.isFinite) then fail 0x03 s
    else if bad ≠ [] then zeroBlocks 0x06 (bad.foldl (fun t w => noteBad 12 w t) s)
    else
      let gl := s.gl
      let live := gl.users.filter fun u => s.drv.flights.any fun f => f.q == u.1 && f.idx == u.2.1
      let s := setGl { gl with users := live ++ [(x.q, s.rd (Q_SQ_PTR_HEAD x.q), slot)] } s
      let y := (rows.mapIdx fun i q => (i, lists i, widen q (ixDim h))).foldl (stepQuery x g slot) { s := s }
      engineDone x b { status := y.status, led := y.led } y.s

/-- The table memory of the slots the command may use is in place. -/
def tablesReady (s : State) (b : Bytes) : Bool :=
  let g := searchOf b
  !s.gl.copy.contains (if g.slot = 0 then s.gl.active else g.slot)

/-- GSEARCH: a search that scans every list (R555). -/
def execGsearch (q : Nat) (s : State) : Out :=
  .next (match engineCmd s q 12 3 0x01 with
  | none => s
  | some (x, b) => if tablesReady s b then runSearch x b (fun _ => (searchOf b).probe) s else s)

/-- GSEARCH_DEADLINE: a search whose deadline passes when `scanned` lists of each query are done (R560). -/
def execGsearchDeadline (q : Nat) (scanned : List Nat) (s : State) : Out :=
  .next (match engineCmd s q 12 3 0x01 with
  | none => s
  | some (x, b) =>
    let g := searchOf b
    if tablesReady s b && g.deadline != 0 && scanned.length == g.nq && scanned.all (fun n => decide (n ≤ g.probe)) &&
        scanned.any (fun n => decide (n < g.probe)) then
      runSearch x b (fun i => scanned.getD i 0) s
    else s)

/-- GL_LAT_MAX_READ: a read of GL_LAT_MAX returns and clears it (R10). -/
def execGlLatMaxRead (w : Writer) (s : State) : Out := .next (readClear w GL_LAT_MAX s)

end Sys2Proof.Machine
end

