-- ==== Sys2Proof/Machine/Live.lean ====
section
/-! DEFINITION. What a register read returns (chapter 3): the stored fields, the registers that show a view of other state (fuses, straps, pins,
time, tables, counters of the readable bank), and the index registers held for each master. -/

namespace Sys2Proof.Machine
open Reg

/-! ### Registers held for each master -/

/-- The bits of a register that are held for each master separately: index registers of chapters 13, 14, 20, 21, 23 and 28, and the
object of a CAN shadow. -/
def perMasterBits (a : Nat) : Option Nat :=
  if a = 0x40010 ∨ a = 0x4C040 then some 12
  else if a = 0x30200 then some 4
  else if a = 0x38040 ∨ a = 0x390018 then some 10
  else if a = 0x340600 then some 7
  else if 0x340400 ≤ a ∧ a < 0x348400 ∧ a % 0x1000 = 0x400 then some 11
  else none

/-! ### Views -/

/-- Word `j` of a line. -/
def wordOf (b : Bytes) (j : Nat) : Nat := u32 b (4 * j)

/-- The command a column runs: the flight on it. -/
def runningOn (s : State) (c : Nat) : Option Flight := s.drv.flights.find? (·.unit == c)

/-- STATE of an engine's status register: 2 clock stopped, 1 running, 0 idle. -/
def engineState (s : State) (c : Nat) : Nat :=
  if s.clocks.stopped.contains (columnIsland c) then 2 else if (runningOn s c).isSome || (stepOn s c).isSome then 1 else 0

/-- What a running command shows: the queue, and a part of the command; 0 when none runs. -/
def runQid (s : State) (c : Nat) : Nat := match runningOn s c with | some f => f.q | none => 0
def runOpc (s : State) (c : Nat) : Nat := match runningOn s c with | some f => cmdOpc f.cmd | none => 0

/-- The command of class 1 with an opcode in a range that an engine runs. -/
def runningOp (s : State) (e lo hi : Nat) : Option Bytes :=
  ((runningOn s e).map (·.cmd)).filter fun c => cmdClass c == 1 && decide (lo ≤ cmdOpc c) && decide (cmdOpc c ≤ hi)

/-- The window of a table index 4 · TID + IDX (10.10). -/
def windowWords (s : State) (i : Nat) : Bytes :=
  ((windows s).find? fun w => bits (u16 w 12) 0 10 == i / 4 && u8 w 15 == i % 4).getD (zeros 16)

/-- A word of the OTP as SEC_OTP_DATA shows it: the owner keys are not read. -/
def otpWord (s : State) (i : Nat) : Nat := if 0x10 ≤ i ∧ i < 0x80 then 0 else leNat (ldOtp s (4 * i) 4)

/-- Peer entry of an index. -/
def peerAt (s : State) (i : Nat) : Option Peer := s.can.peers[i]?

/-- The capture at the head of a FIFO, and the stamp at the head of a queue. -/
def headCapture (s : State) (n : Nat) : Option Capture := (tcapAt s n).head?
def headStamp (s : State) (n : Nat) : Option TxStamp := (txtsAt s n).head?

/-- The part number (R1, R714). -/
def partNumber (s : State) : Nat := if s.fuse.grade = 0 then 0x8100 else if s.fuse.grade = 1 then 0x8060 else 0x8040

/-- The fields of global, power and live-insertion registers that show fuses, straps, pins and tables. The controllers of stepping A2 run at
937.5 MHz (R110): FCODE 37. -/
def liveSystem (s : State) (w : Writer) (a : Nat) : List (Nat × Nat) :=
  if a = 0x0 then [(0, partNumber s), (16, s.fuse.stepping + 1), (20, s.fuse.temp)]
  else if a = 0x4 then [(0, engines s), (8, 28 * engines s)]
  else if a = 0x8 then [(0, s.straps.bootmode), (2, s.straps.chipaddr), (6, ofBool s.straps.hostlink), (7, ofBool s.straps.testmode)]
  else if a = 0xC then [(0, w.master % 2 ^ 12), (12, w.qid)]
  else if a = 0x1202C then [(1, ofBool s.power.pgMem), (2, ofBool s.power.pgMain)]
  else if a = 0x13000 then [(3, s.rd CLK_STATUS_XTAL_FAIL)]
  else if s.fuse.stepping = 0 ∧ (CLK_ISL_CUR 0x40).addr ≤ a ∧ a ≤ (CLK_ISL_CUR 0x45).addr then [(0, 37), (8, 37), (16, 37)]
  else if a = 0x14000 then [(0, ofBool s.power.prsntLow), (1, ofBool s.power.ejectLow)]
  else if a = 0x14048 then [(0, ((List.range 32).filter fun n => s.rd (STREAM_STATE_STATE n) != 0).length), (8, s.can.peers.length)]
  else if a = 0x380024 then [(0, s.straps.bootmode)]
  else if a = 0x370000 then [(0, Config.vendorId), (16, partNumber s)]
  else if a = 0x390000 then [(0, dieId s)]
  else if a = 0x390004 then [(0, dieId s / 2 ^ 32)]
  else if a = 0x390008 then
    [(0, ((List.range 4).foldl (fun v k => v + ofBool (slotUsable s k) * 2 ^ k) 0)), (4, bits (otpCfg s) 12 4), (8, bits (otpCfg s) 0 1),
      (9, bits (otpCfg s) 1 1), (10, bits (otpCfg s) 2 1), (12, arbUsed s)]
  else if a = 0x39000C then [(0, arbCounter s)]
  else if a = 0x390010 then [(0, arbCounter s / 2 ^ 32)]
  else if a = 0x39001C then [(0, otpWord s (masterIdx s w.master 0x390018))]
  else []

/-- The fields of the Timekeeper's registers that show time, stamps and captures. -/
def liveTime (s : State) (a : Nat) : List (Nat × Nat) :=
  if a = 0x20004 then [(0, s.sec)]
  else if a = 0x20008 then [(0, s.sec / 2 ^ 32)]
  else if a = 0x2000C then [(0, s.time.dev % 65536)]
  else if a = 0x20010 then [(0, s.mono)]
  else if a = 0x20014 then [(0, s.mono / 2 ^ 32)]
  else if a = 0x20018 then [(3, ofBool (s.rd CLK_STATUS_REFMON != 1))]
  else if 0x20400 ≤ a ∧ a < 0x20480 then
    let n := (a - 0x20400) / 0x20
    let o := (a - 0x20400) % 0x20
    if o = 0 then
      [(0, ((headStamp s n).map (·.id)).getD 0), (16, (txtsAt s n).length), (31, ofBool (txtsAt s n != []))]
    else if o = 4 then [(0, ((headStamp s n).map (·.sec)).getD 0)]
    else if o = 8 then [(0, ((headStamp s n).map (·.sec / 2 ^ 32)).getD 0)]
    else []
  else if a = 0x20804 then [(0, calTimeWord s), (8, calTimeWord s / 2 ^ 8), (16, calTimeWord s / 2 ^ 16), (23, calTimeWord s / 2 ^ 23)]
  else if a = 0x2081C then [(2, ofBool (underrange s)), (3, ofBool (overrange s)), (4, ofBool (leapNow s))]
  else if 0x21800 ≤ a ∧ a < 0x21900 then
    let n := (a - 0x21800) / 0x10
    let o := (a - 0x21800) % 0x10
    if o = 4 then [(0, ((headCapture s n).map (·.stamp / 2 ^ 32)).getD 0)]
    else if o = 0xC then [(0, (tcapAt s n).length), (5, ofBool (((headCapture s n).map (·.rising)).getD false))]
    else []
  else []

/-- The fields of the queue, rotation, safety and supervision registers that show a table's entry, selected for each master. -/
def liveTables (s : State) (w : Writer) (a : Nat) : List (Nat × Nat) :=
  if 0x44000 ≤ a ∧ a < 0x4C000 ∧ a % 0x20 = 0x18 then
    let q := (a - 0x44000) / 0x20
    [(3, ofBool (bound s q && decide (cqSize s q ≤ unread s q + (flightsOf s q).length)))]
  else if 0x40014 ≤ a ∧ a < 0x40040 then
    let e := eventAt s (masterIdx s w.master 0x40010)
    if a = 0x40014 then [(0, e.value)]
    else if a = 0x40018 then [(0, e.value / 2 ^ 32)]
    else if 0x40020 ≤ a ∧ a < 0x40030 then [(0, e.led.toNat / 2 ^ (8 * (a - 0x40020)))]
    else if 0x40030 ≤ a then [(0, (e.ref.sid + 2 ^ 64 * e.ref.fe) / 2 ^ (8 * (a - 0x40030)))]
    else []
  else if a = 0x4C014 then [(0, rotPos s)]
  else if 0x4C044 ≤ a ∧ a < 0x4C054 then
    let i := masterIdx s w.master 0x4C040
    [(0, if i < s.rd ROT_COUNT_ENTRIES then wordOf (rotEntry s i) ((a - 0x4C044) / 4) else 0)]
  else if a = 0x30000 then [(1, s.rd SF_LATCH_L3), (2, s.rd SF_LATCH_L4)]
  else if 0x30204 ≤ a ∧ a < 0x30244 then
    [(0, wordOf ((strOf s (masterIdx s w.master 0x30200)).getD (zeros 64)) ((a - 0x30204) / 4))]
  else if 0x38044 ≤ a ∧ a < 0x38064 then
    [(0, wordOf ((shepEntry s (masterIdx s w.master 0x38040)).getD (zeros 32)) ((a - 0x38044) / 4))]
  else []

/-- The fields of engine registers that show what runs (15.9, 16.8, 17.9, 18.8, 19.9). -/
def liveEngine (s : State) (a : Nat) : List (Nat × Nat) :=
  if 0x100000 ≤ a ∧ a < 0x180000 then
    let e := (a - 0x100000) / 0x10000
    let o := a % 0x10000
    if o = 0 then [(0, s.fuse.physical.getD e 0), (8, physNode (s.fuse.physical.getD e 0))]
    else if o = 4 then [(0, engineState s e), (3, ofBool (gated s (0x10 + e))), (16, runQid s e)]
    else if o = 0x4004 then
      match runningOp s e 0x20 0x25 with
      | some c => [(0, 1), (1, bits (u8 c 44) 5 1), (2, bits (u8 c 44) 0 5), (7, cmdOpc c - 0x20)]
      | none => [(0, 0), (1, 0), (2, 0), (7, 0)]
    else if o = 0x8000 then
      match runningOp s e 0x40 0x44 with
      | some c => [(0, 1), (1, if cmdOpc c = 0x41 then 2 else if cmdOpc c = 0x44 then 3 else bits (u8 c 52) 0 1)]
      | none => [(0, 0), (1, 0)]
    else if 0x5000 ≤ o ∧ o < 0x5480 then [(0, Config.fuCoef ((o - 0x5000) / 4))]
    else []
  else if 0x180000 ≤ a ∧ a < 0x1C0000 ∧ a % 0x10000 = 0 then
    let v := (a - 0x180000) / 0x10000
    [(0, engineState s (8 + v)), (3, ofBool (gated s (0x18 + v))), (4, if (runningOn s (8 + v)).isSome then 0xFF else 0), (16, runQid s (8 + v)),
      (26, runOpc s (8 + v))]
  else if a = 0x210000 then
    [(0, engineState s 12), (2, ofBool (gated s 6)), (4, s.gl.active), (6, ofBool (slotUsed s 1)), (7, ofBool (slotUsed s 2)),
      (8, ofBool (s.gl.loading != [])), (16, runQid s 12)]
  else []

/-- The registers of the counters that are banked (R352): those of the probes, but for PRB_TRC, and of the initiators. -/
def banked (a : Nat) : Bool := decide (0x228400 ≤ a) && decide (a < 0x22E000) && !(decide (a < 0x22A000) && a % 0x100 == 0x84)

/-- The fields of fabric, probe, memory and bus registers that show a view. -/
def liveBus (s : State) (w : Writer) (a : Nat) : List (Nat × Nat) :=
  if a = 0x222000 ∨ a = 0x222040 then [(0, 0)]
  else if a = 0x228008 then [(16, ofBool (bankSaturated s))]
  else if banked a then ((fieldsAt a).filter (·.acc == .RO)).map fun f => (f.lsb, (readBank s).rd f)
  else if 0x230000 ≤ a ∧ a < 0x290000 then
    let m := (a - 0x230000) / 0x10000
    let o := a % 0x10000
    if o = 0 then [(2, if 2 ≤ s.rd (MC_STATUS_STATE m) then 0xF else 0), (6, s.rd (MC_CFG_IECC m))]
    else if 0x64 ≤ o ∧ o < 0x74 then [(0, wordOf (windowWords s (s.rd (MC_WIN_IDX_IDX m))) ((o - 0x64) / 4))]
    else []
  else if 0x340000 ≤ a ∧ a < 0x348000 then
    let n := (a - 0x340000) / 0x1000
    let o := a % 0x1000
    let h := shadowAt s w.master n
    if o = 0x404 then [(0, h.hdr0)] else if o = 0x408 then [(0, h.hdr1)]
    else if o = 0x40C then [(0, h.stamp / 2 ^ 32)] else if o = 0x410 then [(0, h.stamp)]
    else if o = 0x414 then [(0, ofBool h.valid), (1, ofBool h.newdat), (2, ofBool h.lost), (3, ofBool h.empty), (4, ofBool h.esi)]
    else if 0x420 ≤ o ∧ o < 0x460 then [(0, h.data.getD ((o - 0x420) / 4) 0)]
    else if n = 0 ∧ (o = 0x604 ∨ o = 0x608) then
      match peerAt s (masterIdx s w.master 0x340600) with
      | some p =>
        if o = 0x604 then [(0, p.id), (29, ofBool p.xtd), (30, ofBool p.pinned), (31, 1)]
        else [(0, p.ctrl), (16, min ((s.mono - p.seen) / 1000000) 65535)]
      | none => []
    else []
  else []

/-- The mailbox response of a slot is read by the master that submitted the request only (R742). -/
def foreignResponse (s : State) (w : Writer) (a : Nat) : Bool :=
  decide (0x10040 ≤ a) && decide (a < 0x10400) && decide (0x40 ≤ a % 0x100) && decide (a % 0x100 < 0x80) &&
    s.rd (MBX_STAT_MASTER ((a - 0x10000) / 0x100)) != w.master % 2 ^ 12

/-- The fields at an address that do not stand in the register store, by lowest bit. -/
def overrides (s : State) (w : Writer) (a : Nat) : List (Nat × Nat) :=
  if a < 0x20000 ∨ 0x370000 ≤ a then liveSystem s w a
  else if a < 0x30000 then liveTime s a
  else if a < 0x50000 then liveTables s w a
  else if a < 0x220000 then liveEngine s a
  else liveBus s w a

/-- The word a read of the register at an address returns to a master; write-only fields read 0 (R10), reserved bits and addresses too
(R9), and so do the registers of an engine the grade lacks (R3, R110, R314). -/
def liveWord (s : State) (w : Writer) (a : Nat) : Nat :=
  if inert s a then 0 else
  let l := overrides s w a
  let stored := (fieldsAt a).foldl (fun v f =>
    let x := match l.find? (·.1 == f.lsb) with | some e => e.2 | none => if f.acc = .WO then 0 else s.rd f
    v + x % 2 ^ f.width * 2 ^ f.lsb) 0
  match perMasterBits a with
  | some k => stored / 2 ^ k * 2 ^ k + masterIdx s w.master a
  | none => if foreignResponse s w a then 0 else stored

end Sys2Proof.Machine
end

