-- ==== Sys2Proof/Machine/EventLogOps.lean ====
section
/-! DEFINITION. The event log in flash (27.5 to 27.7): records, sectors, batches, and what is done when the region is applied. -/

namespace Sys2Proof.Machine
open Reg

/-! ### Records (R744) -/

/-- The 64 bytes of a record with its SEQ. -/
def recordBytes (seq : Nat) (e : EventRec) : Bytes :=
  let b := leBytes 4 seq ++ leBytes 2 e.code ++ leBytes 1 e.flags ++ leBytes 1 e.src ++ leBytes 8 e.time ++ leBytes 8 e.mono ++
    (List.range 8).flatMap (fun i => leBytes 4 (e.args.getD i 0)) ++ zeros 4
  b ++ leBytes 4 (crc32 b)

/-- The arguments of a LOSS record: 16 counts of 16 bits (R744). -/
def lossArgs (counts : List Nat) : List Nat :=
  (List.range 8).map fun i => counts.getD (2 * i) 0 + 2 ^ 16 * counts.getD (2 * i + 1) 0

/-- The fold counters (R747). -/
def foldCounts (s : State) : List Nat := (List.range 16).map fun c => s.rd (EVQ_FOLD c)

/-- Counts with further records added, each in its class, saturating. -/
def addCounts (counts : List Nat) (l : List EventRec) : List Nat :=
  (List.range 16).map fun c => satAdd 16 (counts.getD c 0) (l.filter fun e => e.code / 4096 == c).length

/-- A LOSS record, posted by the Steward; TIME and MONO hold the first and the last stamp folded (R744). -/
def foldRecord (first last : Nat) (counts : List Nat) : EventRec :=
  { code := 0x0001, flags := 0, src := 0x01, time := first, mono := last, args := lossArgs counts }

/-! ### The region (R748, R749) -/

/-- A LOGRGN record has been applied. -/
def logApplied (s : State) : Bool := s.evlog.region != []

def logPort (s : State) : Nat := u8 s.evlog.region 0
def logSectors (s : State) : Nat := u16 s.evlog.region 2
def sectorAt (s : State) (i : Nat) : Nat := u32 s.evlog.region 4 + 4096 * i
def nextSector (s : State) (i : Nat) : Nat := if i + 1 < logSectors s then i + 1 else 0

/-- Bytes of the log's flash. -/
def logLd (s : State) (i o n : Nat) : Bytes := s.ldFlash (logPort s) (sectorAt s i + o) n

/-- A sector's header is present and right (R749). -/
def headerGood (s : State) (i : Nat) : Bool :=
  let h := logLd s i 4080 16
  u32 h 0 == 0x474F4C45 && u32 h 12 == crc32 (slice h 0 12)

def sectorErases (s : State) (i : Nat) : Nat := u32 (logLd s i 4084 4) 0
def sectorFirst (s : State) (i : Nat) : Nat := u32 (logLd s i 4088 4) 0

/-- A record is visible: its commit word is NOT SEQ and its CRC is right (R749). -/
def slotVisible (s : State) (i j : Nat) : Bool :=
  let r := logLd s i (64 * j) 64
  u32 (logLd s i (3840 + 4 * j) 4) 0 == 2 ^ 32 - 1 - u32 r 0 && u32 r 60 == crc32 (slice r 0 60)

/-- A slot or its commit word has been programmed. -/
def slotTouched (s : State) (i j : Nat) : Bool :=
  (logLd s i (64 * j) 64 ++ logLd s i (3840 + 4 * j) 4).any (· != 0xFF)

def slotSeq (s : State) (i j : Nat) : Nat := u32 (logLd s i (64 * j) 4) 0

/-- The visible records of a sector, as SEQs in slot order. -/
def sectorSeqs (s : State) (i : Nat) : List Nat :=
  if headerGood s i then ((List.range 60).filter (slotVisible s i)).map (slotSeq s i) else []

/-- The sectors from the oldest to the current one. -/
def sectorsByAge (s : State) : List Nat :=
  (List.range (logSectors s)).map fun k => (s.evlog.sector + 1 + k) % logSectors s

/-- The visible SEQs of the region, oldest first. -/
def visibleSeqs (s : State) : List Nat := (sectorsByAge s).flatMap (sectorSeqs s)

/-- The SEQ after one (R744). -/
def seqAfter (n : Nat) : Nat := if 2 ^ 32 - 1 ≤ n then 1 else n + 1

/-- EVL_OLDEST after the region has changed. -/
def showOldest (s : State) : State := s.wr EVL_OLDEST ((visibleSeqs s).headD 0)

/-- Erase a sector: every byte reads all ones. -/
def eraseSector (i : Nat) (s : State) : State :=
  let a := sectorAt s i
  let out := fun (k : Nat) => !(decide (a ≤ k) && decide (k < a + 4096))
  if logPort s = 0 then { s with flashA := s.flashA.keep out } else { s with flashB := s.flashB.keep out }

/-- Enter the next sector, already erased: its header is programmed (R749). -/
def enterSector (s : State) : State :=
  let l := s.evlog
  match l.ready with
  | none => s
  | some n =>
    let i := nextSector s l.sector
    let h := leBytes 4 0x474F4C45 ++ leBytes 4 n ++ leBytes 4 l.nextSeq
    let s := s.progFlash (logPort s) (sectorAt s i + 4080) (h ++ leBytes 4 (crc32 h))
    { s with evlog := { l with sector := i, slot := 0, ready := none } }

/-- The next sector is erased whenever the current one is more than half full (R750). -/
def wantErase (s : State) : State :=
  let l := s.evlog
  if logApplied s && decide (30 < l.slot) && l.ready.isNone && !l.erasing then { s with evlog := { l with erasing := true } } else s

/-! ### Applying the region (R748, R751) -/

/-- Sequence numbers compared round their wrap. -/
def seqLater (a b : Nat) : Bool := decide ((a + 2 ^ 32 - b) % 2 ^ 32 < 2 ^ 31)

/-- The newest sector: the one whose header has the latest first SEQ. -/
def newestSector (s : State) : Option Nat :=
  (List.range (logSectors s)).foldl (fun o i =>
    if headerGood s i then
      match o with
      | none => some i
      | some j => if seqLater (sectorFirst s i) (sectorFirst s j) then some i else some j
    else o) none

/-- The region is applied: the log continues after the highest visible SEQ, at the first slot after the last programmed one; a region
without a sector in use begins with the erase of its first sector (R751). -/
def applyLogRegion (b : Bytes) (s : State) : State :=
  let l := s.evlog
  let s := { s with evlog := { l with region := b, batch := [], batchTaken := 0, erasing := false, ready := none } }
  let s := s.wrs [(EVL_CFG_PORT, u8 b 0), (EVL_CFG_SECTORS, u16 b 2)]
  let l := s.evlog
  match newestSector s with
  | none => wantErase { s with evlog := { l with sector := logSectors s - 1, slot := 60, nextSeq := 1 } }
  | some i =>
    let used := match (List.range 60).reverse.find? (slotTouched s i) with | some j => j + 1 | none => 0
    let s := { s with evlog := { l with sector := i, slot := used, nextSeq := sectorFirst s i } }
    let seqs := visibleSeqs s
    let s := match seqs.getLast? with
      | some n =>
        let l := s.evlog
        { s with evlog := { l with nextSeq := seqAfter n } }.wr EVL_NEWEST n
      | none => s
    wantErase (showOldest s)

/-! ### Batches (R169, R747, R750) -/

/-- The Steward may commit: a region is applied, the rails are up, the device is in RUN or DOZE or on its way to OFF, not in RECOVERY and
not past step D6 of the drain under way (R752). -/
def logOpen (s : State) : Bool :=
  logApplied s && !s.railsOff && s.rd PWR_STATE_STATE != 4 && s.rd PWR_STATE_STATE != 5 && s.rd BOOT_STATUS_PHASE != 0xF &&
    (s.rd LIV_STATUS_STATE == 0 || !s.rdb LIV_STATUS_LOGDONE)

/-- The fold counters are cleared in the cycle a LOSS record is formed (R747). -/
def clearFold (s : State) : State :=
  ((List.range 16).foldl (fun (t : State) c => t.clr (EVQ_FOLD c)) (s.clr EVQ_STAT_FOLDING)).inc EVQ_LOSSREC

/-- Program the slots of a batch and keep it until its commit words are programmed; `taken` records of the queue go with it. -/
def beginBatch (recs : List EventRec) (taken : Nat) (s : State) : State :=
  let l := s.evlog
  let b := recs.foldl (fun (a : Nat × List Bytes) e => (seqAfter a.1, a.2 ++ [recordBytes a.1 e])) (l.nextSeq, [])
  let s := s.progFlash (logPort s) (sectorAt s l.sector + 64 * l.slot) b.2.flatten
  { s with evlog := { l with batch := b.2, batchTaken := taken } }

/-- A batch in normal operation: a LOSS record first where events are folded, up to `cap` records, none past the sector's last slot. -/
def normalBatch (cap : Nat) (s : State) : State :=
  let l := s.evlog
  let room := min cap (60 - l.slot)
  if room = 0 then s
  else if s.rdb EVQ_STAT_FOLDING then
    let loss := foldRecord l.foldFirst l.foldLast (foldCounts s)
    beginBatch (loss :: l.queue.take (room - 1)) (min (room - 1) l.queue.length) (clearFold s)
  else if l.queue = [] then s
  else beginBatch (l.queue.take room) (min room l.queue.length) s

/-- The batch of step D6 and of OFF entry: every queued record in order, `tail` last, and what does not fit in one LOSS record, which is
first (R169, R151). -/
def lastBatch (tail : List EventRec) (s : State) : State :=
  let l := s.evlog
  let room := min 32 (60 - l.slot)
  let folded := s.rdb EVQ_STAT_FOLDING
  if !folded ∧ l.queue.length + tail.length ≤ room then
    (if l.queue ++ tail = [] then s else beginBatch (l.queue ++ tail) l.queue.length s)
  else if room < 1 + tail.length then s
  else
    let n := room - 1 - tail.length
    let rest := l.queue.drop n
    let first := if folded then l.foldFirst else (rest.head?.map (·.time)).getD 0
    let last := (rest.getLast?.map (·.time)).getD l.foldLast
    let loss := foldRecord first last (addCounts (foldCounts s) rest)
    beginBatch (loss :: (l.queue.take n ++ tail)) l.queue.length (clearFold s)

/-- The DRAIN record: the time since the drain began, in µs (R169). -/
def drainRecord (us : Nat) (s : State) : EventRec :=
  { code := 0x0002, flags := 4 * s.rd TK_STATUS_HOLDOVER, src := 0x01, time := s.ts64, mono := s.mono, args := [us] }

/-- The batch under way ends with the DRAIN record. -/
def batchDrains (s : State) : Bool := (s.evlog.batch.getLast?.map (u16 · 4)) == some 0x0002

/-- The batch under way begins with a LOSS record, and its counts. -/
def batchLoss (s : State) : Option Bytes := s.evlog.batch.head?.filter fun b => u16 b 4 == 0x0001

/-- The commit words of the batch are programmed: its records are visible and leave the queue (R749, R750). -/
def commitBatch (s : State) : State :=
  let l := s.evlog
  let n := l.batch.length
  let words := l.batch.flatMap fun b => leBytes 4 (2 ^ 32 - 1 - u32 b 0)
  let drained := batchDrains s
  let s := s.progFlash (logPort s) (sectorAt s l.sector + 3840 + 4 * l.slot) words
  let newest := (l.batch.getLast?.map (u32 · 0)).getD (s.rd EVL_NEWEST)
  let q := l.queue.drop l.batchTaken
  let s := { s with evlog := { l with queue := q, batch := [], batchTaken := 0, slot := l.slot + n, nextSeq := seqAfter newest } }
  let s := (s.wr EVL_NEWEST newest).wr EVQ_STAT_QUEUED q.length
  let s := if drained then s.set LIV_STATUS_LOGDONE else s
  wantErase (if s.rd EVL_OLDEST = 0 then showOldest s else s)

/-- The batch failed: its slots stay used, its records stay queued, and the counts of its LOSS record count again. -/
def failBatch (s : State) : State :=
  let l := s.evlog
  let n := l.batch.length
  let kept := (if (batchLoss s).isSome then 1 else 0) + (if batchDrains s then 1 else 0)
  let surplus := (l.queue.take l.batchTaken).drop (n - kept)
  let s := match batchLoss s with
    | none => s
    | some b =>
      let back := fun (c : Nat) => u16 b (24 + 2 * c) - (surplus.filter fun (e : EventRec) => e.code / 4096 == c).length
      let l := s.evlog
      let last := if s.rdb EVQ_STAT_FOLDING then l.foldLast else u64 b 16
      let s := { s with evlog := { l with foldFirst := u64 b 8, foldLast := last } }
      let s := (List.range 16).foldl (fun (t : State) c => t.inc (EVQ_FOLD c) (back c)) s
      s.wr EVQ_STAT_FOLDING (ofBool ((List.range 16).any fun c => s.rd (EVQ_FOLD c) != 0))
  let l := s.evlog
  wantErase ({ s with evlog := { l with batch := [], batchTaken := 0, slot := l.slot + n } }.inc EVL_ERR_FAIL)

/-- A full sector is left for the next one, once that is erased. -/
def roomForBatch (s : State) : State := if 60 ≤ s.evlog.slot then enterSector s else s

/-- The sector of the last batch: the current one, or the next where the current one has no room for the LOSS record and `tail`. DESIGN CHOICE
(log 112): the spec has the last batch hold a LOSS record and the DRAIN record and no batch run past its sector, and does not say what is done with
one slot left; it is left unused. -/
def roomForLast (tail : List EventRec) (s : State) : State :=
  let l := s.evlog
  if 60 - l.slot < 1 + tail.length ∧ (s.rdb EVQ_STAT_FOLDING ∨ 60 - l.slot < l.queue.length + tail.length) then enterSector s else s

/-- The log is committed whole, in one batch: step D6 with its DRAIN record, and step O2 without one (R151, R169). -/
def commitLast (tail : List EventRec) (s : State) : State :=
  if logOpen s then
    let s := if s.evlog.batch = [] then s else commitBatch s
    if !logOpen s then s
    else
      let s := lastBatch tail (roomForLast tail s)
      if s.evlog.batch = [] then s else commitBatch s
  else s

end Sys2Proof.Machine
end

