-- ==== Sys2Proof/Machine/Steward.lean ====
section
/-! DEFINITION. The Steward (chapter 27): sensors, adaptation, the mailbox, posting, and the log's batches. -/

namespace Sys2Proof.Machine
open Reg

/-! ### Sensors (R733, R734) -/

/-- The nominal voltage of a rail sensor in mV (R128); DEDUCED (log 117): of an on-die regulator the voltage that its island's FCODE asks for
(R161). -/
def railNominal (s : State) (j : Nat) : Nat :=
  if 16 ≤ j then islandVolt s (columnIsland (j - 16)) else [800, 1050, 500, 750, 800, 850, 1200, 1200, 1800, 3300].getD j 0

/-- The bit of TM_VALID_R of a voltage sensor and of a current sensor (log 90): regulator r in bit r, rail j in bit 13 + j, current j in
bit 23 + j. -/
def voltBit (j : Nat) : Nat := if 16 ≤ j then j - 16 else 13 + j
def currBit (j : Nat) : Nat := if 16 ≤ j then j - 16 else 23 + j

def validT (s : State) (i : Nat) : Bool := bit (s.rd TM_VALID_T) i
def validR (s : State) (b : Nat) : Bool := bit (s.rd TM_VALID_R) b
def tempOf (s : State) (i : Nat) : Int := signed 16 (s.rd (TM_T i))

/-- The regulators of islands that exist (R733). -/
def regulators (s : State) : List Nat := (List.range 13).filter (columnExists s)

def setValid (f : Field) (b : Nat) (ok : Bool) (s : State) : State := s.wr f (setBit (s.rd f) b ok)

/-- One reading: kind 0 temperature, 1 voltage, 2 current, 3 margin. A reading out of range or failing its self-check is marked invalid. -/
def takeReading (s : State) (e : Nat × Nat × Nat × Bool) : State :=
  let i := e.2.1
  let v := e.2.2.1
  let ok := e.2.2.2
  if e.1 = 0 then
    (if 24 ≤ i then s
    else
      let inRange := decide (-320 ≤ signed 16 v) && decide (signed 16 v ≤ 1000)
      setValid TM_VALID_T i (ok && inRange) (s.wr (TM_T i) v))
  else if e.1 = 1 then
    (if railNominal s i = 0 ∨ 29 ≤ i then s
    else setValid TM_VALID_R (voltBit i) (ok && decide (2 * v ≤ 3 * railNominal s i)) (s.wr (TM_V i) v))
  else if e.1 = 2 then
    (if (4 ≤ i ∧ i < 16) ∨ 29 ≤ i then s
    else setValid TM_VALID_R (currBit i) (ok && decide (v ≤ 1500)) (s.wr (TM_I i) v))
  else if 13 ≤ i then s
  else
    let w := s.stw
    let least := if i ∈ w.cpmSeen then min (s.rd (TM_CPM_MIN i)) v else v
    let s := { s with stw := { w with cpmSeen := if i ∈ w.cpmSeen then w.cpmSeen else i :: w.cpmSeen } }
    setValid TM_VALID_R i (ok && decide (v ≤ 255)) ((s.wr (TM_CPM_MARGIN i) v).wr (TM_CPM_MIN i) least)

/-- Power in 0.1 W: voltage × current over the measured rails and the regulators (R733). -/
def powerOf (s : State) : Nat :=
  (([(3, 0), (4, 1), (1, 2), (5, 3)] ++ (regulators s).map fun r => (16 + r, 16 + r)).foldl
    (fun (a : Nat) (e : Nat × Nat) => a + s.rd (TM_V e.1) * s.rd (TM_I e.2)) 0) / 1000

/-- SENSOR_UPDATE: the sensors update their readings (R733, R734). -/
def execSensorUpdate (l : List (Nat × Nat × Nat × Bool)) (s : State) : Out :=
  .next (if s.railsOff then s
  else
    let s := l.foldl takeReading s
    s.wr TM_PWR (min (powerOf s) 0xFFFF))

/-- TM_CPM_READ: a read returns the smallest margin since the last read and starts it again from the reading that stands (27.9). -/
def execTmCpmRead (w : Writer) (r : Nat) (s : State) : Out :=
  .next (if 13 ≤ r then s
  else
    let a := (TM_CPM_MARGIN r).addr
    guardedRead w a (storedWord s a) (fun t => t.wr (TM_CPM_MIN r) (t.rd (TM_CPM_MARGIN r))) s)

/-! ### Adaptation (R735 to R741) -/

/-- The policy in force. -/
def policy (s : State) : Bytes := (List.range 16).flatMap fun j => leBytes 4 (s.rd (ST_POLICY j))

/-- The default policy of the part (R736). -/
def defaultPolicy (s : State) : Bytes :=
  let t := if s.fuse.temp = 0 then [680, 640, 760] else [760, 720, 840]
  t.flatMap (leBytes 2) ++ leBytes 2 1000 ++ leBytes 2 1000 ++ leBytes 2 100 ++ [20, 0] ++
    leBytes 2 ([2150, 1900, 1650].getD s.fuse.grade 1650) ++ [800, 400, 120, 40, 1700, 0, 0, 0].flatMap (leBytes 2) ++
    List.replicate 8 50 ++ List.replicate 5 40 ++ zeros 19

/-- Apply a policy: ST_POLICY reads it and its floors go to CLK_ISL (R735). -/
def applyPolicy (b : Bytes) (s : State) : State :=
  let s := (List.range 16).foldl (fun (t : State) j => t.wr (ST_POLICY j) (u32 b (4 * j))) s
  (List.range 13).foldl (fun (t : State) r => t.wr (CLK_ISL_FLOOR (columnIsland r)) (u8 b (32 + r))) s

def tgtOf (s : State) (c : Nat) : Nat := s.rd (CLK_ISL_TGT (columnIsland c))

/-- The floor of a column: that of its register, and never below its range (R117). -/
def floorOf (s : State) (c : Nat) : Nat := max (floorFcode (columnIsland c)) (s.rd (CLK_ISL_FLOOR (columnIsland c)))

/-- The lowest FCODE that a column may run at (R117, R413): its floor when a real-time entry claims it, otherwise the bottom of its range. -/
def lowestOf (s : State) (c : Nat) : Nat := if realTimeColumn s c then floorOf s c else floorFcode (columnIsland c)

/-- The REFCLK monitor is VALID (R741). -/
def refclkValid (s : State) : Bool := s.rd CLK_STATUS_REFMON == 1

/-- DUTY by the increments in force, and in force under CAPDUTY (R737, R743). -/
def dutyOf (s : State) : Nat :=
  256 - (s.stw.moves.flatMap fun m => (m.2.filter fun e => e.1 == 14).map (·.2)).foldl (· + ·) 0
def applyDuty (s : State) : State :=
  let d := min (dutyOf s) (s.rd ST_CAP_DUTY)
  (s.wr SRV_THROTTLE_DUTY d).wr ST_POL_DUTY d

/-- What one increment of a step would lower; none when the step can move nothing (R737). -/
def stepMove (s : State) (n : Nat) : List (Nat × Nat) :=
  let cols := regulators s
  if n = 1 then
    (cols.filter fun c => !realTimeColumn s c && decide (floorFcode (columnIsland c) < tgtOf s c)).map fun c =>
      (c, min 2 (tgtOf s c - floorFcode (columnIsland c)))
  else if n = 2 then (cols.filter fun c => realTimeColumn s c && decide (floorOf s c < tgtOf s c)).map fun c => (c, 1)
  else if n = 3 then (if dutyOf s = 0 then [] else [(14, min 32 (dutyOf s))])
  else [(14, dutyOf s)]

/-- Lower columns, or put them back, never above nominal. -/
def lowerColumns (l : List (Nat × Nat)) (s : State) : State :=
  l.foldl (fun t e => if e.1 = 14 then t else t.wr (CLK_ISL_TGT (columnIsland e.1)) (tgtOf t e.1 - e.2)) s
def raiseColumns (l : List (Nat × Nat)) (s : State) : State :=
  l.foldl (fun t e => if e.1 = 14 then t else t.wr (CLK_ISL_TGT (columnIsland e.1)) (min (nominalFcode (columnIsland e.1)) (tgtOf t e.1 + e.2))) s

/-- The step the increments in force have reached. -/
def movesStep (s : State) : Nat := (s.stw.moves.head?.map (·.1)).getD 0

/-- Advance one increment (R737); while the monitor is not VALID the step is held and only DUTY moves (R741). -/
def advance (s : State) : State :=
  let now := max 1 (movesStep s)
  let steps := if refclkValid s then (List.range 5).filter (fun n => decide (now ≤ n)) else (if now = 3 then [3] else [])
  match steps.find? fun n => stepMove s n != [] && !(n == 4 && movesStep s == 4) with
  | none => s
  | some n =>
    let mv := stepMove s n
    let w := s.stw
    applyDuty { lowerColumns mv s with stw := { w with moves := (n, mv) :: w.moves } }

/-- A low margin's lowering is undone by a retreat once the margin has been good for RELAX_MS (R738). -/
def retreatMargins (s : State) : State :=
  (regulators s).foldl (fun t r =>
    match t.stw.goodSince.find r with
    | some m =>
      if t.stw.lowered.get 0 r ≠ 0 ∧ m + u16 (policy t) 8 * 1000000 ≤ t.mono then
        let w := t.stw
        raiseColumns [(r, 1)] { t with stw := { w with lowered := w.lowered.put 0 r (w.lowered.get 0 r - 1) } }
      else t
    | none => t) s

/-- Retreat one increment (R737, R738); while the monitor is not VALID only DUTY moves (R741). -/
def retreat (s : State) : State :=
  let s := if refclkValid s then retreatMargins s else s
  match s.stw.moves with
  | [] => s
  | m :: ms =>
    if m.1 ≤ 2 ∧ !refclkValid s then s
    else
      let w := s.stw
      applyDuty (raiseColumns m.2 { s with stw := { w with moves := ms } })

/-- The hottest valid sensor, the lowest of several. -/
def hottest (s : State) : Nat :=
  ((List.range 24).filter (validT s)).foldl (fun b i => if tempOf s b < tempOf s i ∨ !validT s b then i else b) 0

/-- The currents against their limits: VCORE, VSRAM, VMEMPHY, VSERDES, VTE sum (R735), each with its validity. -/
def currents (s : State) : List (Nat × Bool) :=
  (List.range 4).map (fun j => (s.rd (TM_I j), validR s (23 + j))) ++
    [((regulators s).foldl (fun a r => a + s.rd (TM_I (16 + r))) 0, (regulators s).all (validR s))]

/-- The rails whose readings make the power are valid. -/
def powerValid (s : State) : Bool := [16, 17, 14, 18].all (validR s) && (currents s).all (·.2)

/-- The decision is hot (R734, R737). -/
def isHot (s : State) : Bool :=
  let p := policy s
  (List.range 24).any (fun i => !validT s i || decide (signed 16 (u16 p 0) ≤ tempOf s i)) ||
    ((currents s).zip (List.range 5)).any (fun e => !e.1.2 || decide (u16 p (16 + 2 * e.2) ≤ e.1.1)) ||
    !powerValid s || decide (u16 p 14 ≤ powerOf s) || s.mc.hot != []

/-- The decision is cool (R737). -/
def isCool (s : State) : Bool :=
  let p := policy s
  (List.range 24).all (fun i => validT s i && decide (tempOf s i < signed 16 (u16 p 2))) &&
    ((currents s).zip (List.range 5)).all (fun e => e.1.2 && decide (10 * e.1.1 < 9 * u16 p (16 + 2 * e.2))) &&
    powerValid s && decide (10 * powerOf s < 9 * u16 p 14)

/-- The margin of a regulator reads below CPM_MIN_PS (R738), an invalid monitor among them (log 90). -/
def marginLow (s : State) (r : Nat) : Bool := !validR s r || decide (s.rd (TM_CPM_MARGIN r) < u8 (policy s) 12)

/-- R738 for one regulator: lowering, and whether the margin is low at the floor. -/
def marginStep (acc : List Nat × State) (r : Nat) : List Nat × State :=
  let s := acc.2
  let w := s.stw
  let good := validR s r && decide (u8 (policy s) 12 + 10 ≤ s.rd (TM_CPM_MARGIN r))
  let since := if good then (w.goodSince.find r).getD s.mono else 0
  let s := { s with stw := { w with goodSince := if good then w.goodSince.insert r since else w.goodSince.erase r } }
  if !marginLow s r then (acc.1, s)
  else if tgtOf s r ≤ floorOf s r then (r :: acc.1, s)
  else if !refclkValid s then (acc.1, s)
  else
    let w := s.stw
    let s := lowerColumns [(r, 1)] { s with stw := { w with lowered := w.lowered.put 0 r (w.lowered.get 0 r + 1) } }
    (acc.1, post 0x2004 0x01 [r, s.rd (TM_CPM_MARGIN r)] s)

/-- The emergency is raised when its condition begins (R739). -/
def setEmergency (on : Bool) (s : State) : State :=
  let was := s.stw.emergency
  let w := s.stw
  let s := { s with stw := { w with emergency := on } }
  if on ∧ !was then raiseFault 0x22 0 (s.inc ST_EMERG) else s

/-- ST_POL after a decision; a change of step posts THROTTLE (R737, R745). -/
def showPolicy (s : State) : State :=
  let n := if s.stw.emergency then 5 else movesStep s
  let h := hottest s
  let old := s.rd ST_POL_STEP
  let s := s.wrs [(ST_POL_STEP, n), (ST_POL_FCODES, min 63 (s.stw.moves.filter fun m => decide (m.1 ≤ 2)).length), (ST_POL_HOTTEST, h)]
  if n = old then s else post 0x2003 0x01 [n, h, s.rd (TM_T h)] s

/-- DECIDE_US has passed since the last decision (R735). -/
def mayDecide (s : State) : Bool :=
  u16 (policy s) 6 != 0 && s.stw.decidedAt.all fun t => decide (t + u16 (policy s) 6 * 1000 ≤ s.mono)

/-- A decision is made now. -/
def decideNow (s : State) : State := { s with stw := { s.stw with decidedAt := some s.mono } }

/-- STEWARD_DECIDE: one decision, at the interval of POLICY (R735, R737 to R739, R741). -/
def execStewardDecide (s : State) : Out :=
  .next (if s.railsOff ∨ !mayDecide s then s
  else
    let p := policy s
    let m := (regulators s).foldl marginStep ([], decideNow s)
    let stuck := m.1.any fun r => m.2.stw.lowAtFloor.contains r
    let s := m.2
    let w := s.stw
    let s := { s with stw := { w with lowAtFloor := m.1 } }
    let hot := isHot s
    let cool := isCool s
    let s := if hot then advance s else s
    let due := match s.stw.coolSince with
      | some t => cool && decide (t + u16 p 8 * 1000000 ≤ s.mono)
      | none => false
    let s := if due then retreat s else s
    let w := s.stw
    let coolSince := if !cool then none else if due then some s.mono else some (w.coolSince.getD s.mono)
    let hotSince := if hot && movesStep s == 4 then some (w.hotSince.getD s.mono) else none
    let s := { s with stw := { w with coolSince := coolSince, hotSince := hotSince } }
    let long := match hotSince with
      | some t => decide (t + u16 p 10 * 1000000 ≤ s.mono)
      | none => false
    let bad := ((List.range 24).filter fun i => !validT s i).length
    let burnt := (List.range 24).any fun i => validT s i && decide (signed 16 (u16 p 4) ≤ tempOf s i)
    showPolicy (setEmergency (decide (2 ≤ bad) || burnt || long || stuck) s))

/-! ### The thermal trip (R740) -/

/-- THERMAL_TRIP: sensor `n` reaches the trip temperature; the AON island acts without the firmware. -/
def execThermalTrip (n : Nat) (s : State) : Out :=
  .next (if 24 ≤ n ∨ !s.power.penMain then s
  else
    let s := if s.rdb TM_TRIP_TRIPPED then s else (s.set TM_TRIP_TRIPPED).wr TM_TRIP_SENSOR n
    let s := post 0x2002 0x00 [n] (disarm s)
    let p := s.power
    { s with power := { p with penMain := false, wait := 3 } })

/-- THERMTRIP_RESTART: 10 s after the trip the device powers up again under R130. -/
def execThermtripRestart (s : State) : Out :=
  .next (if s.power.wait ≠ 3 then s
  else
    let p := s.power
    startPower { s with power := { p with attempts := 0 } })

/-! ### The mailbox (R742, R743) -/

def mbxReq (s : State) (k : Nat) : Bytes := (List.range 16).flatMap fun j => leBytes 4 (s.rd (MBX_REQ k j))

/-- GO submits a slot's request (R742); a GO written while BUSY is ignored (R103). -/
def submitMbx (m k : Nat) (s : State) : State :=
  if s.rdb (MBX_STAT_BUSY k) then s else (s.set (MBX_STAT_BUSY k)).wr (MBX_STAT_MASTER k) m

/-- The slot served next: round robin after the last one served. -/
def mbxNext (s : State) : Option Nat :=
  ((List.range 4).map fun i => (s.stw.served + 1 + i) % 4).find? fun k => s.rdb (MBX_STAT_BUSY k)

/-- Write the response, then STATUS, and clear BUSY (R742). -/
def mbxAnswer (k st : Nat) (rsp : Bytes) (s : State) : State :=
  let s := (List.range 16).foldl (fun (t : State) j => t.wr (MBX_RSP k j) (u32 rsp (4 * j))) s
  let s := (s.wr (MBX_STAT_STATUS k) st).clr (MBX_STAT_BUSY k)
  let w := s.stw
  { s with stw := { w with served := k } }

/-- Serve slot `k` when its turn has come and it holds the opcode; an opcode of no row completes UNSUPPORTED (R743). -/
def mbxServe (k opc : Nat) (f : Bytes → State → Nat × Bytes × State) (s : State) : State :=
  if mbxNext s ≠ some k then s
  else
    let b := mbxReq s k
    if u8 b 0 = opc then
      let r := f b s
      mbxAnswer k r.1 r.2.1 r.2.2
    else if u8 b 0 = 0 ∨ 5 < u8 b 0 then mbxAnswer k 0x0C [] s
    else s

/-- TELEM: every temperature (bytes 0-47), the power (48-49), the step (50), the hottest sensor (51) (R743; the places are log 91). -/
def execTelem (k : Nat) (s : State) : Out :=
  .next (mbxServe k 0x01 (fun _ s =>
    (0, (List.range 24).flatMap (fun i => leBytes 2 (s.rd (TM_T i))) ++ leBytes 2 (s.rd TM_PWR) ++ leBytes 1 (s.rd ST_POL_STEP) ++
      leBytes 1 (s.rd ST_POL_HOTTEST), s)) s)

/-- The committed record with a SEQ. -/
def findRecord (s : State) (seq : Nat) : Option Bytes :=
  if !logApplied s then none
  else (List.range (logSectors s)).findSome? fun i =>
    if headerGood s i then
      ((List.range 60).find? fun j => slotSeq s i j == seq && slotVisible s i j).map fun j => logLd s i (64 * j) 64
    else none

/-- LOGREAD: the committed record with the SEQ of bytes 4-7, or LIMIT (R743, R752). -/
def execLogread (k : Nat) (s : State) : Out :=
  .next (mbxServe k 0x02 (fun b s => match findRecord s (u32 b 4) with
    | some r => (0, r, s)
    | none => (0x03, [], s)) s)

/-- LOGINFO: oldest and newest committed SEQ (bytes 0-7), sectors in use (8-9), fold counters (12-43) (R743; the places are log 91). -/
def execLoginfo (k : Nat) (s : State) : Out :=
  .next (mbxServe k 0x03 (fun _ s =>
    let used := ((List.range (logSectors s)).filter (headerGood s)).length
    (0, leBytes 4 (s.rd EVL_OLDEST) ++ leBytes 4 (s.rd EVL_NEWEST) ++ leBytes 2 used ++ zeros 2 ++
      (foldCounts s).flatMap (leBytes 2), s)) s)

/-- CAPDUTY: DUTY is held at or below CAP; denied to a tenant other than 0 (R743). -/
def execCapduty (k : Nat) (s : State) : Out :=
  .next (mbxServe k 0x04 (fun b s =>
    let m := s.rd (MBX_STAT_MASTER k)
    if m ≠ 0 ∧ m < 0x400 then (0x07, [], s)
    else if 256 < u16 b 4 then (0x03, [], s)
    else (0, [], applyDuty (s.wr ST_CAP_DUTY (u16 b 4)))) s)

/-- POST: a USER event with the request's arguments and the requesting master (R743, R745). -/
def execPostUser (k : Nat) (s : State) : Out :=
  .next (mbxServe k 0x05 (fun b s =>
    (0, [], post 0x0004 0x01 (u16 b 4 :: ((List.range 6).map fun i => u32 b (8 + 4 * i)) ++ [s.rd (MBX_STAT_MASTER k)]) s)) s)

/-! ### Posting and the log (R744 to R752) -/

/-- EVENT_POST: a block of the device posts an event (R746, R747). -/
def execEventPost (code src : Nat) (args : List Nat) (s : State) : Out :=
  .next (if s.power.vaon then post (code % 2 ^ 16) (src % 256) args s else s)

/-- LOG_BATCH_DONE: the commit words are programmed and the records leave the queue, or the program failed (R749, R750). -/
def execLogBatchDone (ok : Bool) (s : State) : Out :=
  .next (if s.evlog.batch = [] ∨ s.railsOff then s else if ok then commitBatch s else failBatch s)

/-- SECTOR_ERASE_DONE: the erase of the next sector ends (R750, R751). -/
def execSectorEraseDone (ok : Bool) (s : State) : Out :=
  .next (if !s.evlog.erasing ∨ s.railsOff then s
  else
    let l := s.evlog
    let i := nextSector s l.sector
    let s := { s with evlog := { l with erasing := false } }
    if ok then
      let good := headerGood s i
      let n := if good then sectorErases s i + 1 else 1
      let s := if good then s else s.inc EVL_ERR_REERASED
      let s := eraseSector i s
      let s := if s.rdb BOOT_STATUS_SEALED then s.inc EVL_ERASES else s
      let l := s.evlog
      showOldest { s with evlog := { l with ready := some n } }
    else wantErase (s.inc EVL_ERR_FAIL))

end Sys2Proof.Machine
end

