-- ==== Sys2Proof/Machine/Supervision.lean ====
section
/-! DEFINITION. The rows of chapter 21 that judge tasks: windows, budgets, heartbeats, fault injection. -/

namespace Sys2Proof.Machine
open Reg

/-! ### Windows (R602) -/

/-- START_LATE: no command of the instance has started by START_MAX_US (R602). -/
def execStartLate (q : Nat) (s : State) : Out :=
  .next (match instAt s q with
  | none => s
  | some i => if !i.started ∧ i.ref + limitNs s q 8 i < s.mono then judge q 0x10 s else s)

/-- END_LATE: the instance has not closed by END_MAX_US (R602). -/
def execEndLate (q : Nat) (s : State) : Out :=
  .next (match instAt s q with
  | none => s
  | some i => if i.ref + limitNs s q 12 i < s.mono then judge q 0x11 s else s)

/-- BUDGET: the instance's busy time exceeds BUDGET_US (R602). -/
def execBudget (q : Nat) (s : State) : Out :=
  .next (match instAt s q, shepEntry s q with
  | some i, some e => if u32 e 16 ≠ 0 ∧ u32 e 16 * 1000 < busyNs s i then judge q 0x12 s else s
  | _, _ => s)

/-! ### Heartbeats (R606 to R608) -/

/-- Violations of one cycle: all are raised, the highest level last recorded first (R592). -/
def raiseViolations (q : Nat) (l : List Nat) (s : State) : State :=
  (sortRank (fun c => (8 - violationLevel s q c) * 256 + c) l).foldl (fun t c => raiseViolation false q c t) s

/-- A heartbeat of queue `q` with checkpoint `chk` (R607). -/
def heartbeat (q chk : Nat) (e : Bytes) (s : State) : State :=
  if !supervising s then s
  else
    let early := match s.shp.hbLast.find q with
      | some t => decide (u32 e 20 ≠ 0) && decide (s.mono < t + u32 e 20 * 1000)
      | none => false
    let n := u8 e 5
    let flow := decide (n ≠ 0) && chk != s.rd (SHP_TASK_STAT_CHK q)
    let s := raiseViolations q ((if early then [0x15] else []) ++ (if flow then [0x16] else [])) s
    let s := { s with shp := { s.shp with hbFrom := s.shp.hbFrom.insert q s.mono, hbLast := s.shp.hbLast.insert q s.mono } }
    if n = 0 then s else s.wr (SHP_TASK_STAT_CHK q) ((chk + 1) % n)

/-- HEARTBEAT: a write of SHP_HB (R606). -/
def execHeartbeat (w : Writer) (v : Nat) (s : State) : Out :=
  .next (guarded w 0x38010 (fun s =>
    match taskOf s w.qid 1 with
    | some e => if w.master < 0x400 then heartbeat w.qid (v % 256) e s else s.inc SHP_HBERR
    | none => s.inc SHP_HBERR) s)

/-- HB_LATE: no heartbeat within HB_MAX_US (R607). -/
def execHbLate (q : Nat) (s : State) : Out :=
  .next (match s.shp.hbFrom.find q, taskOf s q 1 with
  | some t, some e =>
    if supervising s ∧ t + u32 e 24 * 1000 < s.mono then
      raiseViolation false q 0x14 { s with shp := { s.shp with hbFrom := s.shp.hbFrom.insert q s.mono } }
    else s
  | _, _ => s)

/-! ### Fault injection (R621, R622) -/

/-- A code of R591 or R609. -/
def knownCode (c : Nat) : Bool :=
  (decide (1 ≤ c) && decide (c ≤ 0x0D)) || (decide (0x10 ≤ c) && decide (c ≤ 0x19)) || (decide (0x20 ≤ c) && decide (c ≤ 0x22))

/-- The write carries GO and the key, and injection is enabled. -/
def injectable (s : State) (v : Nat) : Bool := bit v 19 && bits v 24 8 == 0x96 && s.rdb SHP_INJ_CFG_EN

/-- Raise a code as though its source had raised it, flagged INJ (R621, R622). -/
def injectCode (code q : Nat) (s : State) : State :=
  let s := s.inc SHP_INJ_COUNT_INJECTED
  if 0x10 ≤ code ∧ code ≤ 0x19 then raiseViolation true q code s
  else
    let s := recordFault true (levelOf s code) code q s
    react (levelOf s code) code (faultStream code q) (if code = 0x22 then emergencyReaction s else s)

/-- INJECT_RAISE: a write of SHP_INJ with KIND 0 (R621). -/
def execInjectRaise (w : Writer) (v : Nat) (s : State) : Out :=
  .next (if bit v 18 then s
  else guarded w 0x38034 (fun s =>
    if injectable s v && knownCode (bits v 0 8) then injectCode (bits v 0 8) (bits v 8 10) s else s.inc SHP_INJ_COUNT_REFUSED) s)

/-- INJECT_TASK: a write of SHP_INJ with KIND 1 (R621). -/
def execInjectTask (w : Writer) (v : Nat) (s : State) : Out :=
  .next (if !bit v 18 then s
  else guarded w 0x38034 (fun s =>
    let q := bits v 8 10
    if injectable s v && (taskOf s q 0).isSome then
      { s with shp := { s.shp with inject := if q ∈ s.shp.inject then s.shp.inject else q :: s.shp.inject } }.inc SHP_INJ_COUNT_INJECTED
    else s.inc SHP_INJ_COUNT_REFUSED) s)

/-- SHP_TASK_MAXEND_READ: a read returns the value and clears it (R10). -/
def execShpTaskMaxendRead (w : Writer) (q : Nat) (s : State) : Out :=
  .next (if 1024 ≤ q then s else readClear w (SHP_TASK_MAXEND q) s)

end Sys2Proof.Machine
end

