-- ==== Sys2Proof/Machine/Sync.lean ====
section
/-! DEFINITION. The rows of chapter 22: the group barrier and its markers. -/

namespace Sys2Proof.Machine
open Reg

/-- BARRIER_POINT: the device reaches the point where it would otherwise wait for its first boundary (R638, R639). -/
def execBarrierPoint (s : State) : Out :=
  .next (if !mayRotate s ∨ !inGroup s ∨ s.msync.atPoint ∨ s.rd MSYNC_STATUS_STATE = 6 then s
  else
    let s := { s with msync := { s.msync with atPoint := true, point := s.mono } }
    s.wrs [(MSYNC_STATUS_BELLWETHER, ofBool (leads s)), (MSYNC_STATUS_STATE, if leads s then 1 else 2),
      (MSYNC_STATUS_SYNC_OUT, if leads s then 0 else 1), (BOOT_STATUS_PHASE, 8)])

/-- The barrier is passed with a release instant on MONO: the first boundary follows by MODE (R640, R641). -/
def passBarrier (rel : Nat) (s : State) : State :=
  let s := { s with msync := { s.msync with atPoint := false, marked := 0 } }
  let s := (s.wrPair MSYNC_REL_LO MSYNC_REL_HI rel).inc MSYNC_COUNT_BARRIERS
  let s := s.wrs [(MSYNC_STATUS_STATE, 3), (MSYNC_STATUS_SYNC_OUT, 0)]
  let at_ := rel + s.rd MSYNC_CFG_LEAD_US * 1000
  startRotation (if s.rdb MSYNC_CFG_MODE then firstBoundary s at_ else at_) s

/-- BELLWETHER_RELEASE: SYNC_IN has been high for 8 sync cycles and the bellwether drives the release now (R639, R640). -/
def execBellwetherRelease (s : State) : Out :=
  .next (if inGroup s ∧ leads s ∧ s.msync.atPoint ∧ s.rd MSYNC_STATUS_STATE = 1 then
    passBarrier ((s.time.mono + s.rd MSYNC_CFG_OWN_DLY * 524288 / 10) / 65536) s
  else s)

/-- FOLLOWER_RELEASE: a release pulse whose first high sample was `ago` ns before now; one that began before the barrier point is ignored
(R639, R640, 22.9). -/
def execFollowerRelease (ago : Nat) (s : State) : Out :=
  .next (if !inGroup s ∨ leads s then s
  else if s.rd MSYNC_STATUS_STATE = 2 ∧ s.msync.atPoint then
    (if s.mono < s.msync.point + ago then s.inc MSYNC_ERR_IGNORED else passBarrier (s.mono - ago - 2) s)
  else if s.rd MSYNC_STATUS_STATE ≤ 1 then s.inc MSYNC_ERR_IGNORED
  else s)

/-- What an MSYNC event carries. -/
def msyncArgs (s : State) : List Nat := [storedWord s 0x3B0008, s.rd MSYNC_SKEW]

/-- BARRIER_TIMEOUT: WAIT_MS has passed since the barrier point (R639, R643). -/
def execBarrierTimeout (s : State) : Out :=
  .next (if inGroup s ∧ s.msync.atPoint ∧ s.rd MSYNC_STATUS_STATE ≤ 2 ∧ s.msync.point + s.rd MSYNC_CFG2_WAIT_MS * 1000000 ≤ s.mono then
    let s := { s with msync := { s.msync with atPoint := false } }
    let alone := s.rdb MSYNC_CFG_ALONE
    let s := s.wrs [(MSYNC_STATUS_TIMEOUT, 1), (MSYNC_STATUS_SYNC_OUT, 0), (MSYNC_STATUS_STATE, if alone then 5 else 6)]
    let s := post 0x4002 0x02 (msyncArgs s) s
    if alone then startRotation (firstBoundary s 0) s else s
  else s)

/-- MSYNC_RETRY: a write of MSYNC_CTL.RETRY re-enters the barrier at its first state (R643). -/
def execMsyncRetry (w : Writer) (v : Nat) (s : State) : Out :=
  .next (guarded w 0x3B0024 (fun s =>
    if bit v 0 ∧ s.rd MSYNC_STATUS_STATE = 6 then s.wr MSYNC_STATUS_STATE 1 else s) s)

/-- MARKER_SEND: the bellwether drives the marker of a CHECK_CYCLES-th boundary (R644). -/
def execMarkerSend (s : State) : Out :=
  .next (
    let k := s.rd MSYNC_CFG2_CHECK_CYCLES
    let n := s.drv.rot.passed
    if inGroup s ∧ leads s ∧ s.rd MSYNC_STATUS_STATE = 3 ∧ rotating s ∧ k ≠ 0 ∧ n ≠ 0 ∧ n % k = 0 ∧ s.msync.marked ≠ n then
      { s with msync := { s.msync with marked := n } }.inc MSYNC_COUNT_MARKERS
    else s)

/-- The signed distance of an instant from the nearest boundary, and that boundary's index. -/
def nearestBoundary (s : State) (t : Nat) : Int × Nat :=
  let m := majorNs s
  let d := t - s.drv.rot.first
  if t < s.drv.rot.first then ((t : Int) - s.drv.rot.first, 0)
  else if 2 * (d % m) ≤ m then ((d % m : Nat), d / m) else ((d % m : Nat) - (m : Int), d / m + 1)

/-- MARKER_RECEIVE: a marker whose first high sample was `ago` ns before now reaches a follower (R639, R644). -/
def execMarkerReceive (ago : Nat) (s : State) : Out :=
  .next (if !inGroup s ∨ leads s then s
  else
    let t := s.mono - ago - 2
    let st := s.rd MSYNC_STATUS_STATE
    if st ≤ 1 then s.inc MSYNC_ERR_IGNORED
    else if st = 2 then (s.inc MSYNC_COUNT_MARKERS).wr MSYNC_STATUS_STATE 4
    else if st = 4 then
      let s := { s with msync := { s.msync with atPoint := false, marked := 0 } }
      startRotation t ((s.inc MSYNC_COUNT_MARKERS).wrs [(MSYNC_STATUS_STATE, 3), (MSYNC_STATUS_SYNC_OUT, 0)])
    else if st = 3 ∧ rotating s then
      let r := nearestBoundary s t
      let s := { s with msync := { s.msync with marked := r.2 } }.inc MSYNC_COUNT_MARKERS
      let s := (s.wr MSYNC_SKEW (unsigned 16 r.1)).wr MSYNC_SKEW_MAX (max (s.rd MSYNC_SKEW_MAX) (min r.1.natAbs 65535))
      if s.rd MSYNC_CFG2_TOL_NS < r.1.natAbs then
        let s := s.set MSYNC_STATUS_SKEW
        post 0x4003 0x02 (msyncArgs s) s
      else s
    else s)

/-- MARKER_MISS: an expected marker has not come within MAJOR ÷ 4 of its boundary (R644). -/
def execMarkerMiss (s : State) : Out :=
  .next (
    let k := s.rd MSYNC_CFG2_CHECK_CYCLES
    let n := (s.drv.rot.passed - 1) / k * k
    if inGroup s ∧ !leads s ∧ s.rd MSYNC_STATUS_STATE = 3 ∧ rotating s ∧ k ≠ 0 ∧ n ≠ 0 ∧ s.msync.marked < n ∧
        s.drv.rot.first + n * majorNs s + majorNs s / 4 < s.mono then
      let s := { s with msync := { s.msync with marked := n } }.set MSYNC_STATUS_MISS
      post 0x4004 0x02 (msyncArgs s) s
    else s)

/-- SYNC_IN_GLITCH: a high pulse of 4 or 5 sync cycles reaches a follower (R639). -/
def execSyncInGlitch (s : State) : Out :=
  .next (if inGroup s ∧ !leads s then s.inc MSYNC_ERR_GLITCH else s)

/-- MSYNC_SKEW_MAX_READ: a read returns the value and clears it (R10). -/
def execMsyncSkewMaxRead (w : Writer) (s : State) : Out := .next (readClear w MSYNC_SKEW_MAX s)

/-- MC_LAT_MAX_READ: a read of MC_LAT_MAX returns the value and clears it (R10). -/
def execMcLatMaxRead (w : Writer) (m : Nat) (s : State) : Out := .next (if 6 ≤ m then s else readClear w (MC_LAT_MAX m) s)

/-- A follower leaves the barrier (step D3, 22.9). -/
def leaveBarrier (s : State) : State :=
  if s.msync.atPoint then
    { s with msync := { s.msync with atPoint := false } }.wrs [(MSYNC_STATUS_STATE, 1), (MSYNC_STATUS_SYNC_OUT, 0)]
  else s

end Sys2Proof.Machine
end

