-- ==== Sys2Proof/Machine/RegDispatch.lean ====
section
/-! DEFINITION. What the writes of one cycle do at an address, for every register but those of the system blocks: the fields take their
values (R98 to R105), and a GO bit, a doorbell or a key starts its operation (R99, R100). -/

namespace Sys2Proof.Machine
open Reg

/-- The state a meaning leaves. -/
def after (o : Out) (s : State) : State :=
  match o with
  | .next t => t
  | _ => s

/-- How the writes of a cycle become operations (R98, R99): each write acts on its own (an addition, a register held for each master); once,
with the last write's value and the GO bits (the mask) of all of them; or once where a write sets GO with the right key beside it, with the last
write's value and the W1C bits (the mask) of all of them. -/
inductive Gather where
  | each
  | once (mask : Nat)
  | keyed (go lsb key w1c : Nat)
  deriving DecidableEq, Repr

/-- A register whose writes start something. `generic`: its fields are written as any register's first. -/
structure Special where
  generic : Bool
  gather : Gather
  run : Writer → Nat → State → State

/-- The index of an address in an array of registers. -/
def indexAt (base stride count a : Nat) : Option Nat :=
  if base ≤ a ∧ (a - base) % stride = 0 ∧ (a - base) / stride < count then some ((a - base) / stride) else none

/-- CAN_CTL: clearing SLEEP in sleep, and enabling, begin integration; RECOVER; MODE of a joined controller (R671 to R675). -/
def canCtl (w : Writer) (n v : Nat) (s : State) : State :=
  let s := if bit v 5 then after (execCanRecover w n s) s else s
  let st := s.rd (CAN_STATUS_STATE n)
  if !s.rdb (CAN_CTL_EN n) then s
  else if st = 0 ∨ (st = 6 ∧ !s.rdb (CAN_CTL_SLEEP n)) then canIntegrate n s
  else if canJoined s n ∧ !s.can.joinR.contains n then
    s.wrs [(CAN_STATUS_RESTRICTED n, ofBool (s.rd (CAN_CTL_MODE n) == 1)), (CAN_STATUS_MONITOR n, ofBool (s.rd (CAN_CTL_MODE n) == 2))]
  else s

/-- CAN_SHD_CTL: GO copies the object named in the same write, POP takes the oldest entry of the FIFO, and the object is held for the
master (R660). -/
def canShadow (w : Writer) (n v : Nat) (s : State) : State :=
  let s := setMasterIdx w.master (0x340400 + 0x1000 * n) (bits v 0 11) s
  let s := if bit v 16 then after (execCanShadowGo w n (bits v 0 11) s) s else s
  if bit v 17 then after (execCanShadowPop w n s) s else s

/-- Q_CTL: BIND, UNBIND, RESUME (R367, R372, R378). -/
def queueCtl (w : Writer) (q v : Nat) (s : State) : State :=
  let s := if bit v 1 then after (execUnbind w q s) s else s
  let s := if bit v 0 then after (execBind w q s) s else s
  if bit v 2 then after (execResume w q s) s else s

/-- PRB_CTL: CLEAR; a trace that begins starts with a SYNC of every probe (R353, R361). -/
def probeCtl (w : Writer) (v : Nat) (s : State) : State :=
  let s := if bit v 0 then after (execPrbClear w false s) s else s
  noteTracing s

/-- WAKE_CAUSE: SRC cleared to 0 clears FIRST and ORDER too (5.12). -/
def wakeCause (s : State) : State :=
  if s.rd WAKE_CAUSE_SRC = 0 then s.wrs [(WAKE_CAUSE_FIRST, 0), (WAKE_CAUSE_ORDER, 0)] else s

/-- CAN_WK_CFG on A2: a MODE of 2 becomes 1 (R680). -/
def wakeConfig (n : Nat) (s : State) : State :=
  if s.fuse.stepping = 0 ∧ s.rd (CAN_WK_CFG_MODE n) = 2 then s.wr (CAN_WK_CFG_MODE n) 1 else s

/-- The special registers at fixed addresses. -/
def specialAt (a : Nat) : Option Special :=
  if a = 0x30008 then some ⟨false, .each, fun w v s => after (execSfFltClr w (bits v 0 1) (bits v 8 8) s) s⟩
  else if a = 0x20028 then some ⟨true, .once 1, fun w v s => if bit v 0 then after (execTimeStep w s) s else s⟩
  else if a = 0x20100 then some ⟨true, .once 0, fun _ _ s => ptpConfigured s⟩
  else if a = 0x20914 ∨ a = 0x20918 then some ⟨true, .once 0, fun _ _ s => setAlarm s⟩
  else if a = 0x2080C then some ⟨false, .each, fun w v s => after (execLeapSchedule w v s) s⟩
  else if a = 0x20818 then some ⟨false, .once 1, fun w v s => after (execCalSet w v s) s⟩
  else if a = 0x200038 then some ⟨false, .once 0x100, fun w v s => after (execReplayGo w v s) s⟩
  else if a = 0x228000 then some ⟨true, .once 1, probeCtl⟩
  else if a = 0x38010 then some ⟨false, .each, fun w v s => after (execHeartbeat w v s) s⟩
  else if a = 0x38034 then
    some ⟨false, .keyed 19 24 0x96 0, fun w v s => if bit v 18 then after (execInjectTask w v s) s else after (execInjectRaise w v s) s⟩
  else if a = 0x3B0024 then some ⟨false, .once 1, fun w v s => after (execMsyncRetry w v s) s⟩
  else if a = 0x210028 then some ⟨false, .once 0x100, fun w v s => after (execGlLoad w v s) s⟩
  else if a = 0x21002C then some ⟨false, .once 0x300, fun w v s => after (execGlSwap w v s) s⟩
  else if a = 0x12034 then some ⟨true, .once 0, fun _ _ s => wakeCause s⟩
  else none

/-- The special registers that stand in arrays. -/
def specialIn (a : Nat) : Option Special :=
  ((indexAt 0x340000 0x1000 8 a).map fun n => ⟨true, .once 0x20, fun w v s => canCtl w n v s⟩)
  <|> ((indexAt 0x340400 0x1000 8 a).map fun n => ⟨false, .each, fun w v s => canShadow w n v s⟩)
  <|> ((indexAt 0x4401C 0x20 1024 a).map fun q => ⟨true, .once 7, fun w v s => queueCtl w q v s⟩)
  <|> ((indexAt 0x340e00 0x1000 8 a).map fun n => ⟨true, .each, fun _ _ s => wakeConfig n s⟩)
  <|> ((indexAt 0x228400 0x100 24 (a / 0x100 * 0x100)).bind fun _ => (indexAt 0 0x20 4 (a % 0x100)).map fun _ =>
        ⟨true, .once 0, fun _ _ s => noteTracing s⟩)
  <|> ((indexAt 0x361008 0x40 4 a).map fun k => ⟨false, .once 1, fun w v s => if bit v 0 then after (execQeiSnap w k s) s else s⟩)
  <|> ((indexAt 0x362004 0x40 32 a).map fun m => ⟨false, .once 1, fun w v s => if bit v 0 then after (execMoOvrGo w m s) s else s⟩)
  <|> ((indexAt 0x300004 0x10000 4 a).map fun n => ⟨false, .once 1, fun w v s => if bit v 0 then after (execEthRestart w n s) s else s⟩)
  <|> ((indexAt 0x301018 0x20 8 (a % 0x10000 + 0x300000)).bind fun q => (indexAt 0x300000 0x10000 4 (a / 0x10000 * 0x10000)).map fun n =>
        ⟨false, .each, fun w v s => after (execRxqDb w n q v s) s⟩)
  <|> ((indexAt 0x209010 0x80 32 a).map fun n => ⟨false, .once 0x10000, fun w v s => after (execCciGo w n v s) s⟩)
  <|> ((indexAt 0x21000 0x40 16 a).map fun n => ⟨false, .once 0x40, fun w v s => after (execToutArm w n v s) s⟩)
  <|> ((indexAt 0x22000 0x10 8 a).map fun g => ⟨false, .once 0, fun w v s => after (execLaunchGridArm w g v s) s⟩)
  <|> ((indexAt 0x230044 0x10000 6 a).map fun m => ⟨false, .once 1, fun w v s => after (execMcRetrainReq w m v s) s⟩)
  <|> ((indexAt 0x220040 4 3 a).map fun k => ⟨false, .each, fun w v s => after (execFenceLift w k v s) s⟩)
  <|> ((indexAt 0x220050 4 3 a).map fun k => ⟨false, .each, fun w v s => after (execFenceSet w k v s) s⟩)
  <|> ((indexAt 0x10080 0x100 4 a).map fun k => ⟨false, .once 1, fun w v s => if bit v 0 then submitMbx w.master k s else s⟩)

/-- Whatever starts something at an address. -/
def special (a : Nat) : Option Special := (specialAt a) <|> (specialIn a)

/-- The binding registers of a bound queue: a write has no effect and sets BIND_ERR (R371); an unbound queue keeps RT after the seal,
and PIN always (13.13). -/
def bindRegister (q a : Nat) (ws : List (Writer × Nat)) (s : State) : State :=
  if bound s q then s.wr (Q_STATE_BIND_ERR q) 0x0A
  else
    let rt := s.rd (Q_CFG_RT q)
    let pin := s.rd (Q_CFG_PIN q)
    let t := applyCycle a ws [] s
    (if s.rdb BOOT_STATUS_SEALED then t.wr (Q_CFG_RT q) rt else t).wr (Q_CFG_PIN q) pin

/-- The OR of the writes of a cycle under a mask. -/
def orOf (m : Nat) (ws : List (Writer × Nat)) : Nat := ws.foldl (fun v x => v ||| (x.2 &&& m)) 0

/-- The operations that the writes of a cycle start (R98, R99). -/
def gather (g : Gather) (run : Writer → Nat → State → State) (ws : List (Writer × Nat)) (s : State) : State :=
  match g, ws.getLast? with
  | _, none => s
  | .each, _ => ws.foldl (fun t e => run e.1 e.2 t) s
  | .once m, some e => run e.1 (e.2 ||| orOf m ws) s
  | .keyed go lsb key w1c, some e =>
    if ws.any fun x => bit x.2 go && bits x.2 lsb 8 == key then
      run e.1 (setBits (setBits (e.2 ||| orOf w1c ws) go 1 1) lsb 8 key) s
    else ws.foldl (fun t e => run e.1 e.2 t) s

/-- The field that a hardware update names is of class HC. -/
def meetsHc (a : Nat) (h : HwUpdate) : Bool := (fieldsAt a).any fun f => f.lsb == h.lsb && f.col == .HC

/-- A hardware update of a field that writes meet in an operation of their own (R17, R102): it is applied after them, and a write to an HV field is
a discard. A fence set by hardware is a fence, and stands over a lift of the same cycle (11.11). -/
def afterWrites (a : Nat) (ws : List (Writer × Nat)) (hw : List HwUpdate) (s t : State) : State :=
  match indexAt 0x220040 4 3 a with
  | some k => hw.foldl (fun t h => (List.range 32).foldl (fun t j => if bit h.value j then fenceTarget (32 * k + j) 1 t else t) t) t
  | none =>
    (fieldsAt a).foldl (fun t f =>
      let t1 := applyField a [] hw t f
      if (hw.any (·.lsb == f.lsb)) && f.col == .HV && (softValue s f ws).isSome then
        (match ws.getLast? with | some e => hvDiscard e.1 a t1 | none => t1)
      else t1) t

/-- The writes of a cycle at a special register, with the hardware's own updates: hardware clears a finished GO before the software's set stands
(R102, HC); the other updates meet the software's value. -/
def specialCycle (a : Nat) (p : Special) (ws : List (Writer × Nat)) (hw : List HwUpdate) (s : State) : State :=
  if p.generic then gather p.gather p.run ws (applyCycle a ws hw s)
  else
    let t := gather p.gather p.run ws (applyCycle a [] (hw.filter (meetsHc a)) s)
    afterWrites a ws (hw.filter fun h => !meetsHc a h) s t

/-- The writes that stand at an address in one cycle, in the order of R98, with the hardware's own updates; none reaches a register that is not
there (R3, R110, R314). -/
def deviceWrite (a : Nat) (ws : List (Writer × Nat)) (hw : List HwUpdate) (s : State) : State :=
  if inert s a then s
  else match special a with
  | some p => specialCycle a p ws hw s
  | none =>
    match perMasterBits a with
    | some k => ws.foldl (fun t e => setMasterIdx e.1.master a (e.2 % 2 ^ k) t) s
    | none =>
      if 0x44000 ≤ a ∧ a < 0x4C000 ∧ (a - 0x44000) % 0x20 < 0x10 ∧ ws ≠ [] then bindRegister ((a - 0x44000) / 0x20) a ws s
      else if 0x42000 ≤ a ∧ a < 0x44000 then
        let q := (a - 0x42000) / 8
        if a % 8 = 0 then after (execSqDb q ws s) s else if a % 8 = 4 then after (execCqDb q ws s) s else s
      else applyCycle a ws hw s

/-! ### Pairs (R88, R89) -/

/-- The registers named _LO of a pair, with their arrays; _HI stands 4 bytes above (R88). -/
def pairLows : List (Nat × List (Nat × Nat)) :=
 [(0x340e0c, [(0x1000, 8)]), (0x360014, [(0x100, 8)]), (0x360024, [(0x100, 8)]), (0x300010, [(0x10000, 4)]),
  (0x300100, [(0x10000, 4), (8, 16)]), (0x301000, [(0x10000, 4), (0x20, 8)]), (0x301008, [(0x10000, 4), (0x20, 8)]),
  (0x370200, [(8, 64)]), (0x371000, []), (0x371008, []), (0x371020, []), (0x371028, []), (0x100014, [(0x10000, 8)]),
  (0x10803c, [(0x10000, 8)]), (0x210008, []), (0x210010, []), (0x200010, []), (0x200020, []), (0x200030, []),
  (0x201014, [(0x40, 32)]), (0x205008, [(0x10, 8)]), (0x208000, []), (0x208008, []), (0x209008, [(0x80, 32)]),
  (0x23002c, [(0x10000, 6)]), (0x23007c, [(0x10000, 6)]), (0x220034, []), (0x228014, []), (0x22a044, [(0x80, 96)]),
  (0x40014, []), (0x4c300, []), (0x4d004, [(0x40, 32)]), (0x4d010, [(0x40, 32)]), (0x3b000c, []), (0x390000, []), (0x39000c, []),
  (0x380008, []), (0x380010, []), (0x13018, []), (0x12040, []), (0x20004, []), (0x20010, []), (0x2002c, []), (0x20140, []),
  (0x20404, [(0x20, 4)]), (0x20900, []), (0x20910, [])]

/-- The register at an address is the _LO of a pair. -/
def isPairLo (a : Nat) : Bool := pairLows.any fun p => decide (p.1 ≤ a) && (splitIndex p.2 (a - p.1)).isSome

/-- A _LO write is held in its writer's shadow. -/
def holdLow (a : Nat) (ws : List (Writer × Nat)) (s : State) : State :=
  ws.foldl (fun (t : State) e => { t with wrShadow := t.wrShadow.insert (shadowKey e.1.master a) (e.2 % 2 ^ 32) }) s

/-- The _LO words that the writers of _HI hold. -/
def heldLows (a : Nat) (ws : List (Writer × Nat)) (s : State) : List (Writer × Nat) :=
  ws.filterMap fun e => (s.wrShadow.find (shadowKey e.1.master a)).map fun v => (e.1, v)

/-- The writes that stand at an address in one cycle, with the shadows of register pairs: a _LO word waits for its writer's _HI word, and both
apply together (R88, R89). -/
def cycleWrite (a : Nat) (ws : List (Writer × Nat)) (hw : List HwUpdate) (s : State) : State :=
  if isPairLo a then holdLow a ws (deviceWrite a [] hw s)
  else if 4 ≤ a ∧ isPairLo (a - 4) then
    let l := heldLows (a - 4) ws s
    let s := { s with wrShadow := ws.foldl (fun m e => m.erase (shadowKey e.1.master (a - 4))) s.wrShadow }
    deviceWrite a ws hw (if l = [] then s else deviceWrite (a - 4) l [] s)
  else deviceWrite a ws hw s

/-! ### Reads with an effect (R10, R197, R207, R221, 7.11) -/

/-- A read that does more than return the word: the meaning of its row. -/
def readEffect (w : Writer) (a : Nat) (s : State) : Option State :=
  if a = 0x20000 then some (after (execTkTimeRead w s) s)
  else if a = 0x20800 then some (after (execCalDateRead w s) s)
  else if a = (GL_LAT_MAX).addr then some (after (execGlLatMaxRead w s) s)
  else if a = (MSYNC_SKEW_MAX).addr then some (after (execMsyncSkewMaxRead w s) s)
  else
    ((indexAt 0x2040C 0x20 4 a).map fun n => after (execTxtsNsRead w n s) s)
    <|> ((indexAt 0x21808 0x10 16 a).map fun n => after (execTcapNsRead w n s) s)
    <|> ((indexAt (MC_LAT_MAX 0).addr 0x10000 6 a).map fun m => after (execMcLatMaxRead w m s) s)
    <|> ((indexAt (FU_ERRMAX 0).addr 0x10000 8 a).map fun e => after (execFuErrmaxRead w e s) s)
    <|> ((indexAt (ATT_SELMAX 0).addr 0x10000 8 a).map fun e => after (execAttSelmaxRead w e s) s)
    <|> ((indexAt (SHP_TASK_MAXEND 0).addr ((SHP_TASK_MAXEND 1).addr - (SHP_TASK_MAXEND 0).addr) 1024 a).map fun q => after (execShpTaskMaxendRead w q s) s)
    <|> ((indexAt (TM_CPM_MARGIN 0).addr ((TM_CPM_MARGIN 1).addr - (TM_CPM_MARGIN 0).addr) 13 a).map fun r => after (execTmCpmRead w r s) s)

end Sys2Proof.Machine
end

