-- ==== Sys2Proof/Machine/Apply.lean ====
section
/-! DEFINITION. How the records of an image take effect (2.5, 2.8): PLAT, the payloads that go to memory, register entries and polls, and
the tables the blocks keep. -/

namespace Sys2Proof.Machine
open Reg

/-- The Steward writes for the image (R85). -/
def imageWriter : Writer := ⟨0x800, 0⟩

/-! ### PLAT (R52, R285, R290) -/

/-- PLAT is applied: its settings are in force, the memory configuration and the snapshot region show it, every channel is trained and the controllers
run. Where its PLL settings, rail targets and training parameters stand in the payload the spec does not say; the payload is kept whole. -/
def applyPlat (p : Bytes) (s : State) : State :=
  let i := s.img
  let s := { s with img := { i with plat := p } }
  let s := (List.range 6).foldl (fun (t : State) m => t.wrs
    [(MC_CFG_GIB m, [2, 4, 8].getD (Config.plat p 0 % 3) 2), (MC_CFG_RANKS2 m, Config.plat p 1), (MC_CFG_IECC m, Config.plat p 2),
      (MC_STATUS_STATE m, 2)]) s
  (s.wrPair SNAP_BASE_LO_ADDR SNAP_BASE_HI_ADDR (Config.plat p 3)).wr SNAP_SIZE_MIB (Config.plat p 4)

/-! ### Destinations (R51, R444, R526) -/

/-- A destination: device memory, or the local memory of a column at an offset (columns 0 to 7 pasture, 8 to 11 cluster memory). Pasture
has bit 63 set, the engine in bits 59:56 and the offset in bits 24:0. -/
def destOf (d : Nat) : Option (Nat × Nat) :=
  if !bit d 63 then none
  else if bit d 62 then some (8 + bits d 56 2, bits d 0 22)
  else some (bits d 56 4, bits d 0 25)

/-- The reserved bits of a destination are clear. -/
def destClean (d : Nat) : Bool :=
  if !bit d 63 then true
  else if bit d 62 then bits d 22 34 == 0 && bits d 58 4 == 0
  else bits d 25 31 == 0 && bits d 60 3 == 0

/-- The payload goes to device memory while the image streams, or to the staging area (R64). -/
def streams (r : Record) : Bool := (r.type == 7 || r.type == 8 || r.type == 0xB) && !bit r.dest 63

def staged (r : Record) : Bool := (r.type == 7 && bit r.dest 63) || r.type == 6

/-- A payload is written to its destination in memory; none outside the installed memory. -/
def storePayload (r : Record) (s : State) : State :=
  match destOf r.dest with
  | some e => stLocal e.1 e.2 r.payload s
  | none => if r.dest + r.payload.length ≤ visible s then (memWrite s 0 0 r.dest r.payload).2 else s

/-- The remainder streams: payloads for device memory reach their destinations, those for pasture and registers the staging area at the top of device
memory (R64). -/
def streamIn (l : List Record) (s : State) : State :=
  let n := Config.plat s.img.plat 5 * 2 ^ 20
  let s := (l.filter streams).foldl (fun t r => storePayload r t) s
  let b := (Config.stagingBytes ((l.filter staged).map (·.payload))).take n
  { s with dram := writeMem s.dram 0 (visible s - n) b }

/-! ### REG (R53) -/

/-- A register as the image reads it, with what the read does. -/
def imageRead (a : Nat) (s : State) : Nat × State := (liveWord s imageWriter a, (readEffect imageWriter a s).getD s)

/-- A REG entry asks for a reset: SYS by GLB_CTL, or an island's by RST_ISL, each with its key. -/
def asksReset (a v : Nat) : Option Nat :=
  if a = 0x10 ∧ bit v 0 ∧ bits v 8 8 = 0xA5 then some 3 else if a = 0x12010 ∧ bit v 8 ∧ bits v 16 8 = 0x5A then some 4 else none

/-- The bits of the mask take the value's; the others keep theirs (DEDUCED, log 16). PAGE_OWN takes no write (R94). A reset asked for before the seal stops
the entries that follow (R83); when records are applied again an island reset is under way, and a further one is ignored (R139). -/
def imageWrite (a v mask : Nat) (s : State) : State :=
  if pageOwnReg a then s
  else if (asksReset a (v &&& mask)).isSome then
    if s.rdb BOOT_STATUS_SEALED then s.inc RST_ISL_IGNORED
    else
      let b := s.boot
      { s with boot := { b with asked := asksReset a (v &&& mask) } }
  else cycleWrite a [(imageWriter, (liveWord s imageWriter a &&& (2 ^ 32 - 1 - mask)) ||| (v &&& mask))] [] s

/-- The poll that apply waits at has polled since a time, or none waits. -/
def setPoll (t : Option Nat) (s : State) : State :=
  let b := s.boot
  { s with boot := { b with pollSince := t } }

/-- The delay after a REG entry's write, in µs (R53). -/
def setDelay (us : Nat) (s : State) : State :=
  let b := s.boot
  { s with boot := { b with waitTo := s.mono + us * 1000 } }

/-- The poll of a REG entry is satisfied, and what its read does. -/
def pollEntry (e : Bytes) (s : State) : Bool × State :=
  let r := imageRead (u32 e 0) s
  (r.1 &&& u32 e 8 == u32 e 4, r.2)

/-- The entries of a REG payload from the `i`th on: the entry that comes next where a poll, a delay or a reset holds them up, or none when all are
done (R53). -/
def applyReg (p : Bytes) : Nat → Nat → State → Option Nat × State
  | 0, _, s => (none, s)
  | n + 1, i, s =>
    let e := slice p (16 * i) 16
    if bit (u32 e 12) 16 then
      let r := pollEntry e s
      if r.1 then applyReg p n (i + 1) (setPoll none r.2) else (some i, setPoll (some (s.boot.pollSince.getD s.mono)) r.2)
    else
      let t := imageWrite (u32 e 0) (u32 e 4) (u32 e 8) s
      if t.boot.asked.isSome ∨ u32 e 12 % 2 ^ 16 ≠ 0 then (some (i + 1), setDelay (u32 e 12 % 2 ^ 16) t) else applyReg p n (i + 1) t

/-- A REG payload with its polls taken as satisfied. -/
def applyRegAll (p : Bytes) (s : State) : State :=
  (List.range (p.length / 16)).foldl (fun t i =>
    let e := slice p (16 * i) 16
    if bit (u32 e 12) 16 then t else imageWrite (u32 e 0) (u32 e 4) (u32 e 8) t) s

/-! ### The other records (R52) -/

/-- QBIND: an entry's fields go to the queue's registers (R367). -/
def bindRegisters (e : Bytes) (s : State) : State :=
  let q := bits (u16 e 0) 0 10
  let mode := u8 e 6
  s.wrs
    [(Q_CFG_TID q, u16 e 2), (Q_CFG_CLASS q, u8 e 4), (Q_CFG_PRIO q, u8 e 5), (Q_CFG_RT q, bits mode 0 1), (Q_CFG_DET q, bits mode 1 1),
      (Q_CFG_ERRSTOP q, bits mode 2 1), (Q_CFG_ERRIRQ q, bits mode 3 1), (Q_CFG_PIN q, 1), (Q_CFG_SQ_SZ q, bits (u8 e 7) 0 4),
      (Q_CFG_CQ_SZ q, bits (u8 e 7) 4 4), (Q_ENG_ENG q, u16 e 8), (Q_ENG_VEC q, u16 e 10), (Q_SQ_BASE q, u64 e 16 / 4096),
      (Q_CQ_BASE q, u64 e 24 / 4096)]

/-- The queue of an entry is bound and pinned (R367, R369). -/
def bindEntry (e : Bytes) (s : State) : State := bindQueue (bits (u16 e 0) 0 10) true (bindRegisters e s)

/-- The 32-byte entries of a QBIND payload. -/
def bindEntries (p : Bytes) : List Bytes := (List.range (p.length / 32)).map fun i => slice p (32 * i) 32

/-- ROT: the table, and the registers that show its header (R399). -/
def applyRot (p : Bytes) (s : State) : State :=
  let i := s.img
  ({ s with img := { i with rot := p } }).wrs [(ROT_MAJOR_MAJOR, u32 p 0), (ROT_PHASE_PHASE, u32 p 4), (ROT_COUNT_ENTRIES, u16 p 8)]

/-- The fault entries of a SAFE payload (R566, R569). -/
def safeFaults (p : Bytes) : List Bytes :=
  (List.range (u16 p 4)).map fun i => slice p (64 + 16 * u16 p 0 + 64 * u16 p 2 + 8 * i) 8

/-- SAFE: the tables, and the levels of the fault codes it names (R569). -/
def applySafe (p : Bytes) (s : State) : State :=
  let i := s.img
  (safeFaults p).foldl (fun (t : State) e =>
    let f := SF_FLT_LVL (u16 e 0 / 8)
    t.wr f (setBits (t.rd f) (4 * (u16 e 0 % 8)) 4 (u8 e 2))) { s with img := { i with safe := p } }

/-- PROOF: its first 16 bytes (14.12). -/
def applyProof (p : Bytes) (s : State) : State :=
  s.wrs [(PRF_BOUND_NS, u32 p 0), (PRF_RESERVE_NS, u32 p 4), (PRF_DRAIN_NS, u32 p 8), (PRF_FLAGS_VALID, u32 p 12),
    (PRF_FLAGS_GRADES, u32 p 12 / 2), (PRF_FLAGS_STEPPING, u32 p 12 / 16)]

/-- The index in a slot's region is there, and is checked next (R547, R548). -/
def loadSlot (x : Nat) (s : State) : State :=
  let g := s.gl
  { s with gl := { g with loading := g.loading ++ [(x, 1)] } }.set (slotLoaded x)

/-- EXTP: the payload is declared, and not yet verified (R76). -/
def declareExtp (r : Record) (s : State) : State :=
  let i := s.img
  ({ s with img := { i with extp := i.extp ++ [r] } }.wr EXTP_STATUS_DECLARED (s.rd EXTP_STATUS_DECLARED + 1)).set BOOT_STATUS_EXTP_PEND

/-- One record takes effect (R52); OWN waits for the seal (R70), and a skipped record is logged (R55). -/
def applyRecord (s : State) (r : Record) : State :=
  let i := s.img
  if r.type = 3 then s
  else if r.type = 4 then { s with img := { i with tenant := r.payload } }
  else if r.type = 5 then applyPolicy r.payload s
  else if r.type = 6 then applyRegAll r.payload s
  else if r.type = 7 then (if streams r then s else storePayload r s)
  else if r.type = 8 then (match [1, 2].find? (fun x => slotBase s x == r.dest) with | some x => loadSlot x s | none => s)
  else if r.type = 9 then declareExtp r s
  else if r.type = 0xA then (bindEntries r.payload).foldl (fun t e => bindEntry e t) s
  else if r.type = 0xB then s
  else if r.type = 0xC then { s with img := { i with tmpl := r.payload } }
  else if r.type = 0xD then applySafe r.payload s
  else if r.type = 0xE then { s with img := { i with shep := r.payload } }
  else if r.type = 0xF then applyRot r.payload s
  else if r.type = 0x10 then applyLogRegion r.payload s
  else if r.type = 0x11 then applyProof r.payload s
  else post 0x1003 0x01 [r.type] s

/-- The order in which records are applied: by PHASE, and within a phase in image order (R52). FW and PLAT are in force before, SEAL is
applied by the seal. -/
def applyOrder (l : List Record) : List Record :=
  (List.range 8).flatMap fun p => l.filter fun r => r.phase == p && r.type != 1 && r.type != 2 && r.type != 0x12

/-- An image without POLICY runs under the default policy (R54, R736). -/
def withDefaults (l : List Record) (s : State) : State := if l.any (·.type == 5) then s else applyPolicy (defaultPolicy s) s

/-- Apply records in order by `f`, the first of them from REG entry `pos` on, up to an entry that is held up: what is left, and the entry it waits
at. -/
def applyTodo (f : State → Record → State) : List Record → Nat → State → (List Record × Nat) × State
  | [], _, s => (([], 0), s)
  | r :: l, pos, s =>
    if r.type = 6 then
      match applyReg r.payload (r.payload.length / 16 - pos) pos s with
      | (some i, t) => ((r :: l, i), t)
      | (none, t) => applyTodo f l 0 t
    else applyTodo f l 0 (f s r)

/-- Go on with the records that are left (R53). -/
def continueTodo (f : State → Record → State) (s : State) : State :=
  let r := applyTodo f s.boot.todo s.boot.regPos s
  let b := r.2.boot
  { r.2 with boot := { b with todo := r.1.1, regPos := r.1.2 } }

end Sys2Proof.Machine
end

