-- ==== Sys2Proof/Machine/ImageCheck.lean ====
section
/-! DEFINITION. Check 14 of R56: well-formedness (R54, R55), destinations, and every condition the chapters set on an image. The records
are applied to a copy of the state, polls taken as satisfied, and the copy is judged. -/

namespace Sys2Proof.Machine
open Reg

/-- No value occurs twice. -/
def distinct : List Nat → Bool
  | [] => true
  | x :: l => !l.contains x && distinct l

/-- A value within bounds. -/
def within (lo x hi : Nat) : Bool := decide (lo ≤ x) && decide (x ≤ hi)

/-- Two stretches have a unit in common. -/
def meets (a n b m : Nat) : Bool := decide (a < b + m) && decide (b < a + n)

/-- No two of a list are related. -/
def pairwiseNot {α : Type} (p : α → α → Bool) : List α → Bool
  | [] => true
  | x :: l => !l.any (p x) && pairwiseNot p l

/-- A tenant is 0 or has a quota entry (R396). -/
def tenantKnown (d : State) (t : Nat) : Bool := t == 0 || (quotaOf d t).isSome

/-- The payload of the first record of a type. -/
def payloadOf (l : List Record) (t : Nat) : Bytes := ((l.find? (·.type == t)).map (·.payload)).getD []

/-! ### The record list and the header (R54, R55) -/

/-- R54 and R55. -/
def listOk (s : State) (c : Nat) (h : Bytes) (l : List Record) : Bool :=
  (l.map (·.type)).take 2 == [1, 2] && prefixLen h == recordsEnd s c 2 0x200 &&
    (match l.getLast? with | some r => r.type == 0x12 && u64 r.payload 0 == recordCount h - 1 | none => false) &&
    ([1, 2, 3, 0xF, 0xE, 0xD, 0x11, 0x12].all fun t => (l.filter (·.type == t)).length == 1) &&
    (l.all fun r => within 1 r.type 0x12 || bit r.flags 3) && (l.all fun r => decide (r.phase ≤ 7))

/-- The header's ranges (R48; DEDUCED, log 16: a field outside them is no well-formed image). -/
def headerRanges (h : Bytes) : Bool :=
  within 1 (trialMax h) 7 && within 1 (u16 h 0x34) 1000 && (!startGatePtp h || within 1 (u16 h 0x36) 60000)

/-! ### Destinations (R2, R56, R444, R526) -/

/-- A stretch of a local memory lies inside one RES region of its column. -/
def inResident (d : State) (c o n : Nat) : Bool :=
  if c < 8 then (List.range 16).any fun k => d.rdb (PREG_ACC_EN c k) && d.rdb (PREG_ACC_RES c k) &&
    decide (d.rd (PREG_LOC_BASE c k) * 4096 ≤ o) && decide (o + n ≤ (d.rd (PREG_LOC_BASE c k) + d.rd (PREG_LOC_SIZE c k)) * 4096)
  else (List.range 8).any fun k => d.rdb (CREG_ACC_EN (c - 8) k) && d.rdb (CREG_ACC_RES (c - 8) k) &&
    decide (d.rd (CREG_LOC_BASE (c - 8) k) * 4096 ≤ o) &&
    decide (o + n ≤ (d.rd (CREG_LOC_BASE (c - 8) k) + d.rd (CREG_LOC_SIZE (c - 8) k)) * 4096)

/-- The destination of a record lies in the installed memory or in an engine of the grade. -/
def destOk (d : State) (r : Record) : Bool :=
  if r.type = 7 ∨ r.type = 8 ∨ r.type = 0xB then
    destClean r.dest &&
      match destOf r.dest with
      | none => decide (r.dest + r.payload.length ≤ visible d)
      | some (c, o) =>
        r.type == 7 && columnExists d c && decide (o + r.payload.length ≤ if c < 8 then 28 * 2 ^ 20 else 2 ^ 22) &&
          (!bit r.flags 1 || inResident d c o r.payload.length)
  else true

/-- The registers a REG record names belong to units the grade has. -/
def regOk (d : State) (r : Record) : Bool :=
  r.type != 6 || (List.range (r.payload.length / 16)).all fun i =>
    !absentBlock d (u32 r.payload (16 * i)) && !absentPid d (u32 r.payload (16 * i))

/-! ### OWN (R95, R96, R351) -/

/-- The 8-byte entries of an OWN payload. -/
def ownEntries (p : Bytes) : List Bytes := (List.range (p.length / 8)).map fun i => slice p (8 * i) 8

def ownEntryOk (d : State) (e : Bytes) : Bool :=
  let own := u16 e 4
  let probes := meets (u16 e 0) (u16 e 2) 0x228 8
  within 1 (u16 e 2) 8192 && decide (u16 e 0 + u16 e 2 ≤ 8192) && decide (u16 e 6 < 32) &&
    ((decide (own < 0x400) && tenantKnown d own) || own == 0x800 || own == 0x801 || own == 0x802) &&
    !(probes && ((decide (0 < own) && decide (own < 0x400)) || bit (u16 e 6) 4))

/-- The page of the safety registers, which a reaction of level LOOP or above writes: the safe outputs and the disarming (R586, R590). -/
def safetyPage : Nat := 0x30

/-- The last case of R96. DEDUCED (log 122): a fault entry of SAFE with level 2 or above configures a reaction that writes the page of the safe outputs,
and no other part of SAFE configures a register write. -/
def reactionsOk (d : State) (p : Bytes) : Bool :=
  (safeFaults d.img.safe).all (fun e => decide (u8 e 2 < 2)) ||
    (ownEntries p).any fun e => decide (u16 e 0 ≤ safetyPage) && decide (safetyPage < u16 e 0 + u16 e 2) && bit (u16 e 6) 3

def ownOk (d : State) (p : Bytes) : Bool :=
  reactionsOk d p && (ownEntries p).all (ownEntryOk d) && pairwiseNot (fun a b => meets (u16 a 0) (u16 a 2) (u16 b 0) (u16 b 2)) (ownEntries p)

/-! ### TENANT (R290, R302, R396, R416) -/

def windowOk (d : State) (w : Bytes) : Bool :=
  let base := u64 w 0
  let n := u32 w 8 * 2 ^ 20
  let staging := Config.plat (payloadOf d.boot.records 2) 5 * 2 ^ 20
  base % 2 ^ 20 == 0 && decide (1 ≤ u32 w 8) && decide (base + n ≤ visible d) && within 1 (u16 w 12) 1023 && decide (u8 w 14 < 4) &&
    decide (u8 w 15 ≤ 3) && !meets base n (d.rdPair SNAP_BASE_LO_ADDR SNAP_BASE_HI_ADDR) (d.rd SNAP_SIZE_MIB * 2 ^ 20) &&
    !meets base n (visible d - staging) staging

def quotaOk (z : Bytes) : Bool :=
  within 1 (u16 z 0) 1023 && within 1 (u16 z 2) 1024 && decide (u16 z 6 ≤ 4096) && decide (u16 z 4 + u16 z 6 ≤ 4096) &&
    decide (1 ≤ u16 z 10) && decide (u8 z 12 < 8) && u8 z 13 == 0 && decide (1 ≤ u16 z 14)

def tenantOk (d : State) : Bool :=
  let p := d.img.tenant
  p == [] || (leNat (slice p 8 8) == 0 && decide (16 + 16 * (u32 p 0 + u32 p 4) ≤ p.length) && (windows d).all (windowOk d) &&
    distinct ((windows d).map fun w => 4 * u16 w 12 + u8 w 15) && (quotas d).all quotaOk && distinct ((quotas d).map fun z => u16 z 0) &&
    decide (((quotas d).map fun z => u16 z 8).sum ≤ 16384))

/-! ### POLICY and LOGRGN (R735, R748) -/

/-- The grade's maximum junction temperature, in 0.125 °C (0.2). -/
def maxJunction (d : State) : Int := if d.fuse.temp = 0 then 760 else 840

def policyOk (d : State) (p : Bytes) : Bool :=
  let t := fun (o : Nat) => signed 16 (u16 p o)
  decide (p.length = 64) && decide (t 2 < t 0) && decide (t 0 < t 4) && decide (t 4 ≤ maxJunction d) && within 100 (u16 p 6) 10000 &&
    decide (1 ≤ u16 p 8) && decide (1 ≤ u16 p 10) && zeroAt p [(13, 1), (26, 6), (45, 19)] &&
    (List.range 13).all fun r => !columnExists d r || within (floorFcode (columnIsland r)) (u8 p (32 + r)) (nominalFcode (columnIsland r))

def logRegionOk (c : Nat) (h p : Bytes) : Bool :=
  let base := u32 p 4
  decide (p.length = 16) && decide (u8 p 0 ≤ 1) && u8 p 1 == 0 && decide (2 ≤ u16 p 2) && base % 4096 == 0 && within 1 (u16 p 8) 188 &&
    within 1 (u16 p 10) 1000 && u16 p 14 == 0 && decide (base + 4096 * u16 p 2 ≤ 2 ^ 32) &&
    !(u8 p 0 == c && decide (base < 0x10000 + imageLen h))

/-! ### QBIND (R367, R369) -/

def bindEntryOk (d : State) (e : Bytes) : Bool :=
  let q := u16 e 0
  decide (q < 1024) && decide (u16 e 2 < 1024) && decide (u8 e 4 < 16) && decide (u8 e 5 < 8) && decide (u8 e 6 < 16) &&
    decide (u16 e 8 < 256) && decide (u16 e 10 < 1024) && zeroAt e [(12, 4)] && u64 e 16 % 4096 == 0 && u64 e 24 % 4096 == 0 &&
    decide (u64 e 16 < 2 ^ 44) && decide (u64 e 24 < 2 ^ 44) && bound d q && d.rd (Q_STATE_BIND_ERR q) == 0

/-! ### ROT (R2, R399 to R403) -/

/-- The claims of two entries overlap in the cycle. -/
def claimsMeet (m : Nat) (a b : Bytes) : Bool :=
  let sa := entryStart a
  let sb := entryStart b
  decide ((sb + m - sa) % m < entryLen a) || decide ((sa + m - sb) % m < entryLen b)

/-- R403, second case, for two entries. -/
def claimsClash (m : Nat) (a b : Bytes) : Bool :=
  let hard := fun (x : Bytes) => entryKind x == 0 || entryKind x == 3
  (hard a || hard b) && (entryCols a &&& entryCols b) != 0 && claimsMeet m a b

def rotEntryOk (d : State) (m : Nat) (b : Bytes) : Bool :=
  let k := entryKind b
  let q := entryQid b
  bits (u32 b 0) 25 7 == 0 && bits (u32 b 4) 17 15 == 0 && decide (u16 b 8 < 2 ^ 14) && decide (u16 b 10 < 1024) && decide (u16 b 14 < 4096) &&
    decide (entryStart b < m) && within 1 (entryLen b) m &&
    ((List.range 14).all fun c => !bit (entryCols b) c || columnExists d c || (c == 13 && k == 3)) &&
    (if k = 3 then entryCount b == 0
      else bound d q && d.rdb (Q_CFG_RT q) && entryCount b == 2 ^ (d.rd (Q_CFG_SQ_SZ q) + 4)) &&
    (if k = 2 then
      decide (entryHead b < d.rd ROT_COUNT_ENTRIES) && entryKind (rotEntry d (entryHead b)) == 1 &&
        entryGroup (rotEntry d (entryHead b)) == entryGroup b
    else entryHead b == 0xFFF)

def rotOk (d : State) : Bool :=
  let p := d.img.rot
  let m := bits (u32 p 0) 0 17
  let es := (entries d).map (rotEntry d)
  within 1 (u32 p 0) 100000 && decide (u32 p 4 < m) && within 1 (u16 p 8) 4096 && decide (64 + 16 * u16 p 8 ≤ p.length) &&
    zeroAt p [(10, 6), (48, 16)] && es.all (rotEntryOk d m) && pairwiseNot (claimsClash m) es

/-! ### TMPL (R692 to R694) -/

/-- The template entries. -/
def templates (d : State) : List Bytes := (List.range (u32 d.img.tmpl 0)).map fun i => slice d.img.tmpl (16 + 128 * i) 128

/-- A fill stays inside the payload. -/
def fillOk (e : Bytes) (i : Nat) : Bool :=
  let f := u16 e (8 + 2 * i)
  decide (bits f 0 4 ≤ 11) && bits f 5 3 == 0 && (bits f 0 4 == 0 || decide (bits f 8 8 + fillWidth (bits f 0 4) ≤ u8 e 6))

/-- The object named by a leaving frame. -/
def leavingObject (d : State) (o : Nat) : Bool :=
  (List.range 8).any fun n => bit (d.rd LIV_CFG_LEAVE_EN) n && d.rd (LIV_LEAVE_OBJ_OBJ n) == o

def templateOk (d : State) (e : Bytes) : Bool :=
  let m := u8 e 2
  let len := u8 e 6
  let o := u16 e 4
  decide (u16 e 0 < 256) && decide (m < 32) && decide (u8 e 3 ≤ 3) && zeroAt e [(20, 12)] && ((List.range 6).all (fillOk e)) &&
    (if d.rd (MO_CFG_TYPE m) = 0 then
      decide (len ≤ 64) && decide (u8 e 7 < 16) && objectOk d (d.rd (MO_CFG_UNIT m)) o 1 && decide (len ≤ slotBytes d o) &&
        len == dlcBytes (d.rdb (OBJ_FDF o)) (u8 e 7) && d.rd (OBJ_DLC o) == u8 e 7 &&
        !((u8 e 3 == 0 || u8 e 3 == 3) && leavingObject d o)
    else within 60 len 96 && u8 e 7 == 0 && decide (o < 8) && decide (d.rd (MO_CFG_UNIT m) < 4))

/-- R694: an object serves one motor output and one kind. -/
def objectsShared (d : State) (a b : Bytes) : Bool :=
  d.rd (MO_CFG_TYPE (u8 a 2)) == 0 && d.rd (MO_CFG_TYPE (u8 b 2)) == 0 && u16 a 4 == u16 b 4 && (u8 a 2 != u8 b 2 || u8 a 3 != u8 b 3)

def tmplOk (d : State) : Bool :=
  let p := d.img.tmpl
  p == [] || (within 1 (u32 p 0) 256 && zeroAt p [(4, 12)] && decide (16 + 128 * u32 p 0 ≤ p.length) && (templates d).all (templateOk d) &&
    distinct ((templates d).map fun e => u16 e 0) && pairwiseNot (objectsShared d) (templates d))

/-! ### SAFE (R566 to R570, R591) -/

/-- The least level of a fault code; none for a reserved code (R591, R609). -/
def faultMin (c : Nat) : Option Nat :=
  if c = 0x04 then some 3 else if c = 0x20 ∨ c = 0x21 then some 4 else if c = 0x22 then some 3
  else if c = 0x18 ∨ c = 0x19 then some 2
  else if c = 0x06 ∨ c = 0x07 ∨ c = 0x12 ∨ c = 0x15 ∨ c = 0x17 then some 0
  else if within 1 c 0x0D ∨ within 0x10 c 0x16 then some 1
  else none

/-- A template index is defined by the TMPL record, or is the value for none. -/
def templateKnown (d : State) (none? : Bool) (t : Nat) : Bool := (template d t).isSome || (none? && t == 0xFFFF)
def outputKnown (d : State) (none? : Bool) (m : Nat) : Bool := (templates d).any (fun e => u8 e 2 == m) || (none? && m == 0xFFFF)

def actuatorOk (d : State) (e : Bytes) : Bool :=
  decide (u8 e 0 < 64) && decide (u8 e 1 ≤ 1) && outputKnown d false (u16 e 2) && outputKnown d true (u16 e 4) && decide (u8 e 6 < 8) &&
    templateKnown d false (u16 e 8) && templateKnown d true (u16 e 10) && templateKnown d true (u16 e 12) && zeroAt e [(7, 1), (14, 2)]

def streamEntryOk (d : State) (e : Bytes) : Bool :=
  let q := u16 e 2
  decide (u8 e 0 < 16) && decide (u8 e 1 ≤ 1) && decide (q < 1024) && bound d q && d.rdb (Q_CFG_RT q) && d.rd (Q_CFG_CLASS q) == 4 &&
    u64 e 4 % 4096 == 0 && u64 e 12 % 4096 == 0 && decide (u8 e 36 ≤ 4) && decide (1 ≤ u8 e 38) && zeroAt e [(39, 25)]

def faultEntryOk (e : Bytes) : Bool :=
  decide (u8 e 2 ≤ 4) && zeroAt e [(3, 5)] && (match faultMin (u16 e 0) with | some m => decide (m ≤ u8 e 2) | none => false)

def safeOk (d : State) : Bool :=
  let p := d.img.safe
  let acts := (List.range (u16 p 0)).map fun i => slice p (64 + 16 * i) 16
  let strs := (List.range (u16 p 2)).map fun i => slice p (64 + 16 * u16 p 0 + 64 * i) 64
  within 1 (u16 p 0) 64 && within 1 (u16 p 2) 16 && decide (u16 p 4 ≤ 64) && zeroAt p [(6, 58)] &&
    decide (64 + 16 * u16 p 0 + 64 * u16 p 2 + 8 * u16 p 4 ≤ p.length) && acts.all (actuatorOk d) && strs.all (streamEntryOk d) &&
    (safeFaults p).all faultEntryOk && distinct (acts.map fun e => u8 e 0) && distinct (strs.map fun e => u8 e 0) &&
    distinct ((safeFaults p).map fun e => u16 e 0)

/-! ### SHEP (R598, R599) -/

/-- The codes a task can raise (21.5). -/
def taskCodes (e : Bytes) : List Nat :=
  let win := bit (u8 e 2) 0
  let hb := bit (u8 e 2) 1
  (if win then [0x10, 0x11, 0x13] else []) ++ (if win && u32 e 16 != 0 then [0x12] else []) ++ (if hb then [0x14] else []) ++
    (if hb && u32 e 20 != 0 then [0x15] else []) ++ (if hb && u8 e 5 != 0 then [0x16] else []) ++ (if bit (u8 e 2) 2 then [0x17] else [])

/-- Some rotation entry that is no MAINT names the queue. -/
def rotNames (d : State) (q : Nat) : Bool :=
  (entries d).any fun i => entryKind (rotEntry d i) != 3 && entryQid (rotEntry d i) == q

def taskOk (d : State) (e : Bytes) : Bool :=
  let q := u16 e 0
  let level := bits (u8 e 3) 0 4
  decide (q < 1024) && decide (u8 e 2 < 8) && decide (u8 e 3 < 16) && (decide (level ≤ 4) || level == 15) && decide (u8 e 4 < 16) &&
    decide (u8 e 5 ≤ 16) && zeroAt e [(6, 2), (28, 4)] && decide (u32 e 8 ≤ 1000000) && within 1 (u32 e 12) 1000000 &&
    (!bit (u8 e 2) 1 || within 1 (u32 e 24) 10000000) && decide (u32 e 8 ≤ u32 e 12) && (!bit (u8 e 2) 1 || decide (u32 e 20 < u32 e 24)) &&
    (!bit (u8 e 2) 0 || rotNames d q) && (!bit (u8 e 2) 1 || d.rd (Q_CFG_TID q) == 0) &&
    (level == 15 || (taskCodes e).all fun c => decide ((faultMin c).getD 0 ≤ level))

def shepOk (d : State) : Bool :=
  let p := d.img.shep
  let es := (List.range (u32 p 0)).map fun i => slice p (16 + 32 * i) 32
  decide (u32 p 0 ≤ 1024) && zeroAt p [(4, 12)] && decide (16 + 32 * u32 p 0 ≤ p.length) && es.all (taskOk d) &&
    distinct (es.map fun e => u16 e 0) &&
    (entries d).all fun i => entryKind (rotEntry d i) == 3 ||
      es.any fun e => u16 e 0 == entryQid (rotEntry d i) && bit (u8 e 2) 0

/-! ### EXTP (R76, R547) -/

def extpOk (d : State) (r : Record) : Bool :=
  let k := u64 r.payload 56
  decide (r.payload.length = 64) && within 1 k 3 && decide (r.dest + u64 r.payload 48 ≤ visible d) &&
    (k == 3 || slotBase d k == r.dest)

/-! ### Registers that an image may not set so -/

/-- R210: a launch grid's period divides a second and exceeds its phase; a grid that is not set up has neither. -/
def gridOk (d : State) (g : Nat) : Bool :=
  let p := d.rd (LG_PERIOD_NS_NS g)
  let f := d.rd (LG_PHASE_NS_NS g)
  (p == 0 && f == 0 && !d.rdb (LG_CTL_EN g)) || (p != 0 && 1000000000 % p == 0 && decide (f < p))

/-- An image configures a profile: one of its registers is not 0; its output is 1 to 4,096 each way, but with BYPASS (R232, 8.12). -/
def profileOk (d : State) (k : Nat) : Bool :=
  ([PREP_CROP_XY_X k, PREP_CROP_XY_Y k, PREP_CROP_WH_CW k, PREP_CROP_WH_CH k, PREP_OUT_WH_OUT_W k, PREP_OUT_WH_OUT_H k, PREP_CTL_METHOD k,
      PREP_CTL_OUT k, PREP_CTL_CHAN k].all fun f => d.rd f == 0) || d.rdb (PREP_CTL_BYPASS k) ||
    (within 1 (d.rd (PREP_OUT_WH_OUT_W k)) 4096 && within 1 (d.rd (PREP_OUT_WH_OUT_H k)) 4096)

/-- The streams an image configures: those that are enabled, and the slots that dynamic streams copy (R232). -/
def configured (d : State) (n : Nat) : Bool :=
  d.rdb (STREAM_CFG_EN n) || ((List.range 16).any fun u => d.rdb (UNIT_CFG_DYN_EN u) && d.rd (UNIT_CFG_DYN_TPL u) == n) ||
    (List.range 16).any fun f => d.rdb (GV_FILT_DYN_EN f) && d.rd (GV_FILT_DYN_TPL f) == n

def streamOk (d : State) (n : Nat) : Bool :=
  let k := d.rd (STREAM_CFG_PREP n)
  let w := d.rd (STREAM_DIM_WIDTH n)
  decide (d.rd (STREAM_CFG_NEAR n) ≤ 4) &&
    (!configured d n || (within 64 w 8192 && w % 8 == 0 && within 1 (d.rd (STREAM_DIM_HEIGHT n)) 8192 && decide (d.rd (STREAM_CFG_FMT n) ≤ 5) &&
      within 1 (d.rd (STREAM_STALE_STALE_MS n)) 4000 && decide (frameGranules d n k ≤ 256) &&
      (d.rdb (PREP_CTL_BYPASS k) || (within 1 (d.rd (PREP_OUT_WH_OUT_W k)) 4096 && within 1 (d.rd (PREP_OUT_WH_OUT_H k)) 4096))))

/-- R237. -/
def poolOk (d : State) : Bool := decide (reservedBelow d 32 ≤ d.rd POOL_CFG_POOL_GRANULES)

/-- R442 and R524: the regions of a local memory, each as whether it is enabled, its base, size and owner. -/
def regionsOk (d : State) (top : Nat) (l : List (Bool × Nat × Nat × Nat)) : Bool :=
  let on := l.filter (·.1)
  (on.all fun r => decide (0 < r.2.2.1) && decide (r.2.1 + r.2.2.1 ≤ top) && tenantKnown d r.2.2.2) &&
    pairwiseNot (fun (a b : Bool × Nat × Nat × Nat) => meets a.2.1 a.2.2.1 b.2.1 b.2.2.1) on

def pastureOk (d : State) (n : Nat) : Bool :=
  within 1 (d.rd (TE_CFG_WC_GBPS n)) 1024 &&
    regionsOk d 7168 ((List.range 16).map fun k => (d.rdb (PREG_ACC_EN n k), d.rd (PREG_LOC_BASE n k), d.rd (PREG_LOC_SIZE n k), d.rd (PREG_ACC_OWNER n k)))

def clusterOk (d : State) (n : Nat) : Bool :=
  within 1 (d.rd (VX_CFG_WC_GBPS n)) 1024 &&
    regionsOk d 1024 ((List.range 8).map fun k => (d.rdb (CREG_ACC_EN n k), d.rd (CREG_LOC_BASE n k), d.rd (CREG_LOC_SIZE n k), d.rd (CREG_ACC_OWNER n k)))

/-- R647: rates in units that keep the comparison exact: 80 MHz over the cycles of a bit. -/
def canTimingOk (d : State) (n : Nat) : Bool :=
  let nb := (d.rd (CAN_NBT_NBRP n) + 1) * (3 + d.rd (CAN_NBT_NTSEG1 n) + d.rd (CAN_NBT_NTSEG2 n))
  let db := (d.rd (CAN_DBT_DBRP n) + 1) * (3 + d.rd (CAN_DBT_DTSEG1 n) + d.rd (CAN_DBT_DTSEG2 n))
  within 80 nb 8000 && decide (10 ≤ db) && decide (db ≤ nb) && decide (d.rd (CAN_NBT_NSJW n) ≤ d.rd (CAN_NBT_NTSEG2 n)) &&
    decide (d.rd (CAN_DBT_DSJW n) ≤ d.rd (CAN_DBT_DTSEG2 n)) && !(d.rdb (CAN_DBT_TDC_EN n) && decide (1 < d.rd (CAN_DBT_DBRP n)))

/-- R651: an enabled object by itself. -/
def objectSound (d : State) (o : Nat) : Bool :=
  decide (d.rd (OBJ_DPTR o) + 2 ^ d.rd (OBJ_DSIZE o) ≤ 6144) && d.rd (OBJ_DPTR o) % 2 ^ d.rd (OBJ_DSIZE o) == 0 &&
    (d.rd (OBJ_DIR o) != 1 || decide (dlcBytes (d.rdb (OBJ_FDF o)) (d.rd (OBJ_DLC o)) ≤ slotBytes d o)) &&
    !(d.rdb (OBJ_BRS o) && !d.rdb (OBJ_FDF o)) && !(d.rdb (OBJ_RTR o) && d.rdb (OBJ_FDF o))

def slotsMeet (d : State) (a b : Nat) : Bool := meets (d.rd (OBJ_DPTR a)) (2 ^ d.rd (OBJ_DSIZE a)) (d.rd (OBJ_DPTR b)) (2 ^ d.rd (OBJ_DSIZE b))

def objectsOk (d : State) : Bool :=
  let on := (List.range 2048).filter fun o => d.rdb (OBJ_EN o)
  on.all (objectSound d) && pairwiseNot (slotsMeet d) on

/-- R651, R658: what filters, FIFOs and leaving frames name. -/
def canNamesOk (d : State) (n : Nat) : Bool :=
  ((List.range 32).all fun f =>
    (d.rd (FLT_ID_ACTION n f) != 1 || objectOk d n (d.rd (FLT_TGT_OBJ n f)) 0) &&
      !(d.rdb (FLT_TGT_PIN n f) && (d.rd (FLT_SRC n f) &&& (2 ^ 29 - 1 - d.rd (FLT_MASK n f))) != 0)) &&
    decide (d.rd (CAN_FIFO_FIFO_COUNT n) ≤ 512) &&
    ((List.range (d.rd (CAN_FIFO_FIFO_COUNT n))).all fun i => objectOk d n (d.rd (CAN_FIFO_FIFO_FIRST n) + i) 0) &&
    (!bit (d.rd LIV_CFG_LEAVE_EN) n || objectOk d n (d.rd (LIV_LEAVE_OBJ_OBJ n)) 1)

/-- R704. -/
def bufferOk (d : State) : Bool :=
  let all := (List.range 4).flatMap fun n => (List.range 17).map fun a => (d.rd (PB_ACCT_MIN n a), d.rd (PB_ACCT_MAX n a))
  (all.all fun e => decide (e.1 ≤ e.2)) && decide ((all.map (·.1)).sum ≤ 8192)

/-- R417, R419: a flock's steps. -/
def flockOk (d : State) (f : Nat) : Bool :=
  !d.rdb (FLK_CFG_EN f) ||
    (decide (d.rd (FLK_STEP_CHUNK f) ≤ d.rd (FLK_STEP_STEP_TOK f)) &&
      (List.range 8).all fun e => !bit (d.rd (FLK_CFG_ENG f)) e || (columnExists d e && decide (d.rd (FLK_LIST_SEG_US f) ≤ d.rd (SRV_LIMIT_US e))))

/-- R636. -/
def msyncOk (d : State) : Bool :=
  !d.rdb MSYNC_CFG_EN || (within 2 (d.rd MSYNC_CFG_SIZE) 16 && decide (d.straps.chipaddr < d.rd MSYNC_CFG_SIZE) &&
    decide (10 ≤ d.rd MSYNC_CFG_LEAD_US) && decide (1 ≤ d.rd MSYNC_CFG2_WAIT_MS) && decide (1 ≤ d.rd MSYNC_CFG2_TOL_NS))

/-- R333, with the smallest time-out of the stepping. -/
def timeoutsOk (d : State) : Bool :=
  (usedPids d).all fun p => within (if d.fuse.stepping = 0 then 4 else 1) (d.rd (FAB_INIT_CFG_TO_US p)) 10000

/-- Every register condition. -/
def registersOk (d : State) : Bool :=
  (List.range 8).all (gridOk d) && (List.range 32).all (streamOk d) && (List.range 16).all (profileOk d) && poolOk d && (List.range (engines d)).all (pastureOk d) &&
    (List.range 4).all (clusterOk d) && (List.range 8).all (canTimingOk d) && objectsOk d && (List.range 8).all (canNamesOk d) &&
    bufferOk d && (List.range 32).all (flockOk d) && msyncOk d && timeoutsOk d && within 2 (d.rd CLK_CFG_REQUAL_GATES) 100 &&
    decide (100 ≤ d.rd TK_STEP_CFG_GAP_MS) && ((List.range 6).all fun m => within 16 (d.rd (MC_SHADOW_SHADOW_US m)) 1000) &&
    (List.range 4).all fun n => !(bit (d.rd PTP_CFG_PORT_EN) n && d.rdb (RXQ_CFG_EN n 7))

/-! ### The check -/

/-- The state the records would make, polls taken as satisfied. -/
def rehearse (l : List Record) (s : State) : State := (applyOrder l).foldl applyRecord (withDefaults l s)

/-- The header and record parts of check 14, which an update runs too (R730). -/
def recordParts (s : State) (c : Nat) (h : Bytes) (l : List Record) : Bool := headerRanges h && listOk s c h l

/-- Check 14 (R56). -/
def imageWellFormed (s : State) (c : Nat) (h : Bytes) (l : List Record) : Bool :=
  let b := s.boot
  let d := rehearse l { s with boot := { b with records := l } }
  recordParts s c h l && l.all (destOk d) && l.all (regOk d) && tenantOk d && ownOk d (payloadOf l 3) &&
    ((l.filter (·.type == 5)).all fun r => policyOk d r.payload) && ((l.filter (·.type == 0x10)).all fun r => logRegionOk c h r.payload) &&
    ((l.filter (·.type == 0xA)).all fun r => (bindEntries r.payload).all (bindEntryOk d)) && rotOk d && tmplOk d && safeOk d && shepOk d &&
    ((l.filter (·.type == 9)).all (extpOk d)) && decide ((l.filter (·.type == 9)).length ≤ 64) && registersOk d

end Sys2Proof.Machine
end

