-- ==== Sys2Proof/Machine/HostLink.lean ====
section
/-! DEFINITION. The host link (chapter 26): doorbell pages, the aperture, MSI-X masks, PME_Turn_Off, link training and link resets. -/

namespace Sys2Proof.Machine
open Reg

/-- The endpoint's PID (R719). -/
def hostPid : Nat := 89

/-- BAR accesses reach the endpoint: L0 or L1, its island running. -/
def hostReaches (s : State) : Bool := s.straps.hostlink && linkUp s && islandRuns s 0x4B

/-- The endpoint answers BAR accesses with Unsupported Request, in D3hot (R724). -/
def asleep (s : State) : Bool := s.rd HL_LINK_DSTATE == 3

/-! ### Doorbell pages (R717) -/

/-! ### MSI-X (R715, R722, R723) -/

/-- The masks that apply to a vector are cleared. -/
def unmasked (s : State) (v : Nat) : Bool := s.hl.msixEnable && !s.hl.funcMask && !(s.hl.table.get {} v).mask

/-- Messages held pending whose last mask has gone are sent, lower vectors first. -/
def sendPending (s : State) : State :=
  (List.range 1024).foldl (fun t v =>
    if t.hl.pend.contains v && unmasked t v then
      let h := t.hl
      sendMsix v { t with hl := { h with pend := h.pend.erase v } }
    else t) s

/-- Write an entry of the MSI-X table. -/
def setEntry (v : Nat) (e : MsixEntry) (s : State) : State :=
  let h := s.hl
  { s with hl := { h with table := h.table.put {} v e } }

/-- A word of an entry of the MSI-X table: address low and high, data, vector control. PRESUMED: the layout of PCIe's MSI-X capability (log 127). -/
def entryWord (e : MsixEntry) (j : Nat) : Nat :=
  if j = 0 then e.addr % 2 ^ 32 else if j = 1 then e.addr / 2 ^ 32 % 2 ^ 32 else if j = 2 then e.data else ofBool e.mask

/-- A word written to an entry. -/
def patchEntry (e : MsixEntry) (j v : Nat) : MsixEntry :=
  if j = 0 then { e with addr := e.addr / 2 ^ 32 * 2 ^ 32 + v } else if j = 1 then { e with addr := e.addr % 2 ^ 32 + v * 2 ^ 32 }
  else if j = 2 then { e with data := v } else { e with mask := bit v 0 }

/-- Pending bits `32 j` to `32 j + 31`. -/
def pendingWord (s : State) (j : Nat) : Nat := (List.range 32).foldl (fun a i => a + 2 ^ i * ofBool (s.hl.pend.contains (32 * j + i))) 0

/-- A word access to BAR2 past the doorbell pages, at offset 0x40_0000 + `o`: the table, the pending bit array, which no write changes, or a reserved
offset, which is answered Unsupported Request (R715, R720). -/
def msixWindow (o v : Nat) (write : Bool) (s : State) : State :=
  if o < 0x4000 then
    let e := s.hl.table.get {} (o / 16)
    if write then sendPending (setEntry (o / 16) (patchEntry e (o / 4 % 4) v) (s.answer 0 0)) else s.answer 0 (entryWord e (o / 4 % 4))
  else if o < 0x4080 then s.answer 0 (if write then 0 else pendingWord s ((o - 0x4000) / 4))
  else hostError 0x0C 1 (0x400000 + o) write (s.answer 0x0C 0)

/-- HOST_DOORBELL: an access to offset `off` of the page `q` of BAR2: the doorbell page of a queue, or what lies past the pages. -/
def execHostDoorbell (q off v : Nat) (write : Bool) (s : State) : Out :=
  .next (if 2048 ≤ q ∨ !hostReaches s then s
  else if asleep s then s.answer 0x0C 0
  else if 1024 ≤ q then msixWindow (0x1000 * (q - 1024) + off) v write s
  else
    let open_ := bit (s.rd (HL_DBEN (q / 32))) (q % 32)
    let refuse := hostError 0x07 1 (0x1000 * q + off) write (s.answer 0x07 0)
    if !open_ then refuse
    else if write ∧ (off = 0 ∨ off = 4) then
      if draining s then s.answer 0x08 0
      else if off = 0 then advanceTail q 1 (v % 65536) (s.answer 0 0) else advanceHead q 1 (v % 65536) (s.answer 0 0)
    else if !write ∧ off = 8 then s.answer 0 (storedWord s (Q_SQ_PTR_HEAD q).addr)
    else if !write ∧ off = 0x0C then s.answer 0 (storedWord s (Q_CQ_PTR_CQ_HEAD q).addr)
    else refuse)

/-! ### The aperture (R718) -/

/-- The parts of an aperture access by slot: slot, device address, length. -/
def apertureParts (s : State) (off n : Nat) : List (Nat × Nat × Nat) :=
  (List.range ((off % 2 ^ 28 + n + 2 ^ 28 - 1) / 2 ^ 28)).map fun i =>
    let k := off / 2 ^ 28 + i
    let lo := max off (k * 2 ^ 28)
    let hi := min (off + n) ((k + 1) * 2 ^ 28)
    (k, s.rd (HL_AP_LO_BASE k) * 2 ^ 20 + (lo - k * 2 ^ 28), hi - lo)

/-- The answer of a slot before memory is reached: none when it lets the access through. Before the seal no external payload is written (R77). -/
def slotAnswer (s : State) (k : Nat) (write : Bool) : Option Nat :=
  if 64 ≤ k ∨ !s.rdb (HL_AP_HI_EN k) ∨ (s.rd (HL_AP_HI_TID k) = 0 ∧ !s.rdb HL_CFG_T0_EN) then some 0x0C
  else if !s.rdb (if write then HL_AP_HI_W k else HL_AP_HI_R k) then some 0x07
  else if write ∧ s.rd (HL_AP_HI_TID k) = 0 ∧ !s.rdb BOOT_STATUS_SEALED then some 0x07 else none

/-- A part of a read: the worst status so far and the bytes so far. -/
def apertureRead (r : (Nat × Bytes) × State) (p : Nat × Nat × Nat) : (Nat × Bytes) × State :=
  match slotAnswer r.2 p.1 false with
  | some c => ((worse r.1.1 c, r.1.2 ++ zeros p.2.2), r.2)
  | none =>
    let t := r.2.rd (HL_AP_HI_TID p.1)
    let m := memRead r.2 t p.2.1 p.2.2
    ((worse r.1.1 m.1, r.1.2 ++ m.2), noteRead hostPid t p.2.1 p.2.2 r.2)

/-- A part of a write, with the bytes still to be written. -/
def apertureWrite (r : (Nat × Bytes) × State) (p : Nat × Nat × Nat) : (Nat × Bytes) × State :=
  match slotAnswer r.2 p.1 true with
  | some _ => ((worse r.1.1 0x07, r.1.2.drop p.2.2), r.2.inc HL_ERR_DENY)
  | none =>
    let m := memWrite r.2 hostPid (r.2.rd (HL_AP_HI_TID p.1)) p.2.1 (r.1.2.take p.2.2)
    ((worse r.1.1 m.1, r.1.2.drop p.2.2), m.2)

/-- HOST_APERTURE: a BAR4 access of `n` bytes at an offset; `b` are the bytes of a write. The bytes read stand in the answer. -/
def execHostAperture (off n : Nat) (write : Bool) (b : Bytes) (s : State) : Out :=
  .next (if n = 0 ∨ 4096 < n ∨ 2 ^ 34 < off + n ∨ (write ∧ b.length ≠ n) ∨ !hostReaches s then s
  else if asleep s then s.answer 0x0C 0
  else if write then
    let r := (apertureParts s off n).foldl apertureWrite ((0, b), s)
    r.2.answer r.1.1 0
  else
    let r := (apertureParts s off n).foldl apertureRead ((0, []), s)
    let s := if r.1.1 = 0 then r.2 else hostError r.1.1 2 off false r.2
    s.answer r.1.1 (if r.1.1 = 0 then leNat r.1.2 else 0))

/-- MSIX_UNMASK: the host writes entry `v` of the MSI-X table, but not in D3hot (R724), and MSI-X Enable and Function Mask, which lie in configuration
space (R721, R722). -/
def execMsixUnmask (v addr data : Nat) (mask enable func : Bool) (s : State) : Out :=
  .next (if !hostReaches s then s
  else
    let h := s.hl
    let t := if v < 1024 ∧ !asleep s then h.table.put {} v { addr := addr % 2 ^ 64, data := data % 2 ^ 32, mask := mask } else h.table
    sendPending { s with hl := { h with table := t, msixEnable := enable, funcMask := func } })

/-! ### Link states and resets (R725 to R728) -/

/-- PME_TURN_OFF: accesses in flight are over and the link is in L2/L3 Ready (R725). -/
def execPmeTurnOff (s : State) : Out :=
  .next (if s.straps.hostlink && linkUp s then
    let h := s.hl
    { s with hl := { h with l2 := true } }.wr HL_LINK_STATE 5
  else s)

/-- PCIE_LINK_TRAINED: the link reaches L0 and leaves L2; WAKE# is released (R159, R725, R728). -/
def execPcieLinkTrained (speed width : Nat) (s : State) : Out :=
  .next (if s.straps.hostlink && !s.railsOff && s.rd LIV_STATUS_STATE != 2 && s.rd HL_LINK_STATE != 2 && !s.hl.perst &&
      decide (1 ≤ speed) && decide (speed ≤ 4) && (width == 1 || width == 2 || width == 4) then
    let h := s.hl
    releaseWakePin ({ s with hl := { h with l2 := false } }.wrs
      [(HL_LINK_STATE, 2), (HL_LINK_SPEED, speed), (HL_LINK_WIDTH, width), (HL_LINK_DSTATE, 0)])
  else s)

/-- Fields that pass a test go back to their reset values. -/
def dropFields (p : Field → Bool) (s : State) : State :=
  { s with regs := s.regs.keep fun k => match fieldOfKey k with | some f => !p f | none => true }

/-- The fields of the PCIe block that a LNK reset clears: classes L and V (R12, R727). -/
def clearLink (s : State) : State :=
  dropFields (fun f => decide (0x370000 ≤ f.addr) && decide (f.addr < 0x380000) && (f.keep == .L || f.keep == .V)) s

/-- An update under way is abandoned (R732). -/
def abandonUpdate (s : State) : State :=
  if 1 ≤ s.rd HL_UPD_STAT_STATE ∧ s.rd HL_UPD_STAT_STATE ≤ 3 then s.wrs [(HL_UPD_STAT_STATE, 5), (HL_UPD_STAT_CODE, 0x23)] else s

/-- PERST# is asserted, or deasserted, which ends L2 (R725). -/
def setPerst (b : Bool) (s : State) : State :=
  let h := s.hl
  { s with hl := { h with perst := b, l2 := h.l2 && b } }

/-- What a LNK reset does to the endpoint (R727): MSI-X, host accesses on their way, an update. -/
def endpointReset (s : State) : State :=
  let h := s.hl
  abandonUpdate (initiatorReset hostPid (clearLink
    { s with hl := { h with msixEnable := false, funcMask := false, table := [], pend := [], busMaster := false } }))

/-- The endpoint passes through LNK: what the reset does, its count and its event (R15, R727). -/
def linkPassed (s : State) : State :=
  let s := (endpointReset s).inc HL_LNKCNT_LNK
  post 0xC001 0x4B [storedWord s (HL_LNKCNT_LNK).addr] s

/-! ### Requests that meet (R23, R135) -/

/-- Change the power sequencing. -/
def setPower (g : Power → Power) (s : State) : State := { s with power := g s.power }

/-- RST_CAUSE's flag of a reset class. -/
def causeField (cls : Nat) : Field :=
  if cls = 0 then RST_CAUSE_COLD else if cls = 1 then RST_CAUSE_PIN else if cls = 2 then RST_CAUSE_WDG else RST_CAUSE_SYS

/-- The classes that a request made now is requested with (R23): those of the reset being performed or held, of the island reset under way, and of a
LNK reset of the same instant. DEDUCED (log 113): an island reset and a LNK reset do not reach one another, so both are performed; RST_LAST shows
the wider. -/
def requestedWith (s : State) : Nat :=
  if s.power.resetNow.isSome ∨ s.power.heldReset ≠ [] ∨ s.clocks.islBusy ≠ [] ∨ s.power.lnkAt = some s.mono then s.rd RST_LAST_REQ else 0

/-- A request that a wider reset overtakes is recorded (R23, R135). -/
def recordCause (cls : Nat) (s : State) : State :=
  let s := s.wr RST_LAST_REQ (s.rd RST_LAST_REQ ||| 2 ^ cls)
  let s := if cls < 4 then s.set (causeField cls) else s
  if s.power.resetNow = some 0 then setPower (fun p => { p with coldReq := p.coldReq ||| 2 ^ cls }) s else s

end Sys2Proof.Machine
end

