-- ==== Sys2Proof/Machine/Islands.lean ====
section
/-! DEFINITION. Island resets (R12, R14, R137, R138): what an island loses, what its loop side effects are, and how its REAPPLY records
are applied again. -/

namespace Sys2Proof.Machine
open Reg

/-! ### Fields by class (R12) -/

/-- A field belongs to an island and to one of the classes. -/
def inIsland (k : Nat) (l : List Keep) (f : Field) : Bool := islandOf f.addr == some k && l.contains f.keep

/-! ### What an island holds beside its fields -/

/-- The Ethernet island: the buffer is emptied, links are down (R713). -/
def clearEthernet (s : State) : State :=
  let s := releaseFrames (fun _ => true) (dropLinks s)
  let e := s.eth
  { abortFlights (fun f => cmdClass f.cmd == 5 && cmdOpc f.cmd == 0x10) s with eth := { next := e.next } }

/-- The CAN island: frames are cut off, requests end, peers are forgotten (R682). -/
def clearCan (s : State) : State :=
  let s := (s.can.reqs.filter fun r => r.motor.isNone).foldl (fun t r => unbookLaunch (fun e => e.kind == 0 && e.ref == r.obj) t) s
  let s := withdraw (fun _ => true) s
  { abortFlights (fun f => cmdClass f.cmd == 5 && cmdOpc f.cmd != 0x10) s with can := {} }

/-- The Timekeeper: what its outputs, captures, stamps, launch table and grids hold is lost, and device time is seeded again; a deferred step
still waits (its flag is class S), and what the Steward's firmware knows of the masters and the recorded rates stays (7.10, R184, R188, R192). -/
def clearTimekeeper (s : State) : State :=
  let s := (seedTime (dropServo s)).incWrap TK_STEP_COUNT_COUNT
  let k := s.tk
  { s with tk := { k with tout := [], tcap := [], txts := [], launch := [], grids := [] }, msync := {} }

/-- The Drover: every command in flight ends ABORTED, engine steps run again, the rotation stops (13.12, 14.11, 21.11). -/
def clearDrover (s : State) : State :=
  let s := rerunSteps (fun _ => true) (abortFlights (fun _ => true) (endMaint (fun _ => true) (stopRotation s)))
  let d := s.drv
  { s with drv := { d with heads := [] } }

/-- A run is a retraining of controller `m` (R298, R612). -/
def retrains (s : State) (m : Nat) (r : MaintRun) : Bool :=
  r.req == 1024 + m || (r.col == 13 && s.drv.flights.any fun f => f.q == r.req && f.idx == r.idx && u8 f.cmd 9 == m)

/-- A memory controller: the scrub's place (R312); a retraining that runs is over, a request that waits goes on waiting (its flag is class S). -/
def clearController (m : Nat) (s : State) : State :=
  let s := if s.drv.maint.any fun r => r.req == 1024 + m && r.running then s.clr (MC_RETRAIN_STAT_PENDING m) else s
  let s := endMaint (fun r => r.running && retrains s m r) s
  let c := s.mc
  { s with mc := { c with hot := c.hot.filter fun k => k / 4 != m, patrol := c.patrol.erase m } }

/-- The state of an island beside its register fields. -/
def clearHidden (k : Nat) (s : State) : State :=
  if k = 2 then clearTimekeeper s
  else if k = 4 then clearDrover s
  else if k = 5 then intakeReset s
  else if k = 6 then
    let s := endMaint (fun m => m.col == 12 && m.running) s
    let g := s.gl
    abortFlights (fun f => f.unit == 12) { s with gl := { g with copy := [1, 2].filter fun x => s.rdb (slotValid x) } }
  else if 0x10 ≤ k ∧ k < 0x1C then
    rerunSteps (· == k - 0x10) (abortFlights (fun f => f.unit == k - 0x10) (endMaint (fun m => m.col == k - 0x10 && m.running) s))
  else if 0x20 ≤ k ∧ k < 0x38 then nodeReset (k - 0x20) s
  else if 0x40 ≤ k ∧ k < 0x46 then clearController (k - 0x40) s
  else if k = 0x48 then clearEthernet s
  else if k = 0x49 then clearCan s
  else if k = 0x4A then { s with joint := {} }
  else if k = 0x4D then resetCollector s
  else s

/-- The island's ports: requests it had sent are orphans, requests forwarded to it are answered ABORTED (R343, R345). -/
def clearPorts (k : Nat) (s : State) : State :=
  match islandPid s k with
  | some p => deliver (initiatorReset p (targetReset p s))
  | none => s

/-! ### Side effects on the loop (R137) -/

/-- The island carries a motor output. -/
def carriesOutput (s : State) (k : Nat) : Bool :=
  (List.range 32).any fun m => s.rdb (MO_CFG_EN m) && (k == 0x4A || (k == 0x49 && s.rd (MO_CFG_TYPE m) == 0) || (k == 0x48 && s.rd (MO_CFG_TYPE m) == 1))

/-- Decisions take their safe reactions and the outputs are disarmed. -/
def loopSide (s : State) (k : Nat) : Bool :=
  k == 2 || k == 4 || (decide (0x20 ≤ k) && decide (k < 0x38)) || (decide (0x40 ≤ k) && decide (k < 0x46)) || carriesOutput s k

/-- R137: the islands that may be reset. -/
def mayReset (s : State) (k : Nat) : Bool := islandExists s k && k != 0 && k != 1 && k != 3

/-- The reset of an island: its side effects, what it loses, and its V and I fields (R12, R14). -/
def resetIsland (k : Nat) (s : State) : State :=
  let s := if loopSide s k then loopReaction s else s
  dropFields (inIsland k [.V, .I]) (clearPorts k (clearHidden k s))

/-! ### Re-apply (R73, R138) -/

/-- A REAPPLY record takes effect again (R51, R73, R138). What a record leaves in class S stands already and is not done twice: a queue it binds stays
bound, a payload it declares declared, the log goes on; the registers it sets are written again, and what it puts in memory is put there again. -/
def reapplyRecord (s : State) (r : Record) : State :=
  if r.type = 7 ∨ r.type = 8 ∨ r.type = 0xB then storePayload r s
  else if r.type = 9 then s
  else if r.type = 0xA then (bindEntries r.payload).foldl (fun t e => bindRegisters e t) s
  else if r.type = 0x10 then s.wrs [(EVL_CFG_PORT, u8 r.payload 0), (EVL_CFG_SECTORS, u16 r.payload 2)]
  else applyRecord s r

/-- The REAPPLY records of an island, in the order of R52. -/
def islandRecords (s : State) (k : Nat) : List Record := applyOrder (s.img.reapply.filter fun r => r.island == k)

/-- Every REAPPLY record of an island takes effect, its polls taken as satisfied. -/
def reapplyRecords (k : Nat) (s : State) : State := (islandRecords s k).foldl reapplyRecord s

/-- The payload of PLAT in force. -/
def platOf (s : State) : Bytes := s.img.plat

/-- The memory parameters of a controller come from PLAT again, and it trains (R137). -/
def retrainController (m : Nat) (s : State) : State :=
  let p := platOf s
  s.wrs [(MC_CFG_GIB m, [2, 4, 8].getD (Config.plat p 0 % 3) 2), (MC_CFG_RANKS2 m, Config.plat p 1), (MC_CFG_IECC m, Config.plat p 2), (MC_STATUS_STATE m, 2)]

/-- The CAN island starts: pinned peers are made again and every enabled controller integrates (R673, R682). -/
def startCan (s : State) : State :=
  let c := s.can
  let s := { s with can := { c with peers := pinnedPeers s } }
  ((List.range 8).filter fun n => s.rdb (CAN_CTL_EN n)).foldl (fun t n => canIntegrate n t) s

/-- The streams that the image enables are pinned and hold their slots (R174). -/
def pinStreams (s : State) : State :=
  ((List.range 32).filter fun n => s.rdb (STREAM_CFG_EN n)).foldl (fun (t : State) n =>
    let t := t.wr (STREAM_CFG_PIN n) 1
    if t.rd (STREAM_STATE_STATE n) = 0 then allocSlot n t else t) s

/-- What an island does once its records are applied again. -/
def restartIsland (k : Nat) (s : State) : State :=
  let s := match islandPid s k with | some p => targetBack p s | none => s
  if k = 4 then (List.range 1024).foldl (fun t q => pump q t) s
  else if k = 5 then exposureRestart (pinStreams s)
  else if 0x20 ≤ k ∧ k < 0x38 then nodeBack (k - 0x20) s
  else if 0x40 ≤ k ∧ k < 0x46 then retrainController (k - 0x40) s
  else if k = 0x49 then startCan s
  else s

end Sys2Proof.Machine
end

