-- ==== Sys2Proof/Machine/ResetOps.lean ====
section
/-! DEFINITION. Resets that re-read the image (R12, R13, R23, R24, R136, R178): what they keep, and how one that is asked for is performed, held or
overtaken. -/

namespace Sys2Proof.Machine
open Reg

/-- The fields kept over a reset of class S or wider: 0 COLD, 1 PIN, 2 WDG, 3 SYS (R12). -/
def keptField (cls : Nat) (f : Field) : Bool := f.keep == .A || (f.keep == .W && cls != 0)

/-- The power pins and enables as a reset leaves them. -/
def keptPower (p : Power) : Power :=
  { vaon := p.vaon, penMem := p.penMem, penMain := p.penMain, pgMem := p.pgMem, pgMain := p.pgMain, prsntLow := p.prsntLow,
    ejectLow := p.ejectLow, qualified := p.qualified, wakePin := p.wakePin, dramReset := p.dramReset }

/-- What every reset of class S or wider leaves beside the register fields: the queue of waiting commands, fuses, straps, OTP, memories, the
AON queue and its fold stamps, the crystal, the trim, PERST# and L2 (R725). MONO starts at 0 (R183); a snapshot is discarded (R24). -/
def clearAll (s : State) : State :=
  { pending := s.pending, bus := s.bus, freeCount := s.freeCount, fuse := s.fuse, straps := s.straps, otp := s.otp, regs := s.regs,
    power := keptPower s.power, time := { rtcAcc := s.time.rtcAcc }, loc := s.loc, poison := s.poison, dram := s.dram, flashA := s.flashA,
    flashB := s.flashB, hostMem := s.hostMem, clocks := { rcClock := s.clocks.rcClock, boscTrim := s.clocks.boscTrim },
    evlog := { queue := s.evlog.queue, foldFirst := s.evlog.foldFirst, foldLast := s.evlog.foldLast },
    hl := { l2 := s.hl.l2, perst := s.hl.perst } }

/-- A reset is performed: fields by class, the outputs safe, DRAINED over, the cause recorded (R12, R23, R136, R170); `req` are the classes asked
for, one bit each. -/
def performReset (cls req : Nat) (s : State) : State :=
  let s := dropFields (fun f => !keptField cls f) (clearAll s)
  let s := safeLevels (s.wrs [(LIV_STATUS_STATE, 0), (RST_LAST_DONE, cls), (RST_LAST_REQ, req)])
  let s := ((List.range 4).filter (bit req)).foldl (fun (t : State) k => t.set (causeField k)) s
  let s := if cls = 2 then s.inc RST_COUNT_WDG else if cls = 3 then s.inc RST_COUNT_SYS else s
  let p := s.power
  { s with power := { p with resetNow := some cls } }

/-- A reset asked for during the drain is held until DRAINED (R178). DESIGN CHOICE (log 114): the spec says so of DRAINING; the model does the same in
SURPRISE, whose drain is the same; a COLD reset, which the rails' return asks for, is not held there. -/
def holdReset (cls : Nat) (s : State) : State :=
  let req := if s.power.heldReset = [] then 0 else s.rd RST_LAST_REQ
  setPower (fun p => { p with heldReset := p.heldReset ++ [cls] }) (s.wr RST_LAST_REQ (req ||| 2 ^ cls))

/-- A reset asked for while the main rails are off (R24, R141): a snapshot is discarded and the device powers up for a start, whose COLD reset is
requested with it (R23, R130). -/
def resetInDark (cls : Nat) (s : State) : State :=
  let st := s.rd PWR_STATE_STATE
  let w := s.power.wait
  let s := setPower (fun p => { p with coldReq := p.coldReq ||| 2 ^ cls, heldReset := [], exiting := decide (st = 6) })
    ({ s with snap := {} }.wr LIV_STATUS_STATE 0)
  if st = 6 then (if w = 0 ∧ !s.power.penMem ∧ !s.power.pgMem then startPower s else s)
  else if st = 4 ∨ st = 5 then
    let s := s.wr PWR_STATE_STATE 0
    if w = 0 then startPower s else s
  else s

/-- A PIN, WDG or SYS reset is asked for: held back during the drain (R178), the widest of several performed (R23). -/
def requestReset (cls : Nat) (s : State) : State :=
  if !s.power.vaon then s
  else if s.railsOff then resetInDark cls s
  else if s.rd LIV_STATUS_STATE = 1 ∨ s.rd LIV_STATUS_STATE = 3 then holdReset cls s
  else match s.power.resetNow with
    | some c => if cls < c then performReset cls (requestedWith s ||| 2 ^ cls) s else recordCause cls s
    | none => performReset cls (requestedWith s ||| 2 ^ cls) s

end Sys2Proof.Machine
end

