-- ==== Sys2Proof/Machine/Boot.lean ====
section
/-! DEFINITION. Start-up (chapter 2): slot selection, the attempts, apply and seal, confirmation, external payloads; and the host's
images and flash updates (26.8). -/

namespace Sys2Proof.Machine
open Reg

/-! ### What a failed attempt leaves (R59) -/

/-- A field of an island that is reset between attempts. -/
def attemptField (pcie : Bool) (f : Field) : Bool :=
  match islandOf f.addr with
  | some k =>
    if k = 0 ∨ k = 1 then (decide (0x380040 ≤ f.addr) && decide (f.addr < 0x380048)) || f = BOOT_STATUS_EXTP_PEND ||
        (decide (0x381048 ≤ f.addr) && decide (f.addr < 0x381060) && f.keep == .S)
    else if k = 0x4B then pcie && (f.keep == .I || f.keep == .V)
    else f.keep == .S || f.keep == .I || f.keep == .V
  | none => false

/-- Every island but AON and the Steward is reset, and nothing of the image's records stays (R59); local memories keep their contents. -/
def dropAttempt (pcie : Bool) (s : State) : State :=
  let e := s.evlog
  let b := s.boot
  dropFields (attemptField pcie)
    { s with tk := {}, can := {}, eth := {}, joint := {}, safety := {}, intake := {}, fab := {}, mc := {}, prb := {}, shp := {}, msync := {},
             drv := {}, gl := {}, img := {}, evlog := { queue := e.queue, foldFirst := e.foldFirst, foldLast := e.foldLast },
             boot := { candidates := b.candidates, startMono := b.startMono, logged := b.logged, attemptAt := b.attemptAt } }

/-- BOOT_FAIL's field of a slot, and its record of a failure (R56). -/
def failField (c : Nat) : Field := if c = 0 then BOOT_FAIL_A_CODE else if c = 1 then BOOT_FAIL_B_CODE else BOOT_FAIL_HOST_CODE

/-- RECOVERY (R68). -/
def enterRecovery (s : State) : State :=
  let b := s.boot
  safeLevels ({ s with boot := { b with attempt := none, candidates := [], hostWait := false } }.wr BOOT_STATUS_PHASE 0xF)

/-- What the flash port of a slot is switched to by the header (R43, R48). DESIGN CHOICE (log 119): FLASH_CFG's ranges are judged by no check of R56; a
dummy count below 4 or a clock code above 2 is taken as it stands, in the width of the register's field. -/
def portConfig (c : Nat) (h : Bytes) (s : State) : State :=
  if c = 0 then s.wrs [(NVA_CFG_OPC, u16 h 0x40), (NVA_CFG_DUMMY, u8 h 0x42), (NVA_CFG_CLK, u8 h 0x43 + 1)]
  else if c = 1 then s.wrs [(NVB_CFG_OPC, u16 h 0x40), (NVB_CFG_DUMMY, u8 h 0x42), (NVB_CFG_CLK, u8 h 0x43 + 1)] else s

/-- An attempt begins: a trial image spends a TRIES bit, the header is read, the port is switched (R59). -/
def startAttempt (c : Nat) (s : State) : State :=
  let s := if c < 2 ∧ !slotConfirmed s c then clearTry c s else s
  let h := headerOf s c
  let b := s.boot
  (portConfig c h { s with boot := { b with attempt := some c, header := h, retries := 0, hostWait := false, refclkWait := false } }).wr
    BOOT_STATUS_PHASE 2

/-- The watchdog's limit of an attempt counts from now (R65). -/
def beginWatch (s : State) : State :=
  let b := s.boot
  { s with boot := { b with attemptAt := s.mono, holdAt := none } }

/-- The watchdog is suspended from now on, and goes on (R66, R82). -/
def holdWatch (s : State) : State :=
  let b := s.boot
  { s with boot := { b with holdAt := some s.mono } }
def resumeWatch (s : State) : State :=
  let b := s.boot
  match b.holdAt with
  | some t => { s with boot := { b with attemptAt := b.attemptAt + (s.mono - t), holdAt := none } }
  | none => s

/-- The next candidate, or RECOVERY (R59). -/
def tryNext (s : State) : State :=
  match s.boot.candidates with
  | [] => enterRecovery s
  | c :: l =>
    let b := s.boot
    startAttempt c (beginWatch { s with boot := { b with candidates := l } })

/-- An attempt fails (R56, R59, R729). -/
def failAttempt (code : Nat) (s : State) : State :=
  match s.boot.attempt with
  | none => s
  | some c =>
    let s := s.wr (failField c) code
    if c = 2 then enterRecovery (dropAttempt false s)
    else
      let s := if 0x09 ≤ code ∧ code ≤ 0x0D then programReject c s else s
      tryNext (dropAttempt (s.boot.candidates != []) (s.set BOOT_STATUS_FALLBACK))

/-- The device loads: out of reset, not sealed, no drain begun. -/
def loading (s : State) : Bool :=
  !s.railsOff && s.power.resetNow.isNone && !s.rdb BOOT_STATUS_SEALED && s.rd LIV_STATUS_STATE == 0

/-! ### Slot selection (R59) -/

/-- The code of checks 1 to 9 of a slot. -/
def slotCode (s : State) (c : Nat) (answers : Bool) : Nat :=
  if !answers then 0x01 else headerCheck s c (headerOf s c) true (imageRoom s c)

/-- Candidates by GEN, highest first, slot A first among equals. -/
def orderSlots (s : State) (l : List Nat) : List Nat :=
  match l with
  | [0, 1] => if imageGen (headerOf s 0) < imageGen (headerOf s 1) then [1, 0] else [0, 1]
  | _ => l

/-- The slots are checked, and the first candidate is attempted. -/
def selectSlots (a b : Bool) (s : State) : State :=
  let codes := [(0, slotCode s 0 a), (1, slotCode s 1 b)]
  let s := codes.foldl (fun (t : State) e => if e.2 = 0 then t else t.wr (failField e.1) e.2) s
  let s := (if b then showTries 1 else id) ((if a then showTries 0 else id) s)
  let o := s.boot
  tryNext { s with boot := { o with candidates := orderSlots s ((codes.filter (·.2 == 0)).map (·.1)) } }

/-- The Steward posts the RESET record of this start (R140). -/
def postReset (s : State) : State :=
  if s.boot.logged then s
  else
    let b := s.boot
    post 0x1002 0x01 [storedWord s (RST_LAST_DONE).addr, storedWord s (RST_CAUSE_COLD).addr] { s with boot := { b with logged := true } }

/-- The path of BOOTMODE is taken (R45, R68, R729): for the flash paths the slots are looked at, in PHASE 0x1 (R63). -/
def takePath (s : State) : State :=
  let s := postReset s
  if s.straps.bootmode = 3 then enterRecovery s
  else if s.straps.bootmode = 2 then
    if s.straps.hostlink then
      let o := s.boot
      { s with boot := { o with hostWait := true } }.wr BOOT_STATUS_PHASE 1
    else enterRecovery (s.wr BOOT_FAIL_HOST_CODE 0x01)
  else s.wr BOOT_STATUS_PHASE 1

/-- SLOT_SELECTION: in PHASE 0x0 the ROM has started and the path of BOOTMODE is taken, none with TESTMODE sampled 1 (R785); in PHASE 0x1 the state
sectors and headers have been read, and R59 is performed; `a` and `b` tell that the flash answers. -/
def execSlotSelection (a b : Bool) (s : State) : Out :=
  .next (if !loading s ∨ s.straps.testmode then s
  else if s.rd BOOT_STATUS_PHASE = 0 then takePath s
  else if s.rd BOOT_STATUS_PHASE = 1 ∧ !s.boot.hostWait then selectSlots a b s
  else s)

/-- FLASH_READ_TIMEOUT: the flash read at address `a` is retried three times, and then the slot fails (R56). -/
def execFlashReadTimeout (s : State) (a : Nat := 0) : Out :=
  .next (match s.boot.attempt with
  | some c =>
    let n := if s.boot.retryAt = a then s.boot.retries else 0
    if !loading s ∨ 1 < c ∨ (s.rd BOOT_STATUS_PHASE ≠ 2 ∧ s.rd BOOT_STATUS_PHASE ≠ 4) then s
    else if n < 3 then
      let b := s.boot
      { s with boot := { b with retries := n + 1, retryAt := a } }.inc (if c = 0 then NVA_RETRY_COUNT else NVB_RETRY_COUNT)
    else failAttempt 0x0E s
  | none => s)

/-! ### Prefix (R56, R58, R82) -/

/-- PLAT is applied and the remainder streams; memory that does not train fails the attempt (R287). -/
def finishPlat (s : State) : State :=
  let b := s.boot
  let s := resumeWatch { s with boot := { b with refclkWait := false, retries := 0 } }
  match b.attempt with
  | none => s
  | some c =>
    if b.trained then (applyPlat (platPayload s c) (setPower (fun p => { p with dramReset := true }) s)).wr BOOT_STATUS_PHASE 4
    else failAttempt 0x0F s

/-- PREFIX_VERIFIED: PSIG and the FW signature are checked, and PLAT is applied once REFCLK is valid (R58, R82); `trained` tells that
every memory channel trains. -/
def execPrefixVerified (trained : Bool) (s : State) : Out :=
  .next (match s.boot.attempt with
  | some c =>
    if !loading s ∨ s.rd BOOT_STATUS_PHASE ≠ 2 then s
    else if !psigOk s c s.boot.header then failAttempt 0x09 s
    else if !fwOk s (fwPayload s c) then failAttempt 0x0A s
    else
      let b := s.boot
      let s := { s with boot := { b with trained := trained } }.wr BOOT_STATUS_PHASE 3
      if refclkValid s then finishPlat s
      else
        let b := s.boot
        holdWatch (post 0x3003 0x01 [storedWord s (CLK_CAUSE_STOP).addr] { s with boot := { b with refclkWait := true } })
  | none => s)

/-! ### Image (R54 to R58, R61, R66) -/

/-- The current attempt starts again from its header read (R83). The header of a host image is checked as at its start (R729), and its link stays.
DESIGN CHOICE (log 120): the attempt of a trial image is the same one, and spends no further TRIES bit. DESIGN CHOICE (log 121): where no attempt is
current (slot selection, the wait for HOSTGO, RECOVERY) an island request has nothing to restart; it does nothing, and shows neither BUSY nor DENIED. -/
def restartAttempt (s : State) : State :=
  match s.boot.attempt with
  | none => s
  | some c =>
    let master := s.hl.busMaster
    let s := dropAttempt (c != 2) s
    let h := headerOf s c
    let b := s.boot
    let s := (portConfig c h { s with boot := { b with attempt := some c, header := h } }).wr BOOT_STATUS_PHASE 2
    if c = 2 then
      let code := if !master ∨ !linkUp s then 0x01 else headerCheck s 2 h false (imageRoom s 2)
      if code = 0 then s else failAttempt code s
    else s

/-- Apply goes on up to a poll, a delay, or a reset that a REG entry asks for (R53, R83). -/
def continueApply (s : State) : State :=
  let s := continueTodo applyRecord s
  let b := s.boot
  let t := { s with boot := { b with asked := none } }
  match b.asked with
  | none => t
  | some c => if c = 3 then requestReset 3 t else restartAttempt t

/-- The image is well formed and its records begin to take effect (R52); a confirmed image raises the anti-rollback counter first (R61). -/
def beginApply (s : State) : State :=
  match s.boot.attempt with
  | none => s
  | some c =>
    let h := s.boot.header
    let l := s.boot.records
    if !imageWellFormed s c h l then failAttempt 0x0D s
    else
      let s := if rollbackAdvance h ∧ (c = 2 ∨ slotConfirmed s c) then raiseArb (imageArb h) none s else s
      let s := withDefaults l (s.wr BOOT_STATUS_PHASE 6)
      let b := s.boot
      continueApply { s with boot := { b with todo := applyOrder l, regPos := 0 } }

/-- IMAGE_VERIFIED: the remainder has streamed, the digest and the signature are checked, and apply begins or waits for the host. -/
def execImageVerified (s : State) : Out :=
  .next (match s.boot.attempt with
  | some c =>
    if !loading s ∨ s.rd BOOT_STATUS_PHASE ≠ 4 then s
    else
      let h := s.boot.header
      let s := streamIn (streamedRecords s c (imageLen h - 256) (recordCount h) 0x200) s
      match imageRecords s c h with
      | none => failAttempt 0x0B s
      | some l =>
        let b := s.boot
        let s := { s with boot := { b with records := l, retries := 0 } }.wr BOOT_STATUS_PHASE 5
        if !imageSigned s c s.boot.header then failAttempt 0x0C s
        else if s.straps.bootmode = 1 ∧ c < 2 then holdWatch (s.wr BOOT_STATUS_PHASE 0xE)
        else beginApply s
  | none => s)

/-- The poll that apply waits at: its entry, once it has polled for 1 ms (R53). -/
def pollExpired (s : State) : Option Bytes :=
  match s.boot.pollSince, s.boot.todo with
  | some t, r :: _ => if t + 1000000 ≤ s.mono then some (slice r.payload (16 * s.boot.regPos) 16) else none
  | _, _ => none

/-- REG_POLL_TIMEOUT: the poll that apply waits at is not satisfied within 1 ms (R53). -/
def execRegPollTimeout (s : State) : Out :=
  .next (if !loading s ∨ s.rd BOOT_STATUS_PHASE ≠ 6 then s
  else match pollExpired s with
    | none => s
    | some e =>
      let r := pollEntry e s
      if r.1 then r.2 else failAttempt 0x0F r.2)

/-! ### Seal (R70, R94 to R97) -/

/-- The pages of an OWN entry take its owner and delegates; pages 8 to 15 are left alone (R97). -/
def ownPages (e : Bytes) (s : State) : State :=
  ((List.range (u16 e 2)).map (u16 e 0 + ·)).foldl (fun (t : State) p =>
    if 8 ≤ p ∧ p < 16 then t
    else t.wrs [(PAGE_OWN_OWNER p, u16 e 4), (PAGE_OWN_HOST p, u16 e 6), (PAGE_OWN_CMDL0 p, u16 e 6 / 2), (PAGE_OWN_STEWARD p, u16 e 6 / 4),
      (PAGE_OWN_SAFETY p, u16 e 6 / 8), (PAGE_OWN_READALL p, u16 e 6 / 16)]) s

/-- Every page is owned by IMAGE, with no delegates (R70, R95). -/
def clearOwners (s : State) : State := dropFields (fun f => decide (0x8000 ≤ f.addr) && decide (f.addr < 0x10000)) s

/-- The page owners of the image's OWN record; pages it does not name are owned by IMAGE (R70). -/
def applyOwn (l : List Record) (s : State) : State :=
  (l.filter (·.type == 3)).foldl (fun t r => (ownEntries r.payload).foldl (fun t e => ownPages e t) t) (clearOwners s)

/-- What the registers show of the running image (2.15). -/
def showImage (c : Nat) (h : Bytes) (confirmed : Bool) (s : State) : State :=
  (((s.wrPair BOOT_GEN_LO_GEN BOOT_GEN_HI_GEN (imageGen h)).wrPair BOOT_ARB_LO_ARB BOOT_ARB_HI_ARB (imageArb h)).wrs
    [(BOOT_BOUND_NS, u32 h 0x30), (BOOT_STATUS_SLOT, c + 1), (BOOT_STATUS_TRIAL, ofBool (!confirmed)), (BOOT_STATUS_SEALED, 1)])

/-- What the header says of the run: DET_DEFAULT, ARM_CYCLES, CONFIRM_AUTO, CONFIRM_CYCLES; and the records kept for re-apply (R73). -/
def keepImage (h : Bytes) (l : List Record) (s : State) : State :=
  let i := s.img
  { s with img := { i with reapply := l.filter (fun r => bit r.flags 2), detDefault := bit (imageFlags h) 6, armCycles := u16 h 0x34,
                           confirmAuto := bit (imageFlags h) 5, confirmCycles := u32 h 0x38 } }

/-- The PTP ports that the image enables listen: portState LISTENING (R80). -/
def listenPorts (s : State) : State :=
  if s.rd PTP_CFG_MODE = 0 then s
  else ((List.range 4).filter fun n => bit (s.rd PTP_CFG_PORT_EN) n).foldl (fun (t : State) n => t.wr (PTP_PORT_STATE n) 4) s

/-- The blocks as the seal leaves them for the first rotation (R80, R174, R658, 9.9). -/
def readyBlocks (s : State) : State :=
  let c := s.can
  bootScripts (listenPorts (pinStreams (seedTime { s with can := { c with peers := pinnedPeers s } })))

/-- The seal, and the wait for the first rotation, closed by the PTP gate where the image asks for it (R67, R70). -/
def sealImage (c : Nat) (s : State) : State :=
  let h := s.boot.header
  let l := s.boot.records
  let confirmed := c == 2 || slotConfirmed s c
  let s := keepImage h l (showImage c h confirmed (applyOwn l (s.wr BOOT_STATUS_PHASE 7)))
  let b := s.boot
  let gate := if startGatePtp h then some s.mono else none
  let s := { s with boot := { b with confirmed := confirmed, cleanConfirm := 0, timed := false, ptpGate := gate } }
  holdBarrier ((readyBlocks s).wr BOOT_STATUS_PHASE 8)

/-- SEAL: what is left to apply is applied; when no poll and no delay holds it up and no OTP program is under way, the seal is performed. -/
def execSeal (s : State) : Out :=
  .next (match s.boot.attempt with
  | some c =>
    if !loading s ∨ s.rd BOOT_STATUS_PHASE ≠ 6 ∨ s.mono < s.boot.waitTo then s
    else
      let s := continueApply s
      if loading s ∧ s.rd BOOT_STATUS_PHASE = 6 ∧ s.boot.todo.isEmpty ∧ s.secu.progs.isEmpty then sealImage c s else s
  | none => s)

/-! ### BOOT_CTL (R60 to R62, R66, R69, R729) -/

/-- A host image is read: Bus Master and the link first, then the header's checks (R729). -/
def startHostImage (s : State) : State :=
  let b := s.boot
  let s := { s with boot := { b with hostWait := false, candidates := [] } }
  let h := headerOf s 2
  let code := if !s.hl.busMaster ∨ !linkUp s then 0x01 else headerCheck s 2 h false (imageRoom s 2)
  if code = 0 then startAttempt 2 (beginWatch s) else enterRecovery (s.wr BOOT_FAIL_HOST_CODE code)

/-- HOSTGO: releases the host hold, or starts a host-delivered image; `master` tells the endpoint's Bus Master enable. -/
def execHostgo (w : Writer) (master : Bool) (s : State) : Out :=
  .next (guarded w 0x380020 (fun s =>
    let l := s.hl
    let s := { s with hl := { l with busMaster := master } }
    if !loading s then s
    else if s.rd BOOT_STATUS_PHASE = 0xE then beginApply (resumeWatch s)
    else if s.boot.hostWait then startHostImage s else s) s)

/-- The running image is confirmed: the counter first, then the CONFIRM word (R61, R756). -/
def confirmImage (s : State) : State :=
  let b := s.boot
  match b.attempt with
  | none => s
  | some c =>
    let s := { s with boot := { b with confirmed := true } }.wrs [(BOOT_STATUS_TRIAL, 0), (if c = 0 then BOOT_TRIES_A_LEFT else BOOT_TRIES_B_LEFT, 0xF)]
    if rollbackAdvance b.header then raiseArb (imageArb b.header) (some c) s else programConfirm c s

/-- A trial image runs, and may be confirmed. -/
def onTrial (s : State) : Bool := s.rdb BOOT_STATUS_SEALED && !s.boot.confirmed && s.rd LIV_STATUS_STATE == 0 && !s.railsOff

/-- CONFIRM: by the host or a command list of tenant 0 (R60); no effect on a confirmed image (R62). -/
def execConfirm (w : Writer) (s : State) : Out :=
  .next (guarded w 0x380020 (fun s => if onTrial s ∧ (isHost w.master ∨ w.master = 0) then confirmImage s else s) s)

/-- AUTO_CONFIRM: CONFIRM_CYCLES clean major cycles in a row (R60). -/
def execAutoConfirm (s : State) : Out :=
  .next (if onTrial s ∧ s.img.confirmAuto ∧ s.img.confirmCycles ≤ s.boot.cleanConfirm then confirmImage s else s)

/-- RETRY: in RECOVERY, slot selection runs again, or the host delivers an image where HL_IMG_LEN is not 0 (R69, R729). -/
def execRetry (w : Writer) (s : State) : Out :=
  .next (guarded w 0x380020 (fun s =>
    if !loading s ∨ s.rd BOOT_STATUS_PHASE ≠ 0xF then s
    else if s.rdPair HL_IMG_LEN_LO HL_IMG_LEN_HI ≠ 0 then
      let b := s.boot
      { s with boot := { b with hostWait := true } }.wr BOOT_STATUS_PHASE 1
    else s.wr BOOT_STATUS_PHASE 1) s)

/-- PTP_GATE_TIMEOUT: PTP_WAIT_MS pass without lock, and the rotation may start in holdover (R67). -/
def execPtpGateTimeout (s : State) : Out :=
  .next (match s.boot.ptpGate with
  | some t =>
    if s.rd TK_STATUS_SERVO = 2 ∨ s.mono < t + u16 s.boot.header 0x36 * 1000000 then s
    else
      let b := s.boot
      post 0x1005 0x01 [] { s with boot := { b with ptpGate := none } }
  | none => s)

/-! ### External payloads (R76 to R79) -/

/-- EXTP_CTL: the index, and GO, which hashes a declared payload that is not verified. -/
def execExtpGo (w : Writer) (v : Nat) (s : State) : Out :=
  .next (guarded w 0x380044 (fun s =>
    let s := s.wr EXTP_CTL_INDEX v
    let i := s.rd EXTP_CTL_INDEX
    if !bit v 8 ∨ s.rdb EXTP_STATUS_HASHING ∨ !s.rdb BOOT_STATUS_SEALED ∨ s.img.extp.length ≤ i ∨ s.boot.verified.contains i then s
    else
      let b := s.boot
      { s with boot := { b with hashing := some i } }.set EXTP_STATUS_HASHING) s)

/-- A payload is visible: to the Gleaner as an index of its slot, to be checked (R77, R547). -/
def payloadVerified (i : Nat) (r : Record) (s : State) : State :=
  let b := s.boot
  let s := { s with boot := { b with verified := b.verified ++ [i] } }.wr EXTP_STATUS_VERIFIED (s.rd EXTP_STATUS_VERIFIED + 1)
  let s := s.wr BOOT_STATUS_EXTP_PEND (ofBool (s.rd EXTP_STATUS_VERIFIED != s.rd EXTP_STATUS_DECLARED))
  let x := u64 r.payload 56
  if x = 1 ∨ x = 2 then loadSlot x s else s

/-- EXTP_HASH_DONE: the hash ends (R77, R78). -/
def execExtpHashDone (s : State) : Out :=
  .next (match s.boot.hashing with
  | none => s
  | some i =>
    let b := s.boot
    let s := { s with boot := { b with hashing := none } }.clr EXTP_STATUS_HASHING
    match s.img.extp[i]? with
    | none => s
    | some r =>
      if sha384 (s.ld r.dest (u64 r.payload 48)) = slice r.payload 0 48 then payloadVerified i r s
      else post 0x1004 0x01 [i] (s.inc EXTP_STATUS_FAILED))

/-! ### Link resets (R727) -/

/-- The device reads a host image. -/
def readsHostImage (s : State) : Bool :=
  s.boot.attempt == some 2 && (s.rd BOOT_STATUS_PHASE == 2 || s.rd BOOT_STATUS_PHASE == 3 || s.rd BOOT_STATUS_PHASE == 4)

/-- LNK_RESET: hot reset (0), FLR (1), PERST# (2) or a surprise down (3) resets the endpoint, and nothing else (R727). -/
def execLnkReset (kind : Nat) (s : State) : Out :=
  .next (let s := if kind = 2 then setPerst true s else s
    if s.railsOff ∨ !s.straps.hostlink then s
    else if s.power.resetNow.isSome then recordCause 5 s
    else
      let req := requestedWith s ||| 2 ^ 5
      let s := if kind = 3 then s.inc HL_LNKCNT_SURPRISE else s
      let s := linkPassed (setPower (fun p => { p with lnkAt := some s.mono }) s)
      let s := s.wrs [(RST_LAST_DONE, if s.clocks.islBusy = [] then 5 else 4), (RST_LAST_REQ, req)]
      if readsHostImage s then failAttempt 0x01 s else s)

/-! ### Flash updates (R730 to R732) -/

/-- The slot and range of an update overlap the event log. -/
def overlapsLog (s : State) (c len : Nat) : Bool :=
  logApplied s && logPort s == c && decide (sectorAt s 0 < 0x10000 + len)

/-- The refusal of an update: 0 where it may begin (R731). -/
def updateCode (s : State) (c len : Nat) : Nat :=
  if s.rd BOOT_STATUS_SLOT = c + 1 then 0x20
  else if overlapsLog s c len then 0x21
  else if 2 ^ 32 - 2 ^ 16 < len then 0x22
  else if draining s then 0x23 else 0

def failUpdate (code : Nat) (s : State) : State := s.wrs [(HL_UPD_STAT_STATE, 5), (HL_UPD_STAT_CODE, code)]

/-- FLASH_UPDATE: HL_UPD_CTL with GO and the key starts an update, or refuses it; ignored while one runs. -/
def execFlashUpdate (w : Writer) (v : Nat) (s : State) : Out :=
  .next (guarded w 0x371030 (fun s =>
    let s := s.wr HL_UPD_CTL_SLOT v
    let st := s.rd HL_UPD_STAT_STATE
    let c := s.rd HL_UPD_CTL_SLOT
    let len := s.rdPair HL_UPD_LEN_LO HL_UPD_LEN_HI
    if !bit v 8 ∨ bits v 16 8 ≠ 0x3C ∨ !s.rdb BOOT_STATUS_SEALED ∨ (1 ≤ st ∧ st ≤ 3) then s
    else if updateCode s c len ≠ 0 then failUpdate (updateCode s c len) s
    else
      let l := s.hl
      { s with hl := { l with updAddr := s.rdPair HL_UPD_ADDR_LO HL_UPD_ADDR_HI, updLen := len, updSlot := c } }.wrs
        [(HL_UPD_STAT_STATE, 1), (HL_UPD_STAT_CODE, 0), (HL_UPD_STAT_PROGRESS, 0)]) s)

/-- ERASE: the state sector, then every sector up to the end of the image. -/
def eraseSlot (c len : Nat) (s : State) : State :=
  let stop := ceilDiv (0x10000 + len) 4096 * 4096
  if c = 0 then { s with flashA := s.flashA.keep fun a => decide (stop ≤ a) } else { s with flashB := s.flashB.keep fun a => decide (stop ≤ a) }

/-- VERIFY: the code of the first check that fails on the flash copy; 0 when all pass (R730). -/
def verifyCode (s : State) (c : Nat) : Nat :=
  let h := headerOf s c
  let code := headerCheck s c h false (imageRoom s c)
  if code ≠ 0 then code
  else if !psigOk s c h then 0x09
  else if !fwOk s (fwPayload s c) then 0x0A
  else if !imageSigned s c h then 0x0C
  else match imageRecords s c h with
    | some l => if recordParts s c h l then 0 else 0x0D
    | none => 0x0D

/-- DONE: GENCOPY takes the header's GEN. -/
def finishUpdate (c : Nat) (s : State) : State :=
  (s.progFlash c 0 (leBytes 8 (imageGen (headerOf s c)))).wrs [(HL_UPD_STAT_STATE, 4), (HL_UPD_STAT_PROGRESS, 0xFFFF)]

/-- UPDATE_STEP_DONE: a step of the update ends; `ok` tells whether its host reads succeeded (R730, R731). -/
def execUpdateStepDone (ok : Bool) (s : State) : Out :=
  .next (let l := s.hl
    let st := s.rd HL_UPD_STAT_STATE
    if st = 1 then (eraseSlot l.updSlot l.updLen s).wr HL_UPD_STAT_STATE 2
    else if st = 2 then
      if draining s then failUpdate 0x23 s
      else if ok ∧ linkUp s then (s.progFlash l.updSlot 0x10000 (s.ldHost l.updAddr l.updLen)).wr HL_UPD_STAT_STATE 3 else failUpdate 0x23 s
    else if st = 3 then
      let code := if draining s then 0x23 else verifyCode s l.updSlot
      if code = 0 then finishUpdate l.updSlot s else failUpdate code s
    else s)

end Sys2Proof.Machine
end

