-- ==== Sys2Proof/Machine/Clocks.lean ====
section
/-! DEFINITION. The REFCLK monitor, its losses and recoveries, the AON crystal, island clock faults and DVFS (chapter 4). -/

namespace Sys2Proof.Machine
open Reg

/-! ### The monitor (R121 to R127) -/

/-- The monitor runs: VCORE is present and the device is not in FOLD (R116, 4.8). -/
def monitorRuns (s : State) : Bool := !s.railsOff && s.power.resetNow != some 0

/-- Good gates in a row; the register shows at most 63 of them. -/
def setGood (n : Nat) (s : State) : State :=
  let c := s.clocks
  { s with clocks := { c with good := n } }.wr CLK_STATUS_GOODGATES (min n 63)

/-- A switch under way is abandoned (R127): the island stays on the PLL it uses, at that FCODE's voltage, and the idle PLL is not locked. -/
def abandonSwitch (s : State) (c : Nat) : State :=
  let k := columnIsland c
  let f := s.rd (CLK_ISL_CUR k)
  setVolt k (voltPoint k f) (s.wr (CLK_ISL_TGT k) f)

/-- Every switch under way is abandoned. -/
def abandonDvfs (s : State) : State :=
  let c := s.clocks
  (List.range 13).foldl abandonSwitch { s with clocks := { c with idlePll := [] } }

/-- Entry to LOST with its cause (R125, R127). DRAM goes to self-refresh at once where nothing runs. The record is posted when the gate ends. -/
def enterLost (cause : Field) (s : State) : State :=
  let s := setGood 0 ((s.wr CLK_STATUS_REFMON 2).set cause)
  let c := s.clocks
  let s := { s with clocks := { c with lost := true, unposted := true, lostAt := s.mono, relocking := true } }
  let s := dropLinks (dropServo (abandonDvfs s))
  let s := stopRotation s
  restMemory (if s.rdb CLK_CFG_LOSS_SAFE then loopReaction s else s)

/-- A fault of REFCLK outside a gate's end: it moves VALID to LOST, joins a LOST, or starts the count of good gates again. -/
def monitorFault (cause : Field) (s : State) : State :=
  let st := s.rd CLK_STATUS_REFMON
  if st = 1 then enterLost cause s else if st = 2 then s.set cause else setGood 0 s

/-- The monitor turns VALID: a start held at PLAT goes on (R82); from REQUAL the PLLs relock when RESUME is set (R126). -/
def turnValid (fromRequal : Bool) (s : State) : State :=
  let s := setGood 0 (s.wr CLK_STATUS_REFMON 1)
  let s := if fromRequal && s.rdb CLK_CFG_RESUME then
      let c := s.clocks
      { s with clocks := { c with relocking := true } }
    else s
  if s.boot.refclkWait ∧ loading s then finishPlat s else s

/-- The number of good gates that qualify REFCLK (R123). -/
def gatesNeeded (s : State) : Nat := if s.rd CLK_STATUS_REFMON = 0 then 2 else s.rd CLK_CFG_REQUAL_GATES

/-- The record of a LOST, with every cause seen in its gate (4.8). -/
def postLost (s : State) : State :=
  if !s.clocks.unposted then s
  else
    let c := s.clocks
    post 0x3001 0x01 [storedWord s (CLK_CAUSE_STOP).addr] { s with clocks := { c with unposted := false } }

/-- REFCLK_GATE_END: a gate of 1 ms ends with its count; `stop` tells that a stop is in force (R121, R123). -/
def execRefclkGateEnd (count : Nat) (stop : Bool) (s : State) : Out :=
  .next (if !monitorRuns s then s
  else
    let s := s.wr REFMON_DEV_COUNT_DELTA (unsigned 16 ((count : Int) - 25000))
    let inside := decide (24987 < count) && decide (count < 25013)
    let good := inside && !s.clocks.glitchNow && !s.clocks.stopNow && !stop
    let st := s.rd CLK_STATUS_REFMON
    let s :=
      if st = 1 then (if inside then s else enterLost CLK_CAUSE_RATE s)
      else if st = 2 then
        let s := if inside then s else s.set CLK_CAUSE_RATE
        if 0 < count ∧ !stop then setGood 0 (s.wr CLK_STATUS_REFMON 3) else s
      else if !good then setGood 0 s
      else if gatesNeeded s ≤ s.clocks.good + 1 then turnValid (st == 3) s
      else setGood (s.clocks.good + 1) s
    let s := postLost s
    let c := s.clocks
    { s with clocks := { c with glitchPrev := c.glitchNow, glitchNow := false, stopNow := stop } })

/-- REFCLK_GLITCH: one glitch is counted; a second in the same or the next gate moves VALID to LOST (R122, R123). -/
def execRefclkGlitch (s : State) : Out :=
  .next (if !monitorRuns s then s
  else
    let twice := s.clocks.glitchNow || s.clocks.glitchPrev
    let s := s.inc REFMON_GLITCH_COUNT
    let st := s.rd CLK_STATUS_REFMON
    let s :=
      if st = 1 ∧ !twice then post 0x3002 0x01 [storedWord s (CLK_CAUSE_STOP).addr] s
      else if st = 2 ∧ !twice then s
      else monitorFault CLK_CAUSE_GLITCH s
    let c := s.clocks
    { s with clocks := { c with glitchNow := true } })

/-- REFCLK_STOP: no rising edge for 120 ns (R122). -/
def execRefclkStop (s : State) : Out :=
  .next (if !monitorRuns s then s
  else
    let s := monitorFault CLK_CAUSE_STOP s
    let c := s.clocks
    { s with clocks := { c with stopNow := true } })

/-- LOST_CUTOFF: 500 µs after LOST the commands that still run are cut off, and DRAM is in self-refresh (R125); before that, once nothing runs. -/
def execLostCutoff (s : State) : Out :=
  .next (if !s.clocks.lost then s
  else if s.mono < s.clocks.lostAt + 500000 then restMemory s
  else setDram 3 (rerunSteps (fun _ => true) (abortFlights (fun f => f.unit < 13 && f.stop == 0) s)))

/-- PLL_LOCK: the PLLs have relocked: to BOSC after LOST, or to REFCLK, after which the device runs again (R125, R126). -/
def execPllLock (s : State) : Out :=
  .next (if !s.clocks.relocking then s
  else
    let c := s.clocks
    if s.rd CLK_STATUS_REFMON = 1 ∧ s.rdb CLK_CFG_RESUME then
      setDram 2 { s with clocks := { c with relocking := false, onBosc := false, lost := false } }
    else { s with clocks := { c with relocking := false, onBosc := true } })

/-! ### The AON crystal (R115, R116) -/

/-- XTAL_FAIL: no edge for 2 ms: the clock runs from the RC oscillator. -/
def execXtalFail (s : State) : Out :=
  .next (if !s.power.vaon then s
  else
    let c := s.clocks
    { s with clocks := { c with rcClock := true } }.set CLK_STATUS_XTAL_FAIL)

/-- XTAL_RESTORE: after 1 s of continuous edges the clock returns to the crystal; XTAL_FAIL stays. -/
def execXtalRestore (s : State) : Out :=
  .next (let c := s.clocks
    { s with clocks := { c with rcClock := false } })

/-- BOSC_TRIM: BOSC is trimmed against the crystal, unless XTAL_FAIL holds the last trim. -/
def execBoscTrim (trim : Nat) (s : State) : Out :=
  .next (if s.railsOff ∨ s.clocks.rcClock ∨ s.rdb CLK_STATUS_XTAL_FAIL then s
  else
    let c := s.clocks
    { s with clocks := { c with boscTrim := trim } })

/-! ### Island clock faults (R120) -/

/-- The bit of an island in CLK_ISLFAULT is set. -/
def showIslandFault (k : Nat) (s : State) : State :=
  if k < 32 then s.wr CLK_ISLFAULT_LO_ISL (setBit (s.rd CLK_ISLFAULT_LO_ISL) k true)
  else if k < 64 then s.wr CLK_ISLFAULT_HI_ISL (setBit (s.rd CLK_ISLFAULT_HI_ISL) (k - 32) true)
  else s.wr CLK_ISLFAULT_X_ISL (setBit (s.rd CLK_ISLFAULT_X_ISL) (k - 64) true)

/-- A command in flight runs on the island. -/
def flightOn (k : Nat) (f : Flight) : Bool :=
  if k = 4 then true
  else if k = 0x48 then cmdClass f.cmd == 5 && cmdOpc f.cmd == 0x10
  else if k = 0x49 then cmdClass f.cmd == 5 && cmdOpc f.cmd != 0x10
  else f.unit < 13 && columnIsland f.unit == k

/-- An island's clock stops: its commands complete ABORTED, its bit is set, and its node fences it (R120, R338). -/
def stopIsland (k : Nat) (s : State) : State :=
  let c := s.clocks
  let s := showIslandFault k { s with clocks := { c with stopped := if k ∈ c.stopped then c.stopped else c.stopped ++ [k] } }
  let s := endMaint (fun m => decide (m.col < 13) && columnIsland m.col == k && m.running) s
  let s := rerunSteps (fun e => columnIsland e == k) (abortFlights (flightOn k) s)
  match islandPid s k with
  | some p => fenceTarget p 2 s
  | none => s

/-- ISLAND_CLOCK_FAULT: a PLL loses lock while the monitor reports VALID. -/
def execIslandClockFault (k : Nat) (s : State) : Out :=
  .next (if !monitorRuns s ∨ s.rd CLK_STATUS_REFMON ≠ 1 ∨ s.clocks.lost ∨ k = 0 ∨ !islandExists s k then s
  else raiseFault 0x01 k (stopIsland k s))

/-! ### DVFS (R118, R127) -/

/-- The island of a column is at a command boundary. -/
def atBoundary (s : State) (c : Nat) : Bool := !s.drv.flights.any fun f => f.unit == c && f.stop == 0

/-- An FCODE that a column may run at (R117). -/
def fcodeOk (s : State) (c f : Nat) : Bool := decide (lowestOf s c ≤ f) && decide (f ≤ nominalFcode (columnIsland c))

/-- What precedes a switch to FCODE `f`: an engine's idle PLL is locked to it, and a voltage that has to rise rises (R118, R119). -/
def prepareSwitch (c f : Nat) (s : State) : State :=
  let k := columnIsland c
  let v := s.clocks
  let s := if c < 8 then { s with clocks := { v with idlePll := v.idlePll.insert k f } } else s
  if islandVolt s k < voltPoint k f then setVolt k (voltPoint k f) s else s

/-- The switch: the FCODE first, then a voltage that may fall (R119); an engine runs on its other PLL, and the one it leaves is idle (R118). -/
def performSwitch (c f : Nat) (s : State) : State :=
  let k := columnIsland c
  let old := s.rd (CLK_ISL_CUR k)
  let s := s.wr (CLK_ISL_CUR k) f
  let v := s.clocks
  let s := if c < 8 then
      { s with clocks := { v with idlePll := v.idlePll.insert k old } }.wr (CLK_ISL_ONALT k) (1 - s.rd (CLK_ISL_ONALT k))
    else s
  setVolt k (voltPoint k f) s

/-- The island of a column switches to the FCODE asked for at a command boundary; while a command runs it is only made ready
(R117 to R119). A request while the monitor is not VALID is turned away (R127). -/
def switchColumn (c : Nat) (s : State) : State :=
  let f := tgtOf s c
  if f = s.rd (CLK_ISL_CUR (columnIsland c)) ∨ !fcodeOk s c f ∨ !islandRuns s (columnIsland c) then s
  else
    let s := prepareSwitch c f s
    if atBoundary s c then performSwitch c f s else s

/-- DVFS_SWITCH: island `k` switches to the FCODE asked for (R118). -/
def execDvfsSwitch (k : Nat) (s : State) : Out :=
  .next (if !monitorRuns s ∨ s.rd CLK_STATUS_REFMON ≠ 1 then s
  else match (regulators s).find? fun c => columnIsland c == k with
    | some c => switchColumn c s
    | none => s)

/-! ### The end of a maintenance request (R298, R614 to R616, R620) -/

/-- MNT_RESULT and MNT_COUNT of a request. -/
def maintResult (opc target granule : Nat) (forced fail : Bool) (s : State) : State :=
  (s.wrs [(MNT_RESULT_OPC, opc), (MNT_RESULT_TARGET, target), (MNT_RESULT_GRANULE, granule), (MNT_RESULT_FORCED, ofBool forced),
    (MNT_RESULT_FAIL, ofBool fail)]).inc (if fail then MNT_COUNT_FAILED else MNT_COUNT_PASSED)

/-- A controller's full retraining is over. -/
def retrained (m : Nat) (pass : Bool) (s : State) : State :=
  if pass then ((s.inc (MC_RETRAIN_STAT_FULL m)).clr (MC_RETRAIN_STAT_PENDING m)).wr (MC_DRIFT_PS m) 0
  else s.clr (MC_RETRAIN_STAT_PENDING m)

/-- The words of a granule of a column's memory that fail an MBIST hold free bytes; which of them fail is free too (R615, log 103). -/
def failWords (c g : Nat) (s : State) : State :=
  let k := s.freeCount
  (List.range 128).foldl (fun t i =>
    if Config.freeValue (k + 33 * i) % 2 = 0 then t
    else stLocal c (4096 * g + 32 * i) ((List.range 32).map fun j => BitVec.ofNat 8 (Config.freeValue (k + 33 * i + 1 + j))) t)
    { s with freeCount := k + 33 * 128 }

/-- A class 0x6 request is over: its result, its completion, and what a failed test does (R614, R615, R620). -/
def finishRequest (m : MaintRun) (c : Bytes) (pass : Bool) (granule : Nat) (s : State) : State :=
  let opc := cmdOpc c
  let g := if opc = 2 ∧ !pass then granule % 2 ^ 13 else 0
  let s := if opc = 2 ∧ !pass ∧ u16 c 10 ≤ g ∧ g < u16 c 10 + u16 c 12 then failWords m.col g s else s
  let s := maintResult opc (u8 c 8) g (m.claim == 4096) (!pass) s
  let s := settleAt m.req m.idx { status := if pass then 0 else 0x0B, aux := storedWord s (MNT_RESULT_OPC).addr } s
  if opc = 3 then retrained (u8 c 9) pass s
  else if !pass then stopIsland (columnIsland m.col) (raiseViolation false m.req 0x18 s)
  else if opc = 1 then reapplyRecords (columnIsland m.col) s
  else s

/-- MAINT_REQUEST_DONE: the request of queue `req` (or of controller `req` − 1,024) that runs is over; `granule` is the first one that
fails. The island of an LBIST whose request has ended ABORTED is re-applied all the same (R614). -/
def execMaintRequestDone (req : Nat) (pass : Bool) (granule : Nat) (s : State) : Out :=
  .next (match s.drv.maint.find? fun m => m.req == req && m.running with
  | none => s
  | some m =>
    let d := s.drv
    let s := { s with drv := { d with maint := d.maint.erase m } }
    let s := if m.col < 13 then s.clr (bistField m.col) else s
    let s := if 1024 ≤ req then retrained (req - 1024) pass s
      else match s.drv.flights.find? fun f => f.q == m.req && f.idx == m.idx with
        | some f => finishRequest m f.cmd pass granule s
        | none => if m.lbist then reapplyRecords (columnIsland m.col) s else s
    showColumn m.col (if m.claim = 4096 then s else runNext m.claim s))

end Sys2Proof.Machine
end

