-- ==== Sys2Proof/Machine/Security.lean ====
section
/-! DEFINITION. The rows of chapter 28: revocation, the end of an OTP program, and debug grants. -/

namespace Sys2Proof.Machine
open Reg

/-! ### OTP (R760, R761) -/

/-- KEYSEL of the header in force (R48). -/
def headerKeysel (s : State) : Nat := u32 s.boot.header 0x160

/-- SEC_REVOKE: with GO and the key, the slot's REVOKE bit is burned while a confirmed image runs that another slot signed; a GO in any
other case is answered DENIED (R760). -/
def execSecRevoke (w : Writer) (v : Nat) (s : State) : Out :=
  .next (guarded w 0x390014 (fun s =>
    if !bit v 8 then s
    else if bits v 16 8 = 0x5E ∧ s.rdb BOOT_STATUS_SEALED ∧ s.boot.confirmed ∧ bits v 0 2 ≠ headerKeysel s then
      askOtp [{ kind := 0, arg := bits v 0 2 }] s
    else deny w 0x390014 s) s)

/-- OTP_PROGRAM_DONE: the program under way is over; the next begins, unless the drain has begun (R761, 28.7). -/
def execOtpProgramDone (s : State) : Out :=
  .next (match s.secu.running, s.secu.progs with
  | true, o :: l =>
    let c := s.secu
    startOtp (performOtp o { s with secu := { c with progs := l, running := false } })
  | _, _ => s)

/-! ### Debug (R762 to R765) -/

/-- The pending nonce is discarded. -/
def dropNonce (s : State) : State :=
  let c := s.secu
  { (List.range 8).foldl (fun (t : State) j => t.clr (SEC_DBG_NONCE j)) s with secu := { c with nonceAt := none } }

/-- A grant ends, and the pending nonce with it (R765). -/
def endGrant (s : State) : State := dropNonce (s.wrs [(SEC_DBG_LEVEL, 0), (SEC_DBG_KEYSEL, 0)])

/-- A nonce word from the device's random source: a free value. -/
def nonceWord (s : State) (j : Nat) : State :=
  let r := s.free
  r.2.wr (SEC_DBG_NONCE j) r.1

/-- DEBUG_CHALLENGE: a fresh nonce, unless challenges are refused (R762, R763). -/
def execDebugChallenge (s : State) : Out :=
  .next (if s.railsOff ∨ s.rdb SEC_DBG_REFUSING then s
  else
    let s := (List.range 8).foldl nonceWord s
    let c := s.secu
    { s with secu := { c with nonceAt := some s.mono } })

/-- The nonce's 32 bytes. -/
def nonceBytes (s : State) : Bytes := (List.range 8).flatMap fun j => leBytes 4 (s.rd (SEC_DBG_NONCE j))

/-- What a grant needs of a response (R762). -/
def responseGood (s : State) (level keysel resv : Nat) (sig : Bytes) : Bool :=
  (level == 1 || level == 2) && resv == 0 && !bit (otpCfg s) 0 && slotUsable s keysel && slotDebug s keysel &&
    (match s.secu.nonceAt with | some t => decide (s.mono < t + 10000000000) | none => false) &&
    !(level == 2 && s.rdb BOOT_STATUS_ARMED) &&
    ownerSigned s keysel sig (nonceBytes s ++ ldOtp s 0 8 ++ leBytes 1 level)

/-- DEBUG_RESPONSE: the level is granted, or the response fails; either way the nonce is consumed (R762, R763). A level-2 grant
holds the count of clean cycles at 0 (R764). -/
def execDebugResponse (level keysel resv : Nat) (sig : Bytes) (s : State) : Out :=
  .next (if s.railsOff then s
  else if responseGood s level keysel resv sig then
    let s := dropNonce (s.wrs [(SEC_DBG_LEVEL, level), (SEC_DBG_KEYSEL, keysel)])
    if level = 2 then s.wr SF_STATUS_CLEAN 0 else s
  else
    let s := (dropNonce (s.inc SEC_DBG_FAILS)).set SEC_DBG_REFUSING
    let s := post 0x1008 0x01 [s.rd SEC_DBG_FAILS] s
    let c := s.secu
    { s with secu := { c with refuseUntil := s.mono + 1000000000 } })

/-- DEBUG_REFUSE_END: a second after a failed response challenges are issued again (R763). -/
def execDebugRefuseEnd (s : State) : Out :=
  .next (if s.rdb SEC_DBG_REFUSING ∧ s.secu.refuseUntil ≤ s.mono then s.clr SEC_DBG_REFUSING else s)

/-- DEBUG_END: a write of 1 to SEC_DBG.END (R765). -/
def execDebugEnd (w : Writer) (s : State) : Out := .next (guarded w 0x390020 endGrant s)

end Sys2Proof.Machine
end

