-- ==== Sys2Proof/Machine/Reset.lean ====
section
/-! DEFINITION. Resets that re-read the image (R12, R13, R23, R135, R136): what they keep, and how they are asked for. -/

namespace Sys2Proof.Machine
open Reg

/-- A reset asked for now is performed in this cycle: 1 PIN, 2 WDG, 3 SYS, 5 LNK. -/
def performsNow (cls : Nat) (s : State) : Bool :=
  if cls = 5 then !s.railsOff && s.straps.hostlink && s.power.resetNow.isNone
  else decide (1 ≤ cls) && decide (cls ≤ 3) && s.power.vaon && !s.railsOff && s.rd LIV_STATUS_STATE != 1 && s.rd LIV_STATUS_STATE != 3 &&
    (match s.power.resetNow with | some c => decide (cls < c) | none => true)

/-- A reset of a class is asked for. -/
def askReset (cls : Nat) (s : State) : State :=
  if cls = 5 then after (execLnkReset 0 s) s else if 1 ≤ cls ∧ cls ≤ 3 then requestReset cls s else s

/-- The straps are sampled (R45, R783). -/
def sampleStraps (mode chip : Nat) (hostlink test : Bool) (s : State) : State :=
  { s with straps := { bootmode := mode % 4, chipaddr := chip % 16, hostlink := hostlink, testmode := test } }

/-- The islands are released to the boot ROM. -/
def releaseIslands (s : State) : State :=
  let p := s.power
  let b := s.boot
  { s with power := { p with resetNow := none }, boot := { b with startMono := s.mono, attemptAt := s.mono } }

/-- COLD_RESET: 2 ms after PGOOD_MAIN the islands are released; the straps are sampled (R130, R783); held during the drain (R178) and while EJECT_N
is low (R170). -/
def execColdReset (mode chip : Nat) (hostlink test : Bool) (s : State) : Out :=
  .next (if s.power.wait ≠ 6 ∨ s.railsOff then s
  else if s.rd LIV_STATUS_STATE = 1 then (if 0 ∈ s.power.heldReset then s else holdReset 0 s)
  else if s.power.ejectLow then s
  else
    let loss := s.power.aonLoss
    let s := performReset 0 (1 ||| s.power.coldReq) s
    let s := if loss then s.set RST_CAUSE_AONLOSS else s
    releaseIslands (sampleStraps mode chip hostlink test s))

/-- PIN_RESET: RESET_N has been low for 10 µs (R782). -/
def execPinReset (s : State) : Out := .next (requestReset 1 s)

/-- The watchdog is suspended: the host hold (R66), the wait for REFCLK (R82), the wait for a host image (R729). -/
def watchdogHeld (s : State) : Bool := s.rd BOOT_STATUS_PHASE == 0xE || s.boot.refclkWait || s.boot.hostWait

/-- The watchdog may have expired (R65, R135): its limit of an attempt has passed; in RUN its 250 ms are the firmware's, which the block does not show. -/
def watchdogDue (s : State) : Bool :=
  s.power.resetNow.isSome || s.rdb BOOT_STATUS_SEALED || s.rd BOOT_STATUS_PHASE == 0xF ||
    decide (s.boot.attemptAt + 2000000000 + (if s.boot.attempt.isSome then imageLen s.boot.header * 5 / 2 else 0) ≤ s.mono)

/-- WDG_RESET: the Steward watchdog expires (R65). -/
def execWdgReset (s : State) : Out := .next (if watchdogHeld s ∨ !watchdogDue s then s else requestReset 2 s)

/-- SYS_RESET: GLB_CTL.SYSRST with its key (3.9). -/
def execSysReset (w : Writer) (v : Nat) (s : State) : Out :=
  .next (guarded w 0x10 (fun s => if bit v 0 ∧ bits v 8 8 = 0xA5 then requestReset 3 s else s) s)

/-- RESET_RELEASE: the hold of a PIN, WDG or SYS reset ends; a PIN reset samples the straps (R135, R783); held while EJECT_N is low (R170). -/
def execResetRelease (mode chip : Nat) (hostlink test : Bool) (s : State) : Out :=
  .next (match s.power.resetNow with
  | none => s
  | some c =>
    if c = 0 ∨ s.power.ejectLow ∨ s.railsOff then s
    else releaseIslands (if c = 1 then sampleStraps mode chip hostlink test s else s))

/-! ### Island resets (R83, R137 to R139) -/

/-- The reset of island `k` begins: it is busy until its records, which the Steward holds, are applied again. -/
def beginIslandReset (k : Nat) (s : State) : State :=
  let c := s.clocks
  let req := requestedWith s ||| 2 ^ 4
  let b := s.boot
  let s := { s with boot := { b with todo := islandRecords s k, regPos := 0, waitTo := 0, pollSince := none } }
  let s := { s with clocks := { c with islBusy := c.islBusy ++ [k], idlePll := c.idlePll.erase k, volts := c.volts.erase k } }
  resetIsland k (s.wrs [(RST_ISL_BUSY, 1), (RST_LAST_DONE, 4), (RST_LAST_REQ, req)])

/-- ISL_RESET: RST_ISL with GO and its key (R137 to R139); a wider reset being performed overtakes it (R23). -/
def execIslReset (w : Writer) (v : Nat) (s : State) : Out :=
  .next (guarded w 0x12010 (fun s =>
    let s := s.wrs [(RST_ISL_ISLAND, v), (RST_ISL_IGNORED, v / 2 ^ 24)]
    let s := if bit v 10 then s.clr RST_ISL_DENIED else s
    let k := s.rd RST_ISL_ISLAND
    if !bit v 8 ∨ bits v 16 8 ≠ 0x5A then s
    else if s.rdb RST_ISL_BUSY then s.inc RST_ISL_IGNORED
    else if !mayReset s k then deny w 0x12010 (s.set RST_ISL_DENIED)
    else if s.power.resetNow.isSome then recordCause 4 s
    else if s.rdb BOOT_STATUS_SEALED then beginIslandReset k s else restartAttempt s) s)

/-- ISL_REAPPLY_DONE: the records are applied again, up to a poll or a delay that holds them up (R53), and once none is left the island runs (R120,
R138). -/
def execIslReapplyDone (s : State) : Out :=
  .next (match s.clocks.islBusy with
  | [] => s
  | k :: l =>
    let s := if s.mono < s.boot.waitTo then s else continueTodo reapplyRecord s
    if s.boot.todo ≠ [] then s
    else
      let c := s.clocks
      restartIsland k ({ s with clocks := { c with islBusy := l, stopped := c.stopped.erase k } }.clr RST_ISL_BUSY))

end Sys2Proof.Machine
end

