-- ==== Sys2Proof/Machine/Power.lean ====
section
/-! DEFINITION. Rails and presence (5.2, 6.3), power states (5.4 to 5.8), the eject drain (6.4, 6.5), CAN wake decoders (23.12) and the ages of
CAN peers. -/

namespace Sys2Proof.Machine
open Reg

/-! ### Rails (R128 to R134, R163, R165) -/

/-- What the main rails' loss takes with it: local memories, and a reset being held, whose causes the COLD reset to come takes over (R23). -/
def mainLost (s : State) : State :=
  let req := if s.power.resetNow.isSome then s.rd RST_LAST_REQ else 0
  setPower (fun p => { p with pgMain := false, resetNow := none, coldReq := p.coldReq ||| req }) { s with loc := {} }

/-- The contents of DRAM are lost, and a snapshot in it (R134, R160); DRAM_RESET_N is low when VMEMPHY comes back (R163). -/
def dramLost (s : State) : State :=
  let n := s.snap
  setPower (fun p => { p with dramReset := false }) { s with dram := [], poison := [], snap := { n with good := false } }

/-- VAON_LOSS: everything the device stores but its fuses, its OTP and its flash is lost (R12, R160). -/
def execVaonLoss (s : State) : Out :=
  .next { pending := s.pending, bus := s.bus, freeCount := s.freeCount, fuse := s.fuse, otp := s.otp, flashA := s.flashA, flashB := s.flashB,
          hostMem := s.hostMem, power := { prsntLow := s.power.prsntLow, ejectLow := s.power.ejectLow, aonLoss := true },
          hl := { perst := s.hl.perst } }

/-- AON_RAILS_GOOD: the AON island runs, its outputs safe and the enables low (R163). -/
def execAonRailsGood (s : State) : Out :=
  .next (if s.power.vaon then s else safeLevels (setPower (fun p => { p with vaon := true }) s))

/-- PRESENCE_QUALIFIED: PRSNT_N low for 20 ms with EJECT_N high; power-up begins unless another state holds it (R130, R165). -/
def execPresenceQualified (s : State) : Out :=
  .next (if !s.power.vaon then s
  else
    let s := setPower (fun p => { p with prsntLow := true, ejectLow := false, qualified := true }) s
    if s.power.penMem ∨ s.power.wait ≠ 0 ∨ s.rd PWR_STATE_STATE ≠ 0 then s else startPower s)

/-- PGOOD_MEM_RISE: group 2 is good; PEN_MAIN goes high (R130). -/
def execPgoodMemRise (s : State) : Out :=
  .next (if !s.power.penMem ∨ s.power.pgMem then s
  else if s.power.wait = 4 then setPower (fun p => { p with pgMem := true, penMain := true, wait := 5 }) s
  else setPower (fun p => { p with pgMem := true }) s)

/-- The main rails come back in FOLD exit: classes L and V start at their reset values, and the monitor in QUAL (R12, R123, R153). The PTP servo's
state and the grids are class S (R15, R155, R210). -/
def resumePath (s : State) : State :=
  let e := s.eth
  let d := s.drv
  let c := s.clocks
  let t := s.tk
  let i := s.intake
  let s := { s with tk := { lastStep := t.lastStep, deferred := t.deferred, rates := t.rates, grids := t.grids }, can := {}, eth := { next := e.next },
                    intake := { takes := i.takes, gvMap := i.gvMap, lastFrame := i.lastFrame, commits := i.commits, slotNext := i.slotNext },
                    joint := {}, safety := {}, fab := {}, mc := {}, prb := {}, shp := {}, msync := {}, stw := {},
                    drv := { d with rot := {}, maint := [] },
                    clocks := { rcClock := c.rcClock, boscTrim := c.boscTrim, stopped := c.stopped, islBusy := c.islBusy, volts := c.volts } }
  (dropFields (fun f => f.keep == .L || f.keep == .V) s).wr PWR_STATE_STATE 5

/-- PGOOD_MAIN_RISE: the 2 ms hold before the islands' release begins, or FOLD exit goes on (R130, R153). -/
def execPgoodMainRise (s : State) : Out :=
  .next (if !s.power.penMain ∨ s.power.pgMain then s
  else if s.rd PWR_STATE_STATE = 5 then resumePath (setPower (fun p => { p with pgMain := true, wait := 0, attempts := 0 }) s)
  else setPower (fun p => { p with pgMain := true, wait := 6, resetNow := some 0 }) s)

/-- A power-good has failed: the enables drop, but for the memory's in FOLD exit, and after three attempts the island gives up (R131, 5.11). -/
def powerFailed (s : State) : State :=
  let fold := s.rd PWR_STATE_STATE == 5
  let s := setPower (fun p => { p with penMain := false, penMem := p.penMem && fold, pgMem := p.pgMem && fold, attempts := p.attempts + 1,
                                       wait := if 3 ≤ p.attempts + 1 then 2 else 1 }) (mainLost s)
  if s.power.wait = 2 then
    let s := (setPower (fun p => { p with attempts := 0 }) s).set PWR_STATUS_PG_FAIL
    post 0x2001 0x00 [s.rd PWR_STATUS_PG_FAIL + 2 * ofBool s.power.pgMem + 4 * ofBool s.power.pgMain] s
  else s

/-- PG_TIMEOUT: a power-good does not rise within PG_TIMEOUT of its enable (R131). -/
def execPgTimeout (s : State) : Out := .next (if s.power.wait = 4 ∨ s.power.wait = 5 then powerFailed s else s)

/-- PG_RETRY: the 100 ms wait ends (R131, R133, R134). -/
def execPgRetry (s : State) : Out := .next (if s.power.wait = 1 then startPower s else s)

/-- An unasked fall of the rails in RUN or DOZE: the outputs safe, the enables as said, and the 100 ms wait (R133, R134). -/
def railsTrip (mem : Bool) (s : State) : State :=
  let s := (safeLevels (mainLost { s with snap := {} })).wr PWR_STATE_STATE 0
  setPower (fun p => { p with penMain := false, penMem := p.penMem && !mem, pgMem := p.pgMem && !mem, wait := 1, attempts := 0, request := 0,
                              afterDoze := 0, exiting := false }) s

/-- PGOOD_MAIN_FALL: at the end of FOLD or OFF entry the device's own doing (R149, R151), which a reset may have overtaken (R24); in FOLD exit a failed
attempt, else a fault (R133). -/
def execPgoodMainFall (s : State) : Out :=
  .next (if !s.power.pgMain then s
  else
    let st := s.rd PWR_STATE_STATE
    if !s.power.penMain then
      let s := mainLost s
      if st = 4 then (if s.power.exiting ∧ s.rd LIV_STATUS_STATE ≠ 2 then startPower (s.wr PWR_STATE_STATE 5) else s)
      else if st = 6 then setPower (fun p => { p with penMem := false }) s
      else startPower s
    else if st = 5 then powerFailed s
    else railsTrip false s)

/-- PGOOD_MEM_FALL: at the end of OFF entry the device's own doing, in FOLD the snapshot's loss, else a fault (R134, R151, 5.11). -/
def execPgoodMemFall (s : State) : Out :=
  .next (if !s.power.pgMem then s
  else
    let st := s.rd PWR_STATE_STATE
    let s := dramLost s
    if !s.power.penMem then
      let s := setPower (fun p => { p with pgMem := false }) s
      if st = 6 ∧ s.power.exiting ∧ s.railsOff ∧ s.rd LIV_STATUS_STATE ≠ 2 then startPower s else s
    else if (st = 4 ∧ s.railsOff) ∨ st = 5 then setPower (fun p => { p with pgMem := false }) s
    else railsTrip true s)

/-! ### Requests (R141, R142, R144) -/

/-- The host link allows FOLD: absent, in L2, or with PERST# asserted (R148). -/
def hostAway (s : State) : Bool := !s.straps.hostlink || s.hl.l2 || s.hl.perst

/-- A request's OK bit and conditions. -/
def requestOk (s : State) (r : Nat) : Bool :=
  !draining s && ((r == 1 && s.rdb PWR_CFG_DOZE_OK) || (r == 2 && s.rdb PWR_CFG_FOLD_OK && hostAway s) || (r == 3 && s.rdb PWR_CFG_OFF_OK))

/-- A request is refused: BUSY, and logged (R142). -/
def refusePower (r : Nat) (s : State) : State := (post 0x2005 0x01 [r] s).answer 0x08 0

/-- A power request: 0 RUN, 1 DOZE, 2 FOLD, 3 OFF (R141, R142); one that meets a reset is discarded (R18, 5.11). -/
def requestPower (r : Nat) (s : State) : State :=
  let st := s.rd PWR_STATE_STATE
  if s.power.resetNow.isSome then s
  else if st = 0 then
    if r = 0 then s
    else if requestOk s r ∧ s.power.request = 0 then setPower (fun p => { p with request := r }) s else refusePower r s
  else if st = 2 then
    if r = 1 then s
    else if r = 0 then setPower (fun p => { p with exiting := true }) (s.wr PWR_STATE_STATE 3)
    else if requestOk s r then setPower (fun p => { p with exiting := true, afterDoze := r }) (s.wr PWR_STATE_STATE 3)
    else refusePower r s
  else refusePower r s

def execRunRequest (w : Writer) (s : State) : Out := .next (guarded w 0x12024 (requestPower 0) s)
def execDozeRequest (w : Writer) (s : State) : Out := .next (guarded w 0x12024 (requestPower 1) s)
def execFoldRequest (w : Writer) (s : State) : Out := .next (guarded w 0x12024 (requestPower 2) s)
def execOffRequest (w : Writer) (s : State) : Out := .next (guarded w 0x12024 (requestPower 3) s)

/-! ### Entry (R143 to R151) -/

/-- Every CAN transmitter is recessive: frames end, leaving frames that were not sent are marked, nothing waits (R167, R676). -/
def quietCan (s : State) : State :=
  let s := (s.can.reqs.filter fun r => r.rank == 2).foldl (fun (t : State) r =>
    t.wr LIV_STATUS_LEAVE_FAIL (setBit (t.rd LIV_STATUS_LEAVE_FAIL) r.ctrl true)) s
  let s := withdraw (fun _ => true) (unbookLaunch (fun e => e.ctrl < 8) s)
  let c := s.can
  { s with can := { c with reqs := [], wire := [] } }

/-- DOZE is reached when nothing runs on its islands (R145). DESIGN CHOICE (log 115): the count that motion since entry is measured from (R147) is
taken here, when DOZE is reached; motion while the entry runs is not watched. -/
def settleDoze (s : State) : State :=
  if enginesIdle s then
    let j := s.joint
    { s with joint := { j with dozeCount := s.rd (QEI_COUNT 0) } }.wr PWR_STATE_STATE 2
  else s

/-- The host link is released: electrical idle, unless it is in L2 already. -/
def releaseLink (s : State) : State := if s.hl.l2 then s else s.wrs [(HL_LINK_STATE, 0), (HL_LINK_SPEED, 0), (HL_LINK_WIDTH, 0)]

/-- Steps O1 to O5 once nothing runs (R151). -/
def finishOff (s : State) : State :=
  if !enginesIdle s ∨ !s.power.penMain then s
  else
    let s := commitLast [] (completeAborted s)
    let s := setDram 3 (quietCan (dropLinks (releaseLink s)))
    setPower (fun p => { p with penMain := false }) s

/-- Retraining requests pending at FOLD entry are dropped (10.11). -/
def dropRetrains (s : State) : State :=
  let c := s.mc
  (List.range 6).foldl (fun (t : State) m => t.clr (MC_RETRAIN_STAT_PENDING m)) { s with mc := { c with retrainAt := [] } }

/-- A granted request takes effect at a boundary: idle reactions, outputs disarmed, the rotation stopped, and entry (R143). -/
def enterPower (r : Nat) (s : State) : State :=
  let s := leaveBarrier (stopRotation (disarm (idleReactions s)))
  let s := setPower (fun p => { p with request := 0, exiting := false }) s
  if r = 1 then settleDoze (s.wr PWR_STATE_STATE 1)
  else
    let s := dropLinks (abandonAll (fun q => q.motor.isNone) (endGrant s))
    if r = 2 then dropRetrains (intakeStop (s.wr PWR_STATE_STATE 4)) else finishOff (s.wr PWR_STATE_STATE 6)

/-- POWER_TRANSITION: the boundary after a granted request, no maintenance operation running (R143, R144); while an entry waits for commands in
progress, their end. -/
def execPowerTransition (s : State) : Out :=
  .next (let st := s.rd PWR_STATE_STATE
    if s.railsOff ∨ draining s then s
    else if st = 1 then settleDoze s
    else if st = 6 then finishOff s
    else if st ≠ 0 ∨ s.power.request = 0 ∨ s.drv.maint.any (·.running) then s
    else enterPower s.power.request s)

/-! ### The FOLD snapshot (R149, R150, R153 to R155) -/

/-- The fields of classes S and I. -/
def snapshotFields (r : RegStore) : RegStore :=
  r.keep fun k => match fieldOfKey k with | some f => f.keep == .S || f.keep == .I | none => false

/-- The RES regions of a column, base and size (R444, R526). -/
def resRegions (s : State) (c : Nat) : List (Nat × Nat) :=
  if c < 8 then ((List.range 16).filter fun k => s.rdb (PREG_ACC_EN c k) && s.rdb (PREG_ACC_RES c k)).map fun k =>
      (s.rd (PREG_LOC_BASE c k) * 4096, s.rd (PREG_LOC_SIZE c k) * 4096)
  else if c < 12 then ((List.range 8).filter fun k => s.rdb (CREG_ACC_EN (c - 8) k) && s.rdb (CREG_ACC_RES (c - 8) k)).map fun k =>
      (s.rd (CREG_LOC_BASE (c - 8) k) * 4096, s.rd (CREG_LOC_SIZE (c - 8) k) * 4096)
  else []

/-- The resident memory, by column. -/
def residentMem (s : State) : Sparse (Sparse Byte) :=
  (List.range 12).foldl (fun m c =>
    let l := resRegions s c
    m.put [] c ((s.loc.mem.get [] c).keep fun a => l.any fun r => decide (r.1 ≤ a) && decide (a < r.1 + r.2))) []

/-- The Steward's running firmware: the FW payload of the image in force (R51, R149). -/
def runningFirmware (s : State) : Bytes := ((s.boot.records.find? (·.type == 1)).map (·.payload)).getD []

/-- The bytes of the snapshot (R149): firmware, fields of classes S and I, memory parameters, resident memory. -/
def snapshotImage (s : State) : Bytes := Config.snapshotBytes (runningFirmware s) (snapshotFields s.regs) (platOf s) (residentMem s)

/-- SNAP_BASE (5.12). -/
def snapBase (s : State) : Nat := s.rdPair SNAP_BASE_LO_ADDR SNAP_BASE_HI_ADDR

/-- The snapshot stands in its region, as far as the region goes, and its CRC and the firmware's digest in AON RAM. -/
def takeSnapshot (s : State) : State :=
  let b := snapshotImage s
  let n := min b.length (s.rd SNAP_SIZE_MIB * 2 ^ 20)
  let s := s.wr SNAP_SIZE_USED_MIB (ceilDiv b.length (2 ^ 20))
  let kept := { present := true, commit := true, good := true, regs := snapshotFields s.regs, resident := residentMem s, size := n,
                crc := crc32 (b.take n), digest := sha384 (runningFirmware s) }
  { s with dram := writeMem s.dram 0 (snapBase s) (b.take n), snap := kept }

/-- The snapshot is as it was taken: its bytes give its CRC, and the firmware the digest (R153, step X3). -/
def snapshotRight (s : State) : Bool :=
  let n := s.snap
  n.present && n.commit && n.good && crc32 (readMem s.dram 0 (snapBase s) n.size) == n.crc && sha384 (runningFirmware s) == n.digest

/-- FOLD_SNAPSHOT_COMMIT: step F4 makes the snapshot valid, then DRAM goes to self-refresh and PEN_MAIN low (R149, R150, R676). -/
def execFoldSnapshotCommit (s : State) : Out :=
  .next (if s.rd PWR_STATE_STATE ≠ 4 ∨ s.snap.commit ∨ s.railsOff ∨ !enginesIdle s then s
  else setPower (fun p => { p with penMain := false }) (setDram 3 (takeSnapshot (quietCan s))))

/-- The restore leaves a field alone: RST_ISL, and class I of an island in ISL reset, whose records are applied again (R25). -/
def reapplied (busy : List Nat) (f : Field) : Bool :=
  f.addr == RST_ISL_ISLAND.addr || (f.keep == .I && (match islandOf f.addr with | some k => busy.contains k | none => false))

/-- Fields of classes S and I as the snapshot holds them (R12, R25). -/
def restoreFields (saved : RegStore) (s : State) : State :=
  let busy := s.clocks.islBusy
  let s := dropFields (fun f => (f.keep == .S || f.keep == .I) && !reapplied busy f) s
  let back := saved.keep fun k => match fieldOfKey k with | some f => !reapplied busy f | none => false
  { s with regs := back.foldl (fun (m : RegStore) e => Sparse.insert m e.1 e.2) s.regs }

/-- Every memory controller that PLAT configured runs again. -/
def runControllers (s : State) : State := (List.range 6).foldl (fun (t : State) m => if t.rdb (MC_CFG_GIB m) then t.wr (MC_STATUS_STATE m) 2 else t) s

/-- The host link has passed through LNK (R15, R727), where there is one. -/
def linkAfterFold (s : State) : State := if s.straps.hostlink then linkPassed s else s

/-- Steps X4 to X6, and the state of the Timekeeper, the host link, the exposure control and the CAN island after it (R15, R154, R155, R284). -/
def resumeFold (us : Nat) (s : State) : State :=
  let n := s.snap
  let s := restoreFields n.regs { s with loc := { mem := n.resident }, snap := {} }
  let s := runControllers (linkAfterFold s)
  let s := (dropServo (seedTime s)).wrs [(TK_STATUS_SERVO, 0), (TK_STATUS_HOLDOVER, 1)]
  let g := s.gl
  let s := noteTracing (startCan (exposureRestart { s with gl := { g with copy := [1, 2].filter fun x => s.rdb (slotLoaded x) } }))
  setPower (fun p => { p with exiting := false }) (s.wrs [(PWR_STATE_STATE, 0), (PWR_TIME_FOLD_US, us)])

/-- FOLD_EXIT: REFCLK is qualified and the snapshot checked; `good` tells that its CRC, digest and memory are right; a bad one ends in a SYS reset
(R153, R154). -/
def execFoldExit (us : Nat) (good : Bool) (s : State) : Out :=
  .next (if s.rd PWR_STATE_STATE ≠ 5 ∨ s.railsOff ∨ !refclkValid s then s
  else if good ∧ snapshotRight s then resumeFold us s
  else
    let s := requestReset 3 (s.set SNAP_STATUS_BAD)
    s.set RST_CAUSE_SNAPBAD)

/-- DOZE_EXIT: the islands run again (R147); a state asked for in DOZE is entered at the next boundary (R141). -/
def execDozeExit (us : Nat) (s : State) : Out :=
  .next (if s.rd PWR_STATE_STATE ≠ 3 ∨ s.railsOff then s
  else setPower (fun p => { p with exiting := false, request := p.afterDoze, afterDoze := 0 })
    (s.wrs [(PWR_STATE_STATE, 0), (PWR_TIME_DOZE_US, us)]))

/-! ### Wakes (R131, R156 to R159, R678 to R680) -/

/-- Sources reach the AON island in one cycle; PERST# deasserted ends L2 and releases WAKE#. -/
def wakeSources (l : List Nat) (s : State) : State :=
  if !s.power.vaon then s
  else
    let s := wakeNow l s
    if 2 ∈ l then setPerst false (releaseWakePin s) else s

/-- WAKE_LATCH: the sources of one AON cycle. -/
def execWakeLatch (l : List Nat) (s : State) : Out := .next (wakeSources l s)

/-- CAN_WAKE_DOMINANT: CAN_RX sense of controller `n` has been low for FILT (R678). -/
def execCanWakeDominant (n : Nat) (s : State) : Out :=
  .next (if 8 ≤ n ∨ !s.power.vaon ∨ s.rd (CAN_WK_CFG_MODE n) ≠ 1 then s else wakeSources [4 + n] (s.set (CAN_WK_STAT_WOKE n)))

/-- A frame meets the selective conditions (R679). -/
def wakeMatches (s : State) (n : Nat) (f : CanFrame) : Bool :=
  let len := min f.dlc 8
  f.xtd == s.rdb (CAN_WK_CFG_WK_XTD n) && ((f.id ^^^ s.rd (CAN_WK_ID n)) &&& s.rd (CAN_WK_MASK n)) == 0 &&
    f.dlc == s.rd (CAN_WK_CFG_WK_DLC n) &&
    (f.dlc == 0 || (leNat (f.data.take len) &&& s.rdPair (CAN_WK_DMASK_LO n) (CAN_WK_DMASK_HI n)) % 2 ^ (8 * len) != 0)

/-- CAN_WAKE_FRAME: the selective decoder of controller `n` sees a valid frame, or an error (none) (R679, R680). -/
def execCanWakeFrame (n : Nat) (f : Option CanFrame) (s : State) : Out :=
  .next (if 8 ≤ n ∨ !s.power.vaon ∨ s.rd (CAN_WK_CFG_MODE n) ≠ 2 then s
  else match f with
    | none =>
      let e := min 32 (s.rd (CAN_WK_STAT_ERRCNT n) + 1)
      let s := s.wr (CAN_WK_STAT_ERRCNT n) e
      if e = 32 ∧ s.rdb (CAN_WK_CFG_ERRWAKE n) then wakeSources [4 + n] (s.set (CAN_WK_STAT_ERRW n)) else s
    | some f =>
      if f.fdf then s
      else
        let s := s.wr (CAN_WK_STAT_ERRCNT n) (s.rd (CAN_WK_STAT_ERRCNT n) - 1)
        if wakeMatches s n f then wakeSources [4 + n] (s.set (CAN_WK_STAT_WOKE n)) else s)

/-! ### The eject drain (R164, R167 to R173, R178) -/

/-- LIV_STATUS as a record shows it. -/
def livWord (s : State) : Nat := storedWord s (LIV_STATUS_STATE).addr ||| (ofBool s.power.prsntLow + 2 * ofBool s.power.ejectLow)

/-- Motor frames on a CAN bus are cut off, and not sent again (R168). -/
def cutMotorFrames (s : State) : State :=
  let onWire := fun (r : CanReq) => r.motor.isSome && (s.can.wire.find r.ctrl).any (·.obj == r.obj)
  (s.can.reqs.filter onWire).foldl (fun (t : State) r =>
    let c := t.can
    let t := { t with can := { c with wire := c.wire.erase r.ctrl, reqs := c.reqs.erase r } }
    match r.motor with
    | some mf => if mf.kind = 0 then t.clr (MO_STAT_BOOKED mf.mo) else t
    | none => t) s

/-- The leaving frame of controller `n` is its next transmission up to the bound of D4, unless it is bus-off (R167, R168, 6.7). A controller that is
disabled or in ISL reset never sends it, which D4 shows. -/
def leaveFrame (s : State) (n : Nat) : State :=
  let st := s.rd (CAN_STATUS_STATE n)
  if s.rdb (CAN_CTL_EN n) ∧ (st = 4 ∨ st = 5) then s.wr LIV_STATUS_LEAVE_FAIL (setBit (s.rd LIV_STATUS_LEAVE_FAIL) n true)
  else
    let o := s.rd (LIV_LEAVE_OBJ_OBJ n)
    let able := s.rdb (CAN_CTL_EN n) && !s.clocks.islBusy.contains 0x49
    let s := if able then abandonAll (fun r => r.obj == o) s else s
    let c := s.can
    { s with can := { c with reqs := c.reqs ++ [{ ctrl := n, obj := o, rank := 2, ready := able, start := s.mono,
                                                  close := some (s.power.ejectMono + 400000) }] } }

/-- Step D3 (R167): the Drover and the Intake stop, updates end, a barrier is left, leaving frames are queued. -/
def stopForDrain (s : State) : State :=
  let s := leaveBarrier (abandonUpdate (intakeDrain (stopRotation s)))
  ((List.range 8).filter fun n => bit (s.rd LIV_CFG_LEAVE_EN) n).foldl leaveFrame s

/-- Step D4: the leaving frames that were not sent are abandoned (R167). -/
def endLeaving (s : State) : State :=
  let sending := fun (r : CanReq) => r.rank == 2 && (s.can.wire.find r.ctrl).any (·.obj == r.obj)
  let c := s.can
  let s := { s with can := { c with wire := c.wire.keep fun n => !(c.reqs.filter sending).any (·.ctrl == n) } }
  abandonAll (·.rank == 2) s

/-- Steps D4 and D5, which precede the commit of D6: the leaving frames end, and every command in flight completes (R167). Before the seal D3 and D4
are skipped (R172). -/
def drainCommands (s : State) : State := completeAborted (endLeaving s)

/-- Steps D2 and D3, the second only after the seal (R172); a DOZE exit runs beside them (R167). -/
def beginDrain (s : State) : State :=
  let s := (loopReaction (cutMotorFrames s)).wrs [(LIV_STATUS_LOGDONE, 0), (LIV_STATUS_LEAVE_FAIL, 0)]
  let s := setPower (fun p => { p with request := 0, afterDoze := 0 }) s
  let s := if s.rdb BOOT_STATUS_SEALED then stopForDrain s else s
  if s.rd PWR_STATE_STATE = 1 ∨ s.rd PWR_STATE_STATE = 2 then s.wr PWR_STATE_STATE 3 else s

/-- EJECT_ACCEPT: EJECT_N has been low for 10 µs (R164): the drain begins, or in FOLD and OFF the device is DRAINED at once (R171), with an update
under way abandoned, since no state-sector word is programmed any more (R172). -/
def execEjectAccept (s : State) : Out :=
  .next (if !s.power.vaon ∨ s.power.ejectLow then s
  else
    let s := setPower (fun p => { p with ejectLow := true }) s
    if s.rd LIV_STATUS_STATE ≠ 0 then s
    else
      let st := s.rd PWR_STATE_STATE
      let s := setPower (fun p => { p with ejectMono := s.mono - 10000 }) s
      if st = 4 ∨ st = 5 ∨ st = 6 then
        let s := abandonUpdate (s.wrs [(LIV_STATUS_STATE, 2), (LIV_STATUS_LOGDONE, 0), (LIV_STATUS_LEAVE_FAIL, 0)])
        post 0x0003 0x00 [livWord s] s
      else if s.railsOff ∨ s.power.resetNow.isSome then s
      else
        let s := s.wr LIV_STATUS_STATE 1
        beginDrain (post 0x0003 0x00 [livWord s] s))

/-- The reset held over the drain is performed: the widest of those asked for (R178). A COLD reset whose start is still to come is the widest. -/
def performHeld (s : State) : State :=
  match s.power.heldReset with
  | [] => s
  | c :: l =>
    let req := s.rd RST_LAST_REQ
    if s.power.wait = 6 then setPower (fun p => { p with wait := 6, coldReq := req }) (performReset 0 (1 ||| req) s)
    else performReset (l.foldl min c) req s

/-- Steps D4 to D8 (R167, R169), in order. -/
def drainSteps (us : Nat) (s : State) : State :=
  let s := drainCommands s
  let s := commitLast [drainRecord us s] s
  let s := s.wrs [(HL_LINK_STATE, 0), (HL_LINK_SPEED, 0), (HL_LINK_WIDTH, 0)]
  dropLinks (abandonFrames (fun _ => true) (quietCan s))

/-- DRAINED: steps D4 to D8 are over after `us` µs (R167, R169); islands held in reset have no part in them. -/
def execDrained (us : Nat) (s : State) : Out :=
  .next (if (s.rd LIV_STATUS_STATE ≠ 1 ∧ s.rd LIV_STATUS_STATE ≠ 3) ∨ s.railsOff then s
  else
    let s := if s.power.resetNow.isSome then s else drainSteps us s
    performHeld (s.wrs [(LIV_STATUS_STATE, 2), (LIV_DRAIN_TIME_US, us)]))

/-- LOG_BATCH_START: the Steward takes a batch and programs its slots (R750); during the drain it is the batch of step D6 (R169). -/
def execLogBatchStart (s : State) : Out :=
  .next (if !logOpen s ∨ s.evlog.batch ≠ [] ∨ s.rd PWR_STATE_STATE = 6 then s
  else if s.rd LIV_STATUS_STATE = 0 then normalBatch 4 (roomForBatch s)
  else
    let s := drainCommands s
    let tail := [drainRecord ((s.mono - s.power.ejectMono) / 1000) s]
    lastBatch tail (roomForLast tail s))

/-- EJECT_RELEASE: EJECT_N is accepted high (R170). -/
def execEjectRelease (s : State) : Out := .next (setPower (fun p => { p with ejectLow := false }) s)

/-- The device is powering up: an enable is driven and the main rails are not good yet. -/
def poweringUp (s : State) : Bool := s.railsOff && (s.rd PWR_STATE_STATE == 0 || s.power.wait == 4 || s.power.wait == 5 || s.power.wait == 1)

/-- Both enables drop and the 20 ms condition is waited for again (R165). In FOLD exit the memory rails and the snapshot go with them. -/
def dropEnables (s : State) : State :=
  let st := s.rd PWR_STATE_STATE
  let s := if s.power.pgMem then dramLost s else s
  let s := setPower (fun p => { p with penMem := false, penMain := false, pgMem := false, wait := 0 }) s
  if st = 5 ∨ st = 6 then s.wr PWR_STATE_STATE 0 else s

/-- SURPRISE_REMOVAL: PRSNT_N rises: before the main rails are good the enables drop (R165); else the drain runs from D2 (R173). DESIGN CHOICE
(log 116): with the main rails off and no power-up under way (FOLD, OFF) the spec is silent: STATE shows SURPRISE, no drain step runs since the rails
they need are off, DRAINED is not reached, and a later wake begins the exit. -/
def execSurpriseRemoval (s : State) : Out :=
  .next (if !s.power.vaon ∨ !s.power.prsntLow then s
  else
    let s := setPower (fun p => { p with prsntLow := false, qualified := false }) s
    let seated := decide (s.rd LIV_STATUS_STATE = 0)
    let s := if seated then (setPower (fun p => { p with ejectMono := s.mono }) s).wr LIV_STATUS_STATE 3 else s
    if poweringUp s then dropEnables s
    else if !seated ∨ s.railsOff ∨ s.power.resetNow.isSome then s
    else beginDrain s)

/-- CAN_PEER_AGEOUT: a peer has not been seen for AGE_MS: its entry is released, or a pinned peer is lost (R174, R176). -/
def execCanPeerAgeout (n id : Nat) (xtd : Bool) (s : State) : Out :=
  .next (match s.can.peers.find? (samePeer n id xtd) with
  | none => s
  | some p =>
    if s.mono < p.seen + s.rd LIV_CANPEER_CFG_AGE_MS * 1000000 then s
    else
      let c := s.can
      if !p.pinned then { s with can := { c with peers := c.peers.erase p } }
      else if !p.present then s
      else raiseFault 0x07 n { s with can := { c with peers := c.peers.map fun q => if q = p then { q with present := false } else q } })

end Sys2Proof.Machine
end

