-- ==== Sys2Proof/Machine/RegWrite.lean ====
section
/-! DEFINITION. Register accesses whole (chapter 3): widths, status, pairs, the system's own registers, and the register commands of a queue
(R381). -/

namespace Sys2Proof.Machine
open Reg

/-! ### The system's registers whose writes start something -/

/-- BOOT_CTL: CONFIRM, HOSTGO, RETRY (2.15). -/
def bootCtl (w : Writer) (v : Nat) (s : State) : State :=
  let s := if bit v 0 then after (execConfirm w s) s else s
  let s := if bit v 1 then after (execHostgo w s.hl.busMaster s) s else s
  if bit v 2 then after (execRetry w s) s else s

/-- PWR_CTL.REQ (R141). -/
def powerCtl (w : Writer) (v : Nat) (s : State) : State :=
  let r := v % 4
  after (if r = 0 then execRunRequest w s else if r = 1 then execDozeRequest w s else if r = 2 then execFoldRequest w s else execOffRequest w s) s

/-- The special registers of the system blocks. -/
def systemSpecial (a : Nat) : Option Special :=
  if a = 0x10 then some ⟨false, .keyed 0 8 0xA5 0, fun w v s => after (execSysReset w v s) s⟩
  else if a = 0x12010 then some ⟨false, .keyed 8 16 0x5A 0x400, fun w v s => after (execIslReset w v s) s⟩
  else if a = 0x12024 then some ⟨false, .once 0, powerCtl⟩
  else if a = 0x371030 then some ⟨false, .keyed 8 16 0x3C 0, fun w v s => after (execFlashUpdate w v s) s⟩
  else if a = 0x380020 then some ⟨false, .each, bootCtl⟩
  else if a = 0x380044 then some ⟨false, .once 0x100, fun w v s => after (execExtpGo w v s) s⟩
  else if a = 0x390014 then some ⟨false, .keyed 8 16 0x5E 0, fun w v s => after (execSecRevoke w v s) s⟩
  else if a = 0x390020 then some ⟨true, .each, fun w v s => (if bit v 2 then after (execDebugEnd w s) s else s).clr SEC_DBG_END⟩
  else none

/-- The writes that stand at an address in one cycle. -/
def standingWrites (a : Nat) (ws : List (Writer × Nat)) (hw : List HwUpdate) (s : State) : State :=
  match systemSpecial a with
  | some p => specialCycle a p ws hw s
  | none => cycleWrite a ws hw s

/-! ### Writes (R86, R87, R91, R93, R98) -/

/-- A write of a bad width or alignment (R86). -/
def badWrite (s : State) : State := (s.inc GLB_ERRCNT_BADWIDTH).answer 0x0C 0

/-- The writes that are discarded leave their answers and their records; none for one that stands. -/
def refuseWrites (a : Nat) (l : List ((Writer × Nat) × Nat)) (s : State) : State :=
  l.foldl (fun t e => if e.2 = 0 then t else writeRefused e.1.1 a e.2 t) s

/-- The discards are recorded before the cycle's writes, but at the registers that hold the records, where they are hardware updates of the same cycle
and stand over a write (R17, R19, R102). -/
def recordsAfter (a : Nat) : Bool := a == 0x44 || a == 0x2C

/-- The 32-bit writes that reach one register in one cycle: the forbidden ones are removed, the others apply in the order of R98; the answer is that
of the last. -/
def wordWrites (a : Nat) (l : List (Writer × Nat)) (hw : List HwUpdate) (s : State) : State :=
  let judged := l.map fun e => (e, writeStatus s e.1.master a)
  let stand := (judged.filter (·.2 == 0)).map (·.1)
  let s1 := if recordsAfter a then s else refuseWrites a judged s
  let t := standingWrites a (sortRank (fun e => masterRank e.1) stand) hw (s1.answer 0 0)
  let t1 := (stand.filter fun e => lockedOut s e.1.master a).foldl (fun t e => recordDenied e.1 a t)
    (if recordsAfter a then refuseWrites a judged t else t)
  match judged.getLast? with
  | none => t1
  | some e =>
    if e.2 ≠ 0 then t1.answer e.2 0
    else if lockedOut s e.1.1.master a then t1.answer 0x07 0
    else { t1 with bus := t.bus }

/-- The width and alignment of an access are right: 4 bytes, or 8 of the host (R86). -/
def goodWidth (w : Writer) (width a : Nat) : Bool := (width == 4 && a % 4 == 0) || (width == 8 && a % 8 == 0 && w.master == 0x801)

/-- Writes that reach the register at an address in one cycle, with the hardware updates they meet. An 8-byte host write is two writes in consecutive
cycles, low word first (R86). DESIGN CHOICE (log 109): width and alignment are looked at first, so an access that is both of a bad width and
forbidden, or to an island that answers BUSY, is answered UNSUPPORTED and logged as no OWN_VIOL. -/
def registerWrite (a : Nat) (l : List RegWrite) (hw : List HwUpdate) (s : State) : State :=
  let good := l.filter fun x => goodWidth x.by_ x.width a
  let s := if good = [] ∧ hw = [] then s else wordWrites a (good.map fun x => (x.by_, x.value % 2 ^ 32)) hw s
  let s := (l.filter fun x => !goodWidth x.by_ x.width a).foldl (fun t _ => badWrite t) s
  let high := good.filter fun x => x.width == 8
  if high = [] then s else wordWrites (a + 4) (high.map fun x => (x.by_, x.value / 2 ^ 32 % 2 ^ 32)) [] s

/-- A reset reaches a field: PIN, WDG or SYS its classes S, I, L and V; LNK its class L, and V in the PCIe block (R12). -/
def reaches (cls : Nat) (f : Field) : Bool :=
  if cls = 5 then f.keep == .L || (f.keep == .V && islandOf f.addr == some 0x4B) else !keptField cls f

/-- A write meets a reset in one cycle (R18): a field that the reset reaches discards it, without a record, and no operation starts; a field that
the reset keeps takes it. -/
def writeUnderReset (cls a : Nat) (l : List RegWrite) (hw : List HwUpdate) (s : State) : State :=
  let ws := (l.filter fun x => goodWidth x.by_ x.width a && writeStatus s x.by_.master a == 0).map fun x => (x.by_, x.value % 2 ^ 32)
  ((fieldsAt a).filter fun f => !reaches cls f).foldl (applyField a (sortRank (fun e => masterRank e.1) ws) hw) s

/-- REGISTER_WRITE: writes that reach the register at an address in one cycle, with the hardware updates they meet, and the reset that reaches the
register in that cycle, if one does: 1 PIN, 2 WDG, 3 SYS, 5 LNK (R18). -/
def execRegisterWrite (a : Nat) (l : List RegWrite) (hw : List HwUpdate) (s : State) (rst : Option Nat := none) : Out :=
  .next (match rst with
  | none => registerWrite a l hw s
  | some cls => if performsNow cls s then askReset cls (writeUnderReset cls a l hw s) else registerWrite a l hw (askReset cls s))

/-- One write by one writer. -/
def writeReg (w : Writer) (a v : Nat) (s : State) : State := registerWrite a [⟨w, 4, v⟩] [] s

/-! ### Reads (R86, R88 to R90, R92, R93) -/

/-- The word a permitted read returns, and what the read does: a shadow is used up, a _LO read latches _HI, a foreign response is counted. A
register that is not there reads 0 (R3). -/
def readWord (w : Writer) (a : Nat) (s : State) : State :=
  if inert s a then s.answer 0 0 else
  let k := shadowKey w.master a
  match s.rdShadow.find k with
  | some v => { s with rdShadow := s.rdShadow.erase k }.answer 0 v
  | none =>
    match readEffect w a s with
    | some t => t
    | none =>
      let v := liveWord s w a
      let s := if isPairLo a then latchRead w.master (a + 4) (liveWord s w (a + 4)) s else s
      let s := if foreignResponse s w a then s.inc (MBX_STAT_FOREIGN ((a - 0x10000) / 0x100)) else s
      s.answer 0 v

/-- A 32-bit read. -/
def readReg (w : Writer) (a : Nat) (s : State) : State :=
  if a % 4 ≠ 0 then s.answer 0x0C 0
  else if readStatus s w.master a = 0 then readWord w a s else readRefused w a (readStatus s w.master a) s

/-- A read of a width (R86): 4 bytes, or 8 of the host as two reads, low word first; any other returns 0 UNSUPPORTED. -/
def readAccess (w : Writer) (width a : Nat) (s : State) : State :=
  if !goodWidth w width a then s.answer 0x0C 0
  else if width = 4 then readReg w a s
  else
    let lo := readReg w a s
    let hi := readReg w (a + 4) lo
    hi.answer (worse lo.bus.status hi.bus.status) (lo.bus.data + 2 ^ 32 * hi.bus.data)

/-- PAIR_LO_READ: a read of a register, one of BAR0 where the host makes it (R720), with the writes that reach the register in the same cycle: the read
returns what the register held at the start of the cycle (R90). Of a _LO register it latches _HI into the reader's shadow (R88). -/
def execPairLoRead (w : Writer) (a : Nat) (s : State) (width : Nat := 4) (l : List RegWrite := []) : Out :=
  .next (let r := hostRead w a (readAccess w width a s)
    if l = [] then r else { registerWrite a l [] r with bus := r.bus })

/-! ### Register commands (R381) -/

/-- A queue's accesses carry its tenant's identity. -/
def queueWriter (s : State) (q : Nat) : Writer := ⟨s.rd (Q_CFG_TID q), q⟩

/-- What REGWR does: a read and a write under a mask, or the write alone; the status is that of the first access that fails. -/
def maskedWrite (w : Writer) (a v mask : Nat) (s : State) : State :=
  if mask = 2 ^ 32 - 1 then writeReg w a v s
  else
    let s := readReg w a s
    if s.bus.status ≠ 0 then s else writeReg w a ((s.bus.data &&& (2 ^ 32 - 1 - mask)) ||| (v &&& mask)) s

/-- REGWR: the register access, and the command's completion with its status. -/
def execRegwr (q : Nat) (s : State) : Out :=
  .next (match headIs s q 0 0x01 with
  | some c =>
    let s := startHead q 14 0 c s
    let s := maskedWrite (queueWriter s q) (u32 c 8) (u32 c 12) (u32 c 16) s
    pump q (settle q { status := s.bus.status } s)
  | none => s)

/-- REGRD: the value in AUX. -/
def execRegrd (q : Nat) (s : State) : Out :=
  .next (match headIs s q 0 0x02 with
  | some c =>
    let s := readReg (queueWriter s q) (u32 c 8) (startHead q 14 0 c s)
    pump q (settle q { status := s.bus.status, aux := s.bus.data } s)
  | none => s)

/-- One poll of a REGPOLL: it ends on an error and when the masked register equals VALUE. -/
def pollOnce (q idx : Nat) (c : Bytes) (s : State) : State :=
  let s := readReg (queueWriter s q) (u32 c 8) s
  if s.bus.status ≠ 0 then settleAt q idx { status := s.bus.status } s
  else if s.bus.data &&& u32 c 12 = u32 c 16 then settleAt q idx {} s
  else s

/-- REGPOLL: the command starts, or a poll of the one under way. -/
def execRegpoll (q : Nat) (s : State) : Out :=
  .next (match s.drv.flights.find? fun f => f.q == q && f.wait == 2 with
  | some f => pollOnce q f.idx f.cmd s
  | none =>
    match headIs s q 0 0x03 with
    | some c =>
      let i := s.rd (Q_SQ_PTR_HEAD q)
      pump q (pollOnce q i c (startHead q 14 2 c s))
    | none => s)

/-- REGPOLL_TIMEOUT: TO_US after its start a REGPOLL completes BUSY. -/
def execRegpollTimeout (q : Nat) (s : State) : Out :=
  .next (match s.drv.flights.find? fun f => f.q == q && f.wait == 2 with
  | none => s
  | some f => if s.mono < f.startMono + u32 f.cmd 20 * 1000 then s else settleAt q f.idx { status := 0x08 } s)

end Sys2Proof.Machine
end

