-- ==== Sys2Proof/Machine/VecOps.lean ====
section
/-! DEFINITION. The methods of the operation library (18.5): each makes the output of a vector command from its inputs. -/

namespace Sys2Proof.Machine

/-- The result of a method: the parts of DST it writes, NaN values written, and VIK targets with a flag. -/
structure VecOut where
  parts : List (Nat × Bytes) := []
  nans : Nat := 0
  flagged : Nat := 0
  deriving DecidableEq, Repr

/-- A word as FP32, counted when it is NaN. -/
def countNan32 (l : List Nat) : Nat := (l.filter isNan32).length

/-! ### Images (R534) -/

/-- Byte and half-word images in ROW64. -/
def px8 (img : Bytes) (w x y : Nat) : Nat := u8 img (y * pitchOf w + x)
def px16 (img : Bytes) (w x y : Nat) : Nat := u16 img (y * pitchOf (2 * w) + 2 * x)

/-- The rows of an image of bytes or half words. -/
def imageRows (rows : List Bytes) : List (Nat × Bytes) :=
  rows.mapIdx fun y r => (y * pitchOf r.length, padTo (pitchOf r.length) r)

/-- The limits of VRESIZE's parameters. -/
def resizeOk (n0 n1 : Nat) (p : Bytes) : Bool :=
  let r := resizeP p
  let ok := fun (v : Int) => decide (1 ≤ v) && decide (v ≤ 4096)
  ok r.cw && ok r.ch && ok r.ow && ok r.oh && decide (0 ≤ r.x) && decide (0 ≤ r.y) && decide (r.x + r.cw ≤ n0) && decide (r.y + r.ch ≤ n1) &&
    decide (r.method ≤ 1) && decide (r.out ≤ 1) && decide (r.wide ≤ 1)

/-- VRESIZE: R242 on one component. -/
def vresize (n0 : Nat) (p img : Bytes) : VecOut :=
  let r := resizeP p
  let f : Profile :=
    { x := r.x.toNat, y := r.y.toNat, cw := r.cw.toNat, ch := r.ch.toNat, outW := r.ow.toNat, outH := r.oh.toNat
      bilinear := r.method == 1, i8 := r.out == 1, chan := false, bypass := false }
  let px := fun (y x : Nat) => if r.wide = 1 then toV8 3 (px16 img n0 (f.x + x) (f.y + y)) else px8 img n0 (f.x + x) (f.y + y)
  { parts := imageRows ((List.range f.outH).map fun y => (List.range f.outW).map fun x => outByte f (prepValue f px x y)) }

/-- An index with the edge replicated. -/
def edge (n : Nat) (i : Int) : Nat := min i.toNat (n - 1)

def filtOk (p : Bytes) : Bool :=
  let odd := fun k => k % 2 == 1 && decide (k ≤ 7)
  odd (filtKh p) && odd (filtKw p) && decide (filtShift p ≤ 31) && decide (filtOut p ≤ 1)

/-- VFILT. -/
def vfilt (n0 n1 : Nat) (p img : Bytes) : VecOut :=
  let kh := filtKh p; let kw := filtKw p
  let acc := fun (y x : Nat) => ((List.range kh).flatMap fun i => (List.range kw).map fun j =>
    filtCoef p (i * kw + j) * (px8 img n0 (edge n0 ((x + j : Nat) - (kw / 2 : Nat))) (edge n1 ((y + i : Nat) - (kh / 2 : Nat))) : Int)).foldl (· + ·) 0
  let out := fun (v : Int) => if filtOut p = 1 then leBytes 2 (unsigned 16 (clampTo (-32768) 32767 v)) else leBytes 1 (clampTo 0 255 v).toNat
  { parts := imageRows ((List.range n1).map fun y => (List.range n0).flatMap fun x => out (shiftAway (acc y x) (filtShift p))) }

def stereoOk (p : Bytes) : Bool :=
  stereoWin p % 2 == 1 && decide (5 ≤ stereoWin p) && decide (stereoWin p ≤ 15) && stereoMax p % 16 == 0 && decide (16 ≤ stereoMax p) &&
    decide (stereoMax p ≤ 256) && decide (stereoUniq p ≤ 100)

/-- A quotient of integers rounded to the nearest, ties away from zero. -/
def divAway (a b : Int) : Int :=
  if b = 0 then 0
  else
    let q : Int := (2 * a.natAbs + b.natAbs) / (2 * b.natAbs)
    if (a < 0) = (b < 0) then q else -q

/-- The disparity word of a pixel from its costs c(0) to c(DMAX - 1). -/
def disparity (uniq : Nat) (c : List Nat) : Nat :=
  let at_ := fun i => c.getD i 0
  let best := (List.range c.length).foldl (fun b i => if at_ i < at_ b then i else b) 0
  let far := (List.range c.length).filter fun i => decide (best + 1 < i) || decide (i + 1 < best)
  let second := far.foldl (fun (o : Option Nat) i => match o with | none => some (at_ i) | some v => some (min v (at_ i))) none
  if second.any fun v => decide (100 * v < (100 + uniq) * at_ best) then 0x8000
  else
    let off := if best = 0 ∨ best + 1 = c.length then (0 : Int)
      else
        let l : Int := at_ (best - 1)
        let r : Int := at_ (best + 1)
        divAway (16 * (l - r)) (2 * (l + r - 2 * (at_ best : Int)))
    unsigned 16 (16 * (best : Int) + off)

/-- VSTEREO: the window of the left image against the right image d columns to the left (log 71). -/
def vstereo (n0 n1 : Nat) (p left right : Bytes) : VecOut :=
  let w := stereoWin p
  let cost := fun (y x d : Nat) => ((List.range w).flatMap fun i => (List.range w).map fun j =>
    let u : Int := (x + j : Nat) - (w / 2 : Nat)
    let v := edge n1 ((y + i : Nat) - (w / 2 : Nat))
    let a := px8 left n0 (edge n0 u) v
    let b := px8 right n0 (edge n0 (u - (d : Int))) v
    if a < b then b - a else a - b).foldl (· + ·) 0
  { parts := imageRows ((List.range n1).map fun y => (List.range n0).flatMap fun x =>
      leBytes 2 (disparity (stereoUniq p) ((List.range (stereoMax p)).map (cost y x)))) }

/-! ### Points and boxes (R535 to R538) -/

/-- A point. -/
structure Pt where
  x : Nat
  y : Nat
  z : Nat
  deriving DecidableEq, Repr

def ptOf (b : Bytes) (i : Nat) : Pt := ⟨plain32 (u32 b (16 * i)), plain32 (u32 b (16 * i + 4)), plain32 (u32 b (16 * i + 8))⟩

/-- VPCLOUD: FX, FY, CX, CY, BASE, the 3 × 4 transform, ZMIN, ZMAX as 19 FP32 words. -/
def vpcloud (n0 n1 : Nat) (p img : Bytes) : VecOut :=
  let w := fun i => u32 p (4 * i)
  let point := fun (v u : Nat) =>
    let d := signed 16 (px16 img n0 u v)
    if d = -32768 then none
    else
      let zc := fdiv (fmul (w 0) (w 4)) (rne32 ((Num.ofInt d).mul (.fin false 1 (-4))))
      let xc := fdiv (fmul (fsub (count32 u) (w 2)) zc) (w 0)
      let yc := fdiv (fmul (fsub (count32 v) (w 3)) zc) (w 1)
      let row := fun r => fadd (fadd (fadd (fmul (w (5 + 4 * r)) xc) (fmul (w (6 + 4 * r)) yc)) (fmul (w (7 + 4 * r)) zc)) (w (8 + 4 * r))
      if fle (w 17) zc && fle zc (w 18) then some [row 0, row 1, row 2] else none
  let pts := (List.range n1).flatMap fun v => (List.range n0).filterMap (point v)
  { parts := [(0, padTo 64 (leBytes 4 pts.length)), (64, (pts.map fun q => (q.map (leBytes 4)).flatten ++ zeros 4).flatten)]
    nans := (pts.map countNan32).foldl (· + ·) 0 }

/-- Insert in descending order of value. -/
def insertDesc (x : Nat) : List Nat → List Nat
  | [] => [x]
  | y :: l => if flt y x then x :: y :: l else y :: insertDesc x l

/-- A rectangle in a rotated frame. -/
structure Sweep where
  c : Nat
  s : Nat
  minU : Nat
  maxU : Nat
  minV : Nat
  maxV : Nat
  deriving DecidableEq, Repr

def min32 (a b : Nat) : Nat := if flt b a then b else a

/-- The extent of points in the frame with axis (c, s) (R537). -/
def sweepAt (pts : List Pt) (c s : Nat) : Sweep :=
  let us := pts.map fun p => fadd (fmul p.x c) (fmul p.y s)
  let vs := pts.map fun p => fsub (fmul p.y c) (fmul p.x s)
  ⟨c, s, us.foldl min32 inf32, us.foldl max32 ninf32, vs.foldl min32 inf32, vs.foldl max32 ninf32⟩

def Sweep.eu (r : Sweep) : Nat := fsub r.maxU r.minU
def Sweep.ev (r : Sweep) : Nat := fsub r.maxV r.minV
def Sweep.area (r : Sweep) : Nat := fmul r.eu r.ev

/-- The box record (R536); `free` stands for a height the spec does not state, an open value of the command's inputs: fewer than NOUT + 1 points (log 72). -/
def boxRecord (pts : List Pt) (r : Sweep) (ax ay l w z0 nout free : Nat) : List Nat × Nat × Nat :=
  let uc := fmul half32 (fadd r.maxU r.minU)
  let vc := fmul half32 (fadd r.maxV r.minV)
  let cx := fsub (fmul uc r.c) (fmul vc r.s)
  let cy := fadd (fmul uc r.s) (fmul vc r.c)
  let zs := pts.foldl (fun a p => insertDesc p.z a) []
  let h := match zs[nout]? with | some z => fsub z z0 | none => free % 2 ^ 32
  let few := decide (pts.length < 3)
  (if few then List.replicate 7 0 else [cx, cy, ax, ay, l, w, h], pts.length, ofBool few + 2 * ofBool (decide (pts.length < nout + 1)))

def boxOut (r : List Nat × Nat × Nat) : VecOut :=
  { parts := [(0, padTo 64 ((r.1.map (leBytes 4)).flatten ++ leBytes 4 r.2.1 ++ leBytes 4 r.2.2))], nans := countNan32 r.1 }

/-- The points used: z above Z0 + ZMIN, in input order. -/
def usedPoints (n0 z0 zmin : Nat) (b : Bytes) : List Pt := ((List.range n0).map (ptOf b)).filter fun p => flt (fadd z0 zmin) p.z

/-- cos of k quarter degrees, k from 0 to 360, rounded to FP32 (R537). -/
def cosQuarter : List Nat :=
    [0x3F800000, 0x3F7FFF60, 0x3F7FFD81, 0x3F7FFA63, 0x3F7FF605, 0x3F7FF067, 0x3F7FE98B, 0x3F7FE16F, 0x3F7FD814, 0x3F7FCD79,
    0x3F7FC1A0, 0x3F7FB487, 0x3F7FA62F, 0x3F7F9699, 0x3F7F85C3, 0x3F7F73AF, 0x3F7F605C, 0x3F7F4BCA, 0x3F7F35F9, 0x3F7F1EEB,
    0x3F7F069E, 0x3F7EED12, 0x3F7ED249, 0x3F7EB642, 0x3F7E98FD, 0x3F7E7A7A, 0x3F7E5ABA, 0x3F7E39BC, 0x3F7E1781, 0x3F7DF409,
    0x3F7DCF55, 0x3F7DA963, 0x3F7D8235, 0x3F7D59CB, 0x3F7D3025, 0x3F7D0543, 0x3F7CD925, 0x3F7CABCB, 0x3F7C7D37, 0x3F7C4D67] ++
    [0x3F7C1C5C, 0x3F7BEA17, 0x3F7BB698, 0x3F7B81DF, 0x3F7B4BEB, 0x3F7B14BE, 0x3F7ADC58, 0x3F7AA2B9, 0x3F7A67E2, 0x3F7A2BD1,
    0x3F79EE89, 0x3F79B009, 0x3F797051, 0x3F792F62, 0x3F78ED3C, 0x3F78A9E0, 0x3F78654D, 0x3F781F84, 0x3F77D886, 0x3F779053,
    0x3F7746EA, 0x3F76FC4D, 0x3F76B07C, 0x3F766377, 0x3F76153F, 0x3F75C5D4, 0x3F757536, 0x3F752366, 0x3F74D063, 0x3F747C30,
    0x3F7426CB, 0x3F73D036, 0x3F737871, 0x3F731F7B, 0x3F72C557, 0x3F726A03, 0x3F720D81, 0x3F71AFD1, 0x3F7150F4, 0x3F70F0E9] ++
    [0x3F708FB2, 0x3F702D4F, 0x3F6FC9C0, 0x3F6F6505, 0x3F6EFF20, 0x3F6E9811, 0x3F6E2FD9, 0x3F6DC676, 0x3F6D5BEC, 0x3F6CF039,
    0x3F6C835E, 0x3F6C155D, 0x3F6BA635, 0x3F6B35E7, 0x3F6AC473, 0x3F6A51DA, 0x3F69DE1D, 0x3F69693D, 0x3F68F339, 0x3F687C12,
    0x3F6803CA, 0x3F678A5F, 0x3F670FD4, 0x3F669429, 0x3F66175E, 0x3F659974, 0x3F651A6B, 0x3F649A45, 0x3F641901, 0x3F6396A1,
    0x3F631324, 0x3F628E8D, 0x3F6208DA, 0x3F61820E, 0x3F60FA29, 0x3F60712A, 0x3F5FE714, 0x3F5F5BE6, 0x3F5ECFA2, 0x3F5E4247] ++
    [0x3F5DB3D7, 0x3F5D2453, 0x3F5C93BB, 0x3F5C020F, 0x3F5B6F51, 0x3F5ADB81, 0x3F5A46A0, 0x3F59B0AF, 0x3F5919AE, 0x3F58819E,
    0x3F57E880, 0x3F574E55, 0x3F56B31D, 0x3F5616D9, 0x3F55798B, 0x3F54DB31, 0x3F543BCE, 0x3F539B63, 0x3F52F9EF, 0x3F525774,
    0x3F51B3F3, 0x3F510F6C, 0x3F5069E0, 0x3F4FC350, 0x3F4F1BBD, 0x3F4E7327, 0x3F4DC990, 0x3F4D1EF8, 0x3F4C7360, 0x3F4BC6CA,
    0x3F4B1934, 0x3F4A6AA2, 0x3F49BB13, 0x3F490A88, 0x3F485902, 0x3F47A682, 0x3F46F30A, 0x3F463E99, 0x3F458930, 0x3F44D2D1] ++
    [0x3F441B7D, 0x3F436334, 0x3F42A9F7, 0x3F41EFC7, 0x3F4134A6, 0x3F407893, 0x3F3FBB90, 0x3F3EFD9E, 0x3F3E3EBD, 0x3F3D7EEF,
    0x3F3CBE35, 0x3F3BFC8F, 0x3F3B39FF, 0x3F3A7685, 0x3F39B223, 0x3F38ECD8, 0x3F3826A7, 0x3F375F90, 0x3F369795, 0x3F35CEB5,
    0x3F3504F3, 0x3F343A4F, 0x3F336ECA, 0x3F32A265, 0x3F31D522, 0x3F310700, 0x3F303801, 0x3F2F6827, 0x3F2E9772, 0x3F2DC5E3,
    0x3F2CF37B, 0x3F2C203B, 0x3F2B4C25, 0x3F2A7739, 0x3F29A178, 0x3F28CAE3, 0x3F27F37C, 0x3F271B43, 0x3F26423A, 0x3F256862] ++
    [0x3F248DBB, 0x3F23B246, 0x3F22D606, 0x3F21F8FA, 0x3F211B24, 0x3F203C85, 0x3F1F5D1F, 0x3F1E7CF1, 0x3F1D9BFE, 0x3F1CBA46,
    0x3F1BD7CA, 0x3F1AF48C, 0x3F1A108D, 0x3F192BCD, 0x3F18464E, 0x3F176012, 0x3F167918, 0x3F159163, 0x3F14A8F3, 0x3F13BFCA,
    0x3F12D5E8, 0x3F11EB4F, 0x3F110000, 0x3F1013FC, 0x3F0F2744, 0x3F0E39DA, 0x3F0D4BBE, 0x3F0C5CF2, 0x3F0B6D77, 0x3F0A7D4E,
    0x3F098C78, 0x3F089AF6, 0x3F07A8CA, 0x3F06B5F5, 0x3F05C277, 0x3F04CE53, 0x3F03D989, 0x3F02E41B, 0x3F01EE09, 0x3F00F755] ++
    [0x3F000000, 0x3EFE1017, 0x3EFC1EF1, 0x3EFA2C90, 0x3EF838F7, 0x3EF64429, 0x3EF44E27, 0x3EF256F5, 0x3EF05E94, 0x3EEE6507,
    0x3EEC6A50, 0x3EEA6E73, 0x3EE87171, 0x3EE6734E, 0x3EE4740A, 0x3EE273AA, 0x3EE0722F, 0x3EDE6F9C, 0x3EDC6BF3, 0x3EDA6738,
    0x3ED8616C, 0x3ED65A92, 0x3ED452AC, 0x3ED249BE, 0x3ED03FC9, 0x3ECE34D0, 0x3ECC28D7, 0x3ECA1BDE, 0x3EC80DE9, 0x3EC5FEFB,
    0x3EC3EF15, 0x3EC1DE3B, 0x3EBFCC6F, 0x3EBDB9B4, 0x3EBBA60C, 0x3EB9917B, 0x3EB77C01, 0x3EB565A3, 0x3EB34E62, 0x3EB13641] ++
    [0x3EAF1D44, 0x3EAD036C, 0x3EAAE8BC, 0x3EA8CD36, 0x3EA6B0DF, 0x3EA493B7, 0x3EA275C2, 0x3EA05702, 0x3E9E377A, 0x3E9C172C,
    0x3E99F61C, 0x3E97D44C, 0x3E95B1BE, 0x3E938E76, 0x3E916A76, 0x3E8F45C0, 0x3E8D2057, 0x3E8AFA3E, 0x3E88D378, 0x3E86AC07,
    0x3E8483EE, 0x3E825B30, 0x3E8031CF, 0x3E7C0F9C, 0x3E77BA60, 0x3E7363EE, 0x3E6F0C4D, 0x3E6AB382, 0x3E665992, 0x3E61FE82,
    0x3E5DA259, 0x3E59451B, 0x3E54E6CD, 0x3E508777, 0x3E4C271C, 0x3E47C5C2, 0x3E43636F, 0x3E3F0028, 0x3E3A9BF3, 0x3E3636D5] ++
    [0x3E31D0D4, 0x3E2D69F5, 0x3E29023D, 0x3E2499B3, 0x3E20305B, 0x3E1BC63C, 0x3E175B5A, 0x3E12EFBB, 0x3E0E8365, 0x3E0A165D,
    0x3E05A8A8, 0x3E013A4D, 0x3DF996A2, 0x3DF0B772, 0x3DE7D716, 0x3DDEF599, 0x3DD61305, 0x3DCD2F66, 0x3DC44AC7, 0x3DBB6533,
    0x3DB27EB6, 0x3DA99759, 0x3DA0AF2A, 0x3D97C631, 0x3D8EDC7B, 0x3D85F213, 0x3D7A0E09, 0x3D6836B2, 0x3D565E3A, 0x3D4484B7,
    0x3D32AA3E, 0x3D20CEE7, 0x3D0EF2C6, 0x3CFA2BE7, 0x3CD6710A, 0x3CB2B521, 0x3C8EF859, 0x3C5675BE, 0x3C0EF9BE, 0x3B8EFA17] ++
    [0x00000000]

/-- (c, s) of a number of quarter degrees. -/
def axisAt (k : Nat) : Nat × Nat := (cosQuarter.getD k 0, cosQuarter.getD (360 - k) 0)

/-- VBOXFIT: STEP code, Z0, ZMIN, NOUT as 32-bit words. -/
def vboxfit (n0 free : Nat) (p b : Bytes) : VecOut :=
  let step := [4, 2, 1].getD (u32 p 0) 4
  let pts := usedPoints n0 (u32 p 4) (u32 p 8) b
  let first := sweepAt pts (axisAt 0).1 (axisAt 0).2
  let best := (List.range (360 / step)).foldl (fun (r : Sweep) k =>
    let t := sweepAt pts (axisAt (k * step)).1 (axisAt (k * step)).2
    if flt t.area r.area then t else r) first
  let wide := fle best.ev best.eu
  boxOut (boxRecord pts best (if wide then best.c else fneg best.s) (if wide then best.s else best.c)
    (if wide then best.eu else best.ev) (if wide then best.ev else best.eu) (u32 p 4) (u32 p 12) free)

/-- VBOXPCA: Z0, ZMIN, NOUT as 32-bit words; SQRT and RSQRT by the shared-mode procedure (R531, R538). -/
def vboxpca (n0 free : Nat) (p b : Bytes) : VecOut :=
  let pts := usedPoints n0 (u32 p 0) (u32 p 4) b
  let n := count32 pts.length
  let mean := fun (l : List Nat) => fdiv (rowSum (l.map f32)) n
  let mx := mean (pts.map (·.x)); let my := mean (pts.map (·.y))
  let dx := pts.map fun q => fsub q.x mx
  let dy := pts.map fun q => fsub q.y my
  let dot := fun (a c : List Nat) => rowSum (List.zipWith (fun x y => (f32 x).mul (f32 y)) a c)
  let sxx := dot dx dx; let syy := dot dy dy; let sxy := dot dx dy
  let half := fun x => fmul half32 x
  let dif := half (fsub sxx syy)
  let lam := fadd (half (fadd sxx syy)) (prim true 0x0E (fadd (fmul dif dif) (fmul sxy sxy))).1
  let e := fsub lam sxx
  let r := (rsqrtF true (fadd (fmul sxy sxy) (fmul e e))).1
  let ax := fmul sxy r; let ay := fmul e r
  let ok := (f32 ax).isFinite && (f32 ay).isFinite
  let c := if ok then ax else one32
  let s := if ok then ay else 0
  let t := sweepAt pts c s
  boxOut (boxRecord pts t c s t.eu t.ev (u32 p 0) (u32 p 8) free)

/-- The limits of the box parameters. -/
def boxOk (pca : Bool) (p : Bytes) : Bool := if pca then decide (u32 p 8 ≤ 255) else decide (u32 p 0 ≤ 2) && decide (u32 p 12 ≤ 255)

/-! ### Selection (R539) -/

/-- A detection box. -/
structure Det where
  x0 : Nat
  y0 : Nat
  x1 : Nat
  y1 : Nat
  score : Nat
  cls : Nat
  idx : Nat
  deriving DecidableEq, Repr

def detOf (b : Bytes) (i : Nat) : Det :=
  let w := fun k => u32 b (32 * i + 4 * k)
  ⟨plain32 (w 0), plain32 (w 1), plain32 (w 2), plain32 (w 3), plain32 (w 4), w 5, w 6⟩

/-- Insert by score descending, ties to the lower index. -/
def insertDet (x : Det) : List Det → List Det
  | [] => [x]
  | y :: l => if flt y.score x.score || (!flt x.score y.score && decide (x.idx < y.idx)) then x :: y :: l else y :: insertDet x l

/-- `b` is suppressed by the kept box `a`. -/
def suppresses (thr : Nat) (perclass : Bool) (a b : Det) : Bool :=
  let pos := fun v => max32 0 v
  let w := pos (fsub (min32 a.x1 b.x1) (max32 a.x0 b.x0))
  let h := pos (fsub (min32 a.y1 b.y1) (max32 a.y0 b.y0))
  let area := fun (d : Det) => fmul (pos (fsub d.x1 d.x0)) (pos (fsub d.y1 d.y0))
  let inter := fmul w h
  let uni := fsub (fadd (area a) (area b)) inter
  (!perclass || a.cls == b.cls) && flt (fmul thr uni) inter

/-- The limits of VNMS: THR, SMIN as FP32, MAXOUT and PERCLASS as 32-bit words. -/
def nmsOk (p : Bytes) : Bool := decide (1 ≤ u32 p 8) && decide (u32 p 8 ≤ 65536) && decide (u32 p 12 ≤ 1)

/-- VNMS. -/
def vnms (n0 : Nat) (p b : Bytes) : VecOut :=
  let l := ((List.range n0).map (detOf b)).filter fun d => fle (u32 p 4) d.score
  let order := l.foldl (fun a d => insertDet d a) []
  let kept := order.foldl (fun (k : List Det) d =>
    if u32 p 8 ≤ k.length ∨ k.any (fun a => suppresses (u32 p 0) (u32 p 12 == 1) a d) then k else k ++ [d]) []
  { parts := [(0, padTo 64 (leBytes 4 kept.length)), (64, (kept.map fun d => leBytes 4 d.idx).flatten)] }

/-- An FP32 key as it is compared: a subnormal as a zero of its sign (R531), every NaN of one sign alike (R539, log 104). -/
def plainKey (k : Nat) : Nat :=
  let s := k / 2 ^ 31 * 2 ^ 31; let m := k % 2 ^ 31
  if m < 0x800000 then s else if 0x7F800000 < m then s + nan32 else k

/-- A key as an unsigned number in its order: U32, I32, or FP32 with -NaN first and +NaN last. -/
def sortKey (kt k : Nat) : Nat :=
  if kt = 0 then k
  else if kt = 1 then (k + 2 ^ 31) % 2 ^ 32
  else let f := plainKey k; if f < 2 ^ 31 then f + 2 ^ 31 else 2 ^ 32 - 1 - f

def sortOk (p : Bytes) : Bool := decide (u8 p 0 ≤ 2) && decide (u8 p 1 ≤ 1)

/-- The records of VSORT in their stable order: KTYPE and DESC in bytes 0 and 1. -/
def sortRecords (n0 : Nat) (p b : Bytes) : List Bytes :=
  let key := fun (r : Bytes) => let k := sortKey (u8 p 0) (u32 r 0); if u8 p 1 = 1 then 2 ^ 32 - 1 - k else k
  sortRank key ((List.range n0).map fun i => slice b (8 * i) 8)

def vsort (n0 : Nat) (p b : Bytes) : VecOut := { parts := [(0, (sortRecords n0 p b).flatten)] }
def vtopk (n0 n1 : Nat) (p b : Bytes) : VecOut := { parts := [(0, ((sortRecords n0 p b).take n1).flatten)] }

/-- One row of VARGMAX: a NaN ranks highest, ties go to the lower index. -/
def argmaxRow (n0 : Nat) (row : Bytes) : List Nat :=
  let v := (List.range n0).map fun i => plain32 (u32 row (4 * i))
  let at_ := fun i => v.getD i 0
  let above := fun a b => if isNan32 (at_ a) then !isNan32 (at_ b) else !isNan32 (at_ b) && flt (at_ b) (at_ a)
  let pick := fun (l : List Nat) => l.foldl (fun (o : Option Nat) i => match o with | none => some i | some b => some (if above i b then i else b)) none
  let i := (pick (List.range n0)).getD 0
  let j := (pick ((List.range n0).filter (· != i))).getD 0
  [i, at_ i, at_ j, fsub (at_ i) (at_ j)]

def vargmax (n0 n1 : Nat) (b : Bytes) : VecOut :=
  let rows := (List.range n1).map fun r => argmaxRow n0 (slice b (r * pitchOf (4 * n0)) (4 * n0))
  { parts := [(0, (rows.map fun r => (r.map (leBytes 4)).flatten).flatten)], nans := (rows.map fun r => countNan32 (r.drop 1)).foldl (· + ·) 0 }

/-! ### Motion (R540, R541) -/

/-- The words of a block. -/
def wordsOf (b : Bytes) (n : Nat) : List Nat := (List.range n).map fun i => u32 b (4 * i)

/-- VIK: six DH rows (24 words), six minima and six maxima of the joints, RES_MAX. -/
def ikOk (p : Bytes) : Bool :=
  let r := f32 (u32 p 144)
  (Num.fin false 1 0).le (r.mul (.fin false 1000 0)) && r.le (.fin false 10 0)

/-- A joint vector lies within the limits. -/
def withinJoints (p : Bytes) (q : List Nat) : Bool :=
  (List.range 6).all fun i => fle (u32 p (96 + 4 * i)) (q.getD i 0) && fle (q.getD i 0) (u32 p (120 + 4 * i))

/-- max |q - seed|. -/
def jointGap (seed q : List Nat) : Nat := ((List.range 6).map fun i => fabs (fsub (q.getD i 0) (seed.getD i 0))).foldl max32 0

/-- One target of VIK. The spec states the method without its steps: the candidates, the refined joints, the residual and the
singularity are opaque functions of the parameters and the target (log 73). -/
def ikTarget (p t : Bytes) : List Nat × Nat :=
  let key := wordsOf p 36 ++ wordsOf t 18
  let word := fun (q : List Nat) => (List.range 6).map fun i => q.getD i 0 % 2 ^ 32
  let seed := (List.range 6).map fun i => u32 t (48 + 4 * i)
  let cands := ((Config.ikCandidates key).take 8).map word
  let ok := cands.filter (withinJoints p)
  let best := ok.foldl (fun (o : Option (List Nat)) q => match o with
    | none => some q
    | some b => if flt (jointGap seed q) (jointGap seed b) then some q else some b) none
  let joints := match best with | some q => word (Config.ikRefine key q) | none => seed
  let res := Config.ikResidual key joints % 2 ^ 32
  let flags := ofBool cands.isEmpty + 2 * ofBool (!cands.isEmpty && ok.isEmpty) + 4 * ofBool (Config.ikSingular key) +
    8 * ofBool (flt (u32 p 144) res)
  (joints ++ [res], flags)

def vik (n0 : Nat) (p b : Bytes) : VecOut :=
  let l := (List.range n0).map fun i => ikTarget p (slice b (96 * i) 96)
  { parts := [(0, (l.map fun r => (r.1.map (leBytes 4)).flatten ++ leBytes 4 r.2).flatten)]
    nans := (l.map fun r => countNan32 r.1).foldl (· + ·) 0, flagged := (l.filter fun r => r.2 != 0).length }

/-- VJERK: for each axis P0, P1, VMAX, AMAX, JMAX from byte 20 · axis, TS in µs in bytes 160 to 163. -/
def jerkOk (n0 : Nat) (p : Bytes) : Bool :=
  decide (10 ≤ u32 p 160) && decide (u32 p 160 ≤ 10000) && (List.range n0).all fun a =>
    finite32 (u32 p (20 * a)) && finite32 (u32 p (20 * a + 4)) && [8, 12, 16].all fun o => positive32 (u32 p (20 * a + o))

/-- A value kept between two bounds; NaN becomes the lower one. -/
def clamp32 (lo hi x : Nat) : Nat := if fle lo x then (if fle x hi then x else hi) else lo

/-- A bound with the relative margin of R541, rounded down: `x` · `n` / 10^6 · (1 + 2^-20). -/
def withMargin (x n : Nat) : Nat := divTo 24 .down ((f32 x).mul (.fin false (n * (2 ^ 20 + 1)) (-20))) (.fin false 1000000 0)

/-- A sample of one axis from the open values `pos` and `vel`, kept within R541 after the sample (position, velocity) before it: the position
goes from that one toward P1, the velocity stays within VMAX and within AMAX · TS of that one. -/
def jerkStep (p : Bytes) (a pos vel : Nat) (last : Nat × Nat) : Nat × Nat :=
  let p1 := plain32 (u32 p (20 * a + 4))
  let vb := withMargin (u32 p (20 * a + 8)) 1000000
  let da := withMargin (u32 p (20 * a + 12)) (u32 p 160)
  (if flt last.1 p1 then clamp32 last.1 p1 pos else clamp32 p1 last.1 pos,
    clamp32 (max32 (fneg vb) (fsub last.2 da)) (min32 vb (fadd last.2 da)) vel)

/-- The `n` samples of an axis before its last: the first is P0 at rest, each follows from the one before. -/
def jerkAxis (key : List Nat) (p : Bytes) (a n : Nat) : List (Nat × Nat) :=
  ((List.range n).foldl (fun (l : List (Nat × Nat)) k => match l with
    | [] => [(plain32 (u32 p (20 * a)), 0)]
    | y :: _ => jerkStep p a (Config.jerkSample key k (2 * a) % 2 ^ 32) (Config.jerkSample key k (2 * a + 1) % 2 ^ 32) y :: l) []).reverse

/-- The samples of VJERK: none moves where every axis stands at its end, otherwise a number of samples and values that the spec bounds
and does not state (R541, log 74); the last sample is P1 with velocity +0. -/
def jerkSamples (n0 : Nat) (p : Bytes) : List (List Nat) :=
  let key := n0 :: wordsOf p 41
  let still := (List.range n0).all fun a => (f32 (u32 p (20 * a))).eq (f32 (u32 p (20 * a + 4)))
  let last := (List.range n0).flatMap fun a => [plain32 (u32 p (20 * a + 4)), 0]
  let n := if still then 0 else 1 + Config.jerkCount key
  let axes := (List.range n0).map fun a => jerkAxis key p a n
  ((List.range n).map fun k => axes.flatMap fun l => let y := l.getD k (0, 0); [y.1, y.2]) ++ [last]

/-- VJERK; none when more than N1 samples result. -/
def vjerk (n0 n1 : Nat) (p : Bytes) : Option VecOut :=
  let l := jerkSamples n0 p
  if n1 < l.length then none
  else some
    { parts := [(0, padTo 64 (leBytes 4 l.length)), (64, (l.map fun r => (r.map (leBytes 4)).flatten).flatten)]
      nans := (l.map countNan32).foldl (· + ·) 0 }

/-! ### The check model (R542) -/

def matOk (p : Bytes) : Bool :=
  decide (1 ≤ matK p) && decide (matK p ≤ 65536) && decide (1 ≤ matN p) && decide (matN p ≤ 65536) && decide (matOut p ≤ 1)

/-- VMATMUL: one FMA for each k ascending, each rounded once. -/
def vmatmul (n0 : Nat) (p a w bias : Bytes) : VecOut :=
  let k := matK p; let n := matN p
  let pk := pitchOf (2 * k)
  let rowOf := fun (b : Bytes) (i : Nat) => (List.range k).map fun e => bf16 (u16 b (i * pk + 2 * e))
  let ws := (List.range n).map (rowOf w)
  let rows := (List.range n0).map fun i =>
    let av := rowOf a i
    ws.mapIdx fun j wv => (av.zip wv).foldl (fun acc e => rne32 ((e.1.mul e.2).add (f32 acc))) (if matBias p = 0 then 0 else plain32 (u32 bias (4 * j)))
  let esz := if matOut p = 1 then 4 else 2
  { parts := imageRows (rows.map fun r => (r.map fun v => leBytes esz (if matOut p = 1 then v else rne16 (f32 v))).flatten)
    nans := (rows.map countNan32).foldl (· + ·) 0 }

def vactOk (p : Bytes) : Bool := decide (u8 p 0 ≤ 0x0E) && decide (u8 p 1 ≤ 1)

/-- VACT: a function of R471 by the shared-mode procedure. -/
def vact (n0 : Nat) (p b : Bytes) : VecOut :=
  let bf := actBf p
  let l := (List.range n0).map fun i =>
    (evalFn true (u8 p 0) (u32 p 4) (if bf then rne32 (bf16 (u16 b (2 * i))) else plain32 (u32 b (4 * i)))).1
  { parts := [(0, (l.map fun v => if bf then leBytes 2 (rne16 (f32 v)) else leBytes 4 v).flatten)], nans := countNan32 l }

end Sys2Proof.Machine
end

