-- ==== Sys2Proof/Machine/Vector.lean ====
section
/-! DEFINITION. The vector commands (chapter 18). -/

namespace Sys2Proof.Machine
open Reg

/-- The parameters of a command lie within the limits of its table (R530). -/
def vecParamsOk (op n0 n1 : Nat) (p : Bytes) : Bool :=
  if op = 0x01 then resizeOk n0 n1 p else if op = 0x02 then filtOk p else if op = 0x03 then stereoOk p
  else if op = 0x11 then boxOk false p else if op = 0x12 then boxOk true p else if op = 0x20 then nmsOk p
  else if op = 0x21 ∨ op = 0x22 then sortOk p else if op = 0x30 then ikOk p else if op = 0x31 then jerkOk n0 p
  else if op = 0x40 then matOk p else if op = 0x41 then vactOk p else true

/-- The method of an opcode on its inputs; none where VJERK needs more samples than N1. -/
def vecMethod (op n0 n1 free : Nat) (p a c bias : Bytes) : Option VecOut :=
  if op = 0x01 then some (vresize n0 p a) else if op = 0x02 then some (vfilt n0 n1 p a) else if op = 0x03 then some (vstereo n0 n1 p a c)
  else if op = 0x10 then some (vpcloud n0 n1 p a) else if op = 0x11 then some (vboxfit n0 free p a)
  else if op = 0x12 then some (vboxpca n0 free p a) else if op = 0x20 then some (vnms n0 p a) else if op = 0x21 then some (vsort n0 p a)
  else if op = 0x22 then some (vtopk n0 n1 p a) else if op = 0x30 then some (vik n0 p a) else if op = 0x31 then vjerk n0 n1 p
  else if op = 0x40 then some (vmatmul n0 p a c bias) else if op = 0x41 then some (vact n0 p a) else some (vargmax n0 n1 a)

/-- A vector command on its cluster: samples, parameter block, inputs, method, output (R529 to R533). -/
def runVector (op : Nat) (x : Ctx) (b : Bytes) (s : State) : State :=
  let n0 := u32 b 40 % 2 ^ 24; let n1 := u32 b 44 % 2 ^ 24
  let ao := vecOpd (u64 b 8); let co := vecOpd (u64 b 16); let d := vecOpd (u64 b 24)
  let pos := positions [ao, co, d]
  if !takeFresh s x.q pos then endStale x b s
  else
    let pv := memRead s x.tid (u64 b 32) (64 * u8 b 49)
    let p := pv.2
    if pv.1 ≠ 0 then finish x b pos pv.1 s
    else if !vecParamsOk op n0 n1 p then finish x b pos 0x03 s
    else
      let z := vecSizes op n0 n1 p
      let av := readOpd s x ao z.1
      let cv := readOpd s x co z.2.1
      let bv := if op = 0x40 ∧ matBias p ≠ 0 then memRead s x.tid (matBias p) (4 * matN p) else (0, [])
      let s := noteReads x [(ao, z.1), (co, z.2.1)] s
      let st := worstOf [av.1, cv.1, bv.1]
      if st ≠ 0 then finish x b pos st s
      else
        match vecMethod op n0 n1 (Config.openResult [op, n0, n1, leNat p, leNat av.2]) p av.2 cv.2 bv.2 with
        | none => finish x b pos 0x03 s
        | some r =>
          let w := writeParts x d r.parts s
          let s := (w.2.inc (VX_NAN (x.col - 8)) r.nans).inc (VX_IKFLAG (x.col - 8)) r.flagged
          finish x b pos w.1 s

/-- A vector command at the head of queue `q` on column `c`. -/
def vectorCommand (op q c : Nat) (s : State) : State :=
  match engineCmd s q c 2 op with | none => s | some (x, b) => runVector op x b s

/-- VRESIZE crops and resizes an image (R534). -/
def execVresize (q c : Nat) (s : State) : Out := .next (vectorCommand 0x01 q c s)
/-- VFILT applies an integer filter (R534). -/
def execVfilt (q c : Nat) (s : State) : Out := .next (vectorCommand 0x02 q c s)
/-- VSTEREO computes a disparity map (R534). -/
def execVstereo (q c : Nat) (s : State) : Out := .next (vectorCommand 0x03 q c s)
/-- VPCLOUD converts disparities to points (R535). -/
def execVpcloud (q c : Nat) (s : State) : Out := .next (vectorCommand 0x10 q c s)
/-- VBOXFIT fits a minimum-area box (R537). -/
def execVboxfit (q c : Nat) (s : State) : Out := .next (vectorCommand 0x11 q c s)
/-- VBOXPCA fits a box on the principal axes (R538). -/
def execVboxpca (q c : Nat) (s : State) : Out := .next (vectorCommand 0x12 q c s)
/-- VNMS suppresses overlapping boxes (R539). -/
def execVnms (q c : Nat) (s : State) : Out := .next (vectorCommand 0x20 q c s)
/-- VSORT sorts records stably (R539). -/
def execVsort (q c : Nat) (s : State) : Out := .next (vectorCommand 0x21 q c s)
/-- VTOPK writes the first K records of the stable order (R539). -/
def execVtopk (q c : Nat) (s : State) : Out := .next (vectorCommand 0x22 q c s)
/-- VARGMAX (R539). -/
def execVargmax (q c : Nat) (s : State) : Out := .next (vectorCommand 0x42 q c s)
/-- VIK (R540). -/
def execVik (q c : Nat) (s : State) : Out := .next (vectorCommand 0x30 q c s)
/-- VJERK (R540). -/
def execVjerk (q c : Nat) (s : State) : Out := .next (vectorCommand 0x31 q c s)
/-- VMATMUL (R542). -/
def execVmatmul (q c : Nat) (s : State) : Out := .next (vectorCommand 0x40 q c s)
/-- VACT (R542). -/
def execVact (q c : Nat) (s : State) : Out := .next (vectorCommand 0x41 q c s)

/-- CLUSTER_SCRUB: the scrub of cluster `v` reads words, as PASTURE_SCRUB does (R527). -/
def execClusterScrub (v : Nat) (errs : List (Nat × Bool)) (pass : Bool) (s : State) : Out :=
  .next (if v < 4 ∧ columnReady s (8 + v) ∧ errs.all (fun w => decide (w.1 < 131072)) then
    let s := scrubWords (8 + v) (CLM_CORR v) errs s
    if pass then s.incWrap (CLM_SCRUB_PASSES v) else s
  else s)

end Sys2Proof.Machine
end

