-- ==== Sys2Proof/Machine/Dispatch.lean ====
section
/-! DEFINITION. The meaning of every command: one arm per constructor. -/

namespace Sys2Proof.Machine

def exec (i : Instr) (s : State) : Host.Outcome State Fault Refusal :=
  match i with
  | .vaonLoss => Sys2Proof.Machine.execVaonLoss s
  | .presenceQualified => Sys2Proof.Machine.execPresenceQualified s
  | .pgoodMemRise => Sys2Proof.Machine.execPgoodMemRise s
  | .pgoodMainRise => Sys2Proof.Machine.execPgoodMainRise s
  | .pgTimeout => Sys2Proof.Machine.execPgTimeout s
  | .pgRetry => Sys2Proof.Machine.execPgRetry s
  | .pgoodMainFall => Sys2Proof.Machine.execPgoodMainFall s
  | .pgoodMemFall => Sys2Proof.Machine.execPgoodMemFall s
  | .coldReset mode chip hostlink test => Sys2Proof.Machine.execColdReset mode chip hostlink test s
  | .pinReset => Sys2Proof.Machine.execPinReset s
  | .resetRelease mode chip hostlink test => Sys2Proof.Machine.execResetRelease mode chip hostlink test s
  | .sysReset w v => Sys2Proof.Machine.execSysReset w v s
  | .wdgReset => Sys2Proof.Machine.execWdgReset s
  | .islReset w v => Sys2Proof.Machine.execIslReset w v s
  | .islReapplyDone => Sys2Proof.Machine.execIslReapplyDone s
  | .lnkReset kind => Sys2Proof.Machine.execLnkReset kind s
  | .slotSelection a b => Sys2Proof.Machine.execSlotSelection a b s
  | .flashReadTimeout a => Sys2Proof.Machine.execFlashReadTimeout s a
  | .prefixVerified trained => Sys2Proof.Machine.execPrefixVerified trained s
  | .imageVerified => Sys2Proof.Machine.execImageVerified s
  | .regPollTimeout => Sys2Proof.Machine.execRegPollTimeout s
  | .sealBoot => Sys2Proof.Machine.execSeal s
  | .hostgo w master => Sys2Proof.Machine.execHostgo w master s
  | .confirm w => Sys2Proof.Machine.execConfirm w s
  | .autoConfirm => Sys2Proof.Machine.execAutoConfirm s
  | .retry w => Sys2Proof.Machine.execRetry w s
  | .ptpGateTimeout => Sys2Proof.Machine.execPtpGateTimeout s
  | .extpGo w v => Sys2Proof.Machine.execExtpGo w v s
  | .extpHashDone => Sys2Proof.Machine.execExtpHashDone s
  | .registerWrite a l hw rst => Sys2Proof.Machine.execRegisterWrite a l hw s rst
  | .pairLoRead w a width l => Sys2Proof.Machine.execPairLoRead w a s width l
  | .refclkGateEnd count stop => Sys2Proof.Machine.execRefclkGateEnd count stop s
  | .refclkGlitch => Sys2Proof.Machine.execRefclkGlitch s
  | .refclkStop => Sys2Proof.Machine.execRefclkStop s
  | .lostCutoff => Sys2Proof.Machine.execLostCutoff s
  | .xtalFail => Sys2Proof.Machine.execXtalFail s
  | .xtalRestore => Sys2Proof.Machine.execXtalRestore s
  | .boscTrim trim => Sys2Proof.Machine.execBoscTrim trim s
  | .islandClockFault k => Sys2Proof.Machine.execIslandClockFault k s
  | .dvfsSwitch k => Sys2Proof.Machine.execDvfsSwitch k s
  | .runRequest w => Sys2Proof.Machine.execRunRequest w s
  | .dozeRequest w => Sys2Proof.Machine.execDozeRequest w s
  | .foldRequest w => Sys2Proof.Machine.execFoldRequest w s
  | .offRequest w => Sys2Proof.Machine.execOffRequest w s
  | .powerTransition => Sys2Proof.Machine.execPowerTransition s
  | .foldSnapshotCommit => Sys2Proof.Machine.execFoldSnapshotCommit s
  | .wakeLatch l => Sys2Proof.Machine.execWakeLatch l s
  | .dozeExit us => Sys2Proof.Machine.execDozeExit us s
  | .foldExit us good => Sys2Proof.Machine.execFoldExit us good s
  | .ejectAccept => Sys2Proof.Machine.execEjectAccept s
  | .drained us => Sys2Proof.Machine.execDrained us s
  | .ejectRelease => Sys2Proof.Machine.execEjectRelease s
  | .surpriseRemoval => Sys2Proof.Machine.execSurpriseRemoval s
  | .streamIdleRelease n => Sys2Proof.Machine.execStreamIdleRelease n s
  | .canPeerAgeout n id xtd => Sys2Proof.Machine.execCanPeerAgeout n id xtd s
  | .ptpForeignAgeout n sender => Sys2Proof.Machine.execPtpForeignAgeout n sender s
  | .pdelayNeighbourLoss n => Sys2Proof.Machine.execPdelayNeighbourLoss n s
  | .timeStep w => Sys2Proof.Machine.execTimeStep w s
  | .deferredStep => Sys2Proof.Machine.execDeferredStep s
  | .ptpSync n origin corr ago => Sys2Proof.Machine.execPtpSync n origin corr ago s
  | .syncLoss => Sys2Proof.Machine.execSyncLoss s
  | .ptpAnnounce n a => Sys2Proof.Machine.execPtpAnnounce n a s
  | .ptpPdelayResp n sender round turn => Sys2Proof.Machine.execPtpPdelayResp n sender round turn s
  | .txtsNsRead w n => Sys2Proof.Machine.execTxtsNsRead w n s
  | .tkTimeRead w => Sys2Proof.Machine.execTkTimeRead w s
  | .toutArm w n v => Sys2Proof.Machine.execToutArm w n v s
  | .toutEdge n => Sys2Proof.Machine.execToutEdge n s
  | .tcapEdge n rising ago => Sys2Proof.Machine.execTcapEdge n rising ago s
  | .tcapNsRead w n => Sys2Proof.Machine.execTcapNsRead w n s
  | .launchGridArm w g v => Sys2Proof.Machine.execLaunchGridArm w g v s
  | .launchInstant => Sys2Proof.Machine.execLaunchInstant s
  | .leapSchedule w v => Sys2Proof.Machine.execLeapSchedule w v s
  | .leapSecond => Sys2Proof.Machine.execLeapSecond s
  | .calSet w v => Sys2Proof.Machine.execCalSet w v s
  | .calDateRead w => Sys2Proof.Machine.execCalDateRead w s
  | .rtcRealign => Sys2Proof.Machine.execRtcRealign s
  | .aonAlarm => Sys2Proof.Machine.execAonAlarm s
  | .frameStart u v fn ecc stop more => Sys2Proof.Machine.execFrameStart u v fn ecc s stop more
  | .linePacket u v dt ecc crcOk data => Sys2Proof.Machine.execLinePacket u v dt ecc crcOk data s
  | .frameEnd u v ecc bad1 bad2 => Sys2Proof.Machine.execFrameEnd u v ecc bad1 bad2 s
  | .lineTimeout u v => Sys2Proof.Machine.execLineTimeout u v s
  | .clockLaneLoss u => Sys2Proof.Machine.execClockLaneLoss u s
  | .gvspLeader => Sys2Proof.Machine.execGvspLeader s
  | .gvspPayload bad1 bad2 => Sys2Proof.Machine.execGvspPayload s bad1 bad2
  | .gvspTrailer bad1 bad2 => Sys2Proof.Machine.execGvspTrailer s bad1 bad2
  | .gvspBlockTimeout n => Sys2Proof.Machine.execGvspBlockTimeout n s
  | .jpegDecodeDone n bad1 bad2 => Sys2Proof.Machine.execJpegDecodeDone n s bad1 bad2
  | .sampleReady l => Sys2Proof.Machine.execSampleReady l s
  | .sampleStale n => Sys2Proof.Machine.execSampleStale n s
  | .replayGo w v => Sys2Proof.Machine.execReplayGo w v s
  | .replayReady => Sys2Proof.Machine.execReplayReady s
  | .cciGo w n v => Sys2Proof.Machine.execCciGo w n v s
  | .cciCommit b fails release => Sys2Proof.Machine.execCciCommit b fails release s
  | .autoExposure n => Sys2Proof.Machine.execAutoExposure n s
  | .mcRead p oc tid addr n rt dead errs => Sys2Proof.Machine.execMcRead p oc tid addr n rt dead errs s
  | .mcWrite p oc tid addr b rt dead errs => Sys2Proof.Machine.execMcWrite p oc tid addr b rt dead errs s
  | .refresh c hot => Sys2Proof.Machine.execRefresh c hot s
  | .refreshShadow m drift beyond c => Sys2Proof.Machine.execRefreshShadow m drift beyond s c
  | .mcRetrainReq w m v => Sys2Proof.Machine.execMcRetrainReq w m v s
  | .retrainTimeout m => Sys2Proof.Machine.execRetrainTimeout m s
  | .patrolScrub m kind => Sys2Proof.Machine.execPatrolScrub m kind s
  | .linkReplay n ring good => Sys2Proof.Machine.execLinkReplay n ring good s
  | .fabricTimeout p tag => Sys2Proof.Machine.execFabricTimeout p tag s
  | .tonote => Sys2Proof.Machine.execTonote s
  | .fenceSet w k v => Sys2Proof.Machine.execFenceSet w k v s
  | .fenceLift w k v => Sys2Proof.Machine.execFenceLift w k v s
  | .fabricResponse p tag tgt fromTarget => Sys2Proof.Machine.execFabricResponse p tag tgt fromTarget s
  | .syncRequest p tgt oc typ => Sys2Proof.Machine.execSyncRequest p tgt oc s typ
  | .probeObserve n flits l => Sys2Proof.Machine.execProbeObserve n flits l s
  | .windowTick => Sys2Proof.Machine.execWindowTick s
  | .prbClear w ticked => Sys2Proof.Machine.execPrbClear w ticked s
  | .traceSync => Sys2Proof.Machine.execTraceSync s
  | .traceLoss n => Sys2Proof.Machine.execTraceLoss n s
  | .bind w q => Sys2Proof.Machine.execBind w q s
  | .unbind w q => Sys2Proof.Machine.execUnbind w q s
  | .resume w q => Sys2Proof.Machine.execResume w q s
  | .sqDb q l => Sys2Proof.Machine.execSqDb q l s
  | .cqDb q l => Sys2Proof.Machine.execCqDb q l s
  | .fetchError q => Sys2Proof.Machine.execFetchError q s
  | .commandComplete q => Sys2Proof.Machine.execCommandComplete q s
  | .irqTimer q => Sys2Proof.Machine.execIrqTimer q s
  | .nop q => Sys2Proof.Machine.execNop q s
  | .regwr q => Sys2Proof.Machine.execRegwr q s
  | .regrd q => Sys2Proof.Machine.execRegrd q s
  | .regpoll q => Sys2Proof.Machine.execRegpoll q s
  | .regpollTimeout q => Sys2Proof.Machine.execRegpollTimeout q s
  | .signalEvent q => Sys2Proof.Machine.execSignalEvent q s
  | .waitEvent q => Sys2Proof.Machine.execWaitEvent q s
  | .waitTimeout q => Sys2Proof.Machine.execWaitTimeout q s
  | .evset q => Sys2Proof.Machine.execEvset q s
  | .majorBoundary check => Sys2Proof.Machine.execMajorBoundary check s
  | .rotationStart => Sys2Proof.Machine.execRotationStart s
  | .fixedClaimStart e => Sys2Proof.Machine.execFixedClaimStart e s
  | .headFire e => Sys2Proof.Machine.execHeadFire e s
  | .chainClaimStart e => Sys2Proof.Machine.execChainClaimStart e s
  | .maintClaimStart e => Sys2Proof.Machine.execMaintClaimStart e s
  | .claimEnd e => Sys2Proof.Machine.execClaimEnd e s
  | .servingDispatch c => Sys2Proof.Machine.execServingDispatch c s
  | .servingOverrun c => Sys2Proof.Machine.execServingOverrun c s
  | .flockStepStart f c => Sys2Proof.Machine.execFlockStepStart f c s
  | .flockStepEnd c => Sys2Proof.Machine.execFlockStepEnd c s
  | .flockAdmitTimeout k => Sys2Proof.Machine.execFlockAdmitTimeout k s
  | .maintExpiry q => Sys2Proof.Machine.execMaintExpiry q s
  | .forcedRun q => Sys2Proof.Machine.execForcedRun q s
  | .gemm q c => Sys2Proof.Machine.execGemm q c s
  | .conv q c => Sys2Proof.Machine.execConv q c s
  | .req q c => Sys2Proof.Machine.execReq q c s
  | .copy q c => Sys2Proof.Machine.execCopy q c s
  | .fill q c => Sys2Proof.Machine.execFill q c s
  | .sigchk q c => Sys2Proof.Machine.execSigchk q c s
  | .pastureScrub e errs pass => Sys2Proof.Machine.execPastureScrub e errs pass s
  | .act q c => Sys2Proof.Machine.execAct q c s
  | .glu q c => Sys2Proof.Machine.execGlu q c s
  | .rowstat q c => Sys2Proof.Machine.execRowstat q c s
  | .lnorm q c => Sys2Proof.Machine.execLnorm q c s
  | .rmsnorm q c => Sys2Proof.Machine.execRmsnorm q c s
  | .softmax q c => Sys2Proof.Machine.execSoftmax q c s
  | .attn q c => Sys2Proof.Machine.execAttn q c s
  | .kvappend q c => Sys2Proof.Machine.execKvappend q c s
  | .kvtok q c => Sys2Proof.Machine.execKvtok q c s
  | .flockreq q => Sys2Proof.Machine.execFlockreq q s
  | .vresize q c => Sys2Proof.Machine.execVresize q c s
  | .vfilt q c => Sys2Proof.Machine.execVfilt q c s
  | .vstereo q c => Sys2Proof.Machine.execVstereo q c s
  | .vpcloud q c => Sys2Proof.Machine.execVpcloud q c s
  | .vboxfit q c => Sys2Proof.Machine.execVboxfit q c s
  | .vboxpca q c => Sys2Proof.Machine.execVboxpca q c s
  | .vnms q c => Sys2Proof.Machine.execVnms q c s
  | .vsort q c => Sys2Proof.Machine.execVsort q c s
  | .vtopk q c => Sys2Proof.Machine.execVtopk q c s
  | .vargmax q c => Sys2Proof.Machine.execVargmax q c s
  | .vik q c => Sys2Proof.Machine.execVik q c s
  | .vjerk q c => Sys2Proof.Machine.execVjerk q c s
  | .vmatmul q c => Sys2Proof.Machine.execVmatmul q c s
  | .vact q c => Sys2Proof.Machine.execVact q c s
  | .clusterScrub v errs pass => Sys2Proof.Machine.execClusterScrub v errs pass s
  | .indexCheck x => Sys2Proof.Machine.execIndexCheck x s
  | .glLoad w v => Sys2Proof.Machine.execGlLoad w v s
  | .glSwap w v => Sys2Proof.Machine.execGlSwap w v s
  | .gsearch q => Sys2Proof.Machine.execGsearch q s
  | .gsearchDeadline q scanned => Sys2Proof.Machine.execGsearchDeadline q scanned s
  | .dcompare q => Sys2Proof.Machine.execDcompare q s
  | .dsafe q => Sys2Proof.Machine.execDsafe q s
  | .faultReport l => Sys2Proof.Machine.execFaultReport l s
  | .sfFltClr w clr key => Sys2Proof.Machine.execSfFltClr w clr key s
  | .safeToggle => Sys2Proof.Machine.execSafeToggle s
  | .safeOutputReadback a b m => Sys2Proof.Machine.execSafeOutputReadback a b m s
  | .startLate q => Sys2Proof.Machine.execStartLate q s
  | .endLate q => Sys2Proof.Machine.execEndLate q s
  | .budget q => Sys2Proof.Machine.execBudget q s
  | .heartbeat w v => Sys2Proof.Machine.execHeartbeat w v s
  | .hbLate q => Sys2Proof.Machine.execHbLate q s
  | .lbist q => Sys2Proof.Machine.execLbist q s
  | .mbist q => Sys2Proof.Machine.execMbist q s
  | .retrain q => Sys2Proof.Machine.execRetrain q s
  | .maintRequestDone req pass granule => Sys2Proof.Machine.execMaintRequestDone req pass granule s
  | .injectRaise w v => Sys2Proof.Machine.execInjectRaise w v s
  | .injectTask w v => Sys2Proof.Machine.execInjectTask w v s
  | .barrierPoint => Sys2Proof.Machine.execBarrierPoint s
  | .bellwetherRelease => Sys2Proof.Machine.execBellwetherRelease s
  | .followerRelease ago => Sys2Proof.Machine.execFollowerRelease ago s
  | .barrierTimeout => Sys2Proof.Machine.execBarrierTimeout s
  | .msyncRetry w v => Sys2Proof.Machine.execMsyncRetry w v s
  | .markerSend => Sys2Proof.Machine.execMarkerSend s
  | .markerReceive ago => Sys2Proof.Machine.execMarkerReceive ago s
  | .markerMiss => Sys2Proof.Machine.execMarkerMiss s
  | .canReceive n f => Sys2Proof.Machine.execCanReceive n f s
  | .canShadowGo w n o => Sys2Proof.Machine.execCanShadowGo w n o s
  | .canShadowPop w n => Sys2Proof.Machine.execCanShadowPop w n s
  | .cantx q => Sys2Proof.Machine.execCantx q s
  | .canrd q => Sys2Proof.Machine.execCanrd q s
  | .canTxAttempt n => Sys2Proof.Machine.execCanTxAttempt n s
  | .canTxDone n => Sys2Proof.Machine.execCanTxDone n s
  | .canTxError n arb kind => Sys2Proof.Machine.execCanTxError n arb kind s
  | .canTxWindowClose o => Sys2Proof.Machine.execCanTxWindowClose o s
  | .canRecover w n => Sys2Proof.Machine.execCanRecover w n s
  | .canRecoveryDone n => Sys2Proof.Machine.execCanRecoveryDone n s
  | .canIntegrated n => Sys2Proof.Machine.execCanIntegrated n s
  | .canSleep n => Sys2Proof.Machine.execCanSleep n s
  | .canAutowake n => Sys2Proof.Machine.execCanAutowake n s
  | .canWakeDominant n => Sys2Proof.Machine.execCanWakeDominant n s
  | .canWakeFrame n f => Sys2Proof.Machine.execCanWakeFrame n f s
  | .jspFrameStart n => Sys2Proof.Machine.execJspFrameStart n s
  | .jspFrameEnd n ready raw => Sys2Proof.Machine.execJspFrameEnd n ready raw s
  | .jspStale n => Sys2Proof.Machine.execJspStale n s
  | .qeiCountChange k up illegal => Sys2Proof.Machine.execQeiCountChange k up illegal s
  | .qeiSnap w k => Sys2Proof.Machine.execQeiSnap w k s
  | .qeiIndex k => Sys2Proof.Machine.execQeiIndex k s
  | .moOvrGo w m => Sys2Proof.Machine.execMoOvrGo w m s
  | .ethReceive n b fcsOk ago => Sys2Proof.Machine.execEthReceive n b fcsOk ago s
  | .rxqDb w n q v => Sys2Proof.Machine.execRxqDb w n q v s
  | .ethtx q => Sys2Proof.Machine.execEthtx q s
  | .ethTxDone n ago => Sys2Proof.Machine.execEthTxDone n ago s
  | .ethTxAbandon h => Sys2Proof.Machine.execEthTxAbandon h s
  | .linkTrainStart n => Sys2Proof.Machine.execLinkTrainStart n s
  | .linkUp n => Sys2Proof.Machine.execLinkUp n s
  | .linkTrainTimeout n => Sys2Proof.Machine.execLinkTrainTimeout n s
  | .linkDown n fault => Sys2Proof.Machine.execLinkDown n fault s
  | .ethRestart w n => Sys2Proof.Machine.execEthRestart w n s
  | .hostDoorbell q off v write => Sys2Proof.Machine.execHostDoorbell q off v write s
  | .hostAperture off n write b => Sys2Proof.Machine.execHostAperture off n write b s
  | .msixUnmask v addr data mask enable func => Sys2Proof.Machine.execMsixUnmask v addr data mask enable func s
  | .pmeTurnOff => Sys2Proof.Machine.execPmeTurnOff s
  | .flashUpdate w v => Sys2Proof.Machine.execFlashUpdate w v s
  | .updateStepDone ok => Sys2Proof.Machine.execUpdateStepDone ok s
  | .sensorUpdate l => Sys2Proof.Machine.execSensorUpdate l s
  | .stewardDecide => Sys2Proof.Machine.execStewardDecide s
  | .thermalTrip n => Sys2Proof.Machine.execThermalTrip n s
  | .thermtripRestart => Sys2Proof.Machine.execThermtripRestart s
  | .telem k => Sys2Proof.Machine.execTelem k s
  | .logread k => Sys2Proof.Machine.execLogread k s
  | .loginfo k => Sys2Proof.Machine.execLoginfo k s
  | .capduty k => Sys2Proof.Machine.execCapduty k s
  | .postUser k => Sys2Proof.Machine.execPostUser k s
  | .eventPost code src args => Sys2Proof.Machine.execEventPost code src args s
  | .logBatchStart => Sys2Proof.Machine.execLogBatchStart s
  | .logBatchDone ok => Sys2Proof.Machine.execLogBatchDone ok s
  | .secRevoke w v => Sys2Proof.Machine.execSecRevoke w v s
  | .otpProgramDone => Sys2Proof.Machine.execOtpProgramDone s
  | .debugChallenge => Sys2Proof.Machine.execDebugChallenge s
  | .debugResponse level keysel resv sig => Sys2Proof.Machine.execDebugResponse level keysel resv sig s
  | .debugRefuseEnd => Sys2Proof.Machine.execDebugRefuseEnd s
  | .debugEnd w => Sys2Proof.Machine.execDebugEnd w s
  | .mcLatMaxRead w m => Sys2Proof.Machine.execMcLatMaxRead w m s
  | .fuErrmaxRead w e => Sys2Proof.Machine.execFuErrmaxRead w e s
  | .attSelmaxRead w e => Sys2Proof.Machine.execAttSelmaxRead w e s
  | .glLatMaxRead w => Sys2Proof.Machine.execGlLatMaxRead w s
  | .shpTaskMaxendRead w q => Sys2Proof.Machine.execShpTaskMaxendRead w q s
  | .msyncSkewMaxRead w => Sys2Proof.Machine.execMsyncSkewMaxRead w s
  | .aonRailsGood => Sys2Proof.Machine.execAonRailsGood s
  | .pllLock => Sys2Proof.Machine.execPllLock s
  | .canRxError n kind heavy => Sys2Proof.Machine.execCanRxError n kind heavy s
  | .cacheEncodeDone late => Sys2Proof.Machine.execCacheEncodeDone late s
  | .reloadVerifyDone x => Sys2Proof.Machine.execReloadVerifyDone x s
  | .syncInGlitch => Sys2Proof.Machine.execSyncInGlitch s
  | .pcieLinkTrained speed width => Sys2Proof.Machine.execPcieLinkTrained speed width s
  | .ptpMessageInterval n kind turn => Sys2Proof.Machine.execPtpMessageInterval n kind turn s
  | .sectorEraseDone ok => Sys2Proof.Machine.execSectorEraseDone ok s
  | .tmCpmRead w r => Sys2Proof.Machine.execTmCpmRead w r s

end Sys2Proof.Machine
end

