-- ==== Sys2Proof/Machine/Step.lean ====
section
/-! DEFINITION. One step of the block: the command at the front of the queue, or the passing of one Timekeeper cycle. -/

namespace Sys2Proof.Machine
open Reg

/-- The AON real-time clock runs 0.8 ns: 32,768 counts a second, while VAON is present (7.10). DESIGN CHOICE (log 118): the same rate also while it
runs from the RC oscillator, whose rate the spec leaves anywhere within ±2 % (R115). -/
def rtcTick (s : State) : State :=
  if s.power.vaon then
    let t := s.time
    let a := t.rtcAcc + 262144
    let s := { s with time := { t with rtcAcc := a % 10000000000 } }
    if a < 10000000000 then s
    else if s.rd AON_RTC_SUB + 1 < 32768 then s.wr AON_RTC_SUB (s.rd AON_RTC_SUB + 1)
    else (s.wr AON_RTC_SUB 0).wrPair AON_RTC_LO AON_RTC_HI (s.rdPair AON_RTC_LO AON_RTC_HI + 1)
  else s

/-- The Timekeeper runs one cycle: device time and MONO advance by 0.8 ns times 1 + TK_RATE · 10^-12, exactly in the long run
(R179, R183); not while its island is stopped (R120). One unit of `acc` is 1/(5·10^12) of 2^-16 ns. -/
def timeTick (s : State) : State :=
  if !islandRuns s 2 || s.power.resetNow.isSome then s
  else
    let t := s.time
    let a := t.acc + (262144 * (1000000000000 + signed 32 (s.rd TK_RATE_PPT))).toNat
    let k := a / 5000000000000
    { s with time := { t with dev := t.dev + k, mono := t.mono + k, acc := a % 5000000000000 } }

/-- What happens on an empty queue: one Timekeeper cycle passes, with the trace path's cycle (R362), and start bits of the last one lie
behind (R580). DESIGN CHOICE (log 5): the spec
has no row for a tick. -/
def idle (s : State) : State := traceCycle (timeTick (rtcTick (completeStarted (fun _ => true) s)))

/-- One step: the command at the front of the queue, with the rest of the queue left; on an empty queue, a cycle passes. -/
def step (s : State) : Host.Outcome State Fault Refusal :=
  match s.pending with
  | [] => .next (idle s)
  | c :: l => exec c { s with pending := l }

/-- The command a word spells, put at the front of the queue; no row of the table gives bits, so no word spells a command (log 6). -/
def State.withFetchWord (s : State) (nbits w : Nat) : State :=
  match decodeTableWord nbits w with
  | some c => { s with pending := c :: s.pending }
  | none => s

end Sys2Proof.Machine
end

