-- ==== Sys2Proof/Safety.lean ====
section
/-! DEFINITION. What counts as a safe run of the block, in the terms the statements use: every command ends in a next state, what is
fused or burned into the part stands, and a write of a register with no effect of its own touches its fields only. -/

namespace Sys2Proof.Safety
open Machine

/-- The command ends in a next state: no fault, no refusal. -/
def completes (c : Instr) (s : State) : Prop := ∃ t, exec c s = .next t

/-- No programmed OTP bit is lost (R753). -/
def otpRises (s t : State) : Prop := ∀ a : Nat, s.otp.get 0 a &&& t.otp.get 0 a = s.otp.get 0 a

/-- What is fused into the part at manufacture stands (R1, R5). -/
def partStands (s t : State) : Prop := t.fuse = s.fuse

/-- What is burned into the part: the OTP bits of `m` are programmed, and the part is fused as `f` (R1, R5, R753). -/
def burned (m : Nat → Byte) (f : Fuse) (s : State) : Prop := (∀ a, s.otp.get 0 a &&& m a = m a) ∧ s.fuse = f

/-- A register with no effect of its own beyond its fields' access codes: no operation, no pair, no doorbell, no word held for each
master, fields that do not overlap in the store, and none of them the seal that locks others. -/
def plainRegister (a : Nat) : Prop :=
  a % 4 = 0 ∧ systemSpecial a = none ∧ special a = none ∧ perMasterBits a = none ∧ isPairLo a = false ∧ isPairLo (a - 4) = false ∧
    (a < 0x42000 ∨ 0x4C000 ≤ a) ∧ ((fieldsAt a).Pairwise fun f g => f.key ≠ g.key) ∧
    ∀ f ∈ fieldsAt a, f.key ≠ Reg.BOOT_STATUS_SEALED.key

end Sys2Proof.Safety
end

