-- ==== Sys2Proof/Certificates/Slice0/Obligations.lean ====
section
/-! DEFINITION. The statements for the provers. The statements named …CommandsComplete say, for every command of the table, a condition on
the state and the operands under which it ends in the next state the rules give; the next state is written out, so that they are
the frames of these commands too. The statements after them are the rules of the machine as a whole. -/

section
open Sys2Proof Sys2Proof.Machine Sys2Proof.Machine.Reg Sys2Proof.Safety

/-! ### Every command completes: power, resets, clocks -/

/-- The rail and presence commands of chapters 4 and 5 complete (R12, R130, R131, R133, R134, R163, R165): what the AON island does at
each power-good event, and that losing VAON leaves only what needs no power. -/
def Obligations.PowerRailCommandsComplete : Prop :=
  (∀ s : State, exec .vaonLoss s = .next
    { pending := s.pending, bus := s.bus, freeCount := s.freeCount, fuse := s.fuse, otp := s.otp, flashA := s.flashA, flashB := s.flashB,
      hostMem := s.hostMem, power := { prsntLow := s.power.prsntLow, ejectLow := s.power.ejectLow, aonLoss := true },
      hl := { perst := s.hl.perst } }) ∧
  (∀ s : State, s.power.vaon = false → exec .aonRailsGood s = .next (safeLevels { s with power := { s.power with vaon := true } })) ∧
  (∀ s : State, s.power.vaon = true → s.power.penMem = false → s.power.wait = 0 → s.rd PWR_STATE_STATE = 0 →
    exec .presenceQualified s = .next
      { s with power := { s.power with prsntLow := true, ejectLow := false, qualified := true, penMem := true, wait := 4 } }) ∧
  (∀ s : State, s.power.penMem = true → s.power.pgMem = false → s.power.wait = 4 →
    exec .pgoodMemRise s = .next { s with power := { s.power with pgMem := true, penMain := true, wait := 5 } }) ∧
  (∀ s : State, s.power.penMain = true → s.power.pgMain = false → s.rd PWR_STATE_STATE ≠ 5 →
    exec .pgoodMainRise s = .next { s with power := { s.power with pgMain := true, wait := 6, resetNow := some 0 } }) ∧
  (∀ s : State, s.power.wait = 4 ∨ s.power.wait = 5 → exec .pgTimeout s = .next (powerFailed s)) ∧
  (∀ s : State, s.power.wait = 1 → exec .pgRetry s = .next (startPower s)) ∧
  (∀ s : State, s.power.pgMain = true → s.power.penMain = true → s.rd PWR_STATE_STATE ≠ 5 →
    exec .pgoodMainFall s = .next (railsTrip false s)) ∧
  (∀ s : State, s.power.pgMem = true → s.power.penMem = true → s.rd PWR_STATE_STATE = 0 →
    exec .pgoodMemFall s = .next (railsTrip true
      { s with dram := [], poison := [], snap := { s.snap with good := false }, power := { s.power with dramReset := false } }))

/-- The resets of chapter 5 complete (R130, R135, R137, R138, R727, R782): each performs the reset of its class, an island reset begins or
ends, a link reset clears the endpoint and counts itself. -/
def Obligations.ResetCommandsComplete : Prop :=
  (∀ (s : State) (m c : Nat) (h t : Bool), s.power.wait = 6 → s.railsOff = false → s.rd LIV_STATUS_STATE ≠ 1 → s.power.ejectLow = false →
    s.power.aonLoss = false →
    exec (.coldReset m c h t) s = .next (releaseIslands (sampleStraps m c h t (performReset 0 (1 ||| s.power.coldReq) s)))) ∧
  (∀ s : State, s.power.vaon = true → s.railsOff = false → s.rd LIV_STATUS_STATE = 0 → s.power.resetNow = none →
    exec .pinReset s = .next (performReset 1 (requestedWith s ||| 2) s)) ∧
  (∀ s : State, watchdogHeld s = false → watchdogDue s = true → s.power.vaon = true → s.railsOff = false → s.rd LIV_STATUS_STATE = 0 →
    s.power.resetNow = none → exec .wdgReset s = .next (performReset 2 (requestedWith s ||| 4) s)) ∧
  (∀ (s : State) (w : Writer) (v : Nat), writeStatus s w.master 0x10 = 0 → bit v 0 = true → bits v 8 8 = 0xA5 →
    exec (.sysReset w v) s = .next (requestReset 3 (s.answer 0 0))) ∧
  (∀ (s : State) (m c : Nat) (h t : Bool), s.power.resetNow = some 1 → s.power.ejectLow = false → s.railsOff = false →
    exec (.resetRelease m c h t) s = .next (releaseIslands (sampleStraps m c h t s))) ∧
  (∀ (s : State) (w : Writer) (v : Nat), writeStatus s w.master 0x12010 = 0 → bit v 8 = true → bits v 16 8 = 0x5A → bit v 10 = false →
    mayReset s (v % 256) = true → s.rdb RST_ISL_BUSY = false → s.power.resetNow = none → s.rdb BOOT_STATUS_SEALED = true →
    exec (.islReset w v) s =
      .next (beginIslandReset (v % 256) ((s.answer 0 0).wrs [(RST_ISL_ISLAND, v), (RST_ISL_IGNORED, v / 2 ^ 24)]))) ∧
  (∀ (s : State) (k : Nat) (l : List Nat), s.clocks.islBusy = k :: l → s.boot.waitTo ≤ s.mono →
    (continueTodo reapplyRecord s).boot.todo = [] → exec .islReapplyDone s = .next
      (let t := continueTodo reapplyRecord s
       restartIsland k ({ t with clocks := { t.clocks with islBusy := l, stopped := t.clocks.stopped.erase k } }.clr RST_ISL_BUSY))) ∧
  (∀ (s : State) (kind : Nat), s.railsOff = false → s.straps.hostlink = true → s.power.resetNow = none →
    exec (.lnkReset kind) s = .next
      (let u := if kind = 2 then setPerst true s else s
       let v := if kind = 3 then u.inc HL_LNKCNT_SURPRISE else u
       let l := linkPassed { v with power := { v.power with lnkAt := some v.mono } }
       let t := l.wrs [(RST_LAST_DONE, if l.clocks.islBusy = [] then 5 else 4), (RST_LAST_REQ, requestedWith u ||| 2 ^ 5)]
       if readsHostImage t = true then failAttempt 0x01 t else t))

/-- The power state commands of chapter 5 complete (R141, R143, R147, R148, R150, R153, R157, R678, R679): the request is granted, the
entry or the exit goes on, the wake sources are latched. -/
def Obligations.PowerStateCommandsComplete : Prop :=
  (∀ (s : State) (w : Writer), writeStatus s w.master 0x12024 = 0 → s.power.resetNow = none → s.rd PWR_STATE_STATE = 2 →
    exec (.runRequest w) s = .next ({ (s.answer 0 0).wr PWR_STATE_STATE 3 with power := { s.power with exiting := true } })) ∧
  (∀ (s : State) (w : Writer), writeStatus s w.master 0x12024 = 0 → s.power.resetNow = none → s.rd PWR_STATE_STATE = 0 → s.rd LIV_STATUS_STATE = 0 →
    s.rdb PWR_CFG_DOZE_OK = true → s.power.request = 0 →
    exec (.dozeRequest w) s = .next { s.answer 0 0 with power := { s.power with request := 1 } }) ∧
  (∀ (s : State) (w : Writer), writeStatus s w.master 0x12024 = 0 → s.power.resetNow = none → s.rd PWR_STATE_STATE = 0 → s.rd LIV_STATUS_STATE = 0 →
    s.rdb PWR_CFG_FOLD_OK = true → hostAway s = true → s.power.request = 0 →
    exec (.foldRequest w) s = .next { s.answer 0 0 with power := { s.power with request := 2 } }) ∧
  (∀ (s : State) (w : Writer), writeStatus s w.master 0x12024 = 0 → s.power.resetNow = none → s.rd PWR_STATE_STATE = 0 → s.rd LIV_STATUS_STATE = 0 →
    s.rdb PWR_CFG_OFF_OK = true → s.power.request = 0 →
    exec (.offRequest w) s = .next { s.answer 0 0 with power := { s.power with request := 3 } }) ∧
  (∀ s : State, s.railsOff = false → s.rd LIV_STATUS_STATE = 0 → s.rd PWR_STATE_STATE = 0 → s.power.request ≠ 0 →
    (s.drv.maint.any fun m => m.running) = false → exec .powerTransition s = .next (enterPower s.power.request s)) ∧
  (∀ s : State, s.rd PWR_STATE_STATE = 4 → s.snap.commit = false → s.railsOff = false → enginesIdle s = true →
    exec .foldSnapshotCommit s = .next
      (let u := setDram 3 (takeSnapshot (quietCan s))
       { u with power := { u.power with penMain := false } })) ∧
  (∀ (s : State) (l : List Nat), s.power.vaon = true → 2 ∉ l → s.power.wait ≠ 2 → (latchWake l s).power.wait ≠ 2 →
    exec (.wakeLatch l) s = .next (latchWake l s)) ∧
  (∀ (s : State) (n : Nat), n < 8 → s.power.vaon = true → s.rd (CAN_WK_CFG_MODE n) = 1 →
    exec (.canWakeDominant n) s = .next (wakeSources [4 + n] (s.wr (CAN_WK_STAT_WOKE n) 1))) ∧
  (∀ (s : State) (n : Nat) (f : CanFrame), n < 8 → s.power.vaon = true → s.rd (CAN_WK_CFG_MODE n) = 2 → f.fdf = false →
    wakeMatches (s.wr (CAN_WK_STAT_ERRCNT n) (s.rd (CAN_WK_STAT_ERRCNT n) - 1)) n f = true →
    exec (.canWakeFrame n (some f)) s = .next
      (wakeSources [4 + n] ((s.wr (CAN_WK_STAT_ERRCNT n) (s.rd (CAN_WK_STAT_ERRCNT n) - 1)).wr (CAN_WK_STAT_WOKE n) 1))) ∧
  (∀ (s : State) (us : Nat), s.rd PWR_STATE_STATE = 3 → s.railsOff = false → exec (.dozeExit us) s = .next
    { s.wrs [(PWR_STATE_STATE, 0), (PWR_TIME_DOZE_US, us)] with
      power := { s.power with exiting := false, request := s.power.afterDoze, afterDoze := 0 } }) ∧
  (∀ (s : State) (us : Nat), s.rd PWR_STATE_STATE = 5 → s.railsOff = false → refclkValid s = true →
    snapshotRight s = true → exec (.foldExit us true) s = .next (resumeFold us s))

/-- The live-insertion commands of chapter 6 complete (R167, R170, R173, R174): the drain begins and ends, presence and eject levels are
taken, the tables of dynamic entries age. -/
def Obligations.LiveInsertionCommandsComplete : Prop :=
  (∀ s : State, s.power.vaon = true → s.power.ejectLow = false → s.rd LIV_STATUS_STATE = 0 → s.rd PWR_STATE_STATE = 0 → s.railsOff = false →
    s.power.resetNow = none → exec .ejectAccept s = .next
      (let t := { s with power := { s.power with ejectLow := true, ejectMono := s.mono - 10000 } }.wr LIV_STATUS_STATE 1
       beginDrain (post 0x0003 0x00 [livWord t] t))) ∧
  (∀ (s : State) (us : Nat), s.rd LIV_STATUS_STATE = 1 ∨ s.rd LIV_STATUS_STATE = 3 → s.railsOff = false → s.power.resetNow = none →
    exec (.drained us) s = .next
    (let a := drainCommands s
     let b := commitLast [drainRecord us a] a
     performHeld ((dropLinks (abandonFrames (fun _ => true)
       (quietCan (b.wrs [(HL_LINK_STATE, 0), (HL_LINK_SPEED, 0), (HL_LINK_WIDTH, 0)])))).wrs
       [(LIV_STATUS_STATE, 2), (LIV_DRAIN_TIME_US, us)]))) ∧
  (∀ s : State, exec .ejectRelease s = .next { s with power := { s.power with ejectLow := false } }) ∧
  (∀ s : State, s.power.vaon = true → s.power.prsntLow = true → s.railsOff = false → s.rd LIV_STATUS_STATE = 0 → s.power.resetNow = none →
    exec .surpriseRemoval s = .next
      (beginDrain
        ({ s with power := { s.power with prsntLow := false, qualified := false, ejectMono := s.mono } }.wr LIV_STATUS_STATE 3))) ∧
  (∀ (s : State) (n : Nat), s.rdb (STREAM_CFG_EN n) = true → s.rdb (STREAM_CFG_PIN n) = false → s.rd (STREAM_STATE_STATE n) = 1 →
    s.intake.lastFrame.get 0 n + s.rd LIV_STREAM_CFG_IDLE_MS * 1000000 ≤ s.mono →
    exec (.streamIdleRelease n) s = .next (releaseSlot n s)) ∧
  (∀ (s : State) (n id : Nat) (x : Bool) (p : Peer), s.can.peers.find? (samePeer n id x) = some p → p.pinned = false →
    p.seen + s.rd LIV_CANPEER_CFG_AGE_MS * 1000000 ≤ s.mono →
    exec (.canPeerAgeout n id x) s = .next { s with can := { s.can with peers := s.can.peers.erase p } }) ∧
  (∀ (s : State) (n id : Nat) (x : Bool) (p : Peer), s.can.peers.find? (samePeer n id x) = some p → p.pinned = true → p.present = true →
    p.seen + s.rd LIV_CANPEER_CFG_AGE_MS * 1000000 ≤ s.mono →
    exec (.canPeerAgeout n id x) s = .next (raiseFault 0x07 n
      { s with can := { s.can with peers := s.can.peers.map fun q => if q = p then { q with present := false } else q } }))

/-- The clock commands of chapter 4 complete (R115, R116, R118, R120, R122, R123, R125): the monitor's states, the crystal's, the relock
and the DVFS switch. -/
def Obligations.ClockCommandsComplete : Prop :=
  (∀ (s : State) (count : Nat), monitorRuns s = true → s.rd CLK_STATUS_REFMON = 1 → 24987 < count → count < 25013 → s.clocks.unposted = false →
    exec (.refclkGateEnd count false) s = .next
      { s.wr REFMON_DEV_COUNT_DELTA (unsigned 16 ((count : Int) - 25000)) with
        clocks := { s.clocks with glitchPrev := s.clocks.glitchNow, glitchNow := false, stopNow := false } }) ∧
  (∀ s : State, monitorRuns s = true → s.rd CLK_STATUS_REFMON = 1 → s.clocks.glitchNow = false → s.clocks.glitchPrev = false →
    exec .refclkGlitch s = .next
      (let t := s.inc REFMON_GLITCH_COUNT
       let u := post 0x3002 0x01 [storedWord t CLK_CAUSE_STOP.addr] t
       { u with clocks := { u.clocks with glitchNow := true } })) ∧
  (∀ s : State, monitorRuns s = true → s.rd CLK_STATUS_REFMON = 1 → exec .refclkStop s = .next
    { enterLost CLK_CAUSE_STOP s with clocks := { (enterLost CLK_CAUSE_STOP s).clocks with stopNow := true } }) ∧
  (∀ s : State, s.clocks.lost = true → s.clocks.lostAt + 500000 ≤ s.mono → exec .lostCutoff s = .next
    (setDram 3 (rerunSteps (fun _ => true) (abortFlights (fun f => f.unit < 13 && f.stop == 0) s)))) ∧
  (∀ s : State, s.clocks.relocking = true → s.rd CLK_STATUS_REFMON = 1 → s.rdb CLK_CFG_RESUME = true → exec .pllLock s = .next
    (setDram 2 { s with clocks := { s.clocks with relocking := false, onBosc := false, lost := false } })) ∧
  (∀ s : State, s.clocks.relocking = true → s.rd CLK_STATUS_REFMON ≠ 1 →
    exec .pllLock s = .next { s with clocks := { s.clocks with relocking := false, onBosc := true } }) ∧
  (∀ s : State, s.power.vaon = true →
    exec .xtalFail s = .next ({ s with clocks := { s.clocks with rcClock := true } }.wr CLK_STATUS_XTAL_FAIL 1)) ∧
  (∀ s : State, exec .xtalRestore s = .next { s with clocks := { s.clocks with rcClock := false } }) ∧
  (∀ (s : State) (x : Nat), s.railsOff = false → s.clocks.rcClock = false → s.rdb CLK_STATUS_XTAL_FAIL = false →
    exec (.boscTrim x) s = .next { s with clocks := { s.clocks with boscTrim := x } }) ∧
  (∀ (s : State) (k : Nat), monitorRuns s = true → s.rd CLK_STATUS_REFMON = 1 → s.clocks.lost = false → k ≠ 0 → islandExists s k = true →
    exec (.islandClockFault k) s = .next (raiseFault 0x01 k (stopIsland k s))) ∧
  (∀ (s : State) (c : Nat), monitorRuns s = true → s.rd CLK_STATUS_REFMON = 1 → columnExists s c = true → c < 13 →
    tgtOf s c ≠ s.rd (CLK_ISL_CUR (columnIsland c)) → fcodeOk s c (tgtOf s c) = true → islandRuns s (columnIsland c) = true →
    atBoundary (prepareSwitch c (tgtOf s c) s) c = true →
    exec (.dvfsSwitch (columnIsland c)) s = .next (performSwitch c (tgtOf s c) (prepareSwitch c (tgtOf s c) s)))

/-- The commands of the boot block complete (R53, R56, R58, R59, R60, R66, R67, R69, R70, R77, R78, R730): slot selection, a flash retry,
the four verifications, SEAL, the host's BOOT_CTL bits, external payloads and the flash update. -/
def Obligations.BootCommandsComplete : Prop :=
  (∀ (s : State) (a b : Bool), loading s = true → s.straps.testmode = false → s.rd BOOT_STATUS_PHASE = 0 →
    exec (.slotSelection a b) s = .next (takePath s)) ∧
  (∀ (s : State) (a b : Bool), loading s = true → s.straps.testmode = false → s.rd BOOT_STATUS_PHASE = 1 → s.boot.hostWait = false →
    exec (.slotSelection a b) s = .next (selectSlots a b s)) ∧
  (∀ (s : State) (a c : Nat), loading s = true → s.boot.attempt = some c → c ≤ 1 → s.rd BOOT_STATUS_PHASE = 2 ∨ s.rd BOOT_STATUS_PHASE = 4 →
    s.boot.retryAt = a → s.boot.retries < 3 → exec (.flashReadTimeout a) s = .next
      ({ s with boot := { s.boot with retries := s.boot.retries + 1 } }.inc (if c = 0 then NVA_RETRY_COUNT else NVB_RETRY_COUNT))) ∧
  (∀ (s : State) (a c : Nat), loading s = true → s.boot.attempt = some c → c ≤ 1 → s.rd BOOT_STATUS_PHASE = 2 ∨ s.rd BOOT_STATUS_PHASE = 4 →
    s.boot.retryAt ≠ a → exec (.flashReadTimeout a) s = .next
      ({ s with boot := { s.boot with retries := 1, retryAt := a } }.inc (if c = 0 then NVA_RETRY_COUNT else NVB_RETRY_COUNT))) ∧
  (∀ (s : State) (c : Nat) (x : Bool), loading s = true → s.boot.attempt = some c → s.rd BOOT_STATUS_PHASE = 2 →
    refclkValid s = true → exec (.prefixVerified x) s = .next
      (if psigOk s c s.boot.header = false then failAttempt 0x09 s
       else if fwOk s (fwPayload s c) = false then failAttempt 0x0A s
       else finishPlat ({ s with boot := { s.boot with trained := x } }.wr BOOT_STATUS_PHASE 3))) ∧
  (∀ (s : State) (c : Nat), loading s = true → s.boot.attempt = some c → s.rd BOOT_STATUS_PHASE = 4 →
    (let t := streamIn (streamedRecords s c (imageLen s.boot.header - 256) (recordCount s.boot.header) 0x200) s
     imageRecords t c s.boot.header = none → exec .imageVerified s = .next (failAttempt 0x0B t))) ∧
  (∀ (s : State) (c : Nat) (l : List Record), loading s = true → s.boot.attempt = some c → s.rd BOOT_STATUS_PHASE = 4 →
    (let t := streamIn (streamedRecords s c (imageLen s.boot.header - 256) (recordCount s.boot.header) 0x200) s
     imageRecords t c s.boot.header = some l → exec .imageVerified s = .next
      (let u := { t with boot := { t.boot with records := l, retries := 0 } }.wr BOOT_STATUS_PHASE 5
       if imageSigned u c u.boot.header = false then failAttempt 0x0C u
       else if u.straps.bootmode = 1 ∧ c < 2 then holdWatch (u.wr BOOT_STATUS_PHASE 0xE) else beginApply u))) ∧
  (∀ (s : State) (e : Bytes), loading s = true → s.rd BOOT_STATUS_PHASE = 6 → pollExpired s = some e → (pollEntry e s).1 = false →
    exec .regPollTimeout s = .next (failAttempt 0x0F (pollEntry e s).2)) ∧
  (∀ (s : State) (e : Bytes), loading s = true → s.rd BOOT_STATUS_PHASE = 6 → pollExpired s = some e → (pollEntry e s).1 = true →
    exec .regPollTimeout s = .next (pollEntry e s).2) ∧
  (∀ (s : State) (c : Nat), loading s = true → s.boot.attempt = some c → s.rd BOOT_STATUS_PHASE = 6 → s.boot.waitTo ≤ s.mono →
    loading (continueApply s) = true → (continueApply s).rd BOOT_STATUS_PHASE = 6 → (continueApply s).boot.todo = [] →
    (continueApply s).secu.progs = [] → exec .sealBoot s = .next (sealImage c (continueApply s))) ∧
  (∀ (s : State) (w : Writer) (b : Bool), writeStatus s w.master 0x380020 = 0 → loading s = true → s.rd BOOT_STATUS_PHASE = 0xE →
    exec (.hostgo w b) s = .next (beginApply (resumeWatch { s.answer 0 0 with hl := { s.hl with busMaster := b } }))) ∧
  (∀ (s : State) (w : Writer), writeStatus s w.master 0x380020 = 0 → onTrial s = true → w.master = 0x801 ∨ w.master = 0 →
    exec (.confirm w) s = .next (confirmImage (s.answer 0 0))) ∧
  (∀ s : State, onTrial s = true → s.img.confirmAuto = true → s.img.confirmCycles ≤ s.boot.cleanConfirm →
    exec .autoConfirm s = .next (confirmImage s)) ∧
  (∀ (s : State) (w : Writer), writeStatus s w.master 0x380020 = 0 → loading s = true → s.rd BOOT_STATUS_PHASE = 0xF →
    s.rdPair HL_IMG_LEN_LO HL_IMG_LEN_HI = 0 → exec (.retry w) s = .next ((s.answer 0 0).wr BOOT_STATUS_PHASE 1)) ∧
  (∀ (s : State) (t : Nat), s.boot.ptpGate = some t → s.rd TK_STATUS_SERVO ≠ 2 → t + u16 s.boot.header 0x36 * 1000000 ≤ s.mono →
    exec .ptpGateTimeout s = .next (post 0x1005 0x01 [] { s with boot := { s.boot with ptpGate := none } })) ∧
  (∀ (s : State) (w : Writer) (v : Nat), writeStatus s w.master 0x380044 = 0 → bit v 8 = true → s.rdb EXTP_STATUS_HASHING = false →
    s.rdb BOOT_STATUS_SEALED = true → v % 64 < s.img.extp.length → v % 64 ∉ s.boot.verified → exec (.extpGo w v) s = .next
      ({ (s.answer 0 0).wr EXTP_CTL_INDEX v with boot := { s.boot with hashing := some (v % 64) } }.wr EXTP_STATUS_HASHING 1)) ∧
  (∀ (s : State) (i : Nat) (r : Record), s.boot.hashing = some i → s.img.extp[i]? = some r →
    exec .extpHashDone s = .next
      (let t := { s with boot := { s.boot with hashing := none } }.wr EXTP_STATUS_HASHING 0
       if sha384 (t.ld r.dest (u64 r.payload 48)) = slice r.payload 0 48 then payloadVerified i r t
       else post 0x1004 0x01 [i] (t.inc EXTP_STATUS_FAILED))) ∧
  (∀ (s : State) (w : Writer) (v : Nat), writeStatus s w.master 0x371030 = 0 → bit v 8 = true → bits v 16 8 = 0x3C →
    s.rdb BOOT_STATUS_SEALED = true → s.rd HL_UPD_STAT_STATE = 0 →
    (let t := (s.answer 0 0).wr HL_UPD_CTL_SLOT v
     updateCode t (t.rd HL_UPD_CTL_SLOT) (t.rdPair HL_UPD_LEN_LO HL_UPD_LEN_HI) = 0) → exec (.flashUpdate w v) s = .next
      (let t := (s.answer 0 0).wr HL_UPD_CTL_SLOT v
       { t with hl := { t.hl with updAddr := t.rdPair HL_UPD_ADDR_LO HL_UPD_ADDR_HI, updLen := t.rdPair HL_UPD_LEN_LO HL_UPD_LEN_HI,
                                  updSlot := t.rd HL_UPD_CTL_SLOT } }.wrs
        [(HL_UPD_STAT_STATE, 1), (HL_UPD_STAT_CODE, 0), (HL_UPD_STAT_PROGRESS, 0)])) ∧
  (∀ (s : State) (x : Bool), s.rd HL_UPD_STAT_STATE = 1 →
    exec (.updateStepDone x) s = .next ((eraseSlot s.hl.updSlot s.hl.updLen s).wr HL_UPD_STAT_STATE 2)) ∧
  (∀ s : State, s.rd HL_UPD_STAT_STATE = 2 → draining s = false → linkUp s = true → exec (.updateStepDone true) s = .next
    ((s.progFlash s.hl.updSlot 0x10000 (s.ldHost s.hl.updAddr s.hl.updLen)).wr HL_UPD_STAT_STATE 3)) ∧
  (∀ (s : State) (x : Bool), s.rd HL_UPD_STAT_STATE = 3 → draining s = false → exec (.updateStepDone x) s = .next
    (if verifyCode s s.hl.updSlot = 0 then finishUpdate s.hl.updSlot s else failUpdate (verifyCode s s.hl.updSlot) s))

/-- The register access commands complete (R88, R98, R381): a permitted write of a plain register applies its fields, a read of a _LO
register answers its word and keeps the _HI word for its reader, and the register commands of a queue make their access and complete. -/
def Obligations.RegisterCommandsComplete : Prop :=
  (∀ (s : State) (w : Writer) (a v : Nat), a % 4 = 0 → writeStatus s w.master a = 0 → lockedOut s w.master a = false →
    inert s a = false → systemSpecial a = none → special a = none → perMasterBits a = none → isPairLo a = false → isPairLo (a - 4) = false →
    a < 0x42000 ∨ 0x4C000 ≤ a →
    exec (.registerWrite a [⟨w, 4, v⟩] [] none) s = .next (applyCycle a [(w, v % 2 ^ 32)] [] (s.answer 0 0))) ∧
  (∀ (s : State) (w : Writer) (a : Nat), a % 4 = 0 → readStatus s w.master a = 0 → inert s a = false →
    s.rdShadow.find (shadowKey w.master a) = none → readEffect w a s = none → isPairLo a = true → foreignResponse s w a = false →
    exec (.pairLoRead w a 4 []) s = .next ((latchRead w.master (a + 4) (liveWord s w (a + 4)) s).answer 0 (liveWord s w a))) ∧
  (∀ (s : State) (q : Nat) (c : Bytes), headIs s q 0 0x01 = some c → u32 c 16 = 2 ^ 32 - 1 → exec (.regwr q) s = .next
    (let t := startHead q 14 0 c s
     let u := writeReg (queueWriter t q) (u32 c 8) (u32 c 12) t
     pump q (settle q { status := u.bus.status } u))) ∧
  (∀ (s : State) (q : Nat) (c : Bytes), headIs s q 0 0x02 = some c → exec (.regrd q) s = .next
    (let t := startHead q 14 0 c s
     let u := readReg (queueWriter s q) (u32 c 8) t
     pump q (settle q { status := u.bus.status, aux := u.bus.data } u))) ∧
  (∀ (s : State) (q : Nat) (c : Bytes), (s.drv.flights.find? fun f => f.q == q && f.wait == 2) = none → headIs s q 0 0x03 = some c →
    exec (.regpoll q) s = .next (pump q (pollOnce q (s.rd (Q_SQ_PTR_HEAD q)) c (startHead q 14 2 c s)))) ∧
  (∀ (s : State) (q : Nat) (f : Flight), (s.drv.flights.find? fun f => f.q == q && f.wait == 2) = some f →
    exec (.regpoll q) s = .next (pollOnce q f.idx f.cmd s)) ∧
  (∀ (s : State) (q : Nat) (f : Flight), (s.drv.flights.find? fun f => f.q == q && f.wait == 2) = some f →
    f.startMono + u32 f.cmd 20 * 1000 ≤ s.mono → exec (.regpollTimeout q) s = .next (settleAt q f.idx { status := 0x08 } s))

/-- A permitted read of an RC register answers its word and clears the field (R10, R733). -/
def Obligations.ReadClearCommandsComplete : Prop :=
  (∀ (s : State) (w : Writer) (m : Nat), m < 6 → readStatus s w.master (MC_LAT_MAX m).addr = 0 →
    exec (.mcLatMaxRead w m) s = .next ((s.wr (MC_LAT_MAX m) 0).answer 0 (storedWord s (MC_LAT_MAX m).addr))) ∧
  (∀ (s : State) (w : Writer) (e : Nat), e < 8 → readStatus s w.master (FU_ERRMAX e).addr = 0 → inert s (FU_ERRMAX e).addr = false →
    exec (.fuErrmaxRead w e) s = .next ((s.wr (FU_ERRMAX e) 0).answer 0 (storedWord s (FU_ERRMAX e).addr))) ∧
  (∀ (s : State) (w : Writer) (e : Nat), e < 8 → readStatus s w.master (ATT_SELMAX e).addr = 0 → inert s (ATT_SELMAX e).addr = false →
    exec (.attSelmaxRead w e) s = .next ((s.wr (ATT_SELMAX e) 0).answer 0 (storedWord s (ATT_SELMAX e).addr))) ∧
  (∀ (s : State) (w : Writer), readStatus s w.master GL_LAT_MAX.addr = 0 →
    exec (.glLatMaxRead w) s = .next ((s.wr GL_LAT_MAX 0).answer 0 (storedWord s GL_LAT_MAX.addr))) ∧
  (∀ (s : State) (w : Writer) (q : Nat), q < 1024 → readStatus s w.master (SHP_TASK_MAXEND q).addr = 0 →
    exec (.shpTaskMaxendRead w q) s = .next ((s.wr (SHP_TASK_MAXEND q) 0).answer 0 (storedWord s (SHP_TASK_MAXEND q).addr))) ∧
  (∀ (s : State) (w : Writer), readStatus s w.master MSYNC_SKEW_MAX.addr = 0 →
    exec (.msyncSkewMaxRead w) s = .next ((s.wr MSYNC_SKEW_MAX 0).answer 0 (storedWord s MSYNC_SKEW_MAX.addr))) ∧
  (∀ (s : State) (w : Writer) (r : Nat), r < 13 → readStatus s w.master (TM_CPM_MARGIN r).addr = 0 →
    exec (.tmCpmRead w r) s = .next
      ((s.wr (TM_CPM_MIN r) (s.rd (TM_CPM_MARGIN r))).answer 0 (storedWord s (TM_CPM_MARGIN r).addr)))

/-- The commands that step and discipline device time complete (R174, R184, R185, R187, R188, R192): a requested or deferred step, a
synchronisation measured, a lost master, an Announce and a peer delay taken up, a PTP message sent. -/
def Obligations.ServoCommandsComplete : Prop :=
  (∀ (s : State) (w : Writer), writeStatus s w.master 0x20028 = 0 → s.tk.lastStep = none →
    exec (.timeStep w) s = .next (applyStep (stepAmount s) (s.answer 0 0))) ∧
  (∀ (s : State) (w : Writer) (m : Nat), writeStatus s w.master 0x20028 = 0 → s.tk.lastStep = some m →
    s.mono < m + s.rd TK_STEP_CFG_GAP_MS * 1000000 →
    exec (.timeStep w) s = .next
      ({ s.answer 0 0 with tk := { s.tk with deferred := some (stepAmount s) } }.wr TK_STATUS_DEFERRED 1)) ∧
  (∀ (s : State) (d : Int) (m : Nat), s.tk.deferred = some d → s.tk.lastStep = some m →
    m + s.rd TK_STEP_CFG_GAP_MS * 1000000 ≤ s.mono → exec .deferredStep s = .next (applyStep d s)) ∧
  (∀ (s : State) (n origin : Nat) (corr : Int) (ago : Nat), s.rd PTP_CFG_MODE ≠ 0 → ptpPort s n = true → s.tk.parent = some n →
    s.rd TK_STATUS_SERVO = 0 → s.tk.delaySeen = [n] → exec (.ptpSync n origin corr ago) s = .next
      (({ s with tk := { s.tk with lastSync := some s.mono } }.wr TK_SERVO_OFS_NS
          (sat32 ((((s.devNs : Int) - ago) * 10 + ptpLatency s n false) / 10 - origin - corr - (s.rd (PTP_MEANDELAY_NS n) : Int)))).wr
        TK_STATUS_SERVO 1)) ∧
  (∀ (s : State) (m : Nat), s.tk.lastSync = some m → m + 3 * logInterval (s.rd PTP_PRIO_LOG_SYNC) ≤ s.mono → s.rd TK_STATUS_SERVO ≠ 0 →
    exec .syncLoss s = .next (enterHoldover s)) ∧
  (∀ (s : State) (n : Nat) (x : Announce), s.rd PTP_CFG_MODE ≠ 0 → ptpPort s n = true → s.rd PTP_CFG_PROFILE ≠ 2 →
    x.domain = s.rd PTP_CFG_DOMAIN → s.tk.foreign = [] → exec (.ptpAnnounce n x) s = .next
      (followCalendar (selectMaster (setForeign s [⟨n, x, s.mono⟩])))) ∧
  (∀ (s : State) (n sender round turn : Nat), s.rd PTP_CFG_MODE ≠ 0 → ptpPort s n = true → s.rd PTP_CFG_PROFILE = 0 →
    exec (.ptpPdelayResp n sender round turn) s = .next
      ({ s with tk := { s.tk with missed := s.tk.missed.erase n,
                                  delaySeen := if n ∈ s.tk.delaySeen then s.tk.delaySeen else n :: s.tk.delaySeen } }.wr (PTP_MEANDELAY_NS n)
        ((((round : Int) - turn) * 10 + ptpLatency s n false - ptpLatency s n true) / 20).toNat)) ∧
  (∀ (s : State) (n sender round turn : Nat), s.rd PTP_CFG_MODE ≠ 0 → ptpPort s n = true → s.rd PTP_CFG_PROFILE ≠ 0 →
    exec (.ptpPdelayResp n sender round turn) s = .next
      (let t := { s with tk := { s.tk with neighbour := s.tk.neighbour.insert n sender, missed := s.tk.missed.erase n,
                                           delaySeen := if n ∈ s.tk.delaySeen then s.tk.delaySeen else n :: s.tk.delaySeen } }.wr
         (PTP_MEANDELAY_NS n) ((((round : Int) - turn) * 10 + ptpLatency s n false - ptpLatency s n true) / 20).toNat
       if s.rd PTP_CFG_PROFILE = 2 then t.wr (PTP_PORT_ASCAPABLE n) 1 else t)) ∧
  (∀ (s : State) (n sender : Nat), exec (.ptpForeignAgeout n sender) s = .next
    (selectMaster (setForeign s (s.tk.foreign.filter fun f =>
      !(f.port == n && f.msg.sender == sender && decide (f.heard + 4 * logInterval (s.rd PTP_PRIO_LOG_ANNOUNCE) ≤ s.mono)))))) ∧
  (∀ (s : State) (n : Nat), 3 ≤ s.tk.missed.get 0 n → exec (.pdelayNeighbourLoss n) s = .next
    ({ s with tk := { s.tk with neighbour := s.tk.neighbour.erase n, missed := s.tk.missed.erase n,
                                delaySeen := s.tk.delaySeen.erase n } }.wr (PTP_PORT_ASCAPABLE n) 0)) ∧
  (∀ (s : State) (n turn : Nat), ptpSends s n 0 = true → bit (s.rd PTP_CFG_ONESTEP) n = true → exec (.ptpMessageInterval n 0 turn) s = .next
    (let m : PtpSent := { count := (s.tk.sent.get {} (16 * n)).count + 1, origin := (((s.devNs : Int) * 10 + ptpLatency s n true) / 10).toNat
                          correction := 0, udpZero := s.rdb PTP_CFG_UDP }
     { s with tk := { s.tk with sent := s.tk.sent.insert (16 * n) m } }))

/-- The input and output commands of the Timekeeper complete (R88, R197, R201, R204, R206, R207, R210, R211): stamps are taken, queued and
read, outputs armed and driven, launches made. -/
def Obligations.TimekeeperIoCommandsComplete : Prop :=
  (∀ (s : State) (w : Writer) (n : Nat) (t : TxStamp) (l : List TxStamp), n < 4 → readStatus s w.master (0x2040c + 0x20 * n) = 0 → txtsAt s n = t :: l →
    exec (.txtsNsRead w n) s = .next ((setTxts s n l).answer 0 t.nsWord)) ∧
  (∀ (s : State) (w : Writer), readStatus s w.master 0x20000 = 0 → exec (.tkTimeRead w) s = .next
    ((latchRead w.master 0x2000c (s.time.dev % 65536) (latchRead w.master 0x20008 (s.sec / 2 ^ 32)
      (latchRead w.master 0x20004 (s.sec % 2 ^ 32) s))).answer 0 s.nsWord)) ∧
  (∀ (s : State) (w : Writer) (n v : Nat), n < 16 → writeStatus s w.master (0x21000 + 0x40 * n) = 0 → bit v 6 = true → toutDue s n = false →
    (let t := (s.answer 0 0).wrs [(TOUT_CTL_MODE n, bits v 0 2), (TOUT_CTL_POL n, bits v 2 1), (TOUT_CTL_REALIGN n, bits v 3 1),
      (TOUT_CTL_QEISEL n, bits v 4 2)]
     toutOk t n = true) → exec (.toutArm w n v) s = .next
      (armTout n ((s.answer 0 0).wrs [(TOUT_CTL_MODE n, bits v 0 2), (TOUT_CTL_POL n, bits v 2 1), (TOUT_CTL_REALIGN n, bits v 3 1),
        (TOUT_CTL_QEISEL n, bits v 4 2)]))) ∧
  (∀ (s : State) (n : Nat), toutDue s n = true → exec (.toutEdge n) s = .next (produceEdge n s)) ∧
  (∀ (s : State) (n ago : Nat), s.rdb (TCAP_CTL_EN n) = true → bit (s.rd (TCAP_CTL_EDGE n)) 0 = true →
    5 * s.rd (TCAP_CTL_FILTER n) ≤ ago → (tcapAt s n).length < 8 →
    exec (.tcapEdge n true ago) s = .next (setTcap s n (tcapAt s n ++ [⟨monoToTs s (s.mono - ago), true⟩]))) ∧
  (∀ (s : State) (n ago : Nat), s.rdb (TCAP_CTL_EN n) = true → bit (s.rd (TCAP_CTL_EDGE n)) 1 = true →
    5 * s.rd (TCAP_CTL_FILTER n) ≤ ago → 8 ≤ (tcapAt s n).length →
    exec (.tcapEdge n false ago) s = .next (s.wr (TCAP_STATUS_OVF n) 1)) ∧
  (∀ (s : State) (w : Writer) (n : Nat) (c : Capture) (l : List Capture), n < 16 → readStatus s w.master (0x21808 + 0x10 * n) = 0 →
    tcapAt s n = c :: l → exec (.tcapNsRead w n) s = .next ((setTcap s n l).answer 0 (c.stamp % 2 ^ 32))) ∧
  (∀ (s : State) (w : Writer) (g v : Nat), g < 8 → writeStatus s w.master (0x22000 + 0x10 * g) = 0 → bit v 0 = true →
    exec (.launchGridArm w g v) s = .next
      (armGrid g ((s.answer 0 0).wrs [(LG_CTL_EN g, bits v 0 1), (LG_CTL_TARGET g, bits v 1 4), (LG_CTL_LEAD_US g, bits v 8 8)]))) ∧
  (∀ (s : State) (e : LaunchEntry), s.tk.launch = [e] → e.at_ ≤ s.mono → exec .launchInstant s = .next
    (unbookLaunch (fun x => x.at_ == e.at_) (launchEntry e (unbookLaunch (fun x => x.at_ == e.at_ && x.kind != 2) s))))

/-- The calendar and alarm commands complete (R215, R216, R220, R221, R222, R223). -/
def Obligations.CalendarCommandsComplete : Prop :=
  (∀ (s : State) (w : Writer) (v : Nat), writeStatus s w.master 0x2080c = 0 → bit v 18 = false ∨ leapOk (s.answer 0 0) (bits v 0 18) = true →
    exec (.leapSchedule w v) s = .next
      ((s.answer 0 0).wrs [(CAL_LEAP_DAYS, bits v 0 18), (CAL_LEAP_PENDING, bits v 18 1), (CAL_LEAP_DELETE, bits v 19 1)])) ∧
  (∀ s : State, s.rdb CAL_LEAP_PENDING = true → s.rdb CAL_LEAP_DELETE = false →
    ((s.rd CAL_LEAP_DAYS + 1) * 86400 : Nat) + 1 ≤ utcSeconds s → exec .leapSecond s = .next
      (lastLeap 86400 ((s.wr CAL_OFFSET_SEC (s.rd CAL_OFFSET_SEC + 1)).wr CAL_LEAP_PENDING 0))) ∧
  (∀ s : State, s.rdb CAL_LEAP_PENDING = true → s.rdb CAL_LEAP_DELETE = true →
    ((s.rd CAL_LEAP_DAYS + 1) * 86400 : Nat) - 1 ≤ utcSeconds s → exec .leapSecond s = .next
      (lastLeap 86398 ((s.wr CAL_OFFSET_SEC (s.rd CAL_OFFSET_SEC + 65535)).wr CAL_LEAP_PENDING 0))) ∧
  (∀ (s : State) (w : Writer) (v : Nat), writeStatus s w.master 0x20818 = 0 → bit v 0 = true →
    (let t := (s.answer 0 0).wr CAL_CTL_FROM_PTP (bits v 1 1)
     setOk t = true ∧ t.rd TK_STATUS_SERVO ≠ 2) → exec (.calSet w v) s = .next
      (let t := (s.answer 0 0).wr CAL_CTL_FROM_PTP (bits v 1 1)
       requestStep (setInstant t - (t.devNs : Int)) t)) ∧
  (∀ (s : State) (w : Writer), readStatus s w.master 0x20800 = 0 → exec (.calDateRead w) s = .next
    ((latchRead w.master 0x20804 (calTimeWord s) s).answer 0 (calDateWord s))) ∧
  (∀ s : State, s.rd TK_STATUS_SERVO = 2 → exec .rtcRealign s = .next
    (({ s with time := { s.time with rtcAcc := 0 } }.wrPair AON_RTC_LO AON_RTC_HI s.sec).wr AON_RTC_SUB (s.ns * 32768 / 1000000000))) ∧
  (∀ s : State, s.rdb AON_ALARM_CTL_EN = true → s.time.alarmAt ≠ some (s.rdPair AON_RTC_LO AON_RTC_HI) → s.rdPair AON_ALARM_LO_SEC AON_ALARM_HI_SEC ≤ s.rdPair AON_RTC_LO AON_RTC_HI →
    exec .aonAlarm s = .next (wakeNow [0] ((s.wr AON_ALARM_CTL_EN 0).wr AON_ALARM_CTL_FIRED 1)))

/-- The commands of the Intake complete (R227, R230, R231, R233, R234, R235, R244): what arrives is assembled, a late or lost line closes
its frame, a GVSP packet is taken from the queue, a JPEG image is decoded. -/
def Obligations.IntakeCommandsComplete : Prop :=
  (∀ (s : State) (u v fn n : Nat) (x : Bool) (f : Frame) (t : State), intakeOn s = true → unitOn s u = true → v < 16 →
    u ∈ s.intake.csiJoined → s.intake.open_.find? (·.chan == 16 * u + v) = none → csiStream (s.wr (UNIT_STATUS_HS u) 1) u v = some n →
    (let r := s.wr (UNIT_STATUS_HS u) 1
     beginFrame n (16 * u + v) (r.rd (STREAM_DIM_WIDTH n)) (r.rd (STREAM_DIM_HEIGHT n)) (fn % 65536) r.ts64 r.mono false true r = (some f, t)) →
    exec (.frameStart u v fn 0 x []) s = .next
      (showPool (showOpen u v true ((setOpen t (t.intake.open_ ++ [f])).wr (STREAM_STATE_STATE n) 2)))) ∧
  (∀ (s : State) (u v : Nat) (f : Frame) (data : Bytes), intakeOn s = true → unitOn s u = true → v < 16 →
    s.intake.open_.find? (·.chan == 16 * u + v) = some f → f.lines.length < f.height →
    exec (.linePacket u v (dataType f.fmt) 0 true data) s = .next
      (let t := s.wr (UNIT_STATUS_HS u) 1
       let r := storeLine f f.lines.length (unpack f.fmt data) (notePixels f.width 0 t)
       onOpen (16 * u + v) (fun x => takeLine x true data r.mono (t.rdb (SENT_CFG_SRC f.stream))) r)) ∧
  (∀ (s : State) (u v : Nat) (x y : Bool), intakeOn s = true → unitOn s u = true → v < 16 →
    s.intake.open_.any (·.chan == 16 * u + v) = true → exec (.frameEnd u v 0 x y) s = .next
      (closeOpen (16 * u + v) none true (s.wr (UNIT_STATUS_HS u) 1).ts64 x y (s.wr (UNIT_STATUS_HS u) 1))) ∧
  (∀ (s : State) (u v : Nat), unitOn s u = true → v < 16 → exec (.lineTimeout u v) s = .next
    (truncateUnit u (fun f => f.chan % 16 == v && decide (f.lastPkt + s.rd (UNIT_CFG_LINE_TO_US u) * 1000 ≤ s.mono)) s)) ∧
  (∀ (s : State) (u : Nat), unitOn s u = true → s.rdb (UNIT_CFG_CONTCLK u) = false →
    exec (.clockLaneLoss u) s = .next
      (let t := s.wr (UNIT_STATUS_HS u) 0
       if s.intake.open_.any (·.chan / 16 == u) then t
       else { t with intake := { t.intake with csiJoined := t.intake.csiJoined.erase u } })) ∧
  (∀ (s : State) (u : Nat), unitOn s u = true → s.rdb (UNIT_CFG_CONTCLK u) = true →
    exec (.clockLaneLoss u) s = .next
      (let t := s.wr (UNIT_STATUS_HS u) 0
       truncateUnit u (fun _ => true) (if s.intake.open_.any (·.chan / 16 == u) then t
         else { t with intake := { t.intake with csiJoined := t.intake.csiJoined.erase u } }))) ∧
  (∀ (s t : State) (p : GvPacket) (l : List GvPacket) (f n : Nat), s.eth.gv = p :: l → intakeOn s = true →
    (gvHeader p.payload).format = 1 →
    (let r := freeCells (accountOf p.port 16) p.cells { s with eth := { s.eth with gv := l } }
     intakeOn r = true ∧ gvFilter r p = some f ∧
       gvStream f p true (if f ∈ r.intake.gvJoined then r
         else { r with intake := { r.intake with gvJoined := f :: r.intake.gvJoined } }) = (some n, t)) →
    exec .gvspLeader s = .next (gvPacket f n p (gvHeader p.payload) false false t)) ∧
  (∀ (s t : State) (p : GvPacket) (l : List GvPacket) (f n : Nat) (x y : Bool), s.eth.gv = p :: l → intakeOn s = true →
    (gvHeader p.payload).format = 3 →
    (let r := freeCells (accountOf p.port 16) p.cells { s with eth := { s.eth with gv := l } }
     intakeOn r = true ∧ gvFilter r p = some f ∧ f ∈ r.intake.gvJoined ∧ gvStream f p false r = (some n, t)) →
    exec (.gvspPayload x y) s = .next (gvPacket f n p (gvHeader p.payload) x y t)) ∧
  (∀ (s t : State) (p : GvPacket) (l : List GvPacket) (f n : Nat) (x y : Bool), s.eth.gv = p :: l → intakeOn s = true →
    (gvHeader p.payload).format = 2 →
    (let r := freeCells (accountOf p.port 16) p.cells { s with eth := { s.eth with gv := l } }
     intakeOn r = true ∧ gvFilter r p = some f ∧ f ∈ r.intake.gvJoined ∧ gvStream f p false r = (some n, t)) →
    exec (.gvspTrailer x y) s = .next (gvPacket f n p (gvHeader p.payload) x y t)) ∧
  (∀ (s : State) (n : Nat), exec (.gvspBlockTimeout n) s = .next
    (dropBlocks 0x04 (fun b => b.stream == n && (match b.trailer with
      | some t => decide (t.2.2 + s.rd (GV_CFG_WAIT_US b.filter) * 1000 ≤ s.mono) | none => false)) s)) ∧
  (∀ (s : State) (n : Nat) (x y : Bool) (f : Frame) (d : Nat × Nat × Nat), nextScan s n = some f →
    Jpg.sof (f.scan.getD []).length ((f.scan.getD []).drop 2) = some d → dimsOk s n d.1 d.2.1 = true → (d.2.2 = 1 → f.fmt = 0) →
    (d.2.2 = 3 → f.fmt = 5) → exec (.jpegDecodeDone n x y) s = .next (match Jpg.decode (f.scan.getD []) with
      | some im => placeImage n f im.width im.height im.rows x y s
      | none => dropScan n f 0x05 (s.inc JPEG_STAT_DECERR)))

/-- The commands of samples, replay and exposure complete (R247, R253, R258, R259, R266, R268, R273). -/
def Obligations.SampleCommandsComplete : Prop :=
  (∀ (s : State) (n : Nat) (f : Frame), firstSeq (s.intake.closed.filter (·.stream == n)) = some f → f.scan = none →
    earlierOpen s f = false → exec (.sampleReady [n]) s = .next
    (let t := writeTensor f s
     let t := setClosed t (t.intake.closed.filter fun x => x.sid != f.sid)
     queueSample f (frameStatus f) 0 0 t)) ∧
  (∀ (s : State) (n : Nat), exec (.sampleStale n) s = .next
    ((List.range 8).foldl (fun t g => releaseQueued g 0x09 (fun x => x.stream == n && isStale s x) t) s)) ∧
  (∀ (s : State) (w : Writer) (v : Nat), writeStatus s w.master 0x200038 = 0 → bit v 8 = true → s.intake.replays.length < 16 →
    exec (.replayGo w v) s = .next
      (let t := ((s.answer 0 0).wr REPLAY_CTL_PREP (bits v 0 4)).wr REPLAY_CTL_GROUP (bits v 4 3)
       setReplays t (t.intake.replays ++ [⟨t.rdPair REPLAY_SID_LO REPLAY_SID_HI, t.rd REPLAY_CTL_PREP, t.rd REPLAY_CTL_GROUP⟩]))) ∧
  (∀ (s : State) (r : Replay) (l : List Replay) (e : CacheEntry), s.intake.replays = r :: l → s.intake.prepTo ≤ 8 * s.mono →
    s.intake.cache.find? (·.sid == r.sid) = some e → exec .replayReady s = .next (replayHit r (r.sid % 32) e (setReplays s l))) ∧
  (∀ (s : State) (r : Replay) (l : List Replay), s.intake.replays = r :: l → s.intake.prepTo ≤ 8 * s.mono →
    s.intake.cache.find? (·.sid == r.sid) = none → exec .replayReady s = .next (replayMiss r (r.sid % 32) (setReplays s l))) ∧
  (∀ (s : State) (f : Frame) (l : List Frame), s.intake.encoding = f :: l →
    exec (.cacheEncodeDone true) s = .next ({ s with intake := { s.intake with encoding := l } }.inc CACHE_STAT_SKIP)) ∧
  (∀ (s : State) (f : Frame) (l : List Frame), s.intake.encoding = f :: l →
    (encodeFrame { s with intake := { s.intake with encoding := l } } f).code.length ≤ s.rd CACHE_CFG_MIB * 2 ^ 20 →
    exec (.cacheEncodeDone false) s = .next
      (let t := { s with intake := { s.intake with encoding := l } }
       let e := encodeFrame t f
       let cap := s.rd CACHE_CFG_MIB * 2 ^ 20
       let kept := evict cap e.code.length s.intake.cache
       let u := storeCode cap e.code (if kept.length < s.intake.cache.length then t.wr INT_STATUS_CACHE_EVICT 1 else t)
       { u with intake := { u.intake with cache := kept ++ [e] } }.wr CACHE_STAT_ENTRIES (kept.length + 1))) ∧
  (∀ (s : State) (w : Writer) (n v : Nat), n < 32 → writeStatus s w.master (0x209010 + 0x80 * n) = 0 → bit v 16 = true → exec (.cciGo w n v) s = .next
    (startCci n none (((dropAutomatic n (s.answer 0 0)).wr (SCRIPT_CTL_COUNT n) (bits v 0 6)).wr (SCRIPT_CTL_EXPO_IDX n) (bits v 8 5))).2) ∧
  (∀ (s : State) (b : Nat) (fails : List (List Bool)) (release : List Bool) (c : Cci), s.intake.cci.find? (·.bus == b) = some c →
    exec (.cciCommit b fails release) s = .next
      (let retry := s.rd (CCI_CFG_RETRY b)
       let run := cciRun retry c.writes fails release
       let fail := run.any fun e => writeFails retry e.2
       let wire := run.flatMap fun e => List.replicate ((attempts retry e.2).length + (if writeFails retry e.2 then 0 else 1)) e.1
       let t := setCci { s with intake := { s.intake with cciWire := s.intake.cciWire.insert b wire } }
         (s.intake.cci.filter fun x => x.stream != c.stream)
       let u := (t.inc (CCI_STAT_NACK b) ((run.flatMap fun e => (attempts retry e.2).filter id).length)).inc (CCI_STAT_COMMITS b)
       showCci (commit c.stream fail (if fail then post 0x8001 0x05 [c.stream] (u.wr (EXP_STATUS_CCI_FAIL c.stream) 1) else u)))) ∧
  (∀ (s : State) (n : Nat) (r : StatRec), s.intake.stats.find n = some r → s.rdb (EXP_CFG_AE_EN n) = false →
    exec (.autoExposure n) s = .next { s with intake := { s.intake with stats := s.intake.stats.erase n } }) ∧
  (∀ (s : State) (n : Nat) (r : StatRec), s.intake.stats.find n = some r → s.rdb (EXP_CFG_AE_EN n) = true →
    (let t := { s with intake := { s.intake with stats := s.intake.stats.erase n } }
     let want := exposureWanted (t.rd (AE_TARGET_T16 n)) (t.rd (AE_TARGET_DB16 n)) (t.rd (AE_ECUR n)) r.sum r.pixels
     qualifies t n r = true → max (t.rd (AE_ELIM_E_MIN n)) ((t.rd (AE_ECUR n) + 1) / 2) ≤ want →
     want ≤ min (t.rd (AE_ELIM_E_MAX n)) (2 * t.rd (AE_ECUR n)) → want ≠ t.rd (AE_ECUR n) →
     exec (.autoExposure n) s = .next (startCci n (some (u32 (t.ld (exposureAddr t n) 4) 0))
       (memWrite t 40 0 (exposureAddr t n) (leBytes 4 want)).2).2)) ∧
  (∀ (s : State) (n : Nat) (r : StatRec), s.intake.stats.find n = some r → s.rdb (EXP_CFG_AE_EN n) = true →
    (let t := { s with intake := { s.intake with stats := s.intake.stats.erase n } }
     let e := t.rd (AE_ECUR n)
     let want := exposureWanted (t.rd (AE_TARGET_T16 n)) (t.rd (AE_TARGET_DB16 n)) e r.sum r.pixels
     let lo := max (t.rd (AE_ELIM_E_MIN n)) ((e + 1) / 2)
     let hi := min (t.rd (AE_ELIM_E_MAX n)) (2 * e)
     let new := if want < lo then lo else hi
     let u := t.wr (EXP_STATUS_AE_LIMIT n) 1
     qualifies t n r = true → want < lo ∨ hi < want → new ≠ e →
     exec (.autoExposure n) s = .next (startCci n (some (u32 (u.ld (exposureAddr u n) 4) 0))
       (memWrite u 40 0 (exposureAddr u n) (leBytes 4 new)).2).2))

/-- The commands of the memory controllers complete (R293, R294, R296, R297, R298, R299). -/
def Obligations.MemoryCommandsComplete : Prop :=
  (∀ (s : State) (p oc tid addr n : Nat) (rt : Bool) (dead : List Nat) (errs : List (Nat × Nat)),
    exec (.mcRead p oc tid addr n rt dead errs) s = .next (issue p oc 0 tid addr n rt [] dead errs s)) ∧
  (∀ (s : State) (p oc tid addr : Nat) (b : Bytes) (rt : Bool) (dead : List Nat) (errs : List (Nat × Nat)),
    exec (.mcWrite p oc tid addr b rt dead errs) s = .next (issue p oc 1 tid addr b.length rt b dead errs s)) ∧
  (∀ (s : State) (c : Nat), c < 24 → mcRuns s (c / 4) = true → c ∉ s.mc.hot → exec (.refresh c true) s = .next
    (post 0x7003 (0x40 + c / 4) [c] ({ s with mc := { s.mc with hot := c :: s.mc.hot } }.wr (MC_STATUS_HOT (c / 4)) 1))) ∧
  (∀ (s : State) (m c d : Nat) (x : Bool), m < 6 → c < 4 → mcRuns s m = true → (shadowNow s m c).2 ≤ 400 →
    s.mc.shadow.get 0 (4 * m + c) ≠ (shadowNow s m c).1 → exec (.refreshShadow m d x c) s = .next
    (let t := { s with mc := { s.mc with shadow := s.mc.shadow.insert (4 * m + c) (shadowNow s m c).1 } }.incWrap (MC_RETRAIN_STAT_SHADOWS m)
     let t := t.wr (MC_DRIFT_PS m) (max (t.rd (MC_DRIFT_PS m)) (min d 255))
     if x then requestRetrain m t else t)) ∧
  (∀ (s : State) (w : Writer) (m v : Nat), m < 6 → writeStatus s w.master (0x230044 + 0x10000 * m) = 0 → bit v 0 = true →
    exec (.mcRetrainReq w m v) s = .next (requestRetrain m (s.answer 0 0))) ∧
  (∀ (s : State) (m t : Nat), m < 6 → s.mc.retrainAt.find m = some t → t + twoMajors s ≤ s.mono → exec (.retrainTimeout m) s = .next
    (post 0x7002 0x01 [m] (showPending
      ((({ s with mc := { s.mc with retrainAt := s.mc.retrainAt.erase m } }.wr (MC_RETRAIN_STAT_PENDING m) 0).wr
        (MC_RETRAIN_STAT_BUSYSEEN m) 1).wr MNT_STATUS_BUSYSEEN 1)))) ∧
  (∀ (s : State) (m v : Nat), m < 6 → mcRuns s m = true → channelUnits s ≠ 0 → inlineEcc s = false →
    s.mc.patrol.get 0 m = v → v + 1 < 4 * channelUnits s → patrolDue s m v (4 * channelUnits s) ≤ s.mono →
    exec (.patrolScrub m 0) s = .next
      ({ s with mc := { s.mc with patrol := s.mc.patrol.put 0 m (v + 1) } }.wr (MC_SCRUB_STAT_PROGRESS m)
        ((v + 1) * 65536 / (4 * channelUnits s)))) ∧
  (∀ (s : State) (m v kind : Nat), m < 6 → mcRuns s m = true → channelUnits s ≠ 0 → inlineEcc s = true →
    s.mc.patrol.get 0 m = v → v + 1 < 4 * channelUnits s → patrolDue s m v (4 * channelUnits s) ≤ s.mono →
    exec (.patrolScrub m kind) s = .next
      (let u := unitOf (4 * m + v % 4) (v / 4)
       let t := meetUnit (mcPid m) u (arise (u, kind) s)
       { t with mc := { t.mc with patrol := t.mc.patrol.put 0 m (v + 1) } }.wr (MC_SCRUB_STAT_PROGRESS m)
        ((v + 1) * 65536 / (4 * channelUnits s))))

/-- The fabric's commands complete (R319, R328, R334, R336, R338, R341): links, timeouts, the note of a timeout, fences, responses. -/
def Obligations.FabricCommandsComplete : Prop :=
  (∀ (s : State) (n ring : Nat), n < 24 → ring < 3 → s.rd (linkField n ring) ≠ 2 → exec (.linkReplay n ring true) s = .next
    (let t := s.inc (FAB_LINK_REPLAYS n)
     { t with fab := { t.fab with fails := t.fab.fails.erase (3 * n + ring) } }.wr (linkField n ring) 0)) ∧
  (∀ (s : State) (p tag : Nat) (x : Piece), s.fab.pieces.find? (fun x => x.init == p && x.tag == tag && !x.arrived && !x.orphan) = some x →
    x.start + s.rd (FAB_INIT_CFG_TO_US p) * 1000 ≤ s.mono → s.rdb FAB_TO_CAP_VALID = true → x.tgt ≠ 127 →
    exec (.fabricTimeout p tag) s = .next
      (let t := (s.inc FAB_TIMEOUTS).inc (FAB_INIT_TOCNT p)
       let z := { x with arrived := true, quar := true, status := 0x04, zr := false, data := if x.kind = 0 then zeros x.len else [] }
       deliver (setPieces (replaceFirst (fun x => x.init == p && x.tag == tag && !x.arrived && !x.orphan) z s.fab.pieces)
        { t with fab := { t.fab with notes := s.fab.notes ++ [x.tgt] } }))) ∧
  (∀ (s : State) (pid : Nat) (l : List Nat), s.fab.notes = pid :: l → neverFenced pid = false → s.rdb (FAB_TGT_CFG_AUTO_FENCE pid) = false →
    exec .tonote s = .next ({ s with fab := { s.fab with notes := l } }.inc (FAB_TGT_STAT_CONSEC pid))) ∧
  (∀ (s : State) (w : Writer) (k v : Nat), k < 3 → writeStatus s w.master (0x220050 + 4 * k) = 0 → exec (.fenceSet w k v) s = .next
    ((List.range 32).foldl (fun t j => if bit v j then fenceTarget (32 * k + j) 0 t else t) (s.answer 0 0))) ∧
  (∀ (s : State) (w : Writer) (k v : Nat), k < 3 → writeStatus s w.master (0x220040 + 4 * k) = 0 → exec (.fenceLift w k v) s = .next
    ((List.range 32).foldl (fun t j => if bit v j then liftFence (32 * k + j) t else t) (s.answer 0 0))) ∧
  (∀ (s : State) (p tag tgt : Nat), tgt ∈ usedPids s → exec (.fabricResponse p tag tgt true) s = .next (targetAnswers p tag tgt s)) ∧
  (∀ (s : State) (p tag tgt : Nat), exec (.fabricResponse p tag tgt false) s = .next (answerArrives p tag s)) ∧
  (∀ (s : State) (p tgt oc typ t : Nat) (l : List Nat), freeTags s p = t :: l → p ∈ usedPids s → tgt = 127 ∨ tgt ∈ usedPids s → oc < 4 →
    exec (.syncRequest p tgt oc typ) s = .next
      (let z : Piece :=
        { init := p, tgt := tgt, oc := oc, kind := if typ = 4 then 2 else typ, tid := 0, addr := 0, len := 0, tag := t, whole := s.fab.next
          last := true, rt := classOf s p false, start := s.mono }
       let z := { z with cw := ringFor s z }
       let r := reachNode [] [] z (count (BW_TX p) 1 { s with fab := { s.fab with next := s.fab.next + 1 } })
       deliver (setPieces (r.2.fab.pieces ++ [if r.1.stage = 2 then { r.1 with arrived := true } else r.1]) r.2)))

/-- The probe commands complete (R349, R352, R353, R361). -/
def Obligations.ProbeCommandsComplete : Prop :=
  (∀ (s : State) (n : Nat) (l : List Packet), n < 24 → exec (.probeObserve n 0 l) s = .next
    ((sortRank (fun (p : Packet) => p.point) (l.filter fun p => decide (p.point < 4))).foldl
      (fun t p => (List.range 4).foldl (filterSees n p) t) s)) ∧
  (∀ s : State, s.rdb PRB_WIN_CFG_ALIGN = false → s.rd PRB_WIN_CFG_LEN_US ≠ 0 → s.rdb PRB_WIN_STAT_FROZEN = false →
    s.mono / (s.rd PRB_WIN_CFG_LEN_US * 1000) ≠ s.prb.lastTick / (s.rd PRB_WIN_CFG_LEN_US * 1000) → exec .windowTick s = .next
      ({ s with prb := { s.prb with bank := s.prb.live, live := [], lastTick := s.mono } }.incWrap PRB_WIN_STAT_WIN_SEQ)) ∧
  (∀ (s : State) (w : Writer), writeStatus s w.master 0x228000 = 0 → exec (.prbClear w false) s = .next
    ((List.range 24).foldl (fun t n => t.wr (PRB_TRC_LOST n) 0)
      (({ s.answer 0 0 with prb := { s.prb with live := [], bank := [] } }.wr PRB_WIN_STAT_FROZEN 0).wr TRC_LOST 0))) ∧
  (∀ s : State, s.mono / 2 ^ 31 % 2 ≠ s.prb.syncBit → exec .traceSync s = .next (syncAll s)) ∧
  (∀ (s : State) (n : Nat), s.prb.lost.get 0 n ≠ 0 → (fifoAt s n).length ≤ 62 → exec (.traceLoss n) s = .next
    (setFifo n (fifoAt s n ++ [lossRecord s n (s.prb.lost.get 0 n), syncRecord s n]) 0 s))

/-- The queue commands complete (R369, R372, R373, R374, R378, R384, R391, R394): binding and unbinding, RESUME, the two doorbells, a
failed fetch, the completion at the front of the queue, the interrupt timer. -/
def Obligations.QueueCommandsComplete : Prop :=
  (∀ (s : State) (w : Writer) (q : Nat), q < 1024 → writeStatus s w.master (qCtlAddr q) = 0 → s.rdb BOOT_STATUS_SEALED = true →
    s.rd (PAGE_OWN_OWNER (qCtlAddr q / 0x1000)) = 0x800 ∨ s.rd (PAGE_OWN_OWNER (qCtlAddr q / 0x1000)) = 0x801 →
    bindError (s.answer 0 0) q false = 0 → exec (.bind w q) s = .next (bindStands q false (s.answer 0 0))) ∧
  (∀ (s : State) (w : Writer) (q : Nat), q < 1024 → writeStatus s w.master (qCtlAddr q) = 0 → s.rdb (Q_CFG_PIN q) = false →
    bound s q = true → exec (.unbind w q) s = .next (unbindQueue q (s.answer 0 0))) ∧
  (∀ (s : State) (w : Writer) (q : Nat), q < 1024 → writeStatus s w.master (qCtlAddr q) = 0 → s.rd (Q_STATE_STATE q) = 4 →
    q ∉ s.drv.cqFailed → exec (.resume w q) s = .next
      (pump q ({ s.answer 0 0 with drv := { s.drv with cqFailed := s.drv.cqFailed.erase q } }.wr (Q_STATE_STATE q) 2))) ∧
  (∀ (s : State) (w : Writer) (q v : Nat), q < 1024 → writeStatus s w.master (sqDbAddr q) = 0 → w.master ≠ 0x801 → 0 < v → v < 65536 →
    bound s q = true → backlog s q + v ≤ sqSize s q → exec (.sqDb q [(w, v)]) s = .next
      (pump q ((s.answer 0 0).wr (Q_SQ_PTR_TAIL q) (s.rd (Q_SQ_PTR_TAIL q) + v)))) ∧
  (∀ (s : State) (w : Writer) (q v : Nat), q < 1024 → writeStatus s w.master (cqDbAddr q) = 0 → w.master ≠ 0x801 → 0 < v → v < 65536 →
    bound s q = true → (v : Int) ≤ unread s q → exec (.cqDb q [(w, v)]) s = .next
      (let t := (s.answer 0 0).wr (Q_CQ_PTR_CQ_HEAD q) (s.rd (Q_CQ_PTR_CQ_HEAD q) + v)
       pump q (t.wr (Q_STATE_CQFULL q) (ofBool (decide ((cqSize t q : Int) ≤ unread t q + (flightsOf t q).length)))))) ∧
  (∀ (s : State) (q : Nat), s.rd (Q_STATE_STATE q) = 2 → backlog s q ≠ 0 → s.drv.heads.find q = none → draining s = false →
    unread s q + (flightsOf s q).length < cqSize s q → (flightsOf s q).any (·.fetchErr) = false → q ∉ s.drv.unbinding →
    exec (.fetchError q) s = .next
      (let r := memRead s (s.rd (Q_CFG_TID q)) (sqAddr s q (s.rd (Q_SQ_PTR_HEAD q))) 64
       let st := if r.1 = 0 ∨ r.1 = 0x07 then 0x04 else r.1
       let t := if r.1 = 0 then s else noteRead 12 (s.rd (Q_CFG_TID q)) (sqAddr s q (s.rd (Q_SQ_PTR_HEAD q))) 64 s
       modifyLast (launch t q 15 (zeros 64)) q fun f => { f with status := st, fetchErr := true, stop := t.ts64 })) ∧
  (∀ (s : State) (q : Nat) (f : Flight), nextCompletion s q = some f → (writeCompletion q f s).drv.flights.length < s.drv.flights.length →
    exec (.commandComplete q) s = .next (afterWrite f (writeCompletion q f s))) ∧
  (∀ (s : State) (q t : Nat), s.drv.irqOldest.find q = some t → s.rd (Q_CTL_IRQ_TIME_US q) ≠ 0 →
    t + s.rd (Q_CTL_IRQ_TIME_US q) * 1000 ≤ s.mono → exec (.irqTimer q) s = .next (raiseVector (s.rd (Q_ENG_VEC q))
      { s with drv := { s.drv with irqCount := s.drv.irqCount.erase q, irqOldest := s.drv.irqOldest.erase q } }))

/-- The control commands of a queue complete (R381, R387, R388). -/
def Obligations.ControlCommandsComplete : Prop :=
  (∀ (s : State) (q : Nat) (c : Bytes), headIs s q 0 0x00 = some c → exec (.nop q) s = .next (pump q (runHead q 14 c {} s))) ∧
  (∀ (s : State) (q : Nat) (c : Bytes), headIs s q 0 0x04 = some c →
    exec (.signalEvent q) s = .next (pump q (runHead q 14 c {} (signalEvent q c s)))) ∧
  (∀ (s : State) (q : Nat) (c : Bytes), headIs s q 0 0x06 = some c →
    exec (.evset q) s = .next (pump q (runHead q 14 c {} (wake (u16 c 8) (setEvent s (u16 c 8) { value := u64 c 16 }))))) ∧
  (∀ (s : State) (q : Nat) (c : Bytes), headIs s q 0 0x05 = some c → u64 c 16 ≤ (eventAt s (u16 c 8)).value →
    exec (.waitEvent q) s = .next (pump q (takeUp q (u16 c 8) c (runHead q 14 c {} s)))) ∧
  (∀ (s : State) (q : Nat) (c : Bytes), headIs s q 0 0x05 = some c → (eventAt s (u16 c 8)).value < u64 c 16 →
    exec (.waitEvent q) s = .next ((startHead q 14 1 c s).wr (Q_STATE_STATE q) 3)) ∧
  (∀ (s : State) (q : Nat) (f : Flight), (s.drv.flights.find? fun f => f.q == q && f.wait == 1) = some f → u32 f.cmd 12 ≠ 0 →
    f.startMono + u32 f.cmd 12 * 1000 ≤ s.mono → waitSatisfied s (u16 f.cmd 8) f = false →
    exec (.waitTimeout q) s = .next ((settleAt q f.idx { status := 0x08 } s).wr (Q_STATE_STATE q) 2))

/-- The commands of the rotation complete (R402, R404, R405, R406, R411, R431). -/
def Obligations.RotationCommandsComplete : Prop :=
  (∀ s : State, mayRotate s = true → s.rdb MSYNC_CFG_EN = false → exec .rotationStart s = .next (startRotation (firstBoundary s 0) s)) ∧
  (∀ (s : State) (x : Nat), rotating s = true → s.drv.rot.first + s.drv.rot.passed * majorNs s ≤ s.mono → exec (.majorBoundary x) s = .next
    (let t := selfCheck x s
     let t := if t.drv.rot.passed = 0 then firstStart (beginSupervision t) else countClean (t.incWrap ROT_CYCLE)
     let t := setRot { t.drv.rot with passed := t.drv.rot.passed + 1 } t
     if t.rdb PRB_WIN_CFG_ALIGN then tick t else t)) ∧
  (∀ (s : State) (e : Nat), comesUp s e = true → entryKind (rotEntry s e) = 0 → exec (.fixedClaimStart e) s = .next
    (announce (entryQid (rotEntry s e)) (entryCount (rotEntry s e)) (beginClaim e (entryQid (rotEntry s e)) (markSeen e s)))) ∧
  (∀ (s : State) (e : Nat), comesUp s e = true → entryKind (rotEntry s e) = 1 → s.rd (BG_STATUS_LEVEL (entryBg (rotEntry s e))) = 0 →
    exec (.headFire e) s = .next (markSeen e s)) ∧
  (∀ (s : State) (e : Nat), comesUp s e = true → entryKind (rotEntry s e) = 1 → s.rd (BG_STATUS_LEVEL (entryBg (rotEntry s e))) ≠ 0 →
    bit (s.rd ROT_STATUS_ARMED) (entryGroup (rotEntry s e)) = false → exec (.headFire e) s = .next
      (let b := rotEntry s e
       let t := ((markSeen e s).inc ROT_FIRED_FIRED).wr ROT_LAST_IDX e
       let t := showArmed (entryGroup b) (setRot { t.drv.rot with armed := t.drv.rot.armed ++ chainsOf t e } t)
       let r := takeSamples (entryBg b) (t.rd (BG_CFG_BATCH_MAX (entryBg b))) t
       announce (entryQid b) (entryCount b) (beginClaim e (entryQid b) (showPool (giveTake (entryQid b) r.1 r.2))))) ∧
  (∀ (s : State) (e : Nat), comesUp s e = true → entryKind (rotEntry s e) = 2 → e ∈ s.drv.rot.armed → exec (.chainClaimStart e) s = .next
    (let b := rotEntry s e
     let t := markSeen e s
     let t := setRot { t.drv.rot with armed := t.drv.rot.armed.erase e } t
     announce (entryQid b) (entryCount b) (showArmed (entryGroup b) (beginClaim e (entryQid b) t)))) ∧
  (∀ (s : State) (e : Nat), comesUp s e = true → entryKind (rotEntry s e) = 3 → exec (.maintClaimStart e) s = .next
    (let b := rotEntry s e
     let t := beginClaim e 0 (markSeen e s)
     let left := t.drv.rot.first + (rotTick t + entryLen b) * 10000 - t.mono
     runNext e (showPending ((fitting (entryCols b) left (requests t)).foldl (takeRequest e) t)))) ∧
  (∀ (s : State) (e : Nat) (k : Claim), (s.drv.rot.claims.find? fun k => k.entry == e && !k.held && decide (k.ends ≤ s.mono)) = some k →
    claimRuns s k = false → exec (.claimEnd e) s = .next (releaseClaim k s))

/-- The commands of serving work and flocks complete (R412, R414, R418, R421, R425, R515). -/
def Obligations.ServingCommandsComplete : Prop :=
  (∀ (s : State) (c q : Nat), freeForServing s c = true → dutyAllows s = true → chosen s c = some q → q < 1024 →
    exec (.servingDispatch c) s = .next (s.wrs [(COL_STATE_STATE c, 1), (COL_STATE_QID c, q)])) ∧
  (∀ (s : State) (c : Nat) (f : Flight), (s.drv.flights.find? fun f => f.unit == c && !s.rdb (Q_CFG_RT f.q) && !f.late) = some f → c < 13 →
    f.startMono + ((opCheck s f.q f.cmd).getD {}).durNs < s.mono → exec (.servingOverrun c) s = .next
      (let t := modifyFlights s (fun g => g.q == f.q && g.idx == f.idx) fun g => { g with late := true }
       raiseFault 0x06 c (t.inc ROT_OVF_SRV))) ∧
  (∀ (s : State) (f c : Nat), freeForServing s c = true → dutyAllows s = true → chosen s c = some (1024 + f) → pausedOn s f c = none →
    exec (.flockStepStart f c) s = .next (startStep f c s)) ∧
  (∀ (s : State) (c : Nat) (t : EngineStep), stepOn s c = some t → t.status = 0 → s.rd (FLK_LIST_COUNT t.flock) ≤ t.next →
    exec (.flockStepEnd c) s = .next (finishStep t s)) ∧
  (∀ (s : State) (c : Nat) (t : EngineStep), stepOn s c = some t → t.status ≠ 0 →
    exec (.flockStepEnd c) s = .next (abandonStep t t.status s)) ∧
  (∀ (s : State) (i : Nat) (r : SeqRef), s.drv.seqs.find? (·.idx == i) = some r → seqState s i = 1 → s.rdb (Q_CFG_DET r.q) = false →
    r.queuedAt + s.rd (FLK_ADMIT_ADMIT_MS r.flock) * 1000000 ≤ s.mono → exec (.flockAdmitTimeout i) s = .next
      (nondet r.q 8 (showFlock r.flock ((leaveFlock r 0x08 s).inc (FLK_RERUN_REFUSED r.flock))))) ∧
  (∀ (s : State) (q : Nat) (c : Bytes), headIs s q 1 0x48 = some c →
    s.drv.seqs.any (·.idx == (seqRange s (s.rd (Q_CFG_TID q))).1 + u16 c 10) = false → exec (.flockreq q) s = .next
      (let i := (seqRange s (s.rd (Q_CFG_TID q))).1 + u16 c 10
       let entry := leBytes 1 1 ++ leBytes 1 0 ++ leBytes 2 (s.rd (Q_CFG_TID q)) ++ leBytes 2 (bits (u8 c 8) 0 5) ++ leBytes 2 q ++
         leBytes 4 (u32 c 12) ++ leBytes 4 (u32 c 20) ++ leBytes 4 (u32 c 16) ++ leBytes 4 (u64 c 24 / 64) ++ zeros 40
       let t := putSeq i 0 entry (startHead q 14 6 c s)
       admitFlock (bits (u8 c 8) 0 5)
        { t with drv := { t.drv with seqs := t.drv.seqs ++ [⟨i, bits (u8 c 8) 0 5, q, s.rd (Q_SQ_PTR_HEAD q), t.mono⟩] } }))

/-- The commands of the tensor engines complete (R446, R453, R456, R457, R458, R459, R460, R471, R482, R484, R485, R486, R487, R502, R508,
R519): a command that may start on its column runs there, and the scrubber of the local memory reports what it found. -/
def Obligations.EngineCommandsComplete : Prop :=
  (∀ (s : State) (q c : Nat) (x : Ctx) (b : Bytes), engineCmd s q c 1 0x01 = some (x, b) → exec (.gemm q c) s = .next (runGemm x b s)) ∧
  (∀ (s : State) (q c : Nat) (x : Ctx) (b : Bytes), engineCmd s q c 1 0x02 = some (x, b) → exec (.conv q c) s = .next (runConv x b s)) ∧
  (∀ (s : State) (q c : Nat) (x : Ctx) (b : Bytes), engineCmd s q c 1 0x03 = some (x, b) → exec (.req q c) s = .next (runReq x b s)) ∧
  (∀ (s : State) (q c : Nat) (x : Ctx) (b : Bytes), engineCmd s q c 1 0x08 = some (x, b) → exec (.copy q c) s = .next (runCopy x b s)) ∧
  (∀ (s : State) (q c : Nat) (x : Ctx) (b : Bytes), engineCmd s q c 1 0x09 = some (x, b) → exec (.fill q c) s = .next (runFill x b s)) ∧
  (∀ (s : State) (q c : Nat) (x : Ctx) (b : Bytes), engineCmd s q c 1 0x0A = some (x, b) → exec (.sigchk q c) s = .next (runSigchk x b s)) ∧
  (∀ (s : State) (q c : Nat) (x : Ctx) (b : Bytes), engineCmd s q c 1 0x20 = some (x, b) → exec (.act q c) s = .next (runFunction 0x20 x b s)) ∧
  (∀ (s : State) (q c : Nat) (x : Ctx) (b : Bytes), engineCmd s q c 1 0x21 = some (x, b) → exec (.glu q c) s = .next (runFunction 0x21 x b s)) ∧
  (∀ (s : State) (q c : Nat) (x : Ctx) (b : Bytes), engineCmd s q c 1 0x22 = some (x, b) →
    exec (.rowstat q c) s = .next (runFunction 0x22 x b s)) ∧
  (∀ (s : State) (q c : Nat) (x : Ctx) (b : Bytes), engineCmd s q c 1 0x23 = some (x, b) → exec (.lnorm q c) s = .next (runFunction 0x23 x b s)) ∧
  (∀ (s : State) (q c : Nat) (x : Ctx) (b : Bytes), engineCmd s q c 1 0x24 = some (x, b) →
    exec (.rmsnorm q c) s = .next (runFunction 0x24 x b s)) ∧
  (∀ (s : State) (q c : Nat) (x : Ctx) (b : Bytes), engineCmd s q c 1 0x25 = some (x, b) →
    exec (.softmax q c) s = .next (runFunction 0x25 x b s)) ∧
  (∀ (s : State) (q c : Nat) (x : Ctx) (b : Bytes), engineCmd s q c 1 0x40 = some (x, b) → exec (.attn q c) s = .next (runAttn x b s)) ∧
  (∀ (s : State) (q c : Nat) (x : Ctx) (b : Bytes), engineCmd s q c 1 0x41 = some (x, b) → exec (.kvappend q c) s = .next (runAppend x b s)) ∧
  (∀ (s : State) (q c : Nat) (x : Ctx) (b : Bytes), engineCmd s q c 1 0x44 = some (x, b) → exec (.kvtok q c) s = .next (runTok x b s)) ∧
  (∀ (s : State) (e : Nat), e < engines s → columnReady s e = true →
    exec (.pastureScrub e [] true) s = .next (s.incWrap (PAST_SCRUB_PASSES e))) ∧
  (∀ (s : State) (e w : Nat), e < engines s → columnReady s e = true → w < 917504 →
    exec (.pastureScrub e [(w, true)] false) s = .next
      { s with loc := { s.loc with bad := s.loc.bad.put false (e * 2 ^ 20 + w) true } })

/-- The commands of the Vector cluster complete (R527, R534, R535, R537, R538, R539, R540, R542). -/
def Obligations.VectorCommandsComplete : Prop :=
  (∀ (s : State) (q c : Nat) (x : Ctx) (b : Bytes), engineCmd s q c 2 0x01 = some (x, b) → exec (.vresize q c) s = .next (runVector 0x01 x b s)) ∧
  (∀ (s : State) (q c : Nat) (x : Ctx) (b : Bytes), engineCmd s q c 2 0x02 = some (x, b) → exec (.vfilt q c) s = .next (runVector 0x02 x b s)) ∧
  (∀ (s : State) (q c : Nat) (x : Ctx) (b : Bytes), engineCmd s q c 2 0x03 = some (x, b) → exec (.vstereo q c) s = .next (runVector 0x03 x b s)) ∧
  (∀ (s : State) (q c : Nat) (x : Ctx) (b : Bytes), engineCmd s q c 2 0x10 = some (x, b) → exec (.vpcloud q c) s = .next (runVector 0x10 x b s)) ∧
  (∀ (s : State) (q c : Nat) (x : Ctx) (b : Bytes), engineCmd s q c 2 0x11 = some (x, b) → exec (.vboxfit q c) s = .next (runVector 0x11 x b s)) ∧
  (∀ (s : State) (q c : Nat) (x : Ctx) (b : Bytes), engineCmd s q c 2 0x12 = some (x, b) → exec (.vboxpca q c) s = .next (runVector 0x12 x b s)) ∧
  (∀ (s : State) (q c : Nat) (x : Ctx) (b : Bytes), engineCmd s q c 2 0x20 = some (x, b) → exec (.vnms q c) s = .next (runVector 0x20 x b s)) ∧
  (∀ (s : State) (q c : Nat) (x : Ctx) (b : Bytes), engineCmd s q c 2 0x21 = some (x, b) → exec (.vsort q c) s = .next (runVector 0x21 x b s)) ∧
  (∀ (s : State) (q c : Nat) (x : Ctx) (b : Bytes), engineCmd s q c 2 0x22 = some (x, b) → exec (.vtopk q c) s = .next (runVector 0x22 x b s)) ∧
  (∀ (s : State) (q c : Nat) (x : Ctx) (b : Bytes), engineCmd s q c 2 0x30 = some (x, b) → exec (.vik q c) s = .next (runVector 0x30 x b s)) ∧
  (∀ (s : State) (q c : Nat) (x : Ctx) (b : Bytes), engineCmd s q c 2 0x31 = some (x, b) → exec (.vjerk q c) s = .next (runVector 0x31 x b s)) ∧
  (∀ (s : State) (q c : Nat) (x : Ctx) (b : Bytes), engineCmd s q c 2 0x40 = some (x, b) → exec (.vmatmul q c) s = .next (runVector 0x40 x b s)) ∧
  (∀ (s : State) (q c : Nat) (x : Ctx) (b : Bytes), engineCmd s q c 2 0x41 = some (x, b) → exec (.vact q c) s = .next (runVector 0x41 x b s)) ∧
  (∀ (s : State) (q c : Nat) (x : Ctx) (b : Bytes), engineCmd s q c 2 0x42 = some (x, b) → exec (.vargmax q c) s = .next (runVector 0x42 x b s)) ∧
  (∀ (s : State) (v w : Nat), v < 4 → columnReady s (8 + v) = true → w < 131072 →
    exec (.clusterScrub v [(w, false)] true) s = .next ((s.inc (CLM_CORR v)).incWrap (CLM_SCRUB_PASSES v)))

/-- The Gleaner's commands complete (R548, R549, R551, R555, R560). -/
def Obligations.GleanerCommandsComplete : Prop :=
  (∀ (s : State) (q : Nat) (x : Ctx) (b : Bytes), engineCmd s q 12 3 0x01 = some (x, b) → tablesReady s b = true →
    exec (.gsearch q) s = .next (runSearch x b (fun _ => (searchOf b).probe) s)) ∧
  (∀ (s : State) (q n : Nat) (x : Ctx) (b : Bytes), engineCmd s q 12 3 0x01 = some (x, b) → tablesReady s b = true →
    (searchOf b).deadline ≠ 0 → (searchOf b).nq = 1 → n < (searchOf b).probe →
    exec (.gsearchDeadline q [n]) s = .next (runSearch x b (fun i => [n].getD i 0) s)) ∧
  (∀ (s : State) (x k : Nat), x = 1 ∨ x = 2 → s.gl.loading.find? (·.1 == x) = some (x, k) → k ≠ 0 →
    exec (.indexCheck x) s = .next (checkSlot x (if k = 2 then 256 else 0) (endLoading x s))) ∧
  (∀ (s : State) (x : Nat), s.gl.loading.contains (x, 0) = true → exec (.reloadVerifyDone x) s = .next
    (let t := endLoading x s
     if reloadOk s x then (setGl { t.gl with loading := t.gl.loading ++ [(x, 2)] } t).wr (slotLoaded x) 1
     else t.wr (slotErr x) 0x09)) ∧
  (∀ (s : State) (w : Writer) (v : Nat), writeStatus s w.master 0x210028 = 0 → bit v 8 = true → s.gl.loading = [] → s.gl.active ≠ 1 →
    slotUsed ((s.answer 0 0).wr GL_LOAD_SLOT v) 1 = false → ((s.answer 0 0).wr GL_LOAD_SLOT v).rd GL_LOAD_SLOT = 1 →
    exec (.glLoad w v) s = .next
      (let t := (s.answer 0 0).wr GL_LOAD_SLOT v
       setGl { t.gl with loading := [(1, 0)], copy := t.gl.copy.erase 1 } ((t.wr (slotValid 1) 0).wr (slotLoaded 1) 0))) ∧
  (∀ (s : State) (w : Writer) (v : Nat), writeStatus s w.master 0x21002c = 0 → bit v 8 = true → bit v 9 = false → s.gl.active = 0 →
    ((s.answer 0 0).wr GL_SWAP_TGT v).rd GL_SWAP_TGT = 1 → ((s.answer 0 0).wr GL_SWAP_TGT v).rdb (slotValid 1) = true →
    exec (.glSwap w v) s = .next
      (let t := (s.answer 0 0).wr GL_SWAP_TGT v
       post 0x9002 0x06 [1, 0, ixGen (slotHead t 1)] (setGl { t.gl with active := 1 } (t.inc GL_SWAPS))))

/-- The commands of the comparator and the safety outputs complete (R574, R585, R586, R588, R592, R593). -/
def Obligations.SafetyCommandsComplete : Prop :=
  (∀ (s : State) (q : Nat) (c : Bytes), headIs s q 4 0x01 = some c → exec (.dcompare q) s = .next (dcompare q c s)) ∧
  (∀ (s : State) (q : Nat) (c : Bytes), headIs s q 4 0x02 = some c → exec (.dsafe q) s = .next (dsafe q c s)) ∧
  (∀ (s : State) (n x : Nat), exec (.faultReport [(n, x)]) s = .next
    (let t := recordFault false (levelOf s n) n x s
     react (levelOf t n) n (faultStream n x) (if n = 0x22 then emergencyReaction t else t))) ∧
  (∀ (s : State) (w : Writer), writeStatus s w.master 0x30008 = 0 →
    exec (.sfFltClr w 1 0xC3) s = .next ((s.answer 0 0).wr SF_LATCH_L3 0)) ∧
  (∀ s : State, armed s = true → halfPassed s = true → s.safety.selfMissed = 0 → s.rd DC_SELF_DIFF = 0 → exec .safeToggle s = .next
    ((noteEdge s).wrs [(SF_STATUS_SAFE_A, 1 - s.rd SF_STATUS_SAFE_A), (SF_STATUS_SAFE_B, 1 - (1 - s.rd SF_STATUS_SAFE_A))])) ∧
  (∀ (s : State), s.rdb SF_OUT_CFG_FB_EN = true → edgeNear s = false →
    exec (.safeOutputReadback (s.rdb SF_STATUS_SAFE_A) (s.rdb SF_STATUS_SAFE_B) (s.rdb SF_STATUS_MINH_N)) s = .next
      { s with safety := { s.safety with fbRun := 0 } }) ∧
  (∀ (s : State), s.rdb SF_OUT_CFG_FB_EN = true → edgeNear s = false → s.safety.fbRun = 3 →
    exec (.safeOutputReadback (!s.rdb SF_STATUS_SAFE_A) (s.rdb SF_STATUS_SAFE_B) (s.rdb SF_STATUS_MINH_N)) s = .next
      (raiseFault 0x21 0 { s with safety := { s.safety with fbRun := 4 } }))

/-- The Shepherd's commands complete (R602, R606, R607, R621). -/
def Obligations.ShepherdCommandsComplete : Prop :=
  (∀ (s : State) (q : Nat) (i : Instance), instAt s q = some i → i.started = false → i.ref + limitNs s q 8 i < s.mono → 0x10 ∉ i.raised →
    exec (.startLate q) s = .next (raiseViolation i.zero q 0x10 (setInst q { i with raised := 0x10 :: i.raised } s))) ∧
  (∀ (s : State) (q : Nat) (i : Instance), instAt s q = some i → i.ref + limitNs s q 12 i < s.mono → 0x11 ∉ i.raised →
    exec (.endLate q) s = .next (raiseViolation i.zero q 0x11 (setInst q { i with raised := 0x11 :: i.raised } s))) ∧
  (∀ (s : State) (q : Nat) (i : Instance) (e : Bytes), instAt s q = some i → shepEntry s q = some e → u32 e 16 ≠ 0 →
    u32 e 16 * 1000 < busyNs s i → 0x12 ∉ i.raised →
    exec (.budget q) s = .next (raiseViolation false q 0x12 (setInst q { i with raised := 0x12 :: i.raised } s))) ∧
  (∀ (s : State) (w : Writer) (v : Nat) (e : Bytes), writeStatus s w.master 0x38010 = 0 → taskOf s w.qid 1 = some e → w.master < 0x400 →
    supervising s = true → u32 e 20 = 0 → u8 e 5 = 0 → exec (.heartbeat w v) s = .next
      { s.answer 0 0 with shp :=
        { s.shp with hbFrom := s.shp.hbFrom.insert w.qid s.mono, hbLast := s.shp.hbLast.insert w.qid s.mono } }) ∧
  (∀ (s : State) (q t : Nat) (e : Bytes), s.shp.hbFrom.find q = some t → taskOf s q 1 = some e → supervising s = true →
    t + u32 e 24 * 1000 < s.mono → exec (.hbLate q) s = .next
      (raiseViolation false q 0x14 { s with shp := { s.shp with hbFrom := s.shp.hbFrom.insert q s.mono } })) ∧
  (∀ (s : State) (w : Writer) (v : Nat), writeStatus s w.master 0x38034 = 0 → bit v 18 = false → injectable s v = true →
    knownCode (bits v 0 8) = true → exec (.injectRaise w v) s = .next (injectCode (bits v 0 8) (bits v 8 10) (s.answer 0 0))) ∧
  (∀ (s : State) (w : Writer) (v : Nat), writeStatus s w.master 0x38034 = 0 → bit v 18 = true → injectable s v = true →
    (taskOf s (bits v 8 10) 0).isSome = true → bits v 8 10 ∉ s.shp.inject → exec (.injectTask w v) s = .next
      ({ s.answer 0 0 with shp := { s.shp with inject := bits v 8 10 :: s.shp.inject } }.inc SHP_INJ_COUNT_INJECTED))

/-- The maintenance commands complete (R431, R612, R614, R618). -/
def Obligations.MaintenanceCommandsComplete : Prop :=
  (∀ (s : State) (q : Nat) (c : Bytes), headIs s q 6 0x01 = some c → mntPending s < 64 →
    exec (.lbist q) s = .next (showPending (startHead q 14 4 c s))) ∧
  (∀ (s : State) (q : Nat) (c : Bytes), headIs s q 6 0x02 = some c → mntPending s < 64 →
    exec (.mbist q) s = .next (showPending (startHead q 14 4 c s))) ∧
  (∀ (s : State) (q : Nat) (c : Bytes), headIs s q 6 0x03 = some c → mntPending s < 64 →
    exec (.retrain q) s = .next (showPending (startHead q 14 4 c s))) ∧
  (∀ (s : State) (q : Nat) (f : Flight), (s.drv.flights.find? fun f => f.q == q && f.wait == 4) = some f →
    f.startMono + 2 * majorNs s ≤ s.mono → takenNow s f = false → cmdForce f.cmd = false →
    exec (.maintExpiry q) s = .next (showPending ((settleAt q f.idx { status := 0x08 } s).wr MNT_STATUS_BUSYSEEN 1))) ∧
  (∀ (s : State) (q : Nat) (f : Flight), (s.drv.flights.find? fun f => f.q == q && f.wait == 4) = some f →
    f.startMono + 2 * majorNs s ≤ s.mono → takenNow s f = false → cmdForce f.cmd = true → exec (.maintExpiry q) s = .next
      (let t := (takeRequest 4096 s ⟨f.startMono, q, f.idx, u8 f.cmd 8, 0, cmdOpc f.cmd == 1⟩).inc MNT_FORCED
       raiseViolation false q 0x19 (showColumn (u8 f.cmd 8) (showPending t)))) ∧
  (∀ (s : State) (q : Nat) (m : MaintRun), (s.drv.maint.find? fun m => m.req == q && m.claim == 4096 && !m.running) = some m → 8 ≤ m.col →
    columnBusy s m.col = false → exec (.forcedRun q) s = .next (runRequest m s)) ∧
  (∀ (s : State) (r g : Nat) (pass : Bool) (m : MaintRun) (f : Flight), (s.drv.maint.find? fun m => m.req == r && m.running) = some m →
    r < 1024 → m.col < 13 → (s.drv.flights.find? fun f => f.q == m.req && f.idx == m.idx) = some f → m.claim = 4096 →
    exec (.maintRequestDone r pass g) s = .next
      (showColumn m.col (finishRequest m f.cmd pass g
        ({ s with drv := { s.drv with maint := s.drv.maint.erase m } }.wr (bistField m.col) 0))))

/-- The synchronisation commands of a group of devices complete (R638, R639, R640, R643, R644). -/
def Obligations.MsyncCommandsComplete : Prop :=
  (∀ s : State, mayRotate s = true → inGroup s = true → s.msync.atPoint = false → s.rd MSYNC_STATUS_STATE ≠ 6 → exec .barrierPoint s = .next
    (let t := { s with msync := { s.msync with atPoint := true, point := s.mono } }
     t.wrs [(MSYNC_STATUS_BELLWETHER, ofBool (leads t)), (MSYNC_STATUS_STATE, if leads t then 1 else 2),
      (MSYNC_STATUS_SYNC_OUT, if leads t then 0 else 1), (BOOT_STATUS_PHASE, 8)])) ∧
  (∀ s : State, inGroup s = true → leads s = true → s.msync.atPoint = true → s.rd MSYNC_STATUS_STATE = 1 →
    exec .bellwetherRelease s = .next (passBarrier ((s.time.mono + s.rd MSYNC_CFG_OWN_DLY * 524288 / 10) / 65536) s)) ∧
  (∀ (s : State) (ago : Nat), inGroup s = true → leads s = false → s.msync.atPoint = true → s.rd MSYNC_STATUS_STATE = 2 →
    s.msync.point + ago ≤ s.mono → exec (.followerRelease ago) s = .next (passBarrier (s.mono - ago - 2) s)) ∧
  (∀ s : State, inGroup s = true → s.msync.atPoint = true → s.rd MSYNC_STATUS_STATE ≤ 2 →
    s.msync.point + s.rd MSYNC_CFG2_WAIT_MS * 1000000 ≤ s.mono →
    s.rdb MSYNC_CFG_ALONE = false → exec .barrierTimeout s = .next
      (let t := { s with msync := { s.msync with atPoint := false } }.wrs
        [(MSYNC_STATUS_TIMEOUT, 1), (MSYNC_STATUS_SYNC_OUT, 0), (MSYNC_STATUS_STATE, 6)]
       post 0x4002 0x02 (msyncArgs t) t)) ∧
  (∀ (s : State) (w : Writer) (v : Nat), writeStatus s w.master 0x3B0024 = 0 → bit v 0 = true → s.rd MSYNC_STATUS_STATE = 6 →
    exec (.msyncRetry w v) s = .next ((s.answer 0 0).wr MSYNC_STATUS_STATE 1)) ∧
  (∀ s : State, inGroup s = true → leads s = true → s.rd MSYNC_STATUS_STATE = 3 → rotating s = true → s.rd MSYNC_CFG2_CHECK_CYCLES ≠ 0 →
    s.drv.rot.passed ≠ 0 → s.drv.rot.passed % s.rd MSYNC_CFG2_CHECK_CYCLES = 0 → s.msync.marked ≠ s.drv.rot.passed →
    exec .markerSend s = .next ({ s with msync := { s.msync with marked := s.drv.rot.passed } }.inc MSYNC_COUNT_MARKERS)) ∧
  (∀ (s : State) (ago : Nat), inGroup s = true → leads s = false → s.rd MSYNC_STATUS_STATE = 4 → exec (.markerReceive ago) s = .next
    (startRotation (s.mono - ago - 2)
      (({ s with msync := { s.msync with atPoint := false, marked := 0 } }.inc MSYNC_COUNT_MARKERS).wrs
        [(MSYNC_STATUS_STATE, 3), (MSYNC_STATUS_SYNC_OUT, 0)]))) ∧
  (∀ s : State, inGroup s = true → leads s = false → s.rd MSYNC_STATUS_STATE = 3 → rotating s = true → s.rd MSYNC_CFG2_CHECK_CYCLES = 1 →
    1 < s.drv.rot.passed → s.msync.marked < s.drv.rot.passed - 1 →
    s.drv.rot.first + (s.drv.rot.passed - 1) * majorNs s + majorNs s / 4 < s.mono → exec .markerMiss s = .next
      (let t := { s with msync := { s.msync with marked := s.drv.rot.passed - 1 } }.wr MSYNC_STATUS_MISS 1
       post 0x4004 0x02 (msyncArgs t) t)) ∧
  (∀ s : State, inGroup s = true → leads s = false → exec .syncInGlitch s = .next (s.inc MSYNC_ERR_GLITCH))

/-- The receiving side of CAN completes (R654, R660, R664, R669, R670): a frame taken up, an error counted, a read of the shared objects. -/
def Obligations.CanReceiveCommandsComplete : Prop :=
  (∀ (s : State) (n : Nat) (f : CanFrame), canJoined s n = true → exec (.canReceive n f) s = .next
    (let r := recAfterGood s n
     canStore n f (monoToTs s (s.mono - f.sofAgo))
      (feedPeers n f (countGood n ((setErrors n (s.rd (CAN_ERRCNT_TEC n)) r.1 r.2).inc (CAN_RXOK n)))))) ∧
  (∀ (s : State) (n k : Nat) (x : Bool), canJoined s n = true → k ≠ 7 → exec (.canRxError n k x) s = .next
    (let t := ({ s with can := { s.can with good := s.can.good.erase n } }.inc (CAN_ERRDET n)).wr (CAN_STATUS_LASTERR n) k
     setErrors n (t.rd (CAN_ERRCNT_TEC n)) (t.rd (CAN_ERRCNT_REC n) + (if x then 8 else 1)) t)) ∧
  (∀ (s : State) (w : Writer) (n o : Nat), writeStatus s w.master (0x340400 + 0x1000 * n) = 0 →
    (let t := setMasterIdx w.master (0x340400 + 0x1000 * n) o (s.answer 0 0)
     objectOk t n o 0 = true) → exec (.canShadowGo w n o) s = .next
    (let t := setMasterIdx w.master (0x340400 + 0x1000 * n) o (s.answer 0 0)
     clearNew o (setShadow t w.master n (copyObject t o)))) ∧
  (∀ (s : State) (w : Writer) (n : Nat), writeStatus s w.master (0x340400 + 0x1000 * n) = 0 → s.rd (CAN_FIFO_STAT_LEVEL n) ≠ 0 →
    exec (.canShadowPop w n) s = .next
      (let t := s.answer 0 0
       clearNew (fifoObject t n 0) (popFifo n (setShadow t w.master n (copyObject t (fifoObject t n 0)))))) ∧
  (∀ (s : State) (q : Nat) (c : Bytes), headIs s q 5 0x01 = some c → s.rdb (OBJ_PEND (u16 c 10 % 2048)) = false →
    exec (.cantx q) s = .next (canTx q c s)) ∧
  (∀ (s : State) (q : Nat) (c : Bytes), headIs s q 5 0x02 = some c → exec (.canrd q) s = .next (canRead q c s))

/-- The sending side and the states of a CAN controller complete (R666, R667, R672, R673, R675). -/
def Obligations.CanSendCommandsComplete : Prop :=
  (∀ (s : State) (n : Nat) (r : CanReq), canMayStart s n = true → bestReq s (s.can.reqs.filter (reqReady s n)) = some r → r.motor = none →
    exec (.canTxAttempt n) s = .next
      (modifyReq r.obj (fun x => { x with begun := true })
        { s with can :=
          { s.can with wire := s.can.wire.insert n ⟨r.obj, s.ts64, if r.begun = true then none else some s.time.mono⟩ } })) ∧
  (∀ (s : State) (n : Nat) (w : CanWire) (r : CanReq), s.can.wire.find n = some w →
    (let u := (measureDelay n w.obj { s with can := { s.can with wire := s.can.wire.erase n } }).inc (CAN_TXOK n)
     let t := setErrors n (s.rd (CAN_ERRCNT_TEC n) - 1) (s.rd (CAN_ERRCNT_REC n)) u
     t.can.reqs.find? (fun r => r.ctrl == n && r.obj == w.obj) = some r) → r.motor = none → r.rank ≠ 2 → exec (.canTxDone n) s = .next
    (let u := (measureDelay n w.obj { s with can := { s.can with wire := s.can.wire.erase n } }).inc (CAN_TXOK n)
     let t := setErrors n (s.rd (CAN_ERRCNT_TEC n) - 1) (s.rd (CAN_ERRCNT_REC n)) u
     settleAt r.q r.idx { aux := w.sof } (dropReqs (fun x => x == r) t))) ∧
  (∀ (s : State) (n k : Nat) (w : CanWire), s.can.wire.find n = some w → exec (.canTxError n true k) s = .next
    ({ s with can := { s.can with wire := s.can.wire.erase n } }.inc (CAN_ARBLOST n))) ∧
  (∀ (s : State) (o c : Nat) (r : CanReq), s.can.reqs.find? (·.obj == o) = some r → r.close = some c → c < s.mono →
    s.can.wire.find r.ctrl = none → exec (.canTxWindowClose o) s = .next (abandonReq r s)) ∧
  (∀ (s : State) (w : Writer) (n : Nat), writeStatus s w.master (0x340000 + 0x1000 * n) = 0 → s.rd (CAN_STATUS_STATE n) = 4 →
    exec (.canRecover w n) s = .next ((s.answer 0 0).wr (CAN_STATUS_STATE n) 5)) ∧
  (∀ (s : State) (n : Nat), s.rd (CAN_STATUS_STATE n) = 5 →
    exec (.canRecoveryDone n) s = .next (canIntegrate n ((setErrors n 0 0 s).inc (CAN_BOFFCNT_RECOV n)))) ∧
  (∀ (s : State) (n : Nat), s.rd (CAN_STATUS_STATE n) = 1 → s.rdb (CAN_CTL_EN n) = true → exec (.canIntegrated n) s = .next
    (let t := s.wr (CAN_STATUS_STATE n) (if decide (127 < s.rd (CAN_ERRCNT_TEC n)) || decide (127 < s.rd (CAN_ERRCNT_REC n)) then 3 else 2)
     let t := t.wr (CAN_STATUS_MONITOR n) (ofBool (t.rd (CAN_CTL_MODE n) == 2))
     if t.rdb (CAN_CTL_JOINR n) ∧ t.rd (CAN_REST_REST_OK n) ≠ 0 then
       { t with can := { t.can with joinR := n :: t.can.joinR.erase n, good := t.can.good.erase n } }.wr (CAN_STATUS_RESTRICTED n) 1
     else t.wr (CAN_STATUS_RESTRICTED n) (ofBool (t.rd (CAN_CTL_MODE n) == 1)))) ∧
  (∀ (s : State) (n : Nat), s.rdb (CAN_CTL_SLEEP n) = true → s.rd (CAN_STATUS_STATE n) ≠ 0 → s.can.wire.find n = none →
    exec (.canSleep n) s = .next (s.wr (CAN_STATUS_STATE n) 6)) ∧
  (∀ (s : State) (n : Nat), s.rd (CAN_STATUS_STATE n) = 6 → s.rdb (CAN_CTL_AUTOWAKE n) = true →
    exec (.canAutowake n) s = .next (canIntegrate n (s.wr (CAN_CTL_SLEEP n) 0)))

/-- The commands of joint encoders and motor overrides complete (R685, R687, R689, R690, R691, R695). -/
def Obligations.JointCommandsComplete : Prop :=
  (∀ (s : State) (n : Nat), s.rdb (JSP_CFG_TRIG_TOUT n) = false → s.rd (JSP_CFG_MODE n) ≠ 0 → jointRuns s = true → (jspAt s n).frame = none →
    (jspAt s n).busyUntil ≤ s.mono → exec (.jspFrameStart n) s = .next (setJsp s n { jspAt s n with frame := some (s.ts64, s.mono) })) ∧
  (∀ (s : State) (n raw : Nat) (f : Nat × Nat), jointRuns s = true → (jspAt s n).frame = some f → s.rd (JSP_CFG_MODE n) ≠ 1 →
    (let r := raw % 2 ^ s.rd (JSP_CFG_NBITS n)
     jspOutcome s n true r = 0) → exec (.jspFrameEnd n true raw) s = .next
      (let r := raw % 2 ^ s.rd (JSP_CFG_NBITS n)
       let t := jspCount n 0 (setJsp s n { good := some f.2, frame := none, busyUntil := s.mono })
       let t := t.wrs [(JSP_STATUS_OUTCOME n, 0), (JSP_STATUS_VALID n, 1), (JSP_STATUS_STALE n, 0)]
       let p := jspPosition t n r
       let t := t.wrPair (JSP_POS_LO n) (JSP_POS_HI n) p
       let k := t.rd (JSP_SEQ n)
       let w := memWrite t 93 0 (t.rdPair (JSP_RING_LO n) (JSP_RING_HI n) + 32 * (k % 16)) (jspRecord k 0 true false f.1 f.2 p)
       if w.1 = 0 then w.2.wr (JSP_SEQ n) (k + 1) else w.2)) ∧
  (∀ (s : State) (n : Nat), s.rdb (JSP_STATUS_VALID n) = true → jspFresh s n = false →
    exec (.jspStale n) s = .next ((s.wr (JSP_STATUS_VALID n) 0).wr (JSP_STATUS_STALE n) 1)) ∧
  (∀ (s : State) (k : Nat), s.rdb (QEI_CFG_EN k) = true → jointRuns s = true → s.rdb (QEI_CFG_DIR k) = false →
    exec (.qeiCountChange k true false) s = .next (setCount k (s.rd (QEI_COUNT k) + 1) s)) ∧
  (∀ (s : State) (k : Nat), s.rdb (QEI_CFG_EN k) = true → jointRuns s = true → s.rdb (QEI_CFG_DIR k) = false →
    exec (.qeiCountChange k false false) s = .next (setCount k (s.rd (QEI_COUNT k) + (2 ^ 32 - 1)) s)) ∧
  (∀ (s : State) (k : Nat) (x : Bool), s.rdb (QEI_CFG_EN k) = true → jointRuns s = true →
    exec (.qeiCountChange k x true) s = .next (s.inc (QEI_ILLEGAL k))) ∧
  (∀ (s : State) (w : Writer) (k : Nat), writeStatus s w.master (0x361008 + 0x40 * k) = 0 → exec (.qeiSnap w k) s = .next
    ((s.answer 0 0).wrs [(QEI_SNAP_CNT k, s.rd (QEI_COUNT k)), (QEI_SNAP_SEC k, s.joint.qeiStamp.get 0 k / 2 ^ 32),
      (QEI_SNAP_NS k, s.joint.qeiStamp.get 0 k), (QEI_SNAP_IDX k, s.joint.qeiIndex.get 0 k)])) ∧
  (∀ (s : State) (k : Nat), s.rdb (QEI_CFG_EN k) = true → jointRuns s = true → exec (.qeiIndex k) s = .next
    (let t := { s with joint := { s.joint with qeiIndex := s.joint.qeiIndex.insert k (s.rd (QEI_COUNT k)) } }
     if t.rdb (QEI_CFG_ZRST k) ∧ t.rd (QEI_COUNT k) ≠ 0 then setCount k 0 t else t)) ∧
  (∀ (s : State) (w : Writer) (m : Nat) (e : Bytes), writeStatus s w.master (0x362004 + 0x40 * m) = 0 → ovrTemplate (s.answer 0 0) m = some e →
    armed s = true → s.rdb (MO_CFG_OVR_EN m) = true → s.rdb (MO_STAT_BOOKED m) = false → guardBlocks (s.answer 0 0) m = false →
    exec (.moOvrGo w m) s = .next
      (putTemplate e (ovrData (s.answer 0 0) m) { mo := m, kind := 3 } 3 none none (s.answer 0 0).free.2).2)

/-- The commands that move Ethernet frames complete (R700, R703, R708, R710). -/
def Obligations.EthernetFrameCommandsComplete : Prop :=
  (∀ (s : State) (n : Nat) (b : Bytes) (a : Nat), ethUp s n = true → exec (.ethReceive n b false a) s = .next (s.inc (RX_FCSERR n))) ∧
  (∀ (s : State) (n q : Nat) (b : Bytes) (a : Nat), ethUp s n = true → 60 ≤ b.length → b.length + 4 ≤ s.rd (ETH_CFG_MAXFRAME n) →
    (let t := (s.inc (RX_FRAMES n)).inc (RX_BYTES n) (b.length + 4)
     isPause b = false ∧ passesFilter t n b = true ∧ rxClass t n b = .queue q) → exec (.ethReceive n b true a) s = .next
      (let t := (s.inc (RX_FRAMES n)).inc (RX_BYTES n) (b.length + 4)
       toRing n q b (monoToTs t (sfdInstant t n false b (t.mono - a))) t)) ∧
  (∀ (s : State) (w : Writer) (n q v : Nat), writeStatus s w.master (0x301018 + 0x10000 * n + 0x20 * q) = 0 → exec (.rxqDb w n q v) s = .next
    ((s.answer 0 0).wr (RXQ_PTR_HEAD n q) (s.rd (RXQ_PTR_HEAD n q) + v % 65536))) ∧
  (∀ (s : State) (q : Nat) (c : Bytes), headIs s q 5 0x10 = some c →
    placeable s (accountOf (u8 c 8 % 4) (u8 c 9 % 8)) (cellsOf (u16 c 12)) = true → exec (.ethtx q) s = .next (ethTx q c s)) ∧
  (∀ (s : State) (n a : Nat) (f : EthFrame), ethUp s n = true → s.power.resetNow = none → s.rd LIV_STATUS_STATE ≠ 2 →
    bestFrame (s.eth.frames.filter (frameReady s n (s.mono - a))) = some f → f.motor = none → f.tsreq = false →
    exec (.ethTxDone n a) s = .next
      (let sfd := sfdInstant s n true f.bytes (s.mono - a + 7 * byteTenths s n / 10)
       let t := releaseFrames (fun x => x.handle == f.handle) s
       let t := { t with eth := { t.eth with wire := t.eth.wire.insert n (oneStep s n f.bytes sfd) } }
       settleAt f.q f.idx { aux := monoToTs s sfd } ((t.inc (TX_FRAMES n)).inc (TX_BYTES n) (f.bytes.length + 4)))) ∧
  (∀ (s : State) (h c : Nat) (f : EthFrame), s.eth.frames.find? (·.handle == h) = some f → f.close = some c → c < s.mono →
    exec (.ethTxAbandon h) s = .next (abandonFrame f s))

/-- The commands of the Ethernet links complete (R712). -/
def Obligations.EthernetLinkCommandsComplete : Prop :=
  (∀ (s : State) (n : Nat), s.rd (ETH_STATUS_STATE n) = 0 → s.rd (ETH_CFG_MODE n) ≠ 0 → s.eth.since.get 0 n + backoff s n ≤ s.mono →
    mayTrain s = true → exec (.linkTrainStart n) s = .next
      ({ s with eth := { s.eth with attempts := s.eth.attempts.insert n (s.eth.attempts.get 0 n + 1), since := s.eth.since.insert n s.mono } }.wr
        (ETH_STATUS_STATE n) 1)) ∧
  (∀ (s : State) (n : Nat), s.rd (ETH_STATUS_STATE n) = 1 → s.mono ≤ trainEnd s n → mayTrain s = true → exec (.linkUp n) s = .next
    ({ s with eth := { s.eth with attempts := s.eth.attempts.erase n } }.wrs
      [(ETH_STATUS_STATE n, 2), (ETH_STATUS_AN_DONE n, if 4 ≤ s.rd (ETH_CFG_MODE n) then s.rd (ETH_CFG_AN_EN n) else 0),
        (ETH_STATUS_RFAULT n, 0)])) ∧
  (∀ (s : State) (n : Nat), s.rd (ETH_STATUS_STATE n) = 1 → trainEnd s n ≤ s.mono → exec (.linkTrainTimeout n) s = .next (dropLink n s)) ∧
  (∀ (s : State) (n k : Nat), s.rd (ETH_STATUS_STATE n) = 2 → exec (.linkDown n k) s = .next
    (let l := recentDrops s n ++ [s.mono]
     let t := (dropLink n { s with eth := { s.eth with drops := s.eth.drops.insert n l } }).wrs
      [(ETH_STATUS_LASTFAULT n, k), (ETH_STATUS_RFAULT n, ofBool (k == 4))]
     let t := t.inc (LINK_DOWN n)
     let t := post 0xB001 0x48 [n, t.rd (ETH_STATUS_STATE n) + 4 * t.rd (ETH_STATUS_RFAULT n) + 8 * t.rd (ETH_STATUS_LASTFAULT n)] t
     if t.rd (ETH_CFG_FLAP_MAX n) ≠ 0 ∧ t.rd (ETH_CFG_FLAP_MAX n) ≤ l.length then
       let t := t.wr (ETH_STATUS_STATE n) 3
       post 0xB002 0x48 [n, t.rd (ETH_STATUS_STATE n) + 4 * t.rd (ETH_STATUS_RFAULT n) + 8 * t.rd (ETH_STATUS_LASTFAULT n)] t
     else t)) ∧
  (∀ (s : State) (w : Writer) (n : Nat), writeStatus s w.master (0x300004 + 0x10000 * n) = 0 → s.rd (ETH_STATUS_STATE n) = 3 →
    exec (.ethRestart w n) s = .next
      ({ s.answer 0 0 with eth :=
          { s.eth with attempts := s.eth.attempts.erase n, since := s.eth.since.insert n s.mono, drops := s.eth.drops.erase n } }.wr
        (ETH_STATUS_STATE n) 0))

/-- The commands of the host link complete (R717, R718, R722, R725, R728). -/
def Obligations.HostCommandsComplete : Prop :=
  (∀ (s : State) (q v : Nat), q < 1024 → hostReaches s = true → asleep s = false → bit (s.rd (HL_DBEN (q / 32))) (q % 32) = true →
    draining s = false → exec (.hostDoorbell q 0 v true) s = .next (advanceTail q 1 (v % 65536) (s.answer 0 0))) ∧
  (∀ (s : State) (q v : Nat), q < 1024 → hostReaches s = true → asleep s = false → bit (s.rd (HL_DBEN (q / 32))) (q % 32) = true →
    draining s = false → exec (.hostDoorbell q 4 v true) s = .next (advanceHead q 1 (v % 65536) (s.answer 0 0))) ∧
  (∀ (s : State) (q v : Nat), q < 1024 → hostReaches s = true → asleep s = false → bit (s.rd (HL_DBEN (q / 32))) (q % 32) = true →
    exec (.hostDoorbell q 8 v false) s = .next (s.answer 0 (storedWord s (Q_SQ_PTR_HEAD q).addr))) ∧
  (∀ (s : State) (a n : Nat) (b : Bytes), 0 < n → n ≤ 4096 → a + n ≤ 2 ^ 34 → b.length = n → hostReaches s = true → asleep s = false →
    exec (.hostAperture a n true b) s = .next
      (let r := (apertureParts s a n).foldl apertureWrite ((0, b), s)
       r.2.answer r.1.1 0)) ∧
  (∀ (s : State) (a n : Nat) (b : Bytes), 0 < n → n ≤ 4096 → a + n ≤ 2 ^ 34 → hostReaches s = true → asleep s = false →
    ((apertureParts s a n).foldl apertureRead ((0, []), s)).1.1 = 0 → exec (.hostAperture a n false b) s = .next
      (let r := (apertureParts s a n).foldl apertureRead ((0, []), s)
       r.2.answer 0 (leNat r.1.2))) ∧
  (∀ (s : State) (v a d : Nat) (m e f : Bool), hostReaches s = true → asleep s = false → v < 1024 → exec (.msixUnmask v a d m e f) s = .next
    (sendPending { s with hl := { s.hl with
      table := s.hl.table.put {} v { addr := a % 2 ^ 64, data := d % 2 ^ 32, mask := m }, msixEnable := e, funcMask := f } })) ∧
  (∀ s : State, s.straps.hostlink = true → linkUp s = true → exec .pmeTurnOff s = .next
    ({ s with hl := { s.hl with l2 := true } }.wr HL_LINK_STATE 5)) ∧
  (∀ s : State, s.straps.hostlink = true → s.railsOff = false → s.rd LIV_STATUS_STATE = 0 → s.rd HL_LINK_STATE = 0 → s.hl.perst = false →
    exec (.pcieLinkTrained 4 2) s = .next
      (releaseWakePin ({ s with hl := { s.hl with l2 := false } }.wrs
        [(HL_LINK_STATE, 2), (HL_LINK_SPEED, 4), (HL_LINK_WIDTH, 2), (HL_LINK_DSTATE, 0)])))

/-- The Steward's commands complete (R733, R737, R740). -/
def Obligations.StewardCommandsComplete : Prop :=
  (∀ (s : State) (l : List (Nat × Nat × Nat × Bool)), s.railsOff = false → exec (.sensorUpdate l) s = .next
    (let t := l.foldl takeReading s
     t.wr TM_PWR (min (powerOf t) 0xFFFF))) ∧
  (∀ (s u : State) (l : List Nat), s.railsOff = false → mayDecide s = true → (regulators s).foldl marginStep ([], decideNow s) = (l, u) →
    (l.any fun r => u.stw.lowAtFloor.contains r) = false → isHot { u with stw := { u.stw with lowAtFloor := l } } = false →
    isCool { u with stw := { u.stw with lowAtFloor := l } } = false → ((List.range 24).filter fun i => !validT u i).length < 2 →
    ((List.range 24).any fun i => validT u i && decide (signed 16 (u16 (policy s) 4) ≤ tempOf u i)) = false →
    exec .stewardDecide s = .next
      (showPolicy (setEmergency false { u with stw := { u.stw with lowAtFloor := l, coolSince := none, hotSince := none } }))) ∧
  (∀ (s : State) (n : Nat), n < 24 → s.power.penMain = true → s.rdb TM_TRIP_TRIPPED = false → exec (.thermalTrip n) s = .next
    (let t := post 0x2002 0x00 [n] (disarm ((s.wr TM_TRIP_TRIPPED 1).wr TM_TRIP_SENSOR n))
     { t with power := { t.power with penMain := false, wait := 3 } })) ∧
  (∀ s : State, s.power.wait = 3 → exec .thermtripRestart s = .next (startPower { s with power := { s.power with attempts := 0 } }))

/-- The mailbox and event log commands complete (R743, R746, R750). -/
def Obligations.LogCommandsComplete : Prop :=
  (∀ (s : State) (k : Nat), mbxNext s = some k → u8 (mbxReq s k) 0 = 1 → exec (.telem k) s = .next
    (mbxAnswer k 0 ((List.range 24).flatMap (fun i => leBytes 2 (s.rd (TM_T i))) ++ leBytes 2 (s.rd TM_PWR) ++ leBytes 1 (s.rd ST_POL_STEP) ++
      leBytes 1 (s.rd ST_POL_HOTTEST)) s)) ∧
  (∀ (s : State) (k : Nat) (r : Bytes), mbxNext s = some k → u8 (mbxReq s k) 0 = 2 → findRecord s (u32 (mbxReq s k) 4) = some r →
    exec (.logread k) s = .next (mbxAnswer k 0 r s)) ∧
  (∀ (s : State) (k : Nat), mbxNext s = some k → u8 (mbxReq s k) 0 = 2 → findRecord s (u32 (mbxReq s k) 4) = none →
    exec (.logread k) s = .next (mbxAnswer k 0x03 [] s)) ∧
  (∀ (s : State) (k : Nat), mbxNext s = some k → u8 (mbxReq s k) 0 = 3 → exec (.loginfo k) s = .next
    (mbxAnswer k 0 (leBytes 4 (s.rd EVL_OLDEST) ++ leBytes 4 (s.rd EVL_NEWEST) ++
      leBytes 2 ((List.range (logSectors s)).filter (headerGood s)).length ++ zeros 2 ++ (foldCounts s).flatMap (leBytes 2)) s)) ∧
  (∀ (s : State) (k : Nat), mbxNext s = some k → u8 (mbxReq s k) 0 = 4 → s.rd (MBX_STAT_MASTER k) = 0 → u16 (mbxReq s k) 4 ≤ 256 →
    exec (.capduty k) s = .next (mbxAnswer k 0 [] (applyDuty (s.wr ST_CAP_DUTY (u16 (mbxReq s k) 4))))) ∧
  (∀ (s : State) (k : Nat), mbxNext s = some k → u8 (mbxReq s k) 0 = 5 → exec (.postUser k) s = .next
    (mbxAnswer k 0 [] (post 0x0004 0x01
      (u16 (mbxReq s k) 4 :: ((List.range 6).map fun i => u32 (mbxReq s k) (8 + 4 * i)) ++ [s.rd (MBX_STAT_MASTER k)]) s))) ∧
  (∀ (s : State) (c o : Nat) (l : List Nat), s.power.vaon = true →
    exec (.eventPost c o l) s = .next (post (c % 2 ^ 16) (o % 256) l s)) ∧
  (∀ s : State, logOpen s = true → s.evlog.batch = [] → s.rd PWR_STATE_STATE ≠ 6 → s.rd LIV_STATUS_STATE = 0 →
    exec .logBatchStart s = .next (normalBatch 4 (roomForBatch s))) ∧
  (∀ s : State, s.evlog.batch ≠ [] → s.railsOff = false → exec (.logBatchDone true) s = .next (commitBatch s)) ∧
  (∀ s : State, s.evlog.batch ≠ [] → s.railsOff = false → exec (.logBatchDone false) s = .next (failBatch s)) ∧
  (∀ s : State, s.evlog.erasing = true → s.railsOff = false → exec (.sectorEraseDone false) s = .next
    (wantErase ({ s with evlog := { s.evlog with erasing := false } }.inc EVL_ERR_FAIL))) ∧
  (∀ s : State, s.evlog.erasing = true → s.railsOff = false → exec (.sectorEraseDone true) s = .next
    (let i := nextSector s s.evlog.sector
     let t := { s with evlog := { s.evlog with erasing := false } }
     let n := if headerGood t i then sectorErases t i + 1 else 1
     let u := eraseSector i (if headerGood t i then t else t.inc EVL_ERR_REERASED)
     let u := if u.rdb BOOT_STATUS_SEALED then u.inc EVL_ERASES else u
     showOldest { u with evlog := { u.evlog with ready := some n } }))

/-- The security commands complete (R760, R761, R762, R763, R765). -/
def Obligations.SecurityCommandsComplete : Prop :=
  (∀ (s : State) (w : Writer) (v : Nat), writeStatus s w.master 0x390014 = 0 → bit v 8 = true → bits v 16 8 = 0x5E →
    s.rdb BOOT_STATUS_SEALED = true → s.boot.confirmed = true → bits v 0 2 ≠ headerKeysel (s.answer 0 0) →
    exec (.secRevoke w v) s = .next (askOtp [{ kind := 0, arg := bits v 0 2 }] (s.answer 0 0))) ∧
  (∀ (s : State) (o : OtpProg) (l : List OtpProg), s.secu.running = true → s.secu.progs = o :: l → exec .otpProgramDone s = .next
    (startOtp (performOtp o { s with secu := { s.secu with progs := l, running := false } }))) ∧
  (∀ s : State, s.railsOff = false → s.rdb SEC_DBG_REFUSING = false → exec .debugChallenge s = .next
    (let t := (List.range 8).foldl nonceWord s
     { t with secu := { t.secu with nonceAt := some t.mono } })) ∧
  (∀ (s : State) (lv k r : Nat) (g : Bytes), s.railsOff = false → exec (.debugResponse lv k r g) s = .next
    (if responseGood s lv k r g then
       (if lv = 2 then (dropNonce (s.wrs [(SEC_DBG_LEVEL, lv), (SEC_DBG_KEYSEL, k)])).wr SF_STATUS_CLEAN 0
        else dropNonce (s.wrs [(SEC_DBG_LEVEL, lv), (SEC_DBG_KEYSEL, k)]))
     else
       let t := (dropNonce (s.inc SEC_DBG_FAILS)).wr SEC_DBG_REFUSING 1
       let t := post 0x1008 0x01 [t.rd SEC_DBG_FAILS] t
       { t with secu := { t.secu with refuseUntil := t.mono + 1000000000 } })) ∧
  (∀ s : State, s.rdb SEC_DBG_REFUSING = true → s.secu.refuseUntil ≤ s.mono →
    exec .debugRefuseEnd s = .next (s.wr SEC_DBG_REFUSING 0)) ∧
  (∀ (s : State) (w : Writer), writeStatus s w.master 0x390020 = 0 → exec (.debugEnd w) s = .next (endGrant (s.answer 0 0)))

/-! ### What every step does -/

/-- A step on a queue with a command in front is that command's effect, with the rest of the queue left; on an empty queue one cycle of the
Timekeeper passes (log 5: the model's choice). -/
def Obligations.StepRunsTheFrontCommand : Prop :=
  (∀ (c : Instr) (s : State), step { s with pending := c :: s.pending } = exec c s) ∧
  (∀ s : State, s.pending = [] → step s = .next (idle s))

/-- Every step uses up the command in front of the queue and nothing else of the queue: no command adds, drops or reorders waiting
commands. -/
def Obligations.EveryStepUsesUpOneCommand : Prop :=
  ∀ s t : State, step s = .next t → t.pending = s.pending.tail

/-- Every step keeps what is burned into the part: OTP bits once programmed stay programmed (R753: programming sets bits to 1 and cannot clear
them), whichever they are, and what is fused at manufacture stands. -/
def Obligations.EveryStepKeepsOtpAndFuses : Prop :=
  ∀ (m : Nat → Byte) (f : Fuse) (s t : State), burned m f s → step s = .next t → burned m f t

/-- Every command ends in a next state, whatever the state and the operands: no fault, no refusal. -/
def Obligations.EveryCommandCompletes : Prop := ∀ (c : Instr) (s : State), completes c s

/-- What the block holds right after reset (R10, R12, R30, R130): no command waits, every register field reads its reset value but RST_LAST, the
memories list nothing, the rails are good; no OTP bit is programmed in a part of grade 0, stepping B1, with every engine (logs 1 to 4: the model's
choice). -/
def Obligations.ResetState : Prop :=
  State.reset.pending = [] ∧
  (∀ f : Machine.Field, f.key ≠ RST_LAST_REQ.key → State.reset.rd f = f.reset) ∧
  State.reset.rd RST_LAST_REQ = 1 ∧ State.reset.rdb RST_CAUSE_COLD = true ∧ State.reset.rd BOOT_STATUS_PHASE = 0 ∧
  State.reset.rdb BOOT_STATUS_SEALED = false ∧ State.reset.railsOff = false ∧ State.reset.drv.flights = [] ∧
  State.reset.dram = [] ∧ State.reset.otp = [] ∧ State.reset.mono = 0 ∧ burned (fun _ => 0) ⟨0, 1, 0, List.range 8⟩ State.reset

/-- Device time and MONO advance exactly in the long run (R179, R183): after n cycles the accumulated advance differs from n times 0.8 ns ·
(1 + TK_RATE · 10^-12) by less than one FRAC unit, the remainder being held. One unit of `acc` is 1/(5·10^12) FRAC. That a cycle
passes on an empty queue is the model's choice (log 5). -/
def Obligations.TimekeeperAdvancesExactly : Prop :=
  (∀ (s : State) (n : Nat), islandRuns s 2 = true → s.power.resetNow = none → s.time.acc < 5000000000000 →
    (Nat.repeat timeTick n s).time.acc < 5000000000000 ∧
    (5000000000000 * (Nat.repeat timeTick n s).time.dev + (Nat.repeat timeTick n s).time.acc : Int) =
      5000000000000 * s.time.dev + s.time.acc + n * (262144 * (1000000000000 + signed 32 (s.rd TK_RATE_PPT))) ∧
    (Nat.repeat timeTick n s).time.mono + s.time.dev = (Nat.repeat timeTick n s).time.dev + s.time.mono) ∧
  (∀ s : State, s.ns ≤ 999999999 ∧ s.sec < 2 ^ 48 ∧ s.devNs % (2 ^ 48 * 1000000000) = s.sec * 1000000000 + s.ns)

/-! ### Registers -/

/-- A permitted write of a plain register gives each field what its access code says (R10), and is answered DENIED where an RWL field is
sealed. -/
def Obligations.AccessCodesOnAWrite : Prop :=
  ∀ (s : State) (w : Writer) (a v : Nat), plainRegister a → inert s a = false → writeStatus s w.master a = 0 →
    ∃ t, exec (.registerWrite a [⟨w, 4, v⟩] [] none) s = .next t ∧
      (∀ f ∈ fieldsAt a, f.acc = .RW → hkFlag f = none → t.rd f = bits (v % 2 ^ 32) f.lsb f.width) ∧
      (∀ f ∈ fieldsAt a, f.acc = .RWL → hkFlag f = none → s.rdb BOOT_STATUS_SEALED = false → t.rd f = bits (v % 2 ^ 32) f.lsb f.width) ∧
      (∀ f ∈ fieldsAt a, f.acc = .RWL → s.rdb BOOT_STATUS_SEALED = true → w.master ≠ 0x800 → t.rd f = s.rd f ∧ t.bus = ⟨0x07, 0⟩) ∧
      (∀ f ∈ fieldsAt a, f.acc = .RO ∨ f.acc = .RC → t.rd f = s.rd f) ∧
      (∀ f ∈ fieldsAt a, f.acc = .W1C → hkFlag f = none → bits (v % 2 ^ 32) f.lsb f.width ≠ 0 →
        t.rd f = (s.rd f - (s.rd f &&& bits (v % 2 ^ 32) f.lsb f.width)) % 2 ^ f.width)

/-- Two permitted writes of one plain register in one cycle leave the same registers in whichever order they are listed: the master that R98
puts last stands in every RW field. -/
def Obligations.SameCycleWritesKeepTheOrderOfMasters : Prop :=
  ∀ (s : State) (w x : Writer) (a v u : Nat), plainRegister a → inert s a = false → writeStatus s w.master a = 0 → writeStatus s x.master a = 0 →
    masterRank w < masterRank x →
    ∃ t r, exec (.registerWrite a [⟨w, 4, v⟩, ⟨x, 4, u⟩] [] none) s = .next t ∧
      exec (.registerWrite a [⟨x, 4, u⟩, ⟨w, 4, v⟩] [] none) s = .next r ∧
      t.regs = r.regs ∧ (∀ f ∈ fieldsAt a, f.acc = .RW → hkFlag f = none → t.rd f = bits (u % 2 ^ 32) f.lsb f.width)

/-- A master may write and read the pages of the tables of R91 and R92; a forbidden write is discarded and answered DENIED, a forbidden
read answers 0 and DENIED, and both are logged as OWN_VIOL (R93). The debug port is the host under the grants of R764 (log 15). -/
def Obligations.ForbiddenAccessesAreDenied : Prop :=
  (∀ (s : State) (m p : Nat), (mayWrite s m p = true ↔
    (m < 0x400 ∧ (s.rd (PAGE_OWN_OWNER p) = m ∨ (m = 0 ∧ s.rdb (PAGE_OWN_CMDL0 p) = true))) ∨ m = 0x800 ∨
    (m = 0x801 ∧ (s.rd (PAGE_OWN_OWNER p) = 0x801 ∨ s.rdb (PAGE_OWN_HOST p) = true)) ∨
    (m = 0x802 ∧ (s.rd (PAGE_OWN_OWNER p) = 0x802 ∨ s.rdb (PAGE_OWN_STEWARD p) = true)) ∨
    (m = 0x803 ∧ s.rdb (PAGE_OWN_SAFETY p) = true) ∨
    (m = debugPort ∧ s.rd SEC_DBG_LEVEL = 2 ∧ (s.rd (PAGE_OWN_OWNER p) = 0x801 ∨ s.rdb (PAGE_OWN_HOST p) = true))) ∧
   (m ≠ debugPort →
    (mayRead s m p = true ↔ m = 0 ∨ 0x800 ≤ m ∨ s.rd (PAGE_OWN_OWNER p) = m ∨ s.rdb (PAGE_OWN_READALL p) = true)) ∧
   (mayRead s debugPort p = true ↔ s.rd SEC_DBG_LEVEL ≠ 0)) ∧
  (∀ (s : State) (w : Writer) (a v : Nat), plainRegister a → islandStatus s w.master a true = none → islandStatus s 0x800 a true = none →
    isHost w.master = false ∨ s.rdb BOOT_STATUS_SEALED = true → hostAsleep s w.master = false → mayWrite s w.master (a / 0x1000) = false →
    exec (.registerWrite a [⟨w, 4, v⟩] [] none) s = .next ((ownViol w a false s).answer 0x07 0)) ∧
  (∀ (s : State) (w : Writer) (a : Nat), a % 4 = 0 → islandStatus s w.master a false = none → islandStatus s 0x800 a true = none →
    mayRead s w.master (a / 0x1000) = false → exec (.pairLoRead w a 4 []) s = .next ((ownViol w a true s).answer 0x07 0)) ∧
  (∀ (s : State) (w : Writer) (a : Nat) (r : Bool), (ownViol w a r s).rd GLB_ERRCNT_OWNV = satAdd GLB_ERRCNT_OWNV.width (s.rd GLB_ERRCNT_OWNV) 1 % 2 ^ GLB_ERRCNT_OWNV.width ∧
    (ownViol w a r s).dram = s.dram ∧ (s.evlog.queue.length < 256 → (ownViol w a r s).evlog.queue.length = s.evlog.queue.length + 1))

/-- What a collision of a software write with a hardware update leaves in a field, by its Collide class, and that only the HV class
records the write (R17, R102, R105). -/
def Obligations.CollisionsFollowTheClass : Prop :=
  ∀ (s : State) (f : Machine.Field) (v h : Nat),
    (f.col = .HS → settleField s f (some v) (some h) = (some (v ||| h), false)) ∧
    (f.col = .HC → settleField s f (some v) (some h) = (some v, false)) ∧
    (f.col = .HK → settleField s f (some v) (some h) = (some h, false)) ∧
    (f.col = .CT → settleField s f (some v) (some h) = (some (satAdd f.width v h), false)) ∧
    (f.col = .HV → settleField s f (some v) (some h) = (some h, true)) ∧
    (hkFlag f = none → settleField s f (some v) none = (some v, false)) ∧
    (∀ g, hkFlag f = some g → s.rdb g = true → settleField s f (some v) none = (some 0, false)) ∧
    (f.col = .CT → settleField s f none (some h) = (some (satAdd f.width (s.rd f) h), false)) ∧
    (∀ (a : Nat) (w : Writer), f.acc = .RW → f.col = .HV →
      applyField a [(w, v)] [⟨f.lsb, h⟩] s f = hvDiscard w a (s.wr f h))

/-- A read of an RC field that is answered with an error status does not clear the field (R11): by the field's own command and by a plain
read of its register, for every RC field of the device; a refused read of a time-stamp FIFO takes nothing from it. -/
def Obligations.RefusedReadsClearNothing : Prop :=
  (∀ (s : State) (w : Writer) (f : Machine.Field),
    (∃ m, m < 6 ∧ f = MC_LAT_MAX m) ∨ (∃ e, e < 8 ∧ (f = FU_ERRMAX e ∨ f = ATT_SELMAX e)) ∨ f = GL_LAT_MAX ∨
      (∃ q, q < 1024 ∧ f = SHP_TASK_MAXEND q) ∨ f = MSYNC_SKEW_MAX → readStatus s w.master f.addr ≠ 0 →
    ∃ t, exec (.pairLoRead w f.addr 4 []) s = .next t ∧ t.rd f = s.rd f) ∧
  (∀ (s : State) (w : Writer) (f : Machine.Field), (∃ n, n < 4 ∧ f = TXTS_NS n) ∨ (∃ n, n < 16 ∧ f = TCAP_NS n) →
    readStatus s w.master f.addr ≠ 0 → ∃ t, exec (.pairLoRead w f.addr 4 []) s = .next t ∧ t.tk = s.tk) ∧
  (∀ (s : State) (w : Writer) (n : Nat), n < 4 → readStatus s w.master (TXTS_NS n).addr ≠ 0 →
    ∃ t, exec (.txtsNsRead w n) s = .next t ∧ t.tk = s.tk) ∧
  (∀ (s : State) (w : Writer) (n : Nat), n < 16 → readStatus s w.master (TCAP_NS n).addr ≠ 0 →
    ∃ t, exec (.tcapNsRead w n) s = .next t ∧ t.tk = s.tk) ∧
  (∀ (s : State) (w : Writer) (m : Nat), m < 6 → readStatus s w.master (MC_LAT_MAX m).addr ≠ 0 →
    ∃ t, exec (.mcLatMaxRead w m) s = .next t ∧ t.rd (MC_LAT_MAX m) = s.rd (MC_LAT_MAX m)) ∧
  (∀ (s : State) (w : Writer) (e : Nat), e < 8 → readStatus s w.master (FU_ERRMAX e).addr ≠ 0 →
    ∃ t, exec (.fuErrmaxRead w e) s = .next t ∧ t.rd (FU_ERRMAX e) = s.rd (FU_ERRMAX e)) ∧
  (∀ (s : State) (w : Writer) (e : Nat), e < 8 → readStatus s w.master (ATT_SELMAX e).addr ≠ 0 →
    ∃ t, exec (.attSelmaxRead w e) s = .next t ∧ t.rd (ATT_SELMAX e) = s.rd (ATT_SELMAX e)) ∧
  (∀ (s : State) (w : Writer), readStatus s w.master GL_LAT_MAX.addr ≠ 0 →
    ∃ t, exec (.glLatMaxRead w) s = .next t ∧ t.rd GL_LAT_MAX = s.rd GL_LAT_MAX) ∧
  (∀ (s : State) (w : Writer) (q : Nat), q < 1024 → readStatus s w.master (SHP_TASK_MAXEND q).addr ≠ 0 →
    ∃ t, exec (.shpTaskMaxendRead w q) s = .next t ∧ t.rd (SHP_TASK_MAXEND q) = s.rd (SHP_TASK_MAXEND q)) ∧
  (∀ (s : State) (w : Writer), readStatus s w.master MSYNC_SKEW_MAX.addr ≠ 0 →
    ∃ t, exec (.msyncSkewMaxRead w) s = .next t ∧ t.rd MSYNC_SKEW_MAX = s.rd MSYNC_SKEW_MAX)

/-- What the resets COLD, PIN, WDG and SYS keep and clear, by the field's class (R12): class A keeps its value, W is cleared by COLD alone,
every other class returns to its reset value. -/
def Obligations.ResetsClearByClass : Prop :=
  ∀ (s : State) (k : Nat) (f : Machine.Field), fieldOfKey f.key = some f →
    (dropFields (fun f => !keptField k f) s).rd f = (if f.keep = .A ∨ (f.keep = .W ∧ k ≠ 0) then s.rd f else f.reset)

/-! ### Memory, queues and records -/

/-- An access by tenant t is permitted only inside one window of t that grants its direction, by tenant 0 anywhere below V (R303). -/
def Obligations.TenantsStayInTheirWindows : Prop :=
  (∀ (s : State) (t a n : Nat) (w : Bool), t ≠ 0 → permitted s t a n w = true →
    ∃ e ∈ windows s, bits (u16 e 12) 0 10 = t ∧ bit (u8 e 14) (if w then 1 else 0) = true ∧
      (∀ b, a ≤ b → b < a + n → u64 e 0 ≤ b ∧ b < u64 e 0 + u32 e 8 * 2 ^ 20)) ∧
  (∀ (s : State) (a n : Nat) (w : Bool), permitted s 0 a n w = true ↔ a + n ≤ visible s)

/-- A write by an initiator that is answered OK stores its bytes and no others, and the memory keeps its canonical form (R294, R304): a permitted
read of the same range, of no fenced controller and no poisoned unit, returns them. A write of one block that is answered with an error stores
nothing; one of several blocks goes to its controllers in pieces, and no byte of it gets any value but its own (R317). -/
def Obligations.MemoryHoldsWhatIsWritten : Prop :=
  (∀ (s : State) (p t a : Nat) (b : Bytes), (memWrite s p t a b).1 = 0 → (memWrite s p t a b).2.ld a b.length = b) ∧
  (∀ (s : State) (p t a x : Nat) (b : Bytes), x < a ∨ a + b.length ≤ x →
    (memWrite s p t a b).2.dram.get 0 x = s.dram.get 0 x) ∧
  (∀ (s : State) (p t a : Nat) (b : Bytes), a % 256 + b.length ≤ 256 → (memWrite s p t a b).1 ≠ 0 → (memWrite s p t a b).2.dram = s.dram) ∧
  (∀ (s : State) (p t a i : Nat) (b : Bytes), i < b.length →
    (memWrite s p t a b).2.dram.get 0 (a + i) = s.dram.get 0 (a + i) ∨ (memWrite s p t a b).2.dram.get 0 (a + i) = b.getD i 0) ∧
  (∀ (s : State) (p t a : Nat) (b : Bytes), memWf 0 s.dram = true → memWf 0 (memWrite s p t a b).2.dram = true) ∧
  (∀ (s : State) (t a n : Nat), (memRead s t a n).1 = 0 → (memRead s t a n).2 = s.ld a n)

/-- A device-memory address lies in the channel of its 256-byte block, at one offset of that channel, and the units the patrol visits in a channel
are the units of that channel, each once (R288, R295). -/
def Obligations.ChannelsPartitionMemory : Prop :=
  (∀ c v, c < 24 → channelOf (unitOf c v * 64) = c) ∧
  (∀ c v w, c < 24 → unitOf c v = unitOf c w → v = w) ∧
  (∀ u, ∃ v, unitOf (channelOf (u * 64)) v = u) ∧
  (∀ a, (channelOffset a / 256 * 24 + channelOf a) * 256 + channelOffset a % 256 = a)

/-- The doorbell of a submission queue (R373): the writes of one cycle add together; a sum that keeps TAIL − HEAD, taken mod 65,536, within the ring
advances TAIL by it, a larger one is discarded whole, sets DBOVF and counts in DRV_DBERR; at an unbound queue every write is counted only. -/
def Obligations.DoorbellWritesAddTogether : Prop :=
  ∀ (s : State) (q : Nat) (l : List (Writer × Nat)), q < 1024 → l ≠ [] →
    (∀ e ∈ l, writeStatus s e.1.master (sqDbAddr q) = 0 ∧ (e.1.master ≠ 0x801 ∨ draining s = false)) →
    (bound s q = true → 0 < (l.map fun e => e.2 % 65536).sum → (backlog s q + (l.map fun e => e.2 % 65536).sum) % 65536 ≤ sqSize s q →
      exec (.sqDb q l) s = .next (pump q ((s.answer 0 0).wr (Q_SQ_PTR_TAIL q) (s.rd (Q_SQ_PTR_TAIL q) + (l.map fun e => e.2 % 65536).sum)))) ∧
    (bound s q = true → sqSize s q < (backlog s q + (l.map fun e => e.2 % 65536).sum) % 65536 → 0 < (l.map fun e => e.2 % 65536).sum →
      exec (.sqDb q l) s = .next (((s.answer 0 0).wr (Q_STATE_DBOVF q) 1).inc DRV_DBERR)) ∧
    (bound s q = false → exec (.sqDb q l) s = .next ((s.answer 0 0).inc DRV_DBERR l.length))

/-- When more than one code applies to one completion, the device reports the first that applies in the order FAULT, ECC, FENCED, TIMEOUT,
ABORTED, DENIED, UNSUPPORTED, LIMIT, BUSY, STALE, PREEMPTED, OK_APPROX, OK (R21). -/
def Obligations.StatusCodesHaveAnOrder : Prop :=
  ∀ l : List Nat, l ≠ [] → (∀ c ∈ l, c ∈ [0x0B, 0x06, 0x05, 0x04, 0x0A, 0x07, 0x0C, 0x03, 0x08, 0x02, 0x09, 0x01, 0x00]) →
    [0x0B, 0x06, 0x05, 0x04, 0x0A, 0x07, 0x0C, 0x03, 0x08, 0x02, 0x09, 0x01, 0x00].find? (fun c => l.contains c) = some (worstOf l)

/-- A completion is 64 bytes with its fields at the places of R389. -/
def Obligations.CompletionsAre64Bytes : Prop :=
  ∀ (s : State) (f : Flight) (e n : Nat),
    (completionBytes s f e n).length = 64 ∧
    u32 (completionBytes s f e n) 0 = (if f.fetchErr then 0 else cmdTag f.cmd) % 2 ^ 32 ∧
    u8 (completionBytes s f e n) 4 = reportedStatus f % 2 ^ 8 ∧
    bit (u8 (completionBytes s f e n) 5) 1 = f.fetchErr ∧
    u16 (completionBytes s f e n) 6 = n % 2 ^ 16 ∧ u64 (completionBytes s f e n) 8 = f.start % 2 ^ 64 ∧
    u64 (completionBytes s f e n) 16 = e % 2 ^ 64 ∧
    leNat (slice (completionBytes s f e n) 24 16) = (reportedLed f).toNat % 2 ^ 128 ∧
    u64 (completionBytes s f e n) 40 = (reportedRef f).sid % 2 ^ 64 ∧ u64 (completionBytes s f e n) 48 = (reportedRef f).fe % 2 ^ 64 ∧
    u64 (completionBytes s f e n) 56 = f.aux % 2 ^ 64

/-- The ledger's 128-bit word holds every field, its reserved bits read 0, and two ledgers merge field by field (R392). -/
def Obligations.LedgersEncodeAndMerge : Prop :=
  (∀ l : Ledger, l.stages < 2 ^ 7 → l.kvErr < 2 ^ 16 → l.selMass < 2 ^ 16 → l.jlsErr < 2 ^ 3 → l.pwlErr < 2 ^ 16 → l.pqErr < 2 ^ 16 →
    l.scanned < 2 ^ 16 → l.probed < 2 ^ 16 → Ledger.ofNat l.toNat = l) ∧
  (∀ l : Ledger, bits l.toNat 7 1 = 0 ∧ bits l.toNat 43 5 = 0 ∧ bits l.toNat 112 16 = 0 ∧ l.toNat < 2 ^ 128) ∧
  (∀ a b : Ledger, (a.merge b).stages = a.stages ||| b.stages ∧ (a.merge b).kvErr = max a.kvErr b.kvErr ∧
    (a.merge b).selMass = max a.selMass b.selMass ∧ (a.merge b).jlsErr = max a.jlsErr b.jlsErr ∧
    (a.merge b).pwlErr = max a.pwlErr b.pwlErr ∧ (a.merge b).pqErr = max a.pqErr b.pqErr) ∧
  (∀ a b : Ledger, bit a.stages 6 = true → bit b.stages 6 = true → a.scanned * b.probed < b.scanned * a.probed →
    ((a.merge b).scanned, (a.merge b).probed) = (a.scanned, a.probed) ∧ ((b.merge a).scanned, (b.merge a).probed) = (a.scanned, a.probed))

/-- The calendar is proleptic Gregorian (R214): every fourth year is a leap year but a century that 400 does not divide; 2100, 2200 and 2300 have no 29 February, 2000 has one; the step from the last day of February to 1 March and from
2099-12-31 to 2100-01-01 is one day. -/
def Obligations.CalendarIsProlepticGregorian : Prop :=
  (∀ y, isLeap y = true ↔ 4 ∣ y ∧ (¬ 100 ∣ y ∨ 400 ∣ y)) ∧
  (isLeap 2100 = false ∧ isLeap 2200 = false ∧ isLeap 2300 = false ∧ isLeap 2000 = true) ∧
  (∀ y, 2000 ≤ y → y < 2400 → isLeap y = true → dayOfDate y 2 29 + 1 = dayOfDate y 3 1 ∧
    dateOfDay (dayOfDate y 2 29) = ⟨y, 2, 29⟩ ∧ dateOfDay (dayOfDate y 2 29 + 1) = ⟨y, 3, 1⟩) ∧
  (∀ y, 2000 ≤ y → y < 2400 → isLeap y = false → dayOfDate y 2 28 + 1 = dayOfDate y 3 1 ∧
    dateOfDay (dayOfDate y 2 28) = ⟨y, 2, 28⟩ ∧ dateOfDay (dayOfDate y 2 28 + 1) = ⟨y, 3, 1⟩) ∧
  dateOfDay (dayOfDate 2099 12 31) = ⟨2099, 12, 31⟩ ∧ dateOfDay (dayOfDate 2099 12 31 + 1) = ⟨2100, 1, 1⟩

/-- The event queue (R747): a posted event is queued while fewer than 256 wait; one that finds the queue full is counted in the fold counter of
its class and stamps LAST, and FIRST where nothing is folded yet. -/
def Obligations.EventQueueHolds256 : Prop :=
  (∀ (s : State) (e : EventRec), s.evlog.queue.length < 256 →
    (pushEvent s e).evlog.queue = s.evlog.queue ++ [e] ∧ (pushEvent s e).rd EVQ_STAT_QUEUED = (s.evlog.queue.length + 1) % 2 ^ EVQ_STAT_QUEUED.width) ∧
  (∀ (s : State) (e : EventRec), 256 ≤ s.evlog.queue.length → e.code < 2 ^ 16 →
    (pushEvent s e).evlog.queue = s.evlog.queue ∧ (pushEvent s e).evlog.foldLast = e.time ∧
    (s.rdb EVQ_STAT_FOLDING = false → (pushEvent s e).evlog.foldFirst = e.time) ∧
    (s.rdb EVQ_STAT_FOLDING = true → (pushEvent s e).evlog.foldFirst = s.evlog.foldFirst) ∧
    (pushEvent s e).rd (EVQ_FOLD (e.code / 4096)) = satAdd 16 (s.rd (EVQ_FOLD (e.code / 4096))) 1 % 2 ^ 16) ∧
  (∀ (s : State) (code src : Nat) (args : List Nat), s.power.vaon = true → s.evlog.queue.length ≤ 256 →
    ∃ t, exec (.eventPost code src args) s = .next t ∧ t.evlog.queue.length ≤ 256)

/-- A timing-dependent choice is counted once in DET_ND_TOTAL and once in the count of its kind, and in the queue's own count where the queue
is bound; for an unbound queue in these two only (R634, R635). -/
def Obligations.ChoicesAreCounted : Prop :=
  (∀ (s : State) (q k : Nat), q < 1024 → k < 9 → (nondet q k s).rd DET_ND_TOTAL = satAdd 32 (s.rd DET_ND_TOTAL) 1 % 2 ^ 32 ∧
    (nondet q k s).rd (DET_KIND k) = satAdd 32 (s.rd (DET_KIND k)) 1 % 2 ^ 32) ∧
  (∀ (s : State) (q k : Nat), q < 1024 → k < 9 → bound s q = true →
    (nondet q k s).rd (Q_ND_COUNT q) = satAdd 32 (s.rd (Q_ND_COUNT q)) 1 % 2 ^ 32) ∧
  (∀ (s : State) (q k : Nat) (f : Machine.Field), bound s q = false →
    f.key ∉ [DET_ND_TOTAL.key, (DET_KIND k).key, DET_ND_CAP_QID.key, DET_ND_CAP_KIND.key, DET_ND_CAP_VALID.key, DET_ND_CAP_T.key] →
    (nondet q k s).rd f = s.rd f)

/-- Raising vector v sets bit v of IRQ_PEND; with MSI-X disabled the message is counted in HL_DROP, under a mask the pending bit is
set, otherwise the message is sent (R395, R722). -/
def Obligations.RaisedVectorsPendOrGo : Prop :=
  (∀ (s : State) (v : Nat), s.hl.msixEnable = false → raiseVector v s =
    (s.wr (IRQ_PEND (v / 32)) (setBit (s.rd (IRQ_PEND (v / 32))) (v % 32) true)).inc HL_DROP) ∧
  (∀ (s : State) (v : Nat), s.hl.msixEnable = true → (s.hl.funcMask = true ∨ (s.hl.table.get {} v).mask = true) →
    (v ∈ (raiseVector v s).hl.pend ∧ (raiseVector v s).hostMem = s.hostMem ∧
     (raiseVector v s).regs = (s.wr (IRQ_PEND (v / 32)) (setBit (s.rd (IRQ_PEND (v / 32))) (v % 32) true)).regs)) ∧
  (∀ (s : State) (v : Nat), s.hl.msixEnable = true → s.hl.funcMask = false → (s.hl.table.get {} v).mask = false →
    raiseVector v s = sendMsix v (s.wr (IRQ_PEND (v / 32)) (setBit (s.rd (IRQ_PEND (v / 32))) (v % 32) true)))

/-- A FILL that a queue runs on device memory, into a range its tenant may write, stores its 4-byte pattern over the range and nothing else: no
byte of device memory outside the range, no local memory (R459). The queue has no task whose start would be a violation of its own. -/
def Obligations.FillStoresItsPattern : Prop :=
  ∀ (s : State) (q c : Nat) (x : Ctx) (b : Bytes), q < 1024 → engineCmd s q c 1 0x09 = some (x, b) →
    (opdOf (u64 b 8)).loc = false → (opdOf (u64 b 8)).named = false →
    taskOf s q 0 = none ∨ supervising s = false ∨ instAt s q ≠ none →
    (let d := (List.replicate (u64 b 16 / 4) (leBytes 4 (u32 b 24))).flatten
     let a := (opdOf (u64 b 8)).addr
     (memWrite s (columnPid s x.col) x.tid a d).1 = 0 →
     ∃ t, exec (.fill q c) s = .next t ∧ t.ld a d.length = d ∧ t.loc = s.loc ∧
       ∀ y, y < a ∨ a + d.length ≤ y → t.dram.get 0 y = s.dram.get 0 y)

end
end

