-- ==== Sys2Proof/Laws/State.lean ====
section
/-! SUPPORT. The fields of the state that no command but a few may touch, gathered in one value, and what each update of the state does
to it: the rewriting rules the frame lemmas of the meanings rest on. -/

namespace Sys2Proof.Machine
open Reg

/-- What only the world outside, or an OTP program, may change: the queue of waiting commands, the fuses and the OTP. -/
structure Fixed where
  pending : List Instr
  fuse : Fuse
  otp : Sparse Byte

/-- The fixed part of a state. -/
def State.fixed (s : State) : Fixed := ⟨s.pending, s.fuse, s.otp⟩

namespace Laws

theorem fixed_bus (s : State) (x : Answer) : ({ s with bus := x } : State).fixed = s.fixed := by cases s; rfl
theorem fixed_freeCount (s : State) (x : Nat) : ({ s with freeCount := x } : State).fixed = s.fixed := by cases s; rfl
theorem fixed_straps (s : State) (x : Straps) : ({ s with straps := x } : State).fixed = s.fixed := by cases s; rfl
theorem fixed_regs (s : State) (x : RegStore) : ({ s with regs := x } : State).fixed = s.fixed := by cases s; rfl
theorem fixed_rdShadow (s : State) (x : Sparse Nat) : ({ s with rdShadow := x } : State).fixed = s.fixed := by cases s; rfl
theorem fixed_wrShadow (s : State) (x : Sparse Nat) : ({ s with wrShadow := x } : State).fixed = s.fixed := by cases s; rfl
theorem fixed_perMaster (s : State) (x : Sparse Nat) : ({ s with perMaster := x } : State).fixed = s.fixed := by cases s; rfl
theorem fixed_power (s : State) (x : Power) : ({ s with power := x } : State).fixed = s.fixed := by cases s; rfl
theorem fixed_snap (s : State) (x : Snapshot) : ({ s with snap := x } : State).fixed = s.fixed := by cases s; rfl
theorem fixed_boot (s : State) (x : Boot) : ({ s with boot := x } : State).fixed = s.fixed := by cases s; rfl
theorem fixed_time (s : State) (x : Time) : ({ s with time := x } : State).fixed = s.fixed := by cases s; rfl
theorem fixed_tk (s : State) (x : Tk) : ({ s with tk := x } : State).fixed = s.fixed := by cases s; rfl
theorem fixed_can (s : State) (x : Can) : ({ s with can := x } : State).fixed = s.fixed := by cases s; rfl
theorem fixed_eth (s : State) (x : Eth) : ({ s with eth := x } : State).fixed = s.fixed := by cases s; rfl
theorem fixed_joint (s : State) (x : Joint) : ({ s with joint := x } : State).fixed = s.fixed := by cases s; rfl
theorem fixed_safety (s : State) (x : Safety) : ({ s with safety := x } : State).fixed = s.fixed := by cases s; rfl
theorem fixed_intake (s : State) (x : Intake) : ({ s with intake := x } : State).fixed = s.fixed := by cases s; rfl
theorem fixed_fab (s : State) (x : Fabric) : ({ s with fab := x } : State).fixed = s.fixed := by cases s; rfl
theorem fixed_mc (s : State) (x : MemCtl) : ({ s with mc := x } : State).fixed = s.fixed := by cases s; rfl
theorem fixed_prb (s : State) (x : Probes) : ({ s with prb := x } : State).fixed = s.fixed := by cases s; rfl
theorem fixed_shp (s : State) (x : Shepherd) : ({ s with shp := x } : State).fixed = s.fixed := by cases s; rfl
theorem fixed_msync (s : State) (x : Msync) : ({ s with msync := x } : State).fixed = s.fixed := by cases s; rfl
theorem fixed_clocks (s : State) (x : Clocks) : ({ s with clocks := x } : State).fixed = s.fixed := by cases s; rfl
theorem fixed_drv (s : State) (x : Drover) : ({ s with drv := x } : State).fixed = s.fixed := by cases s; rfl
theorem fixed_loc (s : State) (x : Locals) : ({ s with loc := x } : State).fixed = s.fixed := by cases s; rfl
theorem fixed_gl (s : State) (x : Gleaner) : ({ s with gl := x } : State).fixed = s.fixed := by cases s; rfl
theorem fixed_secu (s : State) (x : Security) : ({ s with secu := x } : State).fixed = s.fixed := by cases s; rfl
theorem fixed_stw (s : State) (x : Steward) : ({ s with stw := x } : State).fixed = s.fixed := by cases s; rfl
theorem fixed_img (s : State) (x : Applied) : ({ s with img := x } : State).fixed = s.fixed := by cases s; rfl
theorem fixed_hl (s : State) (x : HostLink) : ({ s with hl := x } : State).fixed = s.fixed := by cases s; rfl
theorem fixed_poison (s : State) (x : Sparse Bool) : ({ s with poison := x } : State).fixed = s.fixed := by cases s; rfl
theorem fixed_evlog (s : State) (x : EventLog) : ({ s with evlog := x } : State).fixed = s.fixed := by cases s; rfl
theorem fixed_dram (s : State) (x : Sparse Byte) : ({ s with dram := x } : State).fixed = s.fixed := by cases s; rfl
theorem fixed_flashA (s : State) (x : Sparse Byte) : ({ s with flashA := x } : State).fixed = s.fixed := by cases s; rfl
theorem fixed_flashB (s : State) (x : Sparse Byte) : ({ s with flashB := x } : State).fixed = s.fixed := by cases s; rfl
theorem fixed_hostMem (s : State) (x : Sparse Byte) : ({ s with hostMem := x } : State).fixed = s.fixed := by cases s; rfl

/-- The fixed part of a state put together anew. -/
theorem fixed_eta (s : State) : (⟨s.pending, s.fuse, s.otp⟩ : Fixed) = s.fixed := rfl

theorem fixed_mk (x0 : List Instr) (x1 : Answer) (x2 : Nat) (x3 : Fuse) (x4 : Straps) (x5 : Sparse Byte) (x6 : RegStore) (x7 : Sparse Nat) (x8 : Sparse Nat) (x9 : Sparse Nat) (x10 : Power) (x11 : Snapshot) (x12 : Boot) (x13 : Time) (x14 : Tk) (x15 : Can) (x16 : Eth) (x17 : Joint) (x18 : Safety) (x19 : Intake) (x20 : Fabric) (x21 : MemCtl) (x22 : Probes) (x23 : Shepherd) (x24 : Msync) (x25 : Clocks) (x26 : Drover) (x27 : Locals) (x28 : Gleaner) (x29 : Security) (x30 : Steward) (x31 : Applied) (x32 : HostLink) (x33 : Sparse Bool) (x34 : EventLog) (x35 : Sparse Byte) (x36 : Sparse Byte) (x37 : Sparse Byte) (x38 : Sparse Byte) :
    (State.mk x0 x1 x2 x3 x4 x5 x6 x7 x8 x9 x10 x11 x12 x13 x14 x15 x16 x17 x18 x19 x20 x21 x22 x23 x24 x25 x26 x27 x28 x29 x30 x31 x32 x33 x34 x35 x36 x37 x38).fixed = ⟨x0, x3, x5⟩ := rfl

/-- A choice between two states that keep the fixed part keeps it. -/
theorem fixed_ite (c : Prop) [Decidable c] (s t : State) : (if c then s else t).fixed = if c then s.fixed else t.fixed := by
  split <;> rfl

theorem fixed_ite_snd {α : Type} (c : Prop) [Decidable c] (s t : α × State) :
    (if c then s else t).2.fixed = if c then s.2.fixed else t.2.fixed := by
  split <;> rfl

/-- A loop whose every round keeps the fixed part keeps it. -/
theorem fixed_foldl {α : Type} (l : List α) (g : State → α → State) (h : ∀ s x, (g s x).fixed = s.fixed) (s : State) :
    (l.foldl g s).fixed = s.fixed := by
  induction l generalizing s with
  | nil => rfl
  | cons x l ih => rw [List.foldl_cons, ih, h]

/-- The same for a loop that carries a value beside the state. -/
theorem fixed_foldl_snd {α β : Type} (l : List α) (g : β × State → α → β × State) (h : ∀ s x, (g s x).2.fixed = s.2.fixed)
    (s : β × State) : (l.foldl g s).2.fixed = s.2.fixed := by
  induction l generalizing s with
  | nil => rfl
  | cons x l ih => rw [List.foldl_cons, ih, h]

/-- What the queue's front is taken from keeps fuses and OTP. -/
theorem fixed_pending (s : State) (l : List Instr) : ({ s with pending := l } : State).fixed = { s.fixed with pending := l } := rfl

/-- What a meaning that answers a next state leaves of the fixed part. -/
theorem fixed_next {x s t : State} (h : (Host.Outcome.next x : Out) = .next t) (k : x.fixed = s.fixed) : t.fixed = s.fixed :=
  Host.Outcome.next.inj h ▸ k

/-! The fields each named update leaves as they are. -/

@[simp] theorem wr_pending (s : State) (f : Field) (v : Nat) : (s.wr f v).pending = s.pending := rfl
@[simp] theorem wr_bus (s : State) (f : Field) (v : Nat) : (s.wr f v).bus = s.bus := rfl
@[simp] theorem wr_freeCount (s : State) (f : Field) (v : Nat) : (s.wr f v).freeCount = s.freeCount := rfl
@[simp] theorem wr_fuse (s : State) (f : Field) (v : Nat) : (s.wr f v).fuse = s.fuse := rfl
@[simp] theorem wr_straps (s : State) (f : Field) (v : Nat) : (s.wr f v).straps = s.straps := rfl
@[simp] theorem wr_otp (s : State) (f : Field) (v : Nat) : (s.wr f v).otp = s.otp := rfl
@[simp] theorem wr_rdShadow (s : State) (f : Field) (v : Nat) : (s.wr f v).rdShadow = s.rdShadow := rfl
@[simp] theorem wr_wrShadow (s : State) (f : Field) (v : Nat) : (s.wr f v).wrShadow = s.wrShadow := rfl
@[simp] theorem wr_perMaster (s : State) (f : Field) (v : Nat) : (s.wr f v).perMaster = s.perMaster := rfl
@[simp] theorem wr_power (s : State) (f : Field) (v : Nat) : (s.wr f v).power = s.power := rfl
@[simp] theorem wr_snap (s : State) (f : Field) (v : Nat) : (s.wr f v).snap = s.snap := rfl
@[simp] theorem wr_boot (s : State) (f : Field) (v : Nat) : (s.wr f v).boot = s.boot := rfl
@[simp] theorem wr_time (s : State) (f : Field) (v : Nat) : (s.wr f v).time = s.time := rfl
@[simp] theorem wr_tk (s : State) (f : Field) (v : Nat) : (s.wr f v).tk = s.tk := rfl
@[simp] theorem wr_can (s : State) (f : Field) (v : Nat) : (s.wr f v).can = s.can := rfl
@[simp] theorem wr_eth (s : State) (f : Field) (v : Nat) : (s.wr f v).eth = s.eth := rfl
@[simp] theorem wr_joint (s : State) (f : Field) (v : Nat) : (s.wr f v).joint = s.joint := rfl
@[simp] theorem wr_safety (s : State) (f : Field) (v : Nat) : (s.wr f v).safety = s.safety := rfl
@[simp] theorem wr_intake (s : State) (f : Field) (v : Nat) : (s.wr f v).intake = s.intake := rfl
@[simp] theorem wr_fab (s : State) (f : Field) (v : Nat) : (s.wr f v).fab = s.fab := rfl
@[simp] theorem wr_mc (s : State) (f : Field) (v : Nat) : (s.wr f v).mc = s.mc := rfl
@[simp] theorem wr_prb (s : State) (f : Field) (v : Nat) : (s.wr f v).prb = s.prb := rfl
@[simp] theorem wr_shp (s : State) (f : Field) (v : Nat) : (s.wr f v).shp = s.shp := rfl
@[simp] theorem wr_msync (s : State) (f : Field) (v : Nat) : (s.wr f v).msync = s.msync := rfl
@[simp] theorem wr_clocks (s : State) (f : Field) (v : Nat) : (s.wr f v).clocks = s.clocks := rfl
@[simp] theorem wr_drv (s : State) (f : Field) (v : Nat) : (s.wr f v).drv = s.drv := rfl
@[simp] theorem wr_loc (s : State) (f : Field) (v : Nat) : (s.wr f v).loc = s.loc := rfl
@[simp] theorem wr_gl (s : State) (f : Field) (v : Nat) : (s.wr f v).gl = s.gl := rfl
@[simp] theorem wr_secu (s : State) (f : Field) (v : Nat) : (s.wr f v).secu = s.secu := rfl
@[simp] theorem wr_stw (s : State) (f : Field) (v : Nat) : (s.wr f v).stw = s.stw := rfl
@[simp] theorem wr_img (s : State) (f : Field) (v : Nat) : (s.wr f v).img = s.img := rfl
@[simp] theorem wr_hl (s : State) (f : Field) (v : Nat) : (s.wr f v).hl = s.hl := rfl
@[simp] theorem wr_poison (s : State) (f : Field) (v : Nat) : (s.wr f v).poison = s.poison := rfl
@[simp] theorem wr_evlog (s : State) (f : Field) (v : Nat) : (s.wr f v).evlog = s.evlog := rfl
@[simp] theorem wr_dram (s : State) (f : Field) (v : Nat) : (s.wr f v).dram = s.dram := rfl
@[simp] theorem wr_flashA (s : State) (f : Field) (v : Nat) : (s.wr f v).flashA = s.flashA := rfl
@[simp] theorem wr_flashB (s : State) (f : Field) (v : Nat) : (s.wr f v).flashB = s.flashB := rfl
@[simp] theorem wr_hostMem (s : State) (f : Field) (v : Nat) : (s.wr f v).hostMem = s.hostMem := rfl

@[simp] theorem answer_pending (s : State) (a b : Nat) : (s.answer a b).pending = s.pending := rfl
@[simp] theorem answer_freeCount (s : State) (a b : Nat) : (s.answer a b).freeCount = s.freeCount := rfl
@[simp] theorem answer_fuse (s : State) (a b : Nat) : (s.answer a b).fuse = s.fuse := rfl
@[simp] theorem answer_straps (s : State) (a b : Nat) : (s.answer a b).straps = s.straps := rfl
@[simp] theorem answer_otp (s : State) (a b : Nat) : (s.answer a b).otp = s.otp := rfl
@[simp] theorem answer_regs (s : State) (a b : Nat) : (s.answer a b).regs = s.regs := rfl
@[simp] theorem answer_rdShadow (s : State) (a b : Nat) : (s.answer a b).rdShadow = s.rdShadow := rfl
@[simp] theorem answer_wrShadow (s : State) (a b : Nat) : (s.answer a b).wrShadow = s.wrShadow := rfl
@[simp] theorem answer_perMaster (s : State) (a b : Nat) : (s.answer a b).perMaster = s.perMaster := rfl
@[simp] theorem answer_power (s : State) (a b : Nat) : (s.answer a b).power = s.power := rfl
@[simp] theorem answer_snap (s : State) (a b : Nat) : (s.answer a b).snap = s.snap := rfl
@[simp] theorem answer_boot (s : State) (a b : Nat) : (s.answer a b).boot = s.boot := rfl
@[simp] theorem answer_time (s : State) (a b : Nat) : (s.answer a b).time = s.time := rfl
@[simp] theorem answer_tk (s : State) (a b : Nat) : (s.answer a b).tk = s.tk := rfl
@[simp] theorem answer_can (s : State) (a b : Nat) : (s.answer a b).can = s.can := rfl
@[simp] theorem answer_eth (s : State) (a b : Nat) : (s.answer a b).eth = s.eth := rfl
@[simp] theorem answer_joint (s : State) (a b : Nat) : (s.answer a b).joint = s.joint := rfl
@[simp] theorem answer_safety (s : State) (a b : Nat) : (s.answer a b).safety = s.safety := rfl
@[simp] theorem answer_intake (s : State) (a b : Nat) : (s.answer a b).intake = s.intake := rfl
@[simp] theorem answer_fab (s : State) (a b : Nat) : (s.answer a b).fab = s.fab := rfl
@[simp] theorem answer_mc (s : State) (a b : Nat) : (s.answer a b).mc = s.mc := rfl
@[simp] theorem answer_prb (s : State) (a b : Nat) : (s.answer a b).prb = s.prb := rfl
@[simp] theorem answer_shp (s : State) (a b : Nat) : (s.answer a b).shp = s.shp := rfl
@[simp] theorem answer_msync (s : State) (a b : Nat) : (s.answer a b).msync = s.msync := rfl
@[simp] theorem answer_clocks (s : State) (a b : Nat) : (s.answer a b).clocks = s.clocks := rfl
@[simp] theorem answer_drv (s : State) (a b : Nat) : (s.answer a b).drv = s.drv := rfl
@[simp] theorem answer_loc (s : State) (a b : Nat) : (s.answer a b).loc = s.loc := rfl
@[simp] theorem answer_gl (s : State) (a b : Nat) : (s.answer a b).gl = s.gl := rfl
@[simp] theorem answer_secu (s : State) (a b : Nat) : (s.answer a b).secu = s.secu := rfl
@[simp] theorem answer_stw (s : State) (a b : Nat) : (s.answer a b).stw = s.stw := rfl
@[simp] theorem answer_img (s : State) (a b : Nat) : (s.answer a b).img = s.img := rfl
@[simp] theorem answer_hl (s : State) (a b : Nat) : (s.answer a b).hl = s.hl := rfl
@[simp] theorem answer_poison (s : State) (a b : Nat) : (s.answer a b).poison = s.poison := rfl
@[simp] theorem answer_evlog (s : State) (a b : Nat) : (s.answer a b).evlog = s.evlog := rfl
@[simp] theorem answer_dram (s : State) (a b : Nat) : (s.answer a b).dram = s.dram := rfl
@[simp] theorem answer_flashA (s : State) (a b : Nat) : (s.answer a b).flashA = s.flashA := rfl
@[simp] theorem answer_flashB (s : State) (a b : Nat) : (s.answer a b).flashB = s.flashB := rfl
@[simp] theorem answer_hostMem (s : State) (a b : Nat) : (s.answer a b).hostMem = s.hostMem := rfl

@[simp] theorem set_pending (s : State) (f : Field) : (s.set f).pending = s.pending := rfl
@[simp] theorem set_bus (s : State) (f : Field) : (s.set f).bus = s.bus := rfl
@[simp] theorem set_freeCount (s : State) (f : Field) : (s.set f).freeCount = s.freeCount := rfl
@[simp] theorem set_fuse (s : State) (f : Field) : (s.set f).fuse = s.fuse := rfl
@[simp] theorem set_straps (s : State) (f : Field) : (s.set f).straps = s.straps := rfl
@[simp] theorem set_otp (s : State) (f : Field) : (s.set f).otp = s.otp := rfl
@[simp] theorem set_rdShadow (s : State) (f : Field) : (s.set f).rdShadow = s.rdShadow := rfl
@[simp] theorem set_wrShadow (s : State) (f : Field) : (s.set f).wrShadow = s.wrShadow := rfl
@[simp] theorem set_perMaster (s : State) (f : Field) : (s.set f).perMaster = s.perMaster := rfl
@[simp] theorem set_power (s : State) (f : Field) : (s.set f).power = s.power := rfl
@[simp] theorem set_snap (s : State) (f : Field) : (s.set f).snap = s.snap := rfl
@[simp] theorem set_boot (s : State) (f : Field) : (s.set f).boot = s.boot := rfl
@[simp] theorem set_time (s : State) (f : Field) : (s.set f).time = s.time := rfl
@[simp] theorem set_tk (s : State) (f : Field) : (s.set f).tk = s.tk := rfl
@[simp] theorem set_can (s : State) (f : Field) : (s.set f).can = s.can := rfl
@[simp] theorem set_eth (s : State) (f : Field) : (s.set f).eth = s.eth := rfl
@[simp] theorem set_joint (s : State) (f : Field) : (s.set f).joint = s.joint := rfl
@[simp] theorem set_safety (s : State) (f : Field) : (s.set f).safety = s.safety := rfl
@[simp] theorem set_intake (s : State) (f : Field) : (s.set f).intake = s.intake := rfl
@[simp] theorem set_fab (s : State) (f : Field) : (s.set f).fab = s.fab := rfl
@[simp] theorem set_mc (s : State) (f : Field) : (s.set f).mc = s.mc := rfl
@[simp] theorem set_prb (s : State) (f : Field) : (s.set f).prb = s.prb := rfl
@[simp] theorem set_shp (s : State) (f : Field) : (s.set f).shp = s.shp := rfl
@[simp] theorem set_msync (s : State) (f : Field) : (s.set f).msync = s.msync := rfl
@[simp] theorem set_clocks (s : State) (f : Field) : (s.set f).clocks = s.clocks := rfl
@[simp] theorem set_drv (s : State) (f : Field) : (s.set f).drv = s.drv := rfl
@[simp] theorem set_loc (s : State) (f : Field) : (s.set f).loc = s.loc := rfl
@[simp] theorem set_gl (s : State) (f : Field) : (s.set f).gl = s.gl := rfl
@[simp] theorem set_secu (s : State) (f : Field) : (s.set f).secu = s.secu := rfl
@[simp] theorem set_stw (s : State) (f : Field) : (s.set f).stw = s.stw := rfl
@[simp] theorem set_img (s : State) (f : Field) : (s.set f).img = s.img := rfl
@[simp] theorem set_hl (s : State) (f : Field) : (s.set f).hl = s.hl := rfl
@[simp] theorem set_poison (s : State) (f : Field) : (s.set f).poison = s.poison := rfl
@[simp] theorem set_evlog (s : State) (f : Field) : (s.set f).evlog = s.evlog := rfl
@[simp] theorem set_dram (s : State) (f : Field) : (s.set f).dram = s.dram := rfl
@[simp] theorem set_flashA (s : State) (f : Field) : (s.set f).flashA = s.flashA := rfl
@[simp] theorem set_flashB (s : State) (f : Field) : (s.set f).flashB = s.flashB := rfl
@[simp] theorem set_hostMem (s : State) (f : Field) : (s.set f).hostMem = s.hostMem := rfl

@[simp] theorem clr_pending (s : State) (f : Field) : (s.clr f).pending = s.pending := rfl
@[simp] theorem clr_bus (s : State) (f : Field) : (s.clr f).bus = s.bus := rfl
@[simp] theorem clr_freeCount (s : State) (f : Field) : (s.clr f).freeCount = s.freeCount := rfl
@[simp] theorem clr_fuse (s : State) (f : Field) : (s.clr f).fuse = s.fuse := rfl
@[simp] theorem clr_straps (s : State) (f : Field) : (s.clr f).straps = s.straps := rfl
@[simp] theorem clr_otp (s : State) (f : Field) : (s.clr f).otp = s.otp := rfl
@[simp] theorem clr_rdShadow (s : State) (f : Field) : (s.clr f).rdShadow = s.rdShadow := rfl
@[simp] theorem clr_wrShadow (s : State) (f : Field) : (s.clr f).wrShadow = s.wrShadow := rfl
@[simp] theorem clr_perMaster (s : State) (f : Field) : (s.clr f).perMaster = s.perMaster := rfl
@[simp] theorem clr_power (s : State) (f : Field) : (s.clr f).power = s.power := rfl
@[simp] theorem clr_snap (s : State) (f : Field) : (s.clr f).snap = s.snap := rfl
@[simp] theorem clr_boot (s : State) (f : Field) : (s.clr f).boot = s.boot := rfl
@[simp] theorem clr_time (s : State) (f : Field) : (s.clr f).time = s.time := rfl
@[simp] theorem clr_tk (s : State) (f : Field) : (s.clr f).tk = s.tk := rfl
@[simp] theorem clr_can (s : State) (f : Field) : (s.clr f).can = s.can := rfl
@[simp] theorem clr_eth (s : State) (f : Field) : (s.clr f).eth = s.eth := rfl
@[simp] theorem clr_joint (s : State) (f : Field) : (s.clr f).joint = s.joint := rfl
@[simp] theorem clr_safety (s : State) (f : Field) : (s.clr f).safety = s.safety := rfl
@[simp] theorem clr_intake (s : State) (f : Field) : (s.clr f).intake = s.intake := rfl
@[simp] theorem clr_fab (s : State) (f : Field) : (s.clr f).fab = s.fab := rfl
@[simp] theorem clr_mc (s : State) (f : Field) : (s.clr f).mc = s.mc := rfl
@[simp] theorem clr_prb (s : State) (f : Field) : (s.clr f).prb = s.prb := rfl
@[simp] theorem clr_shp (s : State) (f : Field) : (s.clr f).shp = s.shp := rfl
@[simp] theorem clr_msync (s : State) (f : Field) : (s.clr f).msync = s.msync := rfl
@[simp] theorem clr_clocks (s : State) (f : Field) : (s.clr f).clocks = s.clocks := rfl
@[simp] theorem clr_drv (s : State) (f : Field) : (s.clr f).drv = s.drv := rfl
@[simp] theorem clr_loc (s : State) (f : Field) : (s.clr f).loc = s.loc := rfl
@[simp] theorem clr_gl (s : State) (f : Field) : (s.clr f).gl = s.gl := rfl
@[simp] theorem clr_secu (s : State) (f : Field) : (s.clr f).secu = s.secu := rfl
@[simp] theorem clr_stw (s : State) (f : Field) : (s.clr f).stw = s.stw := rfl
@[simp] theorem clr_img (s : State) (f : Field) : (s.clr f).img = s.img := rfl
@[simp] theorem clr_hl (s : State) (f : Field) : (s.clr f).hl = s.hl := rfl
@[simp] theorem clr_poison (s : State) (f : Field) : (s.clr f).poison = s.poison := rfl
@[simp] theorem clr_evlog (s : State) (f : Field) : (s.clr f).evlog = s.evlog := rfl
@[simp] theorem clr_dram (s : State) (f : Field) : (s.clr f).dram = s.dram := rfl
@[simp] theorem clr_flashA (s : State) (f : Field) : (s.clr f).flashA = s.flashA := rfl
@[simp] theorem clr_flashB (s : State) (f : Field) : (s.clr f).flashB = s.flashB := rfl
@[simp] theorem clr_hostMem (s : State) (f : Field) : (s.clr f).hostMem = s.hostMem := rfl

@[simp] theorem inc_pending (s : State) (f : Field) (n : Nat) : (s.inc f n).pending = s.pending := rfl
@[simp] theorem inc_bus (s : State) (f : Field) (n : Nat) : (s.inc f n).bus = s.bus := rfl
@[simp] theorem inc_freeCount (s : State) (f : Field) (n : Nat) : (s.inc f n).freeCount = s.freeCount := rfl
@[simp] theorem inc_fuse (s : State) (f : Field) (n : Nat) : (s.inc f n).fuse = s.fuse := rfl
@[simp] theorem inc_straps (s : State) (f : Field) (n : Nat) : (s.inc f n).straps = s.straps := rfl
@[simp] theorem inc_otp (s : State) (f : Field) (n : Nat) : (s.inc f n).otp = s.otp := rfl
@[simp] theorem inc_rdShadow (s : State) (f : Field) (n : Nat) : (s.inc f n).rdShadow = s.rdShadow := rfl
@[simp] theorem inc_wrShadow (s : State) (f : Field) (n : Nat) : (s.inc f n).wrShadow = s.wrShadow := rfl
@[simp] theorem inc_perMaster (s : State) (f : Field) (n : Nat) : (s.inc f n).perMaster = s.perMaster := rfl
@[simp] theorem inc_power (s : State) (f : Field) (n : Nat) : (s.inc f n).power = s.power := rfl
@[simp] theorem inc_snap (s : State) (f : Field) (n : Nat) : (s.inc f n).snap = s.snap := rfl
@[simp] theorem inc_boot (s : State) (f : Field) (n : Nat) : (s.inc f n).boot = s.boot := rfl
@[simp] theorem inc_time (s : State) (f : Field) (n : Nat) : (s.inc f n).time = s.time := rfl
@[simp] theorem inc_tk (s : State) (f : Field) (n : Nat) : (s.inc f n).tk = s.tk := rfl
@[simp] theorem inc_can (s : State) (f : Field) (n : Nat) : (s.inc f n).can = s.can := rfl
@[simp] theorem inc_eth (s : State) (f : Field) (n : Nat) : (s.inc f n).eth = s.eth := rfl
@[simp] theorem inc_joint (s : State) (f : Field) (n : Nat) : (s.inc f n).joint = s.joint := rfl
@[simp] theorem inc_safety (s : State) (f : Field) (n : Nat) : (s.inc f n).safety = s.safety := rfl
@[simp] theorem inc_intake (s : State) (f : Field) (n : Nat) : (s.inc f n).intake = s.intake := rfl
@[simp] theorem inc_fab (s : State) (f : Field) (n : Nat) : (s.inc f n).fab = s.fab := rfl
@[simp] theorem inc_mc (s : State) (f : Field) (n : Nat) : (s.inc f n).mc = s.mc := rfl
@[simp] theorem inc_prb (s : State) (f : Field) (n : Nat) : (s.inc f n).prb = s.prb := rfl
@[simp] theorem inc_shp (s : State) (f : Field) (n : Nat) : (s.inc f n).shp = s.shp := rfl
@[simp] theorem inc_msync (s : State) (f : Field) (n : Nat) : (s.inc f n).msync = s.msync := rfl
@[simp] theorem inc_clocks (s : State) (f : Field) (n : Nat) : (s.inc f n).clocks = s.clocks := rfl
@[simp] theorem inc_drv (s : State) (f : Field) (n : Nat) : (s.inc f n).drv = s.drv := rfl
@[simp] theorem inc_loc (s : State) (f : Field) (n : Nat) : (s.inc f n).loc = s.loc := rfl
@[simp] theorem inc_gl (s : State) (f : Field) (n : Nat) : (s.inc f n).gl = s.gl := rfl
@[simp] theorem inc_secu (s : State) (f : Field) (n : Nat) : (s.inc f n).secu = s.secu := rfl
@[simp] theorem inc_stw (s : State) (f : Field) (n : Nat) : (s.inc f n).stw = s.stw := rfl
@[simp] theorem inc_img (s : State) (f : Field) (n : Nat) : (s.inc f n).img = s.img := rfl
@[simp] theorem inc_hl (s : State) (f : Field) (n : Nat) : (s.inc f n).hl = s.hl := rfl
@[simp] theorem inc_poison (s : State) (f : Field) (n : Nat) : (s.inc f n).poison = s.poison := rfl
@[simp] theorem inc_evlog (s : State) (f : Field) (n : Nat) : (s.inc f n).evlog = s.evlog := rfl
@[simp] theorem inc_dram (s : State) (f : Field) (n : Nat) : (s.inc f n).dram = s.dram := rfl
@[simp] theorem inc_flashA (s : State) (f : Field) (n : Nat) : (s.inc f n).flashA = s.flashA := rfl
@[simp] theorem inc_flashB (s : State) (f : Field) (n : Nat) : (s.inc f n).flashB = s.flashB := rfl
@[simp] theorem inc_hostMem (s : State) (f : Field) (n : Nat) : (s.inc f n).hostMem = s.hostMem := rfl

@[simp] theorem incWrap_pending (s : State) (f : Field) (n : Nat) : (s.incWrap f n).pending = s.pending := rfl
@[simp] theorem incWrap_bus (s : State) (f : Field) (n : Nat) : (s.incWrap f n).bus = s.bus := rfl
@[simp] theorem incWrap_freeCount (s : State) (f : Field) (n : Nat) : (s.incWrap f n).freeCount = s.freeCount := rfl
@[simp] theorem incWrap_fuse (s : State) (f : Field) (n : Nat) : (s.incWrap f n).fuse = s.fuse := rfl
@[simp] theorem incWrap_straps (s : State) (f : Field) (n : Nat) : (s.incWrap f n).straps = s.straps := rfl
@[simp] theorem incWrap_otp (s : State) (f : Field) (n : Nat) : (s.incWrap f n).otp = s.otp := rfl
@[simp] theorem incWrap_rdShadow (s : State) (f : Field) (n : Nat) : (s.incWrap f n).rdShadow = s.rdShadow := rfl
@[simp] theorem incWrap_wrShadow (s : State) (f : Field) (n : Nat) : (s.incWrap f n).wrShadow = s.wrShadow := rfl
@[simp] theorem incWrap_perMaster (s : State) (f : Field) (n : Nat) : (s.incWrap f n).perMaster = s.perMaster := rfl
@[simp] theorem incWrap_power (s : State) (f : Field) (n : Nat) : (s.incWrap f n).power = s.power := rfl
@[simp] theorem incWrap_snap (s : State) (f : Field) (n : Nat) : (s.incWrap f n).snap = s.snap := rfl
@[simp] theorem incWrap_boot (s : State) (f : Field) (n : Nat) : (s.incWrap f n).boot = s.boot := rfl
@[simp] theorem incWrap_time (s : State) (f : Field) (n : Nat) : (s.incWrap f n).time = s.time := rfl
@[simp] theorem incWrap_tk (s : State) (f : Field) (n : Nat) : (s.incWrap f n).tk = s.tk := rfl
@[simp] theorem incWrap_can (s : State) (f : Field) (n : Nat) : (s.incWrap f n).can = s.can := rfl
@[simp] theorem incWrap_eth (s : State) (f : Field) (n : Nat) : (s.incWrap f n).eth = s.eth := rfl
@[simp] theorem incWrap_joint (s : State) (f : Field) (n : Nat) : (s.incWrap f n).joint = s.joint := rfl
@[simp] theorem incWrap_safety (s : State) (f : Field) (n : Nat) : (s.incWrap f n).safety = s.safety := rfl
@[simp] theorem incWrap_intake (s : State) (f : Field) (n : Nat) : (s.incWrap f n).intake = s.intake := rfl
@[simp] theorem incWrap_fab (s : State) (f : Field) (n : Nat) : (s.incWrap f n).fab = s.fab := rfl
@[simp] theorem incWrap_mc (s : State) (f : Field) (n : Nat) : (s.incWrap f n).mc = s.mc := rfl
@[simp] theorem incWrap_prb (s : State) (f : Field) (n : Nat) : (s.incWrap f n).prb = s.prb := rfl
@[simp] theorem incWrap_shp (s : State) (f : Field) (n : Nat) : (s.incWrap f n).shp = s.shp := rfl
@[simp] theorem incWrap_msync (s : State) (f : Field) (n : Nat) : (s.incWrap f n).msync = s.msync := rfl
@[simp] theorem incWrap_clocks (s : State) (f : Field) (n : Nat) : (s.incWrap f n).clocks = s.clocks := rfl
@[simp] theorem incWrap_drv (s : State) (f : Field) (n : Nat) : (s.incWrap f n).drv = s.drv := rfl
@[simp] theorem incWrap_loc (s : State) (f : Field) (n : Nat) : (s.incWrap f n).loc = s.loc := rfl
@[simp] theorem incWrap_gl (s : State) (f : Field) (n : Nat) : (s.incWrap f n).gl = s.gl := rfl
@[simp] theorem incWrap_secu (s : State) (f : Field) (n : Nat) : (s.incWrap f n).secu = s.secu := rfl
@[simp] theorem incWrap_stw (s : State) (f : Field) (n : Nat) : (s.incWrap f n).stw = s.stw := rfl
@[simp] theorem incWrap_img (s : State) (f : Field) (n : Nat) : (s.incWrap f n).img = s.img := rfl
@[simp] theorem incWrap_hl (s : State) (f : Field) (n : Nat) : (s.incWrap f n).hl = s.hl := rfl
@[simp] theorem incWrap_poison (s : State) (f : Field) (n : Nat) : (s.incWrap f n).poison = s.poison := rfl
@[simp] theorem incWrap_evlog (s : State) (f : Field) (n : Nat) : (s.incWrap f n).evlog = s.evlog := rfl
@[simp] theorem incWrap_dram (s : State) (f : Field) (n : Nat) : (s.incWrap f n).dram = s.dram := rfl
@[simp] theorem incWrap_flashA (s : State) (f : Field) (n : Nat) : (s.incWrap f n).flashA = s.flashA := rfl
@[simp] theorem incWrap_flashB (s : State) (f : Field) (n : Nat) : (s.incWrap f n).flashB = s.flashB := rfl
@[simp] theorem incWrap_hostMem (s : State) (f : Field) (n : Nat) : (s.incWrap f n).hostMem = s.hostMem := rfl

@[simp] theorem wrPair_pending (s : State) (f g : Field) (v : Nat) : (s.wrPair f g v).pending = s.pending := rfl
@[simp] theorem wrPair_bus (s : State) (f g : Field) (v : Nat) : (s.wrPair f g v).bus = s.bus := rfl
@[simp] theorem wrPair_freeCount (s : State) (f g : Field) (v : Nat) : (s.wrPair f g v).freeCount = s.freeCount := rfl
@[simp] theorem wrPair_fuse (s : State) (f g : Field) (v : Nat) : (s.wrPair f g v).fuse = s.fuse := rfl
@[simp] theorem wrPair_straps (s : State) (f g : Field) (v : Nat) : (s.wrPair f g v).straps = s.straps := rfl
@[simp] theorem wrPair_otp (s : State) (f g : Field) (v : Nat) : (s.wrPair f g v).otp = s.otp := rfl
@[simp] theorem wrPair_rdShadow (s : State) (f g : Field) (v : Nat) : (s.wrPair f g v).rdShadow = s.rdShadow := rfl
@[simp] theorem wrPair_wrShadow (s : State) (f g : Field) (v : Nat) : (s.wrPair f g v).wrShadow = s.wrShadow := rfl
@[simp] theorem wrPair_perMaster (s : State) (f g : Field) (v : Nat) : (s.wrPair f g v).perMaster = s.perMaster := rfl
@[simp] theorem wrPair_power (s : State) (f g : Field) (v : Nat) : (s.wrPair f g v).power = s.power := rfl
@[simp] theorem wrPair_snap (s : State) (f g : Field) (v : Nat) : (s.wrPair f g v).snap = s.snap := rfl
@[simp] theorem wrPair_boot (s : State) (f g : Field) (v : Nat) : (s.wrPair f g v).boot = s.boot := rfl
@[simp] theorem wrPair_time (s : State) (f g : Field) (v : Nat) : (s.wrPair f g v).time = s.time := rfl
@[simp] theorem wrPair_tk (s : State) (f g : Field) (v : Nat) : (s.wrPair f g v).tk = s.tk := rfl
@[simp] theorem wrPair_can (s : State) (f g : Field) (v : Nat) : (s.wrPair f g v).can = s.can := rfl
@[simp] theorem wrPair_eth (s : State) (f g : Field) (v : Nat) : (s.wrPair f g v).eth = s.eth := rfl
@[simp] theorem wrPair_joint (s : State) (f g : Field) (v : Nat) : (s.wrPair f g v).joint = s.joint := rfl
@[simp] theorem wrPair_safety (s : State) (f g : Field) (v : Nat) : (s.wrPair f g v).safety = s.safety := rfl
@[simp] theorem wrPair_intake (s : State) (f g : Field) (v : Nat) : (s.wrPair f g v).intake = s.intake := rfl
@[simp] theorem wrPair_fab (s : State) (f g : Field) (v : Nat) : (s.wrPair f g v).fab = s.fab := rfl
@[simp] theorem wrPair_mc (s : State) (f g : Field) (v : Nat) : (s.wrPair f g v).mc = s.mc := rfl
@[simp] theorem wrPair_prb (s : State) (f g : Field) (v : Nat) : (s.wrPair f g v).prb = s.prb := rfl
@[simp] theorem wrPair_shp (s : State) (f g : Field) (v : Nat) : (s.wrPair f g v).shp = s.shp := rfl
@[simp] theorem wrPair_msync (s : State) (f g : Field) (v : Nat) : (s.wrPair f g v).msync = s.msync := rfl
@[simp] theorem wrPair_clocks (s : State) (f g : Field) (v : Nat) : (s.wrPair f g v).clocks = s.clocks := rfl
@[simp] theorem wrPair_drv (s : State) (f g : Field) (v : Nat) : (s.wrPair f g v).drv = s.drv := rfl
@[simp] theorem wrPair_loc (s : State) (f g : Field) (v : Nat) : (s.wrPair f g v).loc = s.loc := rfl
@[simp] theorem wrPair_gl (s : State) (f g : Field) (v : Nat) : (s.wrPair f g v).gl = s.gl := rfl
@[simp] theorem wrPair_secu (s : State) (f g : Field) (v : Nat) : (s.wrPair f g v).secu = s.secu := rfl
@[simp] theorem wrPair_stw (s : State) (f g : Field) (v : Nat) : (s.wrPair f g v).stw = s.stw := rfl
@[simp] theorem wrPair_img (s : State) (f g : Field) (v : Nat) : (s.wrPair f g v).img = s.img := rfl
@[simp] theorem wrPair_hl (s : State) (f g : Field) (v : Nat) : (s.wrPair f g v).hl = s.hl := rfl
@[simp] theorem wrPair_poison (s : State) (f g : Field) (v : Nat) : (s.wrPair f g v).poison = s.poison := rfl
@[simp] theorem wrPair_evlog (s : State) (f g : Field) (v : Nat) : (s.wrPair f g v).evlog = s.evlog := rfl
@[simp] theorem wrPair_dram (s : State) (f g : Field) (v : Nat) : (s.wrPair f g v).dram = s.dram := rfl
@[simp] theorem wrPair_flashA (s : State) (f g : Field) (v : Nat) : (s.wrPair f g v).flashA = s.flashA := rfl
@[simp] theorem wrPair_flashB (s : State) (f g : Field) (v : Nat) : (s.wrPair f g v).flashB = s.flashB := rfl
@[simp] theorem wrPair_hostMem (s : State) (f g : Field) (v : Nat) : (s.wrPair f g v).hostMem = s.hostMem := rfl

@[simp] theorem wrs_pending (s : State) (l : List (Field × Nat)) : (s.wrs l).pending = s.pending := by
  induction l generalizing s with
  | nil => rfl
  | cons e l ih => exact ih (s.wr e.1 e.2)
@[simp] theorem wrs_bus (s : State) (l : List (Field × Nat)) : (s.wrs l).bus = s.bus := by
  induction l generalizing s with
  | nil => rfl
  | cons e l ih => exact ih (s.wr e.1 e.2)
@[simp] theorem wrs_freeCount (s : State) (l : List (Field × Nat)) : (s.wrs l).freeCount = s.freeCount := by
  induction l generalizing s with
  | nil => rfl
  | cons e l ih => exact ih (s.wr e.1 e.2)
@[simp] theorem wrs_fuse (s : State) (l : List (Field × Nat)) : (s.wrs l).fuse = s.fuse := by
  induction l generalizing s with
  | nil => rfl
  | cons e l ih => exact ih (s.wr e.1 e.2)
@[simp] theorem wrs_straps (s : State) (l : List (Field × Nat)) : (s.wrs l).straps = s.straps := by
  induction l generalizing s with
  | nil => rfl
  | cons e l ih => exact ih (s.wr e.1 e.2)
@[simp] theorem wrs_otp (s : State) (l : List (Field × Nat)) : (s.wrs l).otp = s.otp := by
  induction l generalizing s with
  | nil => rfl
  | cons e l ih => exact ih (s.wr e.1 e.2)
@[simp] theorem wrs_rdShadow (s : State) (l : List (Field × Nat)) : (s.wrs l).rdShadow = s.rdShadow := by
  induction l generalizing s with
  | nil => rfl
  | cons e l ih => exact ih (s.wr e.1 e.2)
@[simp] theorem wrs_wrShadow (s : State) (l : List (Field × Nat)) : (s.wrs l).wrShadow = s.wrShadow := by
  induction l generalizing s with
  | nil => rfl
  | cons e l ih => exact ih (s.wr e.1 e.2)
@[simp] theorem wrs_perMaster (s : State) (l : List (Field × Nat)) : (s.wrs l).perMaster = s.perMaster := by
  induction l generalizing s with
  | nil => rfl
  | cons e l ih => exact ih (s.wr e.1 e.2)
@[simp] theorem wrs_power (s : State) (l : List (Field × Nat)) : (s.wrs l).power = s.power := by
  induction l generalizing s with
  | nil => rfl
  | cons e l ih => exact ih (s.wr e.1 e.2)
@[simp] theorem wrs_snap (s : State) (l : List (Field × Nat)) : (s.wrs l).snap = s.snap := by
  induction l generalizing s with
  | nil => rfl
  | cons e l ih => exact ih (s.wr e.1 e.2)
@[simp] theorem wrs_boot (s : State) (l : List (Field × Nat)) : (s.wrs l).boot = s.boot := by
  induction l generalizing s with
  | nil => rfl
  | cons e l ih => exact ih (s.wr e.1 e.2)
@[simp] theorem wrs_time (s : State) (l : List (Field × Nat)) : (s.wrs l).time = s.time := by
  induction l generalizing s with
  | nil => rfl
  | cons e l ih => exact ih (s.wr e.1 e.2)
@[simp] theorem wrs_tk (s : State) (l : List (Field × Nat)) : (s.wrs l).tk = s.tk := by
  induction l generalizing s with
  | nil => rfl
  | cons e l ih => exact ih (s.wr e.1 e.2)
@[simp] theorem wrs_can (s : State) (l : List (Field × Nat)) : (s.wrs l).can = s.can := by
  induction l generalizing s with
  | nil => rfl
  | cons e l ih => exact ih (s.wr e.1 e.2)
@[simp] theorem wrs_eth (s : State) (l : List (Field × Nat)) : (s.wrs l).eth = s.eth := by
  induction l generalizing s with
  | nil => rfl
  | cons e l ih => exact ih (s.wr e.1 e.2)
@[simp] theorem wrs_joint (s : State) (l : List (Field × Nat)) : (s.wrs l).joint = s.joint := by
  induction l generalizing s with
  | nil => rfl
  | cons e l ih => exact ih (s.wr e.1 e.2)
@[simp] theorem wrs_safety (s : State) (l : List (Field × Nat)) : (s.wrs l).safety = s.safety := by
  induction l generalizing s with
  | nil => rfl
  | cons e l ih => exact ih (s.wr e.1 e.2)
@[simp] theorem wrs_intake (s : State) (l : List (Field × Nat)) : (s.wrs l).intake = s.intake := by
  induction l generalizing s with
  | nil => rfl
  | cons e l ih => exact ih (s.wr e.1 e.2)
@[simp] theorem wrs_fab (s : State) (l : List (Field × Nat)) : (s.wrs l).fab = s.fab := by
  induction l generalizing s with
  | nil => rfl
  | cons e l ih => exact ih (s.wr e.1 e.2)
@[simp] theorem wrs_mc (s : State) (l : List (Field × Nat)) : (s.wrs l).mc = s.mc := by
  induction l generalizing s with
  | nil => rfl
  | cons e l ih => exact ih (s.wr e.1 e.2)
@[simp] theorem wrs_prb (s : State) (l : List (Field × Nat)) : (s.wrs l).prb = s.prb := by
  induction l generalizing s with
  | nil => rfl
  | cons e l ih => exact ih (s.wr e.1 e.2)
@[simp] theorem wrs_shp (s : State) (l : List (Field × Nat)) : (s.wrs l).shp = s.shp := by
  induction l generalizing s with
  | nil => rfl
  | cons e l ih => exact ih (s.wr e.1 e.2)
@[simp] theorem wrs_msync (s : State) (l : List (Field × Nat)) : (s.wrs l).msync = s.msync := by
  induction l generalizing s with
  | nil => rfl
  | cons e l ih => exact ih (s.wr e.1 e.2)
@[simp] theorem wrs_clocks (s : State) (l : List (Field × Nat)) : (s.wrs l).clocks = s.clocks := by
  induction l generalizing s with
  | nil => rfl
  | cons e l ih => exact ih (s.wr e.1 e.2)
@[simp] theorem wrs_drv (s : State) (l : List (Field × Nat)) : (s.wrs l).drv = s.drv := by
  induction l generalizing s with
  | nil => rfl
  | cons e l ih => exact ih (s.wr e.1 e.2)
@[simp] theorem wrs_loc (s : State) (l : List (Field × Nat)) : (s.wrs l).loc = s.loc := by
  induction l generalizing s with
  | nil => rfl
  | cons e l ih => exact ih (s.wr e.1 e.2)
@[simp] theorem wrs_gl (s : State) (l : List (Field × Nat)) : (s.wrs l).gl = s.gl := by
  induction l generalizing s with
  | nil => rfl
  | cons e l ih => exact ih (s.wr e.1 e.2)
@[simp] theorem wrs_secu (s : State) (l : List (Field × Nat)) : (s.wrs l).secu = s.secu := by
  induction l generalizing s with
  | nil => rfl
  | cons e l ih => exact ih (s.wr e.1 e.2)
@[simp] theorem wrs_stw (s : State) (l : List (Field × Nat)) : (s.wrs l).stw = s.stw := by
  induction l generalizing s with
  | nil => rfl
  | cons e l ih => exact ih (s.wr e.1 e.2)
@[simp] theorem wrs_img (s : State) (l : List (Field × Nat)) : (s.wrs l).img = s.img := by
  induction l generalizing s with
  | nil => rfl
  | cons e l ih => exact ih (s.wr e.1 e.2)
@[simp] theorem wrs_hl (s : State) (l : List (Field × Nat)) : (s.wrs l).hl = s.hl := by
  induction l generalizing s with
  | nil => rfl
  | cons e l ih => exact ih (s.wr e.1 e.2)
@[simp] theorem wrs_poison (s : State) (l : List (Field × Nat)) : (s.wrs l).poison = s.poison := by
  induction l generalizing s with
  | nil => rfl
  | cons e l ih => exact ih (s.wr e.1 e.2)
@[simp] theorem wrs_evlog (s : State) (l : List (Field × Nat)) : (s.wrs l).evlog = s.evlog := by
  induction l generalizing s with
  | nil => rfl
  | cons e l ih => exact ih (s.wr e.1 e.2)
@[simp] theorem wrs_dram (s : State) (l : List (Field × Nat)) : (s.wrs l).dram = s.dram := by
  induction l generalizing s with
  | nil => rfl
  | cons e l ih => exact ih (s.wr e.1 e.2)
@[simp] theorem wrs_flashA (s : State) (l : List (Field × Nat)) : (s.wrs l).flashA = s.flashA := by
  induction l generalizing s with
  | nil => rfl
  | cons e l ih => exact ih (s.wr e.1 e.2)
@[simp] theorem wrs_flashB (s : State) (l : List (Field × Nat)) : (s.wrs l).flashB = s.flashB := by
  induction l generalizing s with
  | nil => rfl
  | cons e l ih => exact ih (s.wr e.1 e.2)
@[simp] theorem wrs_hostMem (s : State) (l : List (Field × Nat)) : (s.wrs l).hostMem = s.hostMem := by
  induction l generalizing s with
  | nil => rfl
  | cons e l ih => exact ih (s.wr e.1 e.2)

/-- A field of a state put together anew is its register store's field. -/
@[simp] theorem rd_mk (x0 : List Instr) (x1 : Answer) (x2 : Nat) (x3 : Fuse) (x4 : Straps) (x5 : Sparse Byte) (x6 : RegStore) (x7 : Sparse Nat) (x8 : Sparse Nat) (x9 : Sparse Nat) (x10 : Power) (x11 : Snapshot) (x12 : Boot) (x13 : Time) (x14 : Tk) (x15 : Can) (x16 : Eth) (x17 : Joint) (x18 : Safety) (x19 : Intake) (x20 : Fabric) (x21 : MemCtl) (x22 : Probes) (x23 : Shepherd) (x24 : Msync) (x25 : Clocks) (x26 : Drover) (x27 : Locals) (x28 : Gleaner) (x29 : Security) (x30 : Steward) (x31 : Applied) (x32 : HostLink) (x33 : Sparse Bool) (x34 : EventLog) (x35 : Sparse Byte) (x36 : Sparse Byte) (x37 : Sparse Byte) (x38 : Sparse Byte) (f : Field) :
    (State.mk x0 x1 x2 x3 x4 x5 x6 x7 x8 x9 x10 x11 x12 x13 x14 x15 x16 x17 x18 x19 x20 x21 x22 x23 x24 x25 x26 x27 x28 x29 x30 x31 x32 x33 x34 x35 x36 x37 x38).rd f = x6.rd f := rfl

@[simp] theorem rdb_mk (x0 : List Instr) (x1 : Answer) (x2 : Nat) (x3 : Fuse) (x4 : Straps) (x5 : Sparse Byte) (x6 : RegStore) (x7 : Sparse Nat) (x8 : Sparse Nat) (x9 : Sparse Nat) (x10 : Power) (x11 : Snapshot) (x12 : Boot) (x13 : Time) (x14 : Tk) (x15 : Can) (x16 : Eth) (x17 : Joint) (x18 : Safety) (x19 : Intake) (x20 : Fabric) (x21 : MemCtl) (x22 : Probes) (x23 : Shepherd) (x24 : Msync) (x25 : Clocks) (x26 : Drover) (x27 : Locals) (x28 : Gleaner) (x29 : Security) (x30 : Steward) (x31 : Applied) (x32 : HostLink) (x33 : Sparse Bool) (x34 : EventLog) (x35 : Sparse Byte) (x36 : Sparse Byte) (x37 : Sparse Byte) (x38 : Sparse Byte) (f : Field) :
    (State.mk x0 x1 x2 x3 x4 x5 x6 x7 x8 x9 x10 x11 x12 x13 x14 x15 x16 x17 x18 x19 x20 x21 x22 x23 x24 x25 x26 x27 x28 x29 x30 x31 x32 x33 x34 x35 x36 x37 x38).rdb f = (x6.rd f != 0) := rfl

@[simp] theorem regs_rd (s : State) (f : Field) : s.regs.rd f = s.rd f := rfl
@[simp] theorem answer_rd (s : State) (a b : Nat) (f : Field) : (s.answer a b).rd f = s.rd f := rfl
@[simp] theorem answer_rdb (s : State) (a b : Nat) (f : Field) : (s.answer a b).rdb f = s.rdb f := rfl
@[simp] theorem answer_rdPair (s : State) (a b : Nat) (f g : Field) : (s.answer a b).rdPair f g = s.rdPair f g := rfl
@[simp] theorem wr_railsOff (s : State) (f : Field) (v : Nat) : (s.wr f v).railsOff = s.railsOff := rfl
@[simp] theorem wr_mono (s : State) (f : Field) (v : Nat) : (s.wr f v).mono = s.mono := rfl
@[simp] theorem answer_railsOff (s : State) (a b : Nat) : (s.answer a b).railsOff = s.railsOff := rfl
@[simp] theorem answer_mono (s : State) (a b : Nat) : (s.answer a b).mono = s.mono := rfl

/-- A flag is a field read as a truth value. -/
theorem rdb_eq (s : State) (f : Field) : s.rdb f = (s.rd f != 0) := rfl

end Laws

end Sys2Proof.Machine
end

