-- ==== Sys2Proof/Laws/Regs.lean ====
section
/-! SUPPORT. What the sparse stores do: a value read after it is stored, every other key left alone, and the canonical form kept. From
these, what a register field reads after a write, and what a byte of memory reads after a write. -/

namespace Sys2Proof.Machine.Laws

variable {α : Type}

/-! ### Sparse stores -/

theorem find_insert_self (m : Sparse α) (j : Nat) (x : α) : (m.insert j x).find j = some x := by
  induction m with
  | nil => simp [Sparse.insert, Sparse.find]
  | cons e m ih =>
    obtain ⟨k, v⟩ := e
    simp only [Sparse.insert]
    split
    · simp [Sparse.find]
    · split
      · simp [Sparse.find]
      · rename_i h; simp [Sparse.find, ih, h]

theorem find_insert_ne (m : Sparse α) {i j : Nat} (x : α) (h : i ≠ j) : (m.insert j x).find i = m.find i := by
  induction m with
  | nil => simp [Sparse.insert, Sparse.find, h]
  | cons e m ih =>
    obtain ⟨k, v⟩ := e
    simp only [Sparse.insert]
    split
    · simp [Sparse.find, h]
    · split
      · rename_i hk; subst hk; simp [Sparse.find, h]
      · simp [Sparse.find, ih]

theorem find_erase_self (m : Sparse α) (j : Nat) : (m.erase j).find j = none := by
  induction m with
  | nil => rfl
  | cons e m ih =>
    obtain ⟨k, v⟩ := e
    simp only [Sparse.erase]
    split
    · exact ih
    · rename_i h; simp [Sparse.find, ih, h]

theorem find_erase_ne (m : Sparse α) {i j : Nat} (h : i ≠ j) : (m.erase j).find i = m.find i := by
  induction m with
  | nil => rfl
  | cons e m ih =>
    obtain ⟨k, v⟩ := e
    simp only [Sparse.erase]
    split
    · rename_i hk; subst hk; simp [Sparse.find, ih, h]
    · simp [Sparse.find, ih]

variable [DecidableEq α]

theorem get_put_self (m : Sparse α) (d : α) (j : Nat) (x : α) : (m.put d j x).get d j = x := by
  unfold Sparse.put Sparse.get
  split
  · rename_i h; simp [find_erase_self, h]
  · simp [find_insert_self]

theorem get_put_ne (m : Sparse α) (d : α) {i j : Nat} (x : α) (h : i ≠ j) : (m.put d j x).get d i = m.get d i := by
  unfold Sparse.put Sparse.get
  split
  · rw [find_erase_ne m h]
  · rw [find_insert_ne m x h]

/-! ### Canonical form -/

/-- Every key of a store is above a number. -/
def Above (k : Nat) (m : Sparse α) : Prop := ∀ e ∈ m, k < e.1

omit [DecidableEq α] in
theorem sorted_cons (k : Nat) (v : α) (m : Sparse α) : Sparse.sorted ((k, v) :: m) = true ↔ Above k m ∧ m.sorted = true := by
  induction m generalizing k v with
  | nil => simp [Sparse.sorted, Above]
  | cons e m ih =>
    obtain ⟨j, y⟩ := e
    rw [Sparse.sorted, Bool.and_eq_true, decide_eq_true_iff, ih j y]
    constructor
    · rintro ⟨hk, hj, hm⟩
      refine ⟨fun e he => ?_, hj, hm⟩
      rcases List.mem_cons.1 he with rfl | he
      · exact hk
      · exact Nat.lt_trans hk (hj e he)
    · rintro ⟨h, hj, hm⟩
      exact ⟨h _ List.mem_cons_self, hj, hm⟩

omit [DecidableEq α] in
theorem above_insert {k j : Nat} {m : Sparse α} (x : α) (h : Above k m) (hj : k < j) : Above k (m.insert j x) := by
  induction m with
  | nil => intro e he; simp [Sparse.insert] at he; simp [he, hj]
  | cons e m ih =>
    obtain ⟨i, v⟩ := e
    have ih := ih fun e he => h e (List.mem_cons_of_mem _ he)
    have h1 : k < i := h (i, v) List.mem_cons_self
    intro e he
    simp only [Sparse.insert] at he
    split at he
    · rcases List.mem_cons.1 he with rfl | he
      · exact hj
      · exact h e he
    · split at he
      · rcases List.mem_cons.1 he with rfl | he
        · exact hj
        · exact h e (List.mem_cons_of_mem _ he)
      · rcases List.mem_cons.1 he with rfl | he
        · exact h1
        · exact ih e he

omit [DecidableEq α] in
theorem sorted_insert (m : Sparse α) (j : Nat) (x : α) (h : m.sorted = true) : (m.insert j x).sorted = true := by
  induction m with
  | nil => rfl
  | cons e m ih =>
    obtain ⟨k, v⟩ := e
    have hs := (sorted_cons k v m).1 h
    simp only [Sparse.insert]
    split
    · rename_i hj
      refine (sorted_cons _ _ _).2 ⟨fun e he => ?_, h⟩
      rcases List.mem_cons.1 he with rfl | he
      · exact hj
      · exact Nat.lt_trans hj (hs.1 e he)
    · split
      · rename_i hk; subst hk; exact (sorted_cons _ _ _).2 hs
      · exact (sorted_cons _ _ _).2 ⟨above_insert x hs.1 (by omega), ih hs.2⟩

omit [DecidableEq α] in
theorem mem_erase {m : Sparse α} {j : Nat} {e : Nat × α} (h : e ∈ m.erase j) : e ∈ m := by
  induction m with
  | nil => exact h
  | cons f m ih =>
    obtain ⟨k, v⟩ := f
    simp only [Sparse.erase] at h
    split at h
    · exact List.mem_cons_of_mem _ (ih h)
    · rcases List.mem_cons.1 h with rfl | h
      · exact List.mem_cons_self
      · exact List.mem_cons_of_mem _ (ih h)

omit [DecidableEq α] in
theorem sorted_erase (m : Sparse α) (j : Nat) (h : m.sorted = true) : (m.erase j).sorted = true := by
  induction m with
  | nil => rfl
  | cons e m ih =>
    obtain ⟨k, v⟩ := e
    have hs := (sorted_cons k v m).1 h
    simp only [Sparse.erase]
    split
    · exact ih hs.2
    · exact (sorted_cons _ _ _).2 ⟨fun e he => hs.1 e (mem_erase he), ih hs.2⟩

theorem sorted_put (m : Sparse α) (d : α) (j : Nat) (x : α) (h : m.sorted = true) : (m.put d j x).sorted = true := by
  unfold Sparse.put
  split
  · exact sorted_erase m j h
  · exact sorted_insert m j x h

omit [DecidableEq α] in
theorem mem_insert {m : Sparse α} {j : Nat} {x : α} {e : Nat × α} (h : e ∈ m.insert j x) : e = (j, x) ∨ e ∈ m := by
  induction m with
  | nil => simpa [Sparse.insert] using h
  | cons f m ih =>
    obtain ⟨k, v⟩ := f
    simp only [Sparse.insert] at h
    split at h
    · simpa using h
    · split at h
      · rcases List.mem_cons.1 h with h | h
        · exact .inl h
        · exact .inr (List.mem_cons_of_mem _ h)
      · rcases List.mem_cons.1 h with rfl | h
        · exact .inr List.mem_cons_self
        · exact (ih h).imp id (List.mem_cons_of_mem _)

omit [DecidableEq α] in
theorem sorted_keep (m : Sparse α) (p : Nat → Bool) (h : m.sorted = true) : (m.keep p).sorted = true := by
  induction m with
  | nil => rfl
  | cons e m ih =>
    obtain ⟨k, v⟩ := e
    have hs := (sorted_cons k v m).1 h
    unfold Sparse.keep at ih ⊢
    rw [List.filter_cons]
    split
    · exact (sorted_cons _ _ _).2 ⟨fun e he => hs.1 e (List.mem_filter.1 he).1, ih hs.2⟩
    · exact ih hs.2

/-! ### Memories -/

theorem memWf_put (m : Sparse Byte) (d : Byte) (a : Nat) (b : Byte) (h : memWf d m = true) : memWf d (m.put d a b) = true := by
  unfold memWf at *
  rw [Bool.and_eq_true] at *
  refine ⟨sorted_put m d a b h.1, List.all_eq_true.2 fun e he => ?_⟩
  have hm := List.all_eq_true.1 h.2
  unfold Sparse.put at he
  split at he
  · exact hm e (mem_erase he)
  · rename_i hb
    rcases mem_insert he with rfl | he
    · simpa using hb
    · exact hm e he

/-- A write keeps the canonical form. -/
theorem memWf_writeMem (m : Sparse Byte) (d : Byte) (a : Nat) (b : Bytes) (h : memWf d m = true) : memWf d (writeMem m d a b) = true := by
  induction b generalizing m a with
  | nil => exact h
  | cons x b ih => exact ih _ _ (memWf_put m d a x h)

/-- Erasing a range keeps the canonical form. -/
theorem memWf_keep (m : Sparse Byte) (d : Byte) (p : Nat → Bool) (h : memWf d m = true) : memWf d (m.keep p) = true := by
  unfold memWf at *
  rw [Bool.and_eq_true] at *
  exact ⟨sorted_keep m p h.1, List.all_eq_true.2 fun e he => List.all_eq_true.1 h.2 e (List.mem_filter.1 he).1⟩

/-- A byte outside the bytes written reads as before. -/
theorem get_writeMem_out (m : Sparse Byte) (d : Byte) (a : Nat) (b : Bytes) (i : Nat) (h : i < a ∨ a + b.length ≤ i) :
    (writeMem m d a b).get d i = m.get d i := by
  induction b generalizing m a with
  | nil => rfl
  | cons x b ih =>
    rw [List.length_cons] at h
    rw [writeMem, ih _ _ (by omega), get_put_ne _ _ _ (by omega)]

/-- A byte written reads as written. -/
theorem get_writeMem_in (m : Sparse Byte) (d : Byte) (a : Nat) (b : Bytes) (i : Nat) (h : i < b.length) :
    (writeMem m d a b).get d (a + i) = b[i] := by
  induction b generalizing m a i with
  | nil => simp at h
  | cons x b ih =>
    rw [writeMem]
    cases i with
    | zero => rw [get_writeMem_out _ _ _ _ _ (by omega), Nat.add_zero, get_put_self]; rfl
    | succ i =>
      rw [List.length_cons] at h
      have := ih (m.put d a x) (a + 1) i (by omega)
      rwa [show a + (i + 1) = a + 1 + i by omega]

/-- What was written is read back. -/
theorem readMem_writeMem (m : Sparse Byte) (d : Byte) (a : Nat) (b : Bytes) : readMem (writeMem m d a b) d a b.length = b := by
  apply List.ext_getElem
  · simp [readMem]
  · intro i h _
    simp [readMem] at h ⊢
    exact get_writeMem_in m d a b i h

/-! ### Register fields -/

/-- A field reads what was written, cut to its width. -/
theorem rd_wr_self (s : State) (f : Field) (v : Nat) : (s.wr f v).rd f = v % 2 ^ f.width :=
  get_put_self s.regs f.reset f.key (v % 2 ^ f.width)

/-- A write of one field leaves every other field alone. -/
theorem rd_wr_ne (s : State) {f g : Field} (v : Nat) (h : g.key ≠ f.key) : (s.wr f v).rd g = s.rd g := by
  unfold State.wr State.rd RegStore.rd RegStore.wr Sparse.put
  split
  · simp only [find_erase_ne _ h]
  · simp only [find_insert_ne _ _ h]

/-- The same of a flag. -/
theorem rdb_wr_ne (s : State) {f g : Field} (v : Nat) (h : g.key ≠ f.key) : (s.wr f v).rdb g = s.rdb g := by
  rw [rdb_eq, rdb_eq, rd_wr_ne s v h]

/-- A write of a register touches nothing else of the state. -/
theorem wr_eq (s : State) (f : Field) (v : Nat) : s.wr f v = { s with regs := s.regs.wr f v } := rfl

/-- A list of writes, one after the other. -/
theorem wrs_nil (s : State) : s.wrs [] = s := rfl
theorem wrs_cons (s : State) (f : Field) (v : Nat) (l : List (Field × Nat)) : s.wrs ((f, v) :: l) = (s.wr f v).wrs l := rfl

/-- A list of writes leaves alone the fields it does not name. -/
theorem rd_wrs_ne (s : State) (l : List (Field × Nat)) {g : Field} (h : ∀ e ∈ l, g.key ≠ e.1.key) : (s.wrs l).rd g = s.rd g := by
  induction l generalizing s with
  | nil => rfl
  | cons e l ih =>
    rw [show s.wrs (e :: l) = (s.wr e.1 e.2).wrs l from rfl, ih _ fun x hx => h x (List.mem_cons_of_mem _ hx),
      rd_wr_ne _ _ (h e List.mem_cons_self)]

/-- A loop whose every round keeps a part of the state keeps it. -/
theorem foldl_keep {β γ : Type} (p : State → γ) (l : List β) (g : State → β → State) (h : ∀ s x, p (g s x) = p s) (s : State) :
    p (l.foldl g s) = p s := by
  induction l generalizing s with
  | nil => rfl
  | cons x l ih => rw [List.foldl_cons, ih, h]

end Sys2Proof.Machine.Laws
end

