-- ==== Sys2Proof/Laws/Access.lean ====
section
/-! SUPPORT. What a permitted access does, said once: outside the blocks of the engines, the fabric's table of PIDs and the table of island clocks
every register is there, and an access that is answered OK runs its effect on the state that holds the answer. -/

namespace Sys2Proof.Machine.Laws

open Sys2Proof Sys2Proof.Machine Sys2Proof.Machine.Reg

/-- A register outside the blocks of engines, the fabric's registers of a PID and the island clocks is there on every grade. -/
theorem inert_of_elsewhere (s : State) (a : Nat) (h1 : a < 0x13000 ∨ 0x14000 ≤ a) (h2 : a < 0x100000 ∨ 0x180000 ≤ a)
    (h3 : a < 0x221000 ∨ 0x222300 ≤ a) : inert s a = false := by
  have b : absentBlock s a = false := by simp only [absentBlock, Bool.and_eq_false_iff, decide_eq_false_iff_not]; omega
  have p : absentPid s a = false := by simp only [absentPid]; split; omega; split; omega; rfl
  have r : reservedIsland s a = false := by
    simp only [reservedIsland, List.any_eq_false]
    intro n hn
    have := List.mem_range.1 hn
    simp [CLK_ISL_CUR]
    omega
  simp [inert, b, p, r]

/-- A permitted write of a register that is there runs its effect on the state with the answer OK. -/
theorem guarded_of_permitted (w : Writer) (a : Nat) (f : State → State) (s : State) (h : writeStatus s w.master a = 0)
    (hi : inert s a = false) : guarded w a f s = f (s.answer 0 0) := by simp [guarded, h, hi]

/-- A permitted read of a register that is there answers its word after its effect. -/
theorem guardedRead_of_permitted (w : Writer) (a d : Nat) (f : State → State) (s : State) (h : readStatus s w.master a = 0)
    (hi : inert s a = false) : guardedRead w a d f s = (f s).answer 0 d := by simp [guardedRead, h, hi]

@[simp] theorem rd_answer (s : State) (f : Machine.Field) (c d : Nat) : (s.answer c d).rd f = s.rd f := rfl

@[simp] theorem rdb_answer (s : State) (f : Machine.Field) (c d : Nat) : (s.answer c d).rdb f = s.rdb f := rfl

end Sys2Proof.Machine.Laws
end

