-- ==== Sys2Proof/Laws/FixedA.lean ====
section
/-! SUPPORT. What every operation and every meaning leaves of the fixed part of the state (queue, fuses, OTP): one lemma per definition,
in the order in which they call each other. Part 1 of 4. -/

namespace Sys2Proof.Machine.Laws

theorem fixed_answer (s : State) (status : Nat) (data : Nat) : (State.answer s status data).fixed = s.fixed := by
  unfold State.answer; simp only [fixed_bus]

theorem fixed_wr (s : State) (f : Field) (v : Nat) : (State.wr s f v).fixed = s.fixed := by
  unfold State.wr; simp only [fixed_regs]

theorem fixed_clr (s : State) (f : Field) : (State.clr s f).fixed = s.fixed := by
  unfold State.clr; simp only [↓fixed_wr]

theorem fixed_free (s : State) : (State.free s).2.fixed = s.fixed := by
  unfold State.free; simp only [fixed_freeCount]

theorem fixed_inc (s : State) (f : Field) (n : optParam Nat 1) : (State.inc s f n).fixed = s.fixed := by
  unfold State.inc; simp only [↓fixed_wr]

theorem fixed_incWrap (s : State) (f : Field) (n : optParam Nat 1) : (State.incWrap s f n).fixed = s.fixed := by
  unfold State.incWrap; simp only [↓fixed_wr]

theorem fixed_stFlash (s : State) (p : Nat) (a : Nat) (b : Bytes) : (State.stFlash s p a b).fixed = s.fixed := by
  unfold State.stFlash; simp only [↓fixed_ite, fixed_flashA, fixed_flashB, ite_self]

theorem fixed_progFlash (s : State) (p : Nat) (a : Nat) (b : Bytes) : (State.progFlash s p a b).fixed = s.fixed := by
  unfold State.progFlash; simp only [↓fixed_stFlash]

theorem fixed_set (s : State) (f : Field) : (State.set s f).fixed = s.fixed := by
  unfold State.set; simp only [↓fixed_wr]

theorem fixed_st (s : State) (a : Nat) (b : Bytes) : (State.st s a b).fixed = s.fixed := by
  unfold State.st; simp only [fixed_dram]

theorem fixed_wrPair (s : State) (lo : Field) (hi : Field) (v : Nat) : (State.wrPair s lo hi v).fixed = s.fixed := by
  unfold State.wrPair; simp only [↓fixed_wr]

theorem fixed_wrs (s : State) (l : List (Field × Nat)) : (State.wrs s l).fixed = s.fixed := by
  unfold State.wrs; simp only [↓fixed_wr, fixed_foldl, implies_true]

theorem fixed_setReqs (s : State) (l : List CanReq) : (setReqs s l).fixed = s.fixed := by
  unfold setReqs; simp only [fixed_can]

theorem fixed_unbookLaunch (p : LaunchEntry → Bool) (s : State) : (unbookLaunch p s).fixed = s.fixed := by
  unfold unbookLaunch; simp only [↓fixed_wr, fixed_tk]

theorem fixed_dropReqs (p : CanReq → Bool) (s : State) : (dropReqs p s).fixed = s.fixed := by
  unfold dropReqs; simp only [↓fixed_clr, ↓fixed_setReqs, ↓fixed_unbookLaunch, fixed_foldl, implies_true]

theorem fixed_setPieces (l : List Piece) (s : State) : (setPieces l s).fixed = s.fixed := by
  unfold setPieces; simp only [↓fixed_wrs, fixed_fab, fixed_foldl, implies_true]

theorem fixed_noteTimeout (p : Nat) (tgt : Nat) (tag : Nat) (addr : Nat) (sv : Bool) (s : State) : (noteTimeout p tgt tag addr sv s).fixed = s.fixed := by
  unfold noteTimeout
  repeat' first | simp only [↓fixed_ite, ↓fixed_inc, ↓fixed_wrs, fixed_fab, ite_self] | split

theorem fixed_portTimeout (z : Piece) (sv : Bool) (s : State) : (portTimeout z sv s).fixed = s.fixed := by
  unfold portTimeout
  repeat' first | simp only [↓fixed_noteTimeout, ↓fixed_setPieces, fixed_fab] | split

theorem fixed_windowViolation (m : Nat) (tid : Nat) (a : Nat) (write : Bool) (s : State) : (windowViolation m tid a write s).fixed = s.fixed := by
  unfold windowViolation; simp only [↓fixed_ite, ↓fixed_inc, ↓fixed_wrs, ite_self]

theorem fixed_noteForbidden (t : Nat) (a : Nat) (n : Nat) (write : Bool) (s : State) : (noteForbidden t a n write s).fixed = s.fixed := by
  unfold noteForbidden
  repeat' first | simp only [↓fixed_ite, ↓fixed_inc, ↓fixed_windowViolation, ite_self] | split

theorem fixed_pushEvent (s : State) (e : EventRec) : (pushEvent s e).fixed = s.fixed := by
  unfold pushEvent; simp only [↓fixed_ite, ↓fixed_wr, ↓fixed_inc, ↓fixed_set, fixed_evlog, ite_self]

theorem fixed_postInj (inj : Bool) (code : Nat) (src : Nat) (args : List Nat) (s : State) : (postInj inj code src args s).fixed = s.fixed := by
  unfold postInj; simp only [↓fixed_pushEvent]

theorem fixed_post (code : Nat) (src : Nat) (args : List Nat) (s : State) : (post code src args s).fixed = s.fixed := by
  unfold post; simp only [↓fixed_postInj]

theorem fixed_captureUnc (u : Nat) (kind : Nat) (pid : Nat) (s : State) : (captureUnc u kind pid s).fixed = s.fixed := by
  unfold captureUnc
  repeat' first | simp only [↓fixed_ite, ↓fixed_post, ↓fixed_wrs, ite_self] | split

theorem fixed_meetUnit (pid : Nat) (u : Nat) (s : State) : (meetUnit pid u s).fixed = s.fixed := by
  unfold meetUnit
  repeat' first | simp only [↓fixed_ite, ↓fixed_captureUnc, ↓fixed_inc, ite_self, fixed_mk, fixed_eta] | split | refine (fixed_foldl _ _ (fun s x => ?_) _).trans ?_ | refine (fixed_foldl_snd _ _ (fun s x => ?_) _).trans ?_

theorem fixed_meetUnits (pid : Nat) (a : Nat) (n : Nat) (p : Nat → Bool) (s : State) : (meetUnits pid a n p s).fixed = s.fixed := by
  unfold meetUnits
  repeat' first | simp only [↓fixed_meetUnit, fixed_foldl, implies_true] | split

theorem fixed_storeUnits (a : Nat) (b : Bytes) (s : State) : (storeUnits a b s).fixed = s.fixed := by
  unfold storeUnits
  repeat' first | simp only [↓fixed_st, fixed_mk, fixed_eta] | split | refine (fixed_foldl _ _ (fun s x => ?_) _).trans ?_ | refine (fixed_foldl_snd _ _ (fun s x => ?_) _).trans ?_

theorem fixed_ctlWrite (pid : Nat) (t : Nat) (a : Nat) (b : Bytes) (s : State) : (ctlWrite pid t a b s).2.fixed = s.fixed := by
  unfold ctlWrite
  repeat' first | simp only [↓fixed_ite_snd, ↓fixed_inc, ↓fixed_meetUnits, ↓fixed_noteForbidden, ↓fixed_storeUnits, ite_self] | split

theorem fixed_pieceWrite (pid t base : Nat) (b : Bytes) (r : Nat × State) (e : Nat × Nat) : (pieceWrite pid t base b r e).2.fixed = r.2.fixed := by
  unfold pieceWrite
  repeat' first | simp only [↓fixed_inc, ↓fixed_portTimeout, ↓fixed_ctlWrite] | split

theorem fixed_memWrite (s : State) (pid t a : Nat) (b : Bytes) : (memWrite s pid t a b).2.fixed = s.fixed := by
  unfold memWrite
  split
  · exact fixed_ctlWrite _ _ _ _ _
  · exact fixed_foldl_snd _ _ (fixed_pieceWrite pid t a b) (0, s)

theorem fixed_countOutcome (stream : Nat) (act : Nat) (pseq : Nat) (outcome : Nat) (s : State) : (countOutcome stream act pseq outcome s).fixed = s.fixed := by
  unfold countOutcome; simp only [↓fixed_ite, ↓fixed_clr, ↓fixed_inc, ↓fixed_post, ↓fixed_set, ↓fixed_wr, ite_self]

theorem fixed_modifyFlights (s : State) (p : Flight → Bool) (g : Flight → Flight) : (modifyFlights s p g).fixed = s.fixed := by
  unfold modifyFlights; simp only [fixed_drv]

theorem fixed_settleAt (q : Nat) (idx : Nat) (r : Result) (s : State) : (settleAt q idx r s).fixed = s.fixed := by
  unfold settleAt; simp only [↓fixed_modifyFlights]

theorem fixed_endDecision (d : Decision) (outcome : Nat) (aux : Nat) (s : State) : (endDecision d outcome aux s).fixed = s.fixed := by
  unfold endDecision
  repeat' first | simp only [↓fixed_countOutcome, ↓fixed_memWrite, ↓fixed_settleAt, fixed_safety] | split

theorem fixed_putSlot (o : Nat) (b : Bytes) (s : State) : (putSlot o b s).fixed = s.fixed := by
  unfold putSlot; simp only [↓fixed_wr, fixed_foldl, implies_true]

theorem fixed_addReq (r : CanReq) (s : State) : (addReq r s).fixed = s.fixed := by
  unfold addReq; simp only [↓fixed_set, ↓fixed_setReqs]

theorem fixed_showHeld (port : Nat) (queue : Nat) (s : State) : (showHeld port queue s).fixed = s.fixed := by
  unfold showHeld; simp only [↓fixed_wr]

theorem fixed_setUse (a : Nat) (v : Nat) (s : State) : (setUse a v s).fixed = s.fixed := by
  unfold setUse; simp only [↓fixed_wr]

theorem fixed_takeCells (a : Nat) (c : Nat) (s : State) : (takeCells a c s).fixed = s.fixed := by
  unfold takeCells; simp only [↓fixed_setUse]

theorem fixed_holdFrame (f : EthFrame) (s : State) : (holdFrame f s).fixed = s.fixed := by
  unfold holdFrame; simp only [↓fixed_showHeld, ↓fixed_takeCells, fixed_eth]

theorem fixed_putTemplate (e : Bytes) (d : FillData) (mf : MotorFrame) (rank : Nat) (wait : Option Nat) (close : Option Nat) (s : State) : (putTemplate e d mf rank wait close s).2.fixed = s.fixed := by
  unfold putTemplate; simp only [↓fixed_ite, ↓fixed_ite_snd, ↓fixed_wr, ↓fixed_putSlot, ↓fixed_addReq, ↓fixed_inc, ↓fixed_holdFrame, ite_self]

theorem fixed_freeCells (a : Nat) (c : Nat) (s : State) : (freeCells a c s).fixed = s.fixed := by
  unfold freeCells; simp only [↓fixed_setUse]

theorem fixed_releaseFrames (p : EthFrame → Bool) (s : State) : (releaseFrames p s).fixed = s.fixed := by
  unfold releaseFrames; simp only [↓fixed_showHeld, ↓fixed_freeCells, fixed_eth, fixed_foldl, implies_true]

theorem fixed_withdraw (p : MotorFrame → Bool) (s : State) : (withdraw p s).fixed = s.fixed := by
  unfold withdraw
  repeat' first | simp only [↓fixed_ite, ↓fixed_clr, ↓fixed_dropReqs, ↓fixed_releaseFrames, ↓fixed_unbookLaunch, fixed_can, fixed_foldl, ite_self, implies_true] | split

theorem fixed_sendWith (again : Nat → Nat → Nat → State → State) (h : ∀ a b c s, (again a b c s).fixed = s.fixed) (e : Bytes)
    (kind act : Nat) (s : State) : (sendWith again e kind act s).fixed = s.fixed := by
  unfold sendWith yieldTo
  simp only [fixed_putTemplate, fixed_withdraw]
  refine fixed_foldl _ _ (fun s d => ?_) _
  split
  · simp only [↓fixed_ite, h, ↓fixed_withdraw, ↓fixed_endDecision, ite_self]
  · simp only [fixed_withdraw, fixed_endDecision]

theorem fixed_sendPriority (fuel tidx kind act : Nat) (s : State) : (sendPriority fuel tidx kind act s).fixed = s.fixed := by
  induction fuel generalizing tidx kind act s with
  | zero => rfl
  | succ fuel ih =>
    unfold sendPriority
    split
    · rfl
    · rw [fixed_ite, fixed_sendWith _ ih, ite_self]

theorem fixed_safeReaction (act : Nat) (s : State) : (safeReaction act s).fixed = s.fixed := by
  unfold safeReaction
  repeat' first | simp only [↓fixed_ite, ↓fixed_sendPriority, ite_self] | split

theorem fixed_lateMotor (mf : MotorFrame) (begun : Bool) (s : State) : (lateMotor mf begun s).fixed = s.fixed := by
  unfold lateMotor
  repeat' first | simp only [↓fixed_ite, ↓fixed_clr, ↓fixed_safeReaction, ↓fixed_post, ↓fixed_withdraw, ↓fixed_endDecision, ite_self] | split

theorem fixed_abandonReq (r : CanReq) (s : State) : (abandonReq r s).fixed = s.fixed := by
  unfold abandonReq
  repeat' first | simp only [↓fixed_ite, ↓fixed_dropReqs, ↓fixed_inc, ↓fixed_lateMotor, ↓fixed_unbookLaunch, ↓fixed_wr, ↓fixed_settleAt, ite_self] | split

theorem fixed_abandonAll (p : CanReq → Bool) (s : State) : (abandonAll p s).fixed = s.fixed := by
  unfold abandonAll; simp only [↓fixed_abandonReq, fixed_foldl, implies_true]

theorem fixed_setVolt (k : Nat) (v : Nat) (s : State) : (setVolt k v s).fixed = s.fixed := by
  unfold setVolt
  repeat' first | simp only [fixed_clocks] | split

theorem fixed_abandonSwitch (s : State) (c : Nat) : (abandonSwitch s c).fixed = s.fixed := by
  unfold abandonSwitch
  repeat' first | simp only [↓fixed_setVolt, ↓fixed_wr] | split

theorem fixed_abandonDvfs (s : State) : (abandonDvfs s).fixed = s.fixed := by
  unfold abandonDvfs
  repeat' first | simp only [↓fixed_abandonSwitch, fixed_clocks, fixed_foldl, implies_true] | split

theorem fixed_setTxts (s : State) (n : Nat) (l : List TxStamp) : (setTxts s n l).fixed = s.fixed := by
  unfold setTxts; simp only [fixed_tk]

theorem fixed_pushTxts (n : Nat) (t : TxStamp) (s : State) : (pushTxts n t s).fixed = s.fixed := by
  unfold pushTxts; simp only [↓fixed_ite, ↓fixed_setTxts, ↓fixed_inc, ↓fixed_set, ite_self]

theorem fixed_countAbandoned (f : EthFrame) (s : State) : (countAbandoned f s).fixed = s.fixed := by
  unfold countAbandoned; simp only [↓fixed_ite, ↓fixed_inc, ↓fixed_pushTxts, ite_self]

theorem fixed_abandonFrame (f : EthFrame) (s : State) : (abandonFrame f s).fixed = s.fixed := by
  unfold abandonFrame
  repeat' first | simp only [↓fixed_releaseFrames, ↓fixed_unbookLaunch, ↓fixed_countAbandoned, ↓fixed_lateMotor, ↓fixed_settleAt] | split

theorem fixed_abandonFrames (p : EthFrame → Bool) (s : State) : (abandonFrames p s).fixed = s.fixed := by
  unfold abandonFrames; simp only [↓fixed_abandonFrame, fixed_foldl, implies_true]

theorem fixed_putSeq (i : Nat) (o : Nat) (b : Bytes) (s : State) : (putSeq i o b s).fixed = s.fixed := by
  unfold putSeq; simp only [↓fixed_st]

theorem fixed_setSeqState (i : Nat) (v : Nat) (s : State) : (setSeqState i v s).fixed = s.fixed := by
  unfold setSeqState; simp only [↓fixed_putSeq]

theorem fixed_showFlock (f : Nat) (s : State) : (showFlock f s).fixed = s.fixed := by
  unfold showFlock; simp only [↓fixed_wrs]

theorem fixed_admitFlock (f : Nat) (s : State) : (admitFlock f s).fixed = s.fixed := by
  unfold admitFlock; simp only [↓fixed_ite, ↓fixed_setSeqState, ↓fixed_showFlock, fixed_foldl, ite_self, implies_true]

theorem fixed_showColumn (c : Nat) (s : State) : (showColumn c s).fixed = s.fixed := by
  unfold showColumn
  repeat' first | simp only [↓fixed_ite, ↓fixed_wrs, ite_self] | split

theorem fixed_addServed (k : Nat) (n : Nat) (s : State) : (addServed k n s).fixed = s.fixed := by
  unfold addServed
  repeat' first | simp only [fixed_drv] | split

theorem fixed_countStretch (t : EngineStep) (s : State) : (countStretch t s).fixed = s.fixed := by
  unfold countStretch; simp only [↓fixed_inc, ↓fixed_addServed]

theorem fixed_closeStep (t : EngineStep) (s : State) : (closeStep t s).fixed = s.fixed := by
  unfold closeStep
  repeat' first | simp only [↓fixed_countStretch, ↓fixed_addServed, ↓fixed_admitFlock, ↓fixed_showColumn, fixed_drv] | split

theorem fixed_freeSeq (i : Nat) (s : State) : (freeSeq i s).fixed = s.fixed := by
  unfold freeSeq; simp only [↓fixed_setSeqState, fixed_drv]

theorem fixed_leaveFlock (r : SeqRef) (status : Nat) (s : State) : (leaveFlock r status s).fixed = s.fixed := by
  unfold leaveFlock; simp only [↓fixed_modifyFlights, ↓fixed_freeSeq]

theorem fixed_mergeFlightRef (q : Nat) (idx : Nat) (ref : Ref) (s : State) : (mergeFlightRef q idx ref s).fixed = s.fixed := by
  unfold mergeFlightRef; simp only [↓fixed_modifyFlights]

theorem fixed_mergeSeqLedger (i : Nat) (l : Ledger) (s : State) : (mergeSeqLedger i l s).fixed = s.fixed := by
  unfold mergeSeqLedger; simp only [↓fixed_putSeq]

theorem fixed_abandonStep (t : EngineStep) (status : Nat) (s : State) : (abandonStep t status s).fixed = s.fixed := by
  unfold abandonStep
  repeat' first | simp only [↓fixed_closeStep, ↓fixed_leaveFlock, ↓fixed_mergeFlightRef, ↓fixed_mergeSeqLedger] | split | refine (fixed_foldl _ _ (fun s x => ?_) _).trans ?_

theorem fixed_abandonUpdate (s : State) : (abandonUpdate s).fixed = s.fixed := by
  unfold abandonUpdate; simp only [↓fixed_ite, ↓fixed_wrs, ite_self]

theorem fixed_endFlights (p : Flight → Bool) (status : Nat) (s : State) : (endFlights p status s).fixed = s.fixed := by
  unfold endFlights; simp only [↓fixed_modifyFlights]

theorem fixed_abortFlights (p : Flight → Bool) (s : State) : (abortFlights p s).fixed = s.fixed := by
  unfold abortFlights; simp only [↓fixed_endFlights]

theorem fixed_sendMsix (v : Nat) (s : State) : (sendMsix v s).fixed = s.fixed := by
  unfold sendMsix; simp only [↓fixed_ite, ↓fixed_inc, fixed_hostMem, ite_self]

theorem fixed_raiseVector (v : Nat) (s : State) : (raiseVector v s).fixed = s.fixed := by
  unfold raiseVector; simp only [↓fixed_ite, ↓fixed_wr, ↓fixed_inc, ↓fixed_sendMsix, fixed_hl, ite_self]

theorem fixed_accountIrq (q : Nat) (eligible : Bool) (err : Bool) (s : State) : (accountIrq q eligible err s).fixed = s.fixed := by
  unfold accountIrq; simp only [↓fixed_ite, ↓fixed_raiseVector, fixed_drv, ite_self]

theorem fixed_addBlocks (c : Nat) (n : Nat) (s : State) : (addBlocks c n s).fixed = s.fixed := by
  unfold addBlocks; simp only [↓fixed_wrPair]

theorem fixed_addLatSum (p : Nat) (l : Nat) (s : State) : (addLatSum p l s).fixed = s.fixed := by
  unfold addLatSum; simp only [↓fixed_ite, fixed_prb, ite_self]

theorem fixed_addSources (f : Field) (l : List Nat) (s : State) : (addSources f l s).fixed = s.fixed := by
  unfold addSources; simp only [↓fixed_wr]

theorem fixed_applyDuty (s : State) : (applyDuty s).fixed = s.fixed := by
  unfold applyDuty; simp only [↓fixed_wr]

theorem fixed_lowerColumns (l : List (Nat × Nat)) (s : State) : (lowerColumns l s).fixed = s.fixed := by
  unfold lowerColumns
  repeat' first | simp only [↓fixed_ite, ↓fixed_wr, fixed_foldl, ite_self, implies_true] | split

theorem fixed_advance (s : State) : (advance s).fixed = s.fixed := by
  unfold advance
  repeat' first | simp only [↓fixed_applyDuty, ↓fixed_lowerColumns, fixed_stw] | split

theorem fixed_captureCause (q : Nat) (cause : Nat) (s : State) : (captureCause q cause s).fixed = s.fixed := by
  unfold captureCause; simp only [↓fixed_ite, ↓fixed_wr, ↓fixed_set, ite_self]

theorem fixed_modifyLast (s : State) (q : Nat) (g : Flight → Flight) : (modifyLast s q g).fixed = s.fixed := by
  unfold modifyLast; simp only [fixed_drv]

theorem fixed_launch (s : State) (q : Nat) (unit : Nat) (c : Bytes) : (launch s q unit c).fixed = s.fixed := by
  unfold launch; simp only [↓fixed_wr, fixed_drv]

theorem fixed_noteCtlRead (pid : Nat) (t : Nat) (a : Nat) (n : Nat) (s : State) : (noteCtlRead pid t a n s).fixed = s.fixed := by
  unfold noteCtlRead
  repeat' first | simp only [↓fixed_ite, ↓fixed_meetUnits, ↓fixed_noteForbidden, ite_self] | split

theorem fixed_notePiece (pid : Nat) (t : Nat) (e : Nat × Nat) (s : State) : (notePiece pid t e s).fixed = s.fixed := by
  unfold notePiece
  repeat' first | simp only [↓fixed_ite, ↓fixed_inc, ↓fixed_noteCtlRead, ↓fixed_portTimeout, ite_self] | split

theorem fixed_noteRead (pid : Nat) (t : Nat) (a : Nat) (n : Nat) (s : State) : (noteRead pid t a n s).fixed = s.fixed := by
  unfold noteRead
  repeat' first | simp only [↓fixed_ite, ↓fixed_meetUnits, ↓fixed_notePiece, fixed_foldl, ite_self, implies_true] | split

theorem fixed_pump (q : Nat) (s : State) : (pump q s).fixed = s.fixed := by
  unfold pump
  repeat' first | simp only [↓fixed_ite, ↓fixed_captureCause, ↓fixed_launch, ↓fixed_modifyLast, ↓fixed_noteRead, ↓fixed_wr, fixed_drv, ite_self] | split

theorem fixed_advanceHead (q : Nat) (n : Nat) (v : Nat) (s : State) : (advanceHead q n v s).fixed = s.fixed := by
  unfold advanceHead
  repeat' first | simp only [↓fixed_ite, ↓fixed_inc, ↓fixed_pump, ↓fixed_set, ↓fixed_wr, ite_self] | split

theorem fixed_advanceSeq (t : EngineStep) (s : State) (e : Nat × Nat) (stop : Bool) : (advanceSeq t s e stop).fixed = s.fixed := by
  unfold advanceSeq
  repeat' first | simp only [↓fixed_ite, ↓fixed_putSeq, ↓fixed_mergeSeqLedger, ↓fixed_mergeFlightRef, ↓fixed_leaveFlock, ↓fixed_setSeqState, ite_self] | split

theorem fixed_advanceTail (q : Nat) (n : Nat) (v : Nat) (s : State) : (advanceTail q n v s).fixed = s.fixed := by
  unfold advanceTail
  repeat' first | simp only [↓fixed_ite, ↓fixed_inc, ↓fixed_pump, ↓fixed_set, ↓fixed_wr, ite_self] | split

theorem fixed_after (o : Out) (s : State) (h : ∀ t, o = .next t → t.fixed = s.fixed) : (after o s).fixed = s.fixed := by
  unfold after
  split
  · exact h _ rfl
  · rfl

theorem fixed_when (c : Prop) [Decidable c] (o : State → Out) (h : ∀ s t, o s = .next t → t.fixed = s.fixed) (s : State) :
    (if c then after (o s) s else s).fixed = s.fixed := by
  split
  · exact fixed_after _ _ (h s)
  · rfl

theorem fixed_afterCompletion (q : Nat) (stop : Bool) (s : State) : (afterCompletion q stop s).fixed = s.fixed := by
  unfold afterCompletion; simp only [↓fixed_ite, ↓fixed_wr, ite_self]

theorem fixed_spoilCycle (s : State) : (spoilCycle s).fixed = s.fixed := by
  unfold spoilCycle; simp only [fixed_safety]

theorem fixed_reactDecision (disarms : Bool) (d : Decision) (s : State) : (reactDecision disarms d s).fixed = s.fixed := by
  unfold reactDecision
  repeat' first | simp only [↓fixed_ite, ↓fixed_endDecision, ↓fixed_safeReaction, ↓fixed_withdraw, ite_self] | split

theorem fixed_reactStream (n : Nat) (s : State) : (reactStream n s).fixed = s.fixed := by
  unfold reactStream
  repeat' first | simp only [↓fixed_reactDecision, fixed_foldl, implies_true] | split

theorem fixed_reactPending (disarms : Bool) (s : State) : (reactPending disarms s).fixed = s.fixed := by
  unfold reactPending
  repeat' first | simp only [↓fixed_reactDecision, fixed_foldl, implies_true] | split

theorem fixed_noteEdge (s : State) : (noteEdge s).fixed = s.fixed := by
  unfold noteEdge; simp only [fixed_safety]

theorem fixed_safeLevels (s : State) : (safeLevels s).fixed = s.fixed := by
  unfold safeLevels; simp only [↓fixed_wrs, ↓fixed_ite, ↓fixed_noteEdge, ite_self]

theorem fixed_disarm (s : State) : (disarm s).fixed = s.fixed := by
  unfold disarm; simp only [↓fixed_safeLevels, ↓fixed_wr, ↓fixed_clr, ↓fixed_withdraw]

theorem fixed_loopReaction (s : State) : (loopReaction s).fixed = s.fixed := by
  unfold loopReaction
  repeat' first | simp only [↓fixed_disarm, ↓fixed_reactPending, ↓fixed_spoilCycle] | split

theorem fixed_reactAt (lvl : Nat) (code : Nat) (stream : Option Nat) (s : State) : (reactAt lvl code stream s).fixed = s.fixed := by
  unfold reactAt
  repeat' first | simp only [↓fixed_ite, ↓fixed_loopReaction, ↓fixed_reactPending, ↓fixed_reactStream, ↓fixed_set, ↓fixed_spoilCycle, ↓fixed_wr, ite_self] | split

theorem fixed_stopTrace (s : State) : (stopTrace s).fixed = s.fixed := by
  unfold stopTrace
  repeat' first | simp only [↓fixed_clr, fixed_prb] | split

theorem fixed_freezeProbes (s : State) : (freezeProbes s).fixed = s.fixed := by
  unfold freezeProbes
  repeat' first | simp only [↓fixed_ite, ↓fixed_set, ↓fixed_stopTrace, ite_self] | split

theorem fixed_react (lvl : Nat) (code : Nat) (stream : Option Nat) (s : State) : (react lvl code stream s).fixed = s.fixed := by
  unfold react; simp only [↓fixed_ite, ↓fixed_reactAt, ↓fixed_freezeProbes, ite_self]

theorem fixed_recordFault (inj : Bool) (lvl : Nat) (code : Nat) (arg : Nat) (s : State) : (recordFault inj lvl code arg s).fixed = s.fixed := by
  unfold recordFault; simp only [↓fixed_ite, ↓fixed_inc, ↓fixed_set, ↓fixed_wr, ↓fixed_postInj, ite_self]

theorem fixed_noteViolation (q : Nat) (code : Nat) (s : State) : (noteViolation q code s).fixed = s.fixed := by
  unfold noteViolation; simp only [↓fixed_ite, ↓fixed_inc, ↓fixed_spoilCycle, ↓fixed_wrs, ite_self]

theorem fixed_raiseViolation (inj : Bool) (q : Nat) (code : Nat) (s : State) : (raiseViolation inj q code s).fixed = s.fixed := by
  unfold raiseViolation; simp only [↓fixed_react, ↓fixed_recordFault, ↓fixed_noteViolation]

theorem fixed_dropInst (q : Nat) (s : State) : (dropInst q s).fixed = s.fixed := by
  unfold dropInst; simp only [↓fixed_wrs, fixed_shp]

theorem fixed_closeInst (q : Nat) (i : Instance) (s : State) : (closeInst q i s).fixed = s.fixed := by
  unfold closeInst; simp only [↓fixed_wrs, ↓fixed_dropInst]

theorem fixed_setInst (q : Nat) (i : Instance) (s : State) : (setInst q i s).fixed = s.fixed := by
  unfold setInst; simp only [↓fixed_wrs, fixed_shp]

theorem fixed_judge (q : Nat) (code : Nat) (s : State) : (judge q code s).fixed = s.fixed := by
  unfold judge
  repeat' first | simp only [↓fixed_ite, ↓fixed_raiseViolation, ↓fixed_setInst, ite_self] | split

theorem fixed_judgePassed (q : Nat) (s : State) : (judgePassed q s).fixed = s.fixed := by
  unfold judgePassed
  repeat' first | simp only [↓fixed_ite, ↓fixed_judge, ite_self] | split

theorem fixed_commandEnds (q : Nat) (err : Bool) (s : State) : (commandEnds q err s).fixed = s.fixed := by
  unfold commandEnds
  repeat' first | simp only [↓fixed_judgePassed, ↓fixed_ite, ↓fixed_raiseViolation, ↓fixed_closeInst, ↓fixed_setInst, ite_self] | split

theorem fixed_setRot (r : Rotation) (s : State) : (setRot r s).fixed = s.fixed := by
  unfold setRot; simp only [fixed_drv]

theorem fixed_showArmed (g : Nat) (s : State) : (showArmed g s).fixed = s.fixed := by
  unfold showArmed; simp only [↓fixed_wr]

theorem fixed_showColumns (mask : Nat) (s : State) : (showColumns mask s).fixed = s.fixed := by
  unfold showColumns; simp only [↓fixed_showColumn, fixed_foldl, implies_true]

theorem fixed_releaseClaim (k : Claim) (s : State) : (releaseClaim k s).fixed = s.fixed := by
  unfold releaseClaim; simp only [↓fixed_setRot, ↓fixed_showArmed, ↓fixed_showColumns]

theorem fixed_releaseHeld (s : State) : (releaseHeld s).fixed = s.fixed := by
  unfold releaseHeld; simp only [↓fixed_releaseClaim, fixed_foldl, implies_true]

theorem fixed_showPool (s : State) : (showPool s).fixed = s.fixed := by
  unfold showPool; simp only [↓fixed_ite, ↓fixed_set, ↓fixed_wr, fixed_foldl, ite_self, implies_true]

theorem fixed_releaseTake (q : Nat) (s : State) : (releaseTake q s).fixed = s.fixed := by
  unfold releaseTake
  repeat' first | simp only [↓fixed_ite, ↓fixed_showPool, fixed_intake, ite_self] | split

theorem fixed_finishUnbind (q : Nat) (s : State) : (finishUnbind q s).fixed = s.fixed := by
  unfold finishUnbind
  repeat' first | simp only [↓fixed_ite, ↓fixed_showPool, ↓fixed_wr, ↓fixed_wrs, ite_self, fixed_mk, fixed_eta] | split | refine (fixed_foldl _ _ (fun s x => ?_) _).trans ?_ | refine (fixed_foldl_snd _ _ (fun s x => ?_) _).trans ?_

theorem fixed_pumpTenant (t : Nat) (s : State) : (pumpTenant t s).fixed = s.fixed := by
  unfold pumpTenant
  repeat' first | simp only [↓fixed_pump, fixed_foldl, implies_true] | split

theorem fixed_afterWrite (f : Flight) (s : State) : (afterWrite f s).fixed = s.fixed := by
  unfold afterWrite
  repeat' first | simp only [↓fixed_ite, ↓fixed_commandEnds, ↓fixed_finishUnbind, ↓fixed_pump, ↓fixed_pumpTenant, ↓fixed_releaseHeld, ↓fixed_releaseTake, ↓fixed_showColumn, ite_self] | split

theorem fixed_allocSlot (n : Nat) (s : State) : (allocSlot n s).fixed = s.fixed := by
  unfold allocSlot; simp only [↓fixed_wrs, fixed_intake]

theorem fixed_emergencyReaction (s : State) : (emergencyReaction s).fixed = s.fixed := by
  unfold emergencyReaction
  repeat' first | simp only [↓fixed_safeReaction, fixed_foldl, implies_true] | split

theorem fixed_raiseFault (code : Nat) (arg : Nat) (s : State) : (raiseFault code arg s).fixed = s.fixed := by
  unfold raiseFault
  repeat' first | simp only [↓fixed_ite, ↓fixed_emergencyReaction, ↓fixed_react, ↓fixed_recordFault, ite_self] | split

theorem fixed_openInst (q : Nat) (count : Nat) (s : State) : (openInst q count s).fixed = s.fixed := by
  unfold openInst
  repeat' first | simp only [↓fixed_ite, ↓fixed_judge, ↓fixed_closeInst, ↓fixed_setInst, fixed_shp] | split

theorem fixed_announce (q : Nat) (count : Nat) (s : State) : (announce q count s).fixed = s.fixed := by
  unfold announce; simp only [↓fixed_ite, ↓fixed_inc, ↓fixed_raiseFault, ↓fixed_set, ↓fixed_wr, ↓fixed_pump, ↓fixed_openInst, ite_self]

theorem fixed_count (f : Field) (n : Nat) (s : State) : (count f n s).fixed = s.fixed := by
  unfold count; simp only [↓fixed_ite, fixed_prb, ite_self]

theorem fixed_countMax (f : Field) (n : Nat) (s : State) : (countMax f n s).fixed = s.fixed := by
  unfold countMax; simp only [↓fixed_ite, fixed_prb, ite_self]

theorem fixed_measure (p : Nat) (tgt : Nat) (rt : Bool) (start : Nat) (status : Nat) (s : State) : (measure p tgt rt start status s).fixed = s.fixed := by
  unfold measure; simp only [↓fixed_ite, ↓fixed_count, ↓fixed_countMax, ↓fixed_addLatSum, ite_self]

theorem fixed_deliverOne (s : State) (p : Piece) : (deliverOne s p).fixed = s.fixed := by
  unfold deliverOne; simp only [↓fixed_ite, ↓fixed_measure, fixed_fab, ite_self]

theorem fixed_deliver (s : State) : (deliver s).fixed = s.fixed := by
  unfold deliver; simp only [↓fixed_deliverOne, ↓fixed_setPieces, fixed_foldl, implies_true]

theorem fixed_answerArrives (p : Nat) (tag : Nat) (s : State) : (answerArrives p tag s).fixed = s.fixed := by
  unfold answerArrives
  repeat' first | simp only [↓fixed_ite, ↓fixed_count, ↓fixed_deliver, ↓fixed_inc, ↓fixed_setPieces, ite_self] | split

theorem fixed_showOrder (l : List Nat) (s : State) : (showOrder l s).fixed = s.fixed := by
  unfold showOrder
  repeat' first | simp only [↓fixed_ite, ↓fixed_set, ite_self] | split

theorem fixed_startPower (s : State) : (startPower s).fixed = s.fixed := by
  unfold startPower; simp only [↓fixed_ite, fixed_power, ite_self]

theorem fixed_beginExit (s : State) : (beginExit s).fixed = s.fixed := by
  unfold beginExit; simp only [↓fixed_ite, ↓fixed_wr, ↓fixed_set, ↓fixed_startPower, fixed_snap, ite_self]

theorem fixed_latchWake (l : List Nat) (s : State) : (latchWake l s).fixed = s.fixed := by
  unfold latchWake
  repeat' first | simp only [↓fixed_ite, ↓fixed_addSources, ↓fixed_beginExit, ↓fixed_set, ↓fixed_showOrder, ↓fixed_wrs, fixed_power, ite_self] | split

theorem fixed_wakeNow (l : List Nat) (s : State) : (wakeNow l s).fixed = s.fixed := by
  unfold wakeNow
  simp only [↓fixed_ite, ↓fixed_latchWake, ↓fixed_startPower, ite_self]

theorem fixed_aonAlarm (s : State) : (aonAlarm s).fixed = s.fixed := by
  unfold aonAlarm
  repeat' first | simp only [↓fixed_ite, ↓fixed_clr, ↓fixed_wakeNow, ↓fixed_set, ite_self] | split

theorem fixed_garble (u : Nat) (s : State) : (garble u s).fixed = s.fixed := by
  unfold garble
  repeat' first | simp only [↓fixed_free, ↓fixed_st] | split

theorem fixed_arise (e : Nat × Nat) (s : State) : (arise e s).fixed = s.fixed := by
  unfold arise
  repeat' first | simp only [↓fixed_ite, ↓fixed_garble, ↓fixed_inc, fixed_mc, ite_self] | split

theorem fixed_ariseAll (l : List (Nat × Nat)) (s : State) : (ariseAll l s).fixed = s.fixed := by
  unfold ariseAll
  repeat' first | simp only [↓fixed_arise, fixed_foldl, implies_true] | split

theorem fixed_mcRead (pid : Nat) (tid : Nat) (a : Nat) (n : Nat) (errs : List (Nat × Nat)) (s : State) : (mcRead pid tid a n errs s).2.fixed = s.fixed := by
  unfold mcRead
  repeat' first | simp only [↓fixed_ariseAll, ↓fixed_noteCtlRead] | split

theorem fixed_apertureRead (r : (Nat × Bytes) × State) (p : Nat × Nat × Nat) : (apertureRead r p).2.fixed = r.2.fixed := by
  unfold apertureRead
  split
  · rfl
  · exact fixed_noteRead _ _ _ _ _

theorem fixed_mcWrite (pid : Nat) (tid : Nat) (a : Nat) (b : Bytes) (errs : List (Nat × Nat)) (s : State) : (mcWrite pid tid a b errs s).2.fixed = s.fixed := by
  unfold mcWrite
  repeat' first | simp only [↓fixed_ariseAll, ↓fixed_ctlWrite] | split

theorem fixed_apertureWrite (r : (Nat × Bytes) × State) (p : Nat × Nat × Nat) : (apertureWrite r p).2.fixed = r.2.fixed := by
  unfold apertureWrite
  split
  · exact fixed_inc _ _ _
  · exact fixed_memWrite _ _ _ _ _

theorem fixed_kvWrite (pid t a : Nat) (b : Bytes) (s s' : State) (h : kvWrite pid t a b s = .ok s') : s'.fixed = s.fixed := by
  unfold kvWrite at h
  simp only at h
  split at h
  · cases h; exact fixed_memWrite s pid t a b
  · split at h <;> cases h

/-- A loop of an engine command that stops at the first failing access keeps the fixed part if every round does. -/
theorem fixed_foldlM {α τ ε : Type} (l : List α) (g : State × τ → α → Except ε (State × τ))
    (h : ∀ r x r', g r x = .ok r' → r'.1.fixed = r.1.fixed) (r r' : State × τ) (e : l.foldlM g r = .ok r') : r'.1.fixed = r.1.fixed := by
  induction l generalizing r with
  | nil => cases e; rfl
  | cons x l ih =>
    rw [List.foldlM_cons] at e
    cases k : g r x with
    | error v => rw [k] at e; cases e
    | ok v => rw [k] at e; exact (ih v e).trans (h r x v k)

theorem fixed_putToken (pid t : Nat) (h : KvHdr) (fmt page g : Nat) (v : Bool) (tok : Nat) (row : Bytes) (r r' : State × KvTally)
    (e : putToken pid t h fmt page g v tok row r = .ok r') : r'.1.fixed = r.1.fixed := by
  unfold putToken at e
  simp only at e
  split at e
  · cases e
  · next k1 =>
    split at e
    · cases e; exact fixed_kvWrite _ _ _ _ _ _ k1
    · split at e
      · cases e
      · next k2 => cases e; exact (fixed_kvWrite _ _ _ _ _ _ k2).trans (fixed_kvWrite _ _ _ _ _ _ k1)

theorem fixed_putIndex (pid t : Nat) (h : KvHdr) (layer lp fmt page : Nat) (r : State × KvTally) (g : Nat) (r' : State × KvTally)
    (e : putIndex pid t h layer lp fmt page r g = .ok r') : r'.1.fixed = r.1.fixed := by
  unfold putIndex at e
  split at e
  · cases e
  · split at e
    · cases e
    · next k => cases e; exact fixed_kvWrite _ _ _ _ _ _ k

theorem fixed_appendToken (pid t : Nat) (h : KvHdr) (layer pos : Nat) (krow vrow : Bytes) (r r' : State × KvTally)
    (e : appendToken pid t h layer pos krow vrow r = .ok r') : r'.1.fixed = r.1.fixed := by
  unfold appendToken at e
  split at e
  · cases e
  split at e
  · cases e
  · next fmt page _ =>
    simp only [bind, Except.bind] at e
    split at e
    · cases e
    · next r1 k1 =>
      have h1 : r1.1.fixed = r.1.fixed := by
        refine fixed_foldlM _ _ (fun r x r' k => ?_) _ _ k1
        split at k
        · cases k
        · next k2 => exact (fixed_putToken _ _ _ _ _ _ _ _ _ _ _ k).trans (fixed_putToken _ _ _ _ _ _ _ _ _ _ _ k2)
      split at e
      · split at e
        · cases e
        · next k3 =>
          cases e
          exact (fixed_foldlM _ _ (fun r x r' k => fixed_putIndex _ _ _ _ _ _ _ _ _ _ k) _ _ k3).trans h1
      · cases e; exact h1

theorem fixed_appendSeq (x : Ctx) (b kv vv : Bytes) (m : Option Nat) (z : KvSeq) (r r' : State × KvTally)
    (e : appendSeq x b kv vv m z r = .ok r') : r'.1.fixed = r.1.fixed := by
  unfold appendSeq at e
  simp only at e
  split at e
  · cases e
  split at e
  · cases e
  · exact fixed_foldlM _ _ (fun r x r' k => fixed_appendToken _ _ _ _ _ _ _ _ _ k) _ _ e

theorem fixed_hvDiscard (w : Writer) (a : Nat) (s : State) : (hvDiscard w a s).fixed = s.fixed := by
  unfold hvDiscard; simp only [↓fixed_ite, ↓fixed_inc, ↓fixed_set, ↓fixed_wr, ite_self]

theorem fixed_applyField (a : Nat) (ws : List (Writer × Nat)) (hw : List HwUpdate) (s : State) (f : Field) : (applyField a ws hw s f).fixed = s.fixed := by
  unfold applyField
  repeat' first | simp only [↓fixed_ite, ↓fixed_hvDiscard, ↓fixed_wr] | split

theorem fixed_applyCycle (a : Nat) (ws : List (Writer × Nat)) (hw : List HwUpdate) (s : State) : (applyCycle a ws hw s).fixed = s.fixed := by
  unfold applyCycle; simp only [↓fixed_applyField, fixed_foldl, implies_true]

theorem fixed_wantErase (s : State) : (wantErase s).fixed = s.fixed := by
  unfold wantErase; simp only [↓fixed_ite, fixed_evlog, ite_self]

theorem fixed_showOldest (s : State) : (showOldest s).fixed = s.fixed := by
  unfold showOldest; simp only [↓fixed_wr]

theorem fixed_applyLogRegion (b : Bytes) (s : State) : (applyLogRegion b s).fixed = s.fixed := by
  unfold applyLogRegion
  repeat' first | simp only [↓fixed_wrs, ↓fixed_wantErase, ↓fixed_wr, ↓fixed_showOldest, fixed_evlog] | split

theorem fixed_ownPages (e : Bytes) (s : State) : (ownPages e s).fixed = s.fixed := by
  unfold ownPages; simp only [↓fixed_ite, ↓fixed_wrs, fixed_foldl, ite_self, implies_true]

theorem fixed_dropFields (p : Field → Bool) (s : State) : (dropFields p s).fixed = s.fixed := by
  unfold dropFields; simp only [fixed_regs]

theorem fixed_clearOwners (s : State) : (clearOwners s).fixed = s.fixed := by
  unfold clearOwners
  repeat' first | simp only [↓fixed_dropFields] | split

theorem fixed_applyOwn (l : List Record) (s : State) : (applyOwn l s).fixed = s.fixed := by
  unfold applyOwn
  repeat' first | simp only [↓fixed_clearOwners, ↓fixed_ownPages, fixed_foldl, implies_true] | split

theorem fixed_applyPlat (p : Bytes) (s : State) : (applyPlat p s).fixed = s.fixed := by
  unfold applyPlat
  repeat' first | simp only [↓fixed_wr, ↓fixed_wrPair, ↓fixed_wrs, fixed_img, fixed_foldl, implies_true] | split

theorem fixed_applyPolicy (b : Bytes) (s : State) : (applyPolicy b s).fixed = s.fixed := by
  unfold applyPolicy; simp only [↓fixed_wr, fixed_foldl, implies_true]

theorem fixed_applyProof (p : Bytes) (s : State) : (applyProof p s).fixed = s.fixed := by
  unfold applyProof; simp only [↓fixed_wrs]

theorem fixed_holdLow (a : Nat) (ws : List (Writer × Nat)) (s : State) : (holdLow a ws s).fixed = s.fixed := by
  unfold holdLow; simp only [fixed_wrShadow, fixed_foldl, implies_true]

theorem fixed_setMasterIdx (m : Nat) (a : Nat) (v : Nat) (s : State) : (setMasterIdx m a v s).fixed = s.fixed := by
  unfold setMasterIdx; simp only [fixed_perMaster]

theorem fixed_bindRegister (q : Nat) (a : Nat) (ws : List (Writer × Nat)) (s : State) : (bindRegister q a ws s).fixed = s.fixed := by
  unfold bindRegister; simp only [↓fixed_ite, ↓fixed_wr, ↓fixed_applyCycle, ite_self]

theorem fixed_ownViol (w : Writer) (a : Nat) (read : Bool) (s : State) : (ownViol w a read s).fixed = s.fixed := by
  unfold ownViol; simp only [↓fixed_ite, ↓fixed_inc, ↓fixed_set, ↓fixed_wr, ↓fixed_post, ite_self]

theorem fixed_registerTimeout (w : Writer) (a : Nat) (kind : Nat) (s : State) : (registerTimeout w a kind s).fixed = s.fixed := by
  unfold registerTimeout
  repeat' first | simp only [↓fixed_portTimeout] | split

theorem fixed_writeRefused (w : Writer) (a : Nat) (c : Nat) (s : State) : (writeRefused w a c s).fixed = s.fixed := by
  unfold writeRefused
  repeat' first | simp only [↓fixed_ite, ↓fixed_answer, ↓fixed_inc, ↓fixed_ownViol, ↓fixed_registerTimeout, ite_self] | split

theorem fixed_doorbellSum (a : Nat) (l : List (Writer × Nat)) (s : State) : (doorbellSum a l s).2.fixed = s.fixed := by
  unfold doorbellSum
  repeat' first | simp only [↓fixed_ite_snd, ↓fixed_answer, ↓fixed_writeRefused, fixed_foldl_snd, ite_self, implies_true] | split

theorem fixed_execSqDb (q : Nat) (l : List (Writer × Nat)) (s : State) : ∀ t, (execSqDb q l s) = .next t → t.fixed = s.fixed := by
  intro t h
  unfold execSqDb at h
  repeat' first | (refine fixed_next h ?_; clear h) | split at h
  all_goals repeat' first | simp only [↓fixed_ite, ↓fixed_advanceTail, ↓fixed_doorbellSum, ite_self] | split

theorem fixed_execCqDb (q : Nat) (l : List (Writer × Nat)) (s : State) : ∀ t, (execCqDb q l s) = .next t → t.fixed = s.fixed := by
  intro t h
  unfold execCqDb at h
  repeat' first | (refine fixed_next h ?_; clear h) | split at h
  all_goals repeat' first | simp only [↓fixed_ite, ↓fixed_advanceHead, ↓fixed_doorbellSum, ite_self] | split

theorem fixed_guarded (w : Writer) (a : Nat) (f : State → State) (s : State) (h2 : ∀ t, (f t).fixed = t.fixed) : (guarded w a f s).fixed = s.fixed := by
  unfold guarded; simp only [↓fixed_ite, ↓fixed_answer, ↓fixed_writeRefused, ite_self, h2]

theorem fixed_execInjectTask (w : Writer) (v : Nat) (s : State) : ∀ t, (execInjectTask w v s) = .next t → t.fixed = s.fixed := by
  intro t h
  unfold execInjectTask at h
  repeat' first | (refine fixed_next h ?_; clear h) | split at h
  all_goals repeat' simp only [↓fixed_ite, ↓fixed_guarded, ↓fixed_inc, fixed_shp, ite_self, implies_true]

theorem fixed_moOvrGo (w : Writer) (m : Nat) (s : State) : (moOvrGo w m s).fixed = s.fixed := by
  unfold moOvrGo
  refine fixed_guarded _ _ _ _ (fun t => ?_)
  split
  · exact fixed_inc _ _ _
  · simp only [↓fixed_ite, ↓fixed_inc, ↓fixed_putTemplate, ↓fixed_free, ite_self]

theorem fixed_execMoOvrGo (w : Writer) (m : Nat) (s : State) : ∀ t, (execMoOvrGo w m s) = .next t → t.fixed = s.fixed := by
  intro t h
  unfold execMoOvrGo at h
  repeat' first | (refine fixed_next h ?_; clear h) | split at h
  all_goals repeat' simp only [↓fixed_moOvrGo]

theorem fixed_execCanRecover (w : Writer) (n : Nat) (s : State) : ∀ t, (execCanRecover w n s) = .next t → t.fixed = s.fixed := by
  intro t h
  unfold execCanRecover at h
  repeat' first | (refine fixed_next h ?_; clear h) | split at h
  all_goals repeat' simp only [↓fixed_ite, ↓fixed_guarded, ↓fixed_wr, ite_self, implies_true]

theorem fixed_canIntegrate (n : Nat) (s : State) : (canIntegrate n s).fixed = s.fixed := by
  unfold canIntegrate; simp only [↓fixed_wr, fixed_can]

theorem fixed_canCtl (w : Writer) (n v : Nat) (s : State) : (canCtl w n v s).fixed = s.fixed := by
  have h := fixed_when (bit v 5) (execCanRecover w n) (fixed_execCanRecover w n) s
  unfold canCtl
  revert h
  generalize (if bit v 5 = true then after (execCanRecover w n s) s else s) = t
  intro h
  simp only
  split
  · exact h
  split
  · rw [fixed_canIntegrate]; exact h
  split
  · rw [fixed_wrs]; exact h
  · exact h

theorem fixed_execEthRestart (w : Writer) (n : Nat) (s : State) : ∀ t, (execEthRestart w n s) = .next t → t.fixed = s.fixed := by
  intro t h
  unfold execEthRestart at h
  repeat' first | (refine fixed_next h ?_; clear h) | split at h
  all_goals repeat' first | simp only [↓fixed_ite, ↓fixed_guarded, ↓fixed_wr, fixed_eth, ite_self, implies_true] | split

theorem fixed_wakeCause (s : State) : (wakeCause s).fixed = s.fixed := by
  unfold wakeCause; simp only [↓fixed_ite, ↓fixed_wrs, ite_self]

theorem fixed_showCci (s : State) : (showCci s).fixed = s.fixed := by
  unfold showCci; simp only [↓fixed_wr, fixed_foldl, implies_true]

theorem fixed_setCci (s : State) (l : List Cci) : (setCci s l).fixed = s.fixed := by
  unfold setCci; simp only [fixed_intake]

theorem fixed_startCci (n : Nat) (auto : Option Nat) (s : State) : (startCci n auto s).2.fixed = s.fixed := by
  unfold startCci
  repeat' first | simp only [↓fixed_ite_snd, ↓fixed_setCci, ↓fixed_showCci, ite_self] | split

theorem fixed_dropAutomatic (n : Nat) (s : State) : (dropAutomatic n s).fixed = s.fixed := by
  unfold dropAutomatic
  repeat' first | simp only [↓fixed_memWrite, ↓fixed_setCci] | split

theorem fixed_cciGo (w : Writer) (n : Nat) (v : Nat) (s : State) : (cciGo w n v s).fixed = s.fixed := by
  unfold cciGo
  repeat' first | simp only [↓fixed_ite, ↓fixed_dropAutomatic, ↓fixed_guarded, ↓fixed_startCci, ↓fixed_wr, ite_self, implies_true] | split

theorem fixed_execCciGo (w : Writer) (n : Nat) (v : Nat) (s : State) : ∀ t, (execCciGo w n v s) = .next t → t.fixed = s.fixed := by
  intro t h
  unfold execCciGo at h
  repeat' first | (refine fixed_next h ?_; clear h) | split at h
  all_goals repeat' simp only [↓fixed_cciGo]

theorem fixed_setTout (s : State) (n : Nat) (t : Tout) : (setTout s n t).fixed = s.fixed := by
  unfold setTout; simp only [fixed_tk]

theorem fixed_toutNext (n : Nat) (s : State) : (toutNext n s).fixed = s.fixed := by
  unfold toutNext; simp only [↓fixed_ite, ↓fixed_clr, ↓fixed_setTout, ite_self]

theorem fixed_setTriggers (s : State) (n : Nat) (l : List Trigger) : (setTriggers s n l).fixed = s.fixed := by
  unfold setTriggers; simp only [fixed_intake]

theorem fixed_setCommits (s : State) (n : Nat) (l : List Commit) : (setCommits s n l).fixed = s.fixed := by
  unfold setCommits; simp only [fixed_intake]

theorem fixed_missTrigger (n : Nat) (t : Trigger) (s : State) : (missTrigger n t s).fixed = s.fixed := by
  unfold missTrigger; simp only [↓fixed_inc, ↓fixed_setCommits]

theorem fixed_issueTrigger (n : Nat) (t : Trigger) (s : State) : (issueTrigger n t s).fixed = s.fixed := by
  unfold issueTrigger
  repeat' first | simp only [↓fixed_ite, ↓fixed_setTriggers, ↓fixed_missTrigger] | split

theorem fixed_triggerEdge (o : Nat) (ts : Nat) (mono : Nat) (s : State) : (triggerEdge o ts mono s).fixed = s.fixed := by
  unfold triggerEdge; simp only [↓fixed_issueTrigger, fixed_foldl, implies_true]

theorem fixed_setJsp (s : State) (n : Nat) (p : Jsp) : (setJsp s n p).fixed = s.fixed := by
  unfold setJsp; simp only [fixed_joint]

theorem fixed_jspStart (n : Nat) (s : State) : (jspStart n s).fixed = s.fixed := by
  unfold jspStart
  repeat' first | simp only [↓fixed_ite, ↓fixed_inc, ↓fixed_setJsp, ite_self] | split

theorem fixed_qeiSnap (k : Nat) (s : State) : (qeiSnap k s).fixed = s.fixed := by
  unfold qeiSnap; simp only [↓fixed_wr]

theorem fixed_toutEdge (n : Nat) (s : State) : (toutEdge n s).fixed = s.fixed := by
  unfold toutEdge
  repeat' first | simp only [↓fixed_jspStart, ↓fixed_qeiSnap, ↓fixed_setTout, ↓fixed_triggerEdge, ↓fixed_wr, fixed_foldl, implies_true] | split

theorem fixed_produceEdge (n : Nat) (s : State) : (produceEdge n s).fixed = s.fixed := by
  unfold produceEdge; simp only [↓fixed_toutNext, ↓fixed_toutEdge]

theorem fixed_armTout (n : Nat) (s : State) : (armTout n s).fixed = s.fixed := by
  unfold armTout
  repeat' first | simp only [↓fixed_ite, ↓fixed_set, ↓fixed_setTout, ↓fixed_wr, ite_self] | split

theorem fixed_toutArm (w : Writer) (n : Nat) (v : Nat) (s : State) : (toutArm w n v s).fixed = s.fixed := by
  unfold toutArm; simp only [↓fixed_ite, ↓fixed_guarded, ↓fixed_produceEdge, ↓fixed_wrs, ↓fixed_armTout, ↓fixed_set, ite_self, implies_true]

theorem fixed_execToutArm (w : Writer) (n : Nat) (v : Nat) (s : State) : ∀ t, (execToutArm w n v s) = .next t → t.fixed = s.fixed := by
  intro t h
  unfold execToutArm at h
  repeat' first | (refine fixed_next h ?_; clear h) | split at h
  all_goals repeat' simp only [↓fixed_toutArm]

theorem fixed_realignEdges (s : State) : (realignEdges s).fixed = s.fixed := by
  unfold realignEdges; simp only [↓fixed_ite, ↓fixed_toutEdge, ↓fixed_set, ↓fixed_clr, ↓fixed_setTout, fixed_foldl, ite_self, implies_true]

theorem fixed_rangeAgain (s : State) : (rangeAgain s).fixed = s.fixed := by
  unfold rangeAgain
  repeat' first | simp only [↓fixed_ite, fixed_time, ite_self] | split

theorem fixed_applyStep (d : Int) (s : State) : (applyStep d s).fixed = s.fixed := by
  unfold applyStep
  repeat' first | simp only [↓fixed_clr, ↓fixed_incWrap, ↓fixed_post, ↓fixed_rangeAgain, ↓fixed_realignEdges, ↓fixed_set, ↓fixed_wrPair, fixed_time, fixed_tk] | split

theorem fixed_requestStep (d : ℤ) (s : State) : (requestStep d s).fixed = s.fixed := by
  unfold requestStep; simp only [↓fixed_ite, ↓fixed_applyStep, ↓fixed_set, fixed_tk, ite_self]

theorem fixed_calSet (w : Writer) (v : Nat) (s : State) : (calSet w v s).fixed = s.fixed := by
  unfold calSet; simp only [↓fixed_ite, ↓fixed_guarded, ↓fixed_wr, ↓fixed_set, ↓fixed_requestStep, ite_self, implies_true]

theorem fixed_execCalSet (w : Writer) (v : Nat) (s : State) : ∀ t, (execCalSet w v s) = .next t → t.fixed = s.fixed := by
  intro t h
  unfold execCalSet at h
  repeat' first | (refine fixed_next h ?_; clear h) | split at h
  all_goals repeat' simp only [↓fixed_calSet]

theorem fixed_setGl (g : Gleaner) (s : State) : (setGl g s).fixed = s.fixed := by
  unfold setGl; simp only [fixed_gl]

theorem fixed_execGlSwap (w : Writer) (v : Nat) (s : State) : ∀ t, (execGlSwap w v s) = .next t → t.fixed = s.fixed := by
  intro t h
  unfold execGlSwap at h
  repeat' first | (refine fixed_next h ?_; clear h) | split at h
  all_goals repeat' simp only [↓fixed_ite, ↓fixed_guarded, ↓fixed_wr, ↓fixed_clr, ↓fixed_set, ↓fixed_post, ↓fixed_setGl, ↓fixed_inc, ite_self, implies_true]

theorem fixed_submitMbx (m : Nat) (k : Nat) (s : State) : (submitMbx m k s).fixed = s.fixed := by
  unfold submitMbx; simp only [↓fixed_ite, ↓fixed_wr, ↓fixed_set, ite_self]

theorem fixed_execMsyncRetry (w : Writer) (v : Nat) (s : State) : ∀ t, (execMsyncRetry w v s) = .next t → t.fixed = s.fixed := by
  intro t h
  unfold execMsyncRetry at h
  repeat' first | (refine fixed_next h ?_; clear h) | split at h
  all_goals repeat' simp only [↓fixed_ite, ↓fixed_guarded, ↓fixed_wr, ite_self, implies_true]

theorem fixed_setReplays (s : State) (l : List Replay) : (setReplays s l).fixed = s.fixed := by
  unfold setReplays; simp only [↓fixed_wr, fixed_intake]

theorem fixed_replayGo (w : Writer) (v : Nat) (s : State) : (replayGo w v s).fixed = s.fixed := by
  unfold replayGo; simp only [↓fixed_ite, ↓fixed_guarded, ↓fixed_wr, ↓fixed_setReplays, ↓fixed_inc, ite_self, implies_true]

theorem fixed_execReplayGo (w : Writer) (v : Nat) (s : State) : ∀ t, (execReplayGo w v s) = .next t → t.fixed = s.fixed := by
  intro t h
  unfold execReplayGo at h
  repeat' first | (refine fixed_next h ?_; clear h) | split at h
  all_goals repeat' simp only [↓fixed_replayGo]

theorem fixed_dropSeqs (q : Nat) (s : State) : (dropSeqs q s).fixed = s.fixed := by
  unfold dropSeqs; simp only [↓fixed_ite, ↓fixed_leaveFlock, ↓fixed_admitFlock, fixed_foldl, ite_self, implies_true]

theorem fixed_loseFrames (p : EthFrame → Bool) (s : State) : (loseFrames p s).fixed = s.fixed := by
  unfold loseFrames
  repeat' first | simp only [↓fixed_pushTxts, ↓fixed_releaseFrames, fixed_foldl, implies_true] | split

theorem fixed_withdrawRequests (q : Nat) (s : State) : (withdrawRequests q s).fixed = s.fixed := by
  unfold withdrawRequests
  repeat' first | simp only [↓fixed_dropReqs, ↓fixed_loseFrames, ↓fixed_reactDecision, ↓fixed_unbookLaunch, fixed_foldl, implies_true] | split

theorem fixed_showPending (s : State) : (showPending s).fixed = s.fixed := by
  unfold showPending; simp only [↓fixed_wr]

theorem fixed_endMaint (p : MaintRun → Bool) (s : State) : (endMaint p s).fixed = s.fixed := by
  unfold endMaint
  repeat' first | simp only [↓fixed_ite, ↓fixed_showColumn, ↓fixed_clr, ↓fixed_abortFlights, fixed_drv, fixed_foldl, ite_self, implies_true] | split

theorem fixed_unbindQueue (q : Nat) (s : State) : (unbindQueue q s).fixed = s.fixed := by
  unfold unbindQueue; simp only [↓fixed_ite, ↓fixed_dropSeqs, ↓fixed_withdrawRequests, ↓fixed_modifyFlights, ↓fixed_abortFlights, ↓fixed_showPending, ↓fixed_finishUnbind, fixed_drv, ite_self]

theorem fixed_execUnbind (w : Writer) (q : Nat) (s : State) : ∀ t, (execUnbind w q s) = .next t → t.fixed = s.fixed := by
  intro t h
  unfold execUnbind at h
  repeat' first | (refine fixed_next h ?_; clear h) | split at h
  all_goals repeat' simp only [↓fixed_ite, ↓fixed_guarded, ↓fixed_wr, ↓fixed_unbindQueue, ite_self, implies_true]

theorem fixed_setCarried (s : State) (q : Nat) (l : Ledger) (r : Ref) : (setCarried s q l r).fixed = s.fixed := by
  unfold setCarried; simp only [fixed_drv]

theorem fixed_bindStands (q : Nat) (image : Bool) (s : State) : (bindStands q image s).fixed = s.fixed := by
  unfold bindStands; simp only [↓fixed_ite, ↓fixed_wrs, ↓fixed_wr, ↓fixed_setCarried, ite_self]

theorem fixed_bindQueue (q : Nat) (image : Bool) (s : State) : (bindQueue q image s).fixed = s.fixed := by
  unfold bindQueue; simp only [↓fixed_ite, ↓fixed_bindStands, ↓fixed_wr, ite_self]

theorem fixed_execBind (w : Writer) (q : Nat) (s : State) : ∀ t, (execBind w q s) = .next t → t.fixed = s.fixed := by
  intro t h
  unfold execBind at h
  repeat' first | (refine fixed_next h ?_; clear h) | split at h
  all_goals repeat' simp only [↓fixed_ite, ↓fixed_guarded, ↓fixed_bindQueue, ite_self, implies_true]

theorem fixed_dropFlight (f : Flight) (s : State) : (dropFlight f s).fixed = s.fixed := by
  unfold dropFlight; simp only [fixed_drv]

theorem fixed_completionFailed (q : Nat) (f : Flight) (endTs : Nat) (s : State) : (completionFailed q f endTs s).fixed = s.fixed := by
  unfold completionFailed; simp only [↓fixed_ite, ↓fixed_dropFlight, ↓fixed_modifyFlights, ↓fixed_wr, ↓fixed_set, fixed_drv, ite_self]

theorem fixed_countEngine (f : Flight) (s : State) : (countEngine f s).fixed = s.fixed := by
  unfold countEngine; simp only [↓fixed_ite, ↓fixed_inc, ↓fixed_wr, ite_self]

theorem fixed_charge (f : Flight) (s : State) : (charge f s).fixed = s.fixed := by
  unfold charge; simp only [↓fixed_ite, fixed_drv, ite_self]

theorem fixed_carryOver (f : Flight) (s : State) : (carryOver f s).fixed = s.fixed := by
  unfold carryOver; simp only [↓fixed_ite, ↓fixed_setCarried, ite_self]

theorem fixed_freeColumn (u : Nat) (s : State) : (freeColumn u s).fixed = s.fixed := by
  unfold freeColumn; simp only [↓fixed_ite, ↓fixed_wr, ite_self]

theorem fixed_setDram (v : Nat) (s : State) : (setDram v s).fixed = s.fixed := by
  unfold setDram; simp only [↓fixed_ite, ↓fixed_wr, fixed_foldl, ite_self, implies_true]

theorem fixed_restMemory (s : State) : (restMemory s).fixed = s.fixed := by
  unfold restMemory
  repeat' first | simp only [↓fixed_ite, ↓fixed_setDram, ite_self] | split

theorem fixed_writeCompletion (q : Nat) (f : Flight) (s : State) : (writeCompletion q f s).fixed = s.fixed := by
  unfold writeCompletion
  repeat' first | simp only [↓fixed_ite, ↓fixed_accountIrq, ↓fixed_afterCompletion, ↓fixed_carryOver, ↓fixed_charge, ↓fixed_completionFailed, ↓fixed_countEngine, ↓fixed_dropFlight, ↓fixed_freeColumn, ↓fixed_memWrite, ↓fixed_restMemory, ↓fixed_wr, fixed_drv, ite_self] | split

theorem fixed_execResume (w : Writer) (q : Nat) (s : State) : ∀ t, (execResume w q s) = .next t → t.fixed = s.fixed := by
  intro t h
  unfold execResume at h
  repeat' first | (refine fixed_next h ?_; clear h) | split at h
  all_goals repeat' first | simp only [↓fixed_ite, ↓fixed_wr, ↓fixed_writeCompletion, ↓fixed_pump, fixed_drv] | split | refine (fixed_foldl _ _ (fun s x => ?_) _).trans ?_ | refine (fixed_foldl_snd _ _ (fun s x => ?_) _).trans ?_ | refine (fixed_guarded _ _ _ _ (fun t => ?_)).trans ?_

theorem fixed_queueCtl (w : Writer) (q v : Nat) (s : State) : (queueCtl w q v s).fixed = s.fixed :=
  (fixed_when _ (execResume w q) (fixed_execResume w q) _).trans
    ((fixed_when _ (execBind w q) (fixed_execBind w q) _).trans (fixed_when _ (execUnbind w q) (fixed_execUnbind w q) s))

theorem fixed_execGlLoad (w : Writer) (v : Nat) (s : State) : ∀ t, (execGlLoad w v s) = .next t → t.fixed = s.fixed := by
  intro t h
  unfold execGlLoad at h
  repeat' first | (refine fixed_next h ?_; clear h) | split at h
  all_goals repeat' simp only [↓fixed_ite, ↓fixed_guarded, ↓fixed_wr, ↓fixed_setGl, ↓fixed_clr, ite_self, implies_true]

theorem fixed_showFences (s : State) : (showFences s).fixed = s.fixed := by
  unfold showFences; simp only [↓fixed_wr]

theorem fixed_liftFence (pid : Nat) (s : State) : (liftFence pid s).fixed = s.fixed := by
  unfold liftFence; simp only [↓fixed_ite, ↓fixed_showFences, ↓fixed_wr, ite_self]

theorem fixed_execFenceLift (w : Writer) (k : Nat) (v : Nat) (s : State) : ∀ t, (execFenceLift w k v s) = .next t → t.fixed = s.fixed := by
  intro t h
  unfold execFenceLift at h
  repeat' first | (refine fixed_next h ?_; clear h) | split at h
  all_goals repeat' simp only [↓fixed_ite, ↓fixed_guarded, ↓fixed_liftFence, fixed_foldl, ite_self, implies_true]

theorem fixed_clearNew (o : Nat) (s : State) : (clearNew o s).fixed = s.fixed := by
  unfold clearNew; simp only [↓fixed_clr]

theorem fixed_setShadow (s : State) (m : Nat) (n : Nat) (h : CanShadow) : (setShadow s m n h).fixed = s.fixed := by
  unfold setShadow; simp only [fixed_can]

theorem fixed_shadowGo (m : Nat) (n : Nat) (o : Nat) (s : State) : (shadowGo m n o s).fixed = s.fixed := by
  unfold shadowGo; simp only [↓fixed_ite, ↓fixed_setMasterIdx, ↓fixed_clearNew, ↓fixed_setShadow, ite_self]

theorem fixed_execCanShadowGo (w : Writer) (n : Nat) (o : Nat) (s : State) : ∀ t, (execCanShadowGo w n o s) = .next t → t.fixed = s.fixed := by
  intro t h
  unfold execCanShadowGo at h
  repeat' first | (refine fixed_next h ?_; clear h) | split at h
  all_goals repeat' simp only [↓fixed_guarded, ↓fixed_shadowGo, implies_true]

theorem fixed_popFifo (n : Nat) (s : State) : (popFifo n s).fixed = s.fixed := by
  unfold popFifo; simp only [↓fixed_wr]

theorem fixed_shadowPop (m : Nat) (n : Nat) (s : State) : (shadowPop m n s).fixed = s.fixed := by
  unfold shadowPop; simp only [↓fixed_ite, ↓fixed_setShadow, ↓fixed_clearNew, ↓fixed_popFifo, ite_self]

theorem fixed_execCanShadowPop (w : Writer) (n : Nat) (s : State) : ∀ t, (execCanShadowPop w n s) = .next t → t.fixed = s.fixed := by
  intro t h
  unfold execCanShadowPop at h
  repeat' first | (refine fixed_next h ?_; clear h) | split at h
  all_goals repeat' simp only [↓fixed_guarded, ↓fixed_shadowPop, implies_true]

theorem fixed_canShadow (w : Writer) (n v : Nat) (s : State) : (canShadow w n v s).fixed = s.fixed :=
  (fixed_when _ (execCanShadowPop w n) (fixed_execCanShadowPop w n) _).trans
    ((fixed_when _ (execCanShadowGo w n (bits v 0 11)) (fixed_execCanShadowGo w n (bits v 0 11)) _).trans (fixed_setMasterIdx _ _ _ s))

theorem fixed_clearLatch (key : Nat) (s : State) : (clearLatch key s).fixed = s.fixed := by
  unfold clearLatch; simp only [↓fixed_ite, ↓fixed_clr, ite_self]

theorem fixed_execSfFltClr (w : Writer) (clr : Nat) (key : Nat) (s : State) : ∀ t, (execSfFltClr w clr key s) = .next t → t.fixed = s.fixed := by
  intro t h
  unfold execSfFltClr at h
  repeat' first | (refine fixed_next h ?_; clear h) | split at h
  all_goals repeat' simp only [↓fixed_ite, ↓fixed_guarded, ↓fixed_clearLatch, ite_self, implies_true]

theorem fixed_clearProbes (ticked : Bool) (s : State) : (clearProbes ticked s).fixed = s.fixed := by
  unfold clearProbes
  repeat' first | simp only [↓fixed_clr, ↓fixed_wr, fixed_prb, fixed_foldl, implies_true] | split

theorem fixed_tick (s : State) : (tick s).fixed = s.fixed := by
  unfold tick; simp only [↓fixed_ite, ↓fixed_incWrap, fixed_prb, ite_self]

theorem fixed_execPrbClear (w : Writer) (ticked : Bool) (s : State) : ∀ t, (execPrbClear w ticked s) = .next t → t.fixed = s.fixed := by
  intro t h
  unfold execPrbClear at h
  repeat' first | (refine fixed_next h ?_; clear h) | split at h
  all_goals repeat' simp only [↓fixed_ite, ↓fixed_guarded, ↓fixed_clearProbes, ↓fixed_tick, ite_self, implies_true]

theorem fixed_setFifo (n : Nat) (l : List Nat) (lost : Nat) (s : State) : (setFifo n l lost s).fixed = s.fixed := by
  unfold setFifo
  repeat' first | simp only [↓fixed_wr, fixed_prb] | split

theorem fixed_emit (n : Nat) (r : Nat) (s : State) : (emit n r s).fixed = s.fixed := by
  unfold emit
  repeat' first | simp only [↓fixed_ite, ↓fixed_inc, ↓fixed_setFifo, ite_self] | split

theorem fixed_syncAll (s : State) : (syncAll s).fixed = s.fixed := by
  unfold syncAll; simp only [↓fixed_ite, ↓fixed_emit, fixed_prb, fixed_foldl, ite_self, implies_true]

theorem fixed_noteTracing (s : State) : (noteTracing s).fixed = s.fixed := by
  unfold noteTracing
  repeat' first | simp only [↓fixed_ite, ↓fixed_emit, fixed_prb, fixed_foldl, ite_self, implies_true] | split

theorem fixed_probeCtl (w : Writer) (v : Nat) (s : State) : (probeCtl w v s).fixed = s.fixed := by
  unfold probeCtl
  simp only [↓fixed_noteTracing]
  exact fixed_when (bit v 0) (execPrbClear w false) (fixed_execPrbClear w false) s

theorem fixed_execLeapSchedule (w : Writer) (v : Nat) (s : State) : ∀ t, (execLeapSchedule w v s) = .next t → t.fixed = s.fixed := by
  intro t h
  unfold execLeapSchedule at h
  repeat' first | (refine fixed_next h ?_; clear h) | split at h
  all_goals repeat' simp only [↓fixed_ite, ↓fixed_guarded, ↓fixed_set, ↓fixed_wrs, ite_self, implies_true]

theorem fixed_armGrid (g : Nat) (s : State) : (armGrid g s).fixed = s.fixed := by
  unfold armGrid; simp only [↓fixed_ite, fixed_tk, ite_self]

theorem fixed_disarmGrid (g : Nat) (s : State) : (disarmGrid g s).fixed = s.fixed := by
  unfold disarmGrid; simp only [fixed_tk]

theorem fixed_execLaunchGridArm (w : Writer) (g : Nat) (v : Nat) (s : State) : ∀ t, (execLaunchGridArm w g v s) = .next t → t.fixed = s.fixed := by
  intro t h
  unfold execLaunchGridArm at h
  repeat' first | (refine fixed_next h ?_; clear h) | split at h
  all_goals repeat' simp only [↓fixed_ite, ↓fixed_guarded, ↓fixed_wrs, ↓fixed_armGrid, ↓fixed_disarmGrid, ite_self, implies_true]

theorem fixed_requestRetrain (m : Nat) (s : State) : (requestRetrain m s).fixed = s.fixed := by
  unfold requestRetrain; simp only [↓fixed_ite, ↓fixed_post, ↓fixed_set, ↓fixed_showPending, fixed_mc, ite_self]

theorem fixed_execMcRetrainReq (w : Writer) (m : Nat) (v : Nat) (s : State) : ∀ t, (execMcRetrainReq w m v s) = .next t → t.fixed = s.fixed := by
  intro t h
  unfold execMcRetrainReq at h
  repeat' first | (refine fixed_next h ?_; clear h) | split at h
  all_goals repeat' simp only [↓fixed_ite, ↓fixed_guarded, ↓fixed_requestRetrain, ite_self, implies_true]

theorem fixed_execTimeStep (w : Writer) (s : State) : ∀ t, (execTimeStep w s) = .next t → t.fixed = s.fixed := by
  intro t h
  unfold execTimeStep at h
  repeat' first | (refine fixed_next h ?_; clear h) | split at h
  all_goals repeat' simp only [↓fixed_guarded, ↓fixed_requestStep, implies_true]

theorem fixed_mapPieces (f : Piece → Piece) (s : State) : (mapPieces f s).fixed = s.fixed := by
  unfold mapPieces
  repeat' first | simp only [↓fixed_setPieces] | split

theorem fixed_fenceTarget (pid : Nat) (cause : Nat) (s : State) : (fenceTarget pid cause s).fixed = s.fixed := by
  unfold fenceTarget
  repeat' first | simp only [↓fixed_ite, ↓fixed_mapPieces, ↓fixed_raiseFault, ↓fixed_showFences, ↓fixed_wr, ↓fixed_wrs, fixed_fab, ite_self] | split

theorem fixed_execFenceSet (w : Writer) (k : Nat) (v : Nat) (s : State) : ∀ t, (execFenceSet w k v s) = .next t → t.fixed = s.fixed := by
  intro t h
  unfold execFenceSet at h
  repeat' first | (refine fixed_next h ?_; clear h) | split at h
  all_goals repeat' simp only [↓fixed_ite, ↓fixed_guarded, ↓fixed_fenceTarget, fixed_foldl, ite_self, implies_true]

theorem fixed_injectCode (code : Nat) (q : Nat) (s : State) : (injectCode code q s).fixed = s.fixed := by
  unfold injectCode
  repeat' first | simp only [↓fixed_ite, ↓fixed_emergencyReaction, ↓fixed_inc, ↓fixed_raiseViolation, ↓fixed_react, ↓fixed_recordFault, ite_self] | split

theorem fixed_execInjectRaise (w : Writer) (v : Nat) (s : State) : ∀ t, (execInjectRaise w v s) = .next t → t.fixed = s.fixed := by
  intro t h
  unfold execInjectRaise at h
  repeat' first | (refine fixed_next h ?_; clear h) | split at h
  all_goals repeat' simp only [↓fixed_ite, ↓fixed_guarded, ↓fixed_injectCode, ↓fixed_inc, ite_self, implies_true]

theorem fixed_execRxqDb (w : Writer) (n : Nat) (q : Nat) (v : Nat) (s : State) : ∀ t, (execRxqDb w n q v s) = .next t → t.fixed = s.fixed := by
  intro t h
  unfold execRxqDb at h
  repeat' first | (refine fixed_next h ?_; clear h) | split at h
  all_goals repeat' simp only [↓fixed_guarded, ↓fixed_wr, implies_true]

theorem fixed_wakeConfig (n : Nat) (s : State) : (wakeConfig n s).fixed = s.fixed := by
  unfold wakeConfig; simp only [↓fixed_ite, ↓fixed_wr, ite_self]

theorem fixed_execQeiSnap (w : Writer) (k : Nat) (s : State) : ∀ t, (execQeiSnap w k s) = .next t → t.fixed = s.fixed := by
  intro t h
  unfold execQeiSnap at h
  repeat' first | (refine fixed_next h ?_; clear h) | split at h
  all_goals repeat' simp only [↓fixed_guarded, ↓fixed_qeiSnap, implies_true]

end Sys2Proof.Machine.Laws
end

