-- ==== Sys2Proof/Laws/FixedB.lean ====
section
/-! SUPPORT. What every operation and every meaning leaves of the fixed part of the state (queue, fuses, OTP): one lemma per definition,
in the order in which they call each other. Part 2 of 4. -/

namespace Sys2Proof.Machine.Laws

theorem fixed_raiseViolations (q : Nat) (l : List Nat) (s : State) : (raiseViolations q l s).fixed = s.fixed := by
  unfold raiseViolations; simp only [↓fixed_raiseViolation, fixed_foldl, implies_true]

theorem fixed_heartbeat (q : Nat) (chk : Nat) (e : Bytes) (s : State) : (heartbeat q chk e s).fixed = s.fixed := by
  unfold heartbeat; simp only [↓fixed_ite, ↓fixed_raiseViolations, ↓fixed_wr, fixed_shp, ite_self]

theorem fixed_execHeartbeat (w : Writer) (v : Nat) (s : State) : ∀ t, (execHeartbeat w v s) = .next t → t.fixed = s.fixed := by
  intro t h
  unfold execHeartbeat at h
  repeat' first | (refine fixed_next h ?_; clear h) | split at h
  all_goals repeat' first | simp only [↓fixed_heartbeat, ↓fixed_inc] | split | refine (fixed_foldl _ _ (fun s x => ?_) _).trans ?_ | refine (fixed_foldl_snd _ _ (fun s x => ?_) _).trans ?_ | refine (fixed_guarded _ _ _ _ (fun t => ?_)).trans ?_

/-- One case of a chain of special registers. -/
theorem special_case {c : Prop} [Decidable c] {x p : Special} {o : Option Special} (h : (if c then some x else o) = some p) :
    x = p ∨ o = some p := by
  split at h
  · exact .inl (Option.some.inj h)
  · exact .inr h

theorem fixed_setAlarm (s : State) : (setAlarm s).fixed = s.fixed := by
  unfold setAlarm
  repeat' first | simp only [fixed_time] | split

theorem fixed_enterHoldover (s : State) : (enterHoldover s).fixed = s.fixed := by
  unfold enterHoldover; simp only [↓fixed_wr, ↓fixed_set, fixed_tk]

theorem fixed_dropServo (s : State) : (dropServo s).fixed = s.fixed := by
  unfold dropServo; simp only [↓fixed_ite, ↓fixed_enterHoldover, ite_self]

theorem fixed_ptpConfigured (s : State) : (ptpConfigured s).fixed = s.fixed := by
  unfold ptpConfigured
  repeat' first | simp only [↓fixed_ite, ↓fixed_dropServo, fixed_tk, ite_self] | split

theorem fixed_specialAt (a : Nat) (p : Special) (h : specialAt a = some p) (w : Writer) (v : Nat) (s : State) :
    (p.run w v s).fixed = s.fixed := by
  unfold specialAt at h
  obtain rfl | h := special_case h
  · exact fixed_after _ _ (fixed_execSfFltClr _ _ _ s)
  obtain rfl | h := special_case h
  · exact fixed_when _ (execTimeStep w) (fixed_execTimeStep w) s
  obtain rfl | h := special_case h
  · exact fixed_ptpConfigured s
  obtain rfl | h := special_case h
  · exact fixed_setAlarm s
  obtain rfl | h := special_case h
  · exact fixed_after _ _ (fixed_execLeapSchedule _ _ s)
  obtain rfl | h := special_case h
  · exact fixed_after _ _ (fixed_execCalSet _ _ s)
  obtain rfl | h := special_case h
  · exact fixed_after _ _ (fixed_execReplayGo _ _ s)
  obtain rfl | h := special_case h
  · exact fixed_probeCtl _ _ s
  obtain rfl | h := special_case h
  · exact fixed_after _ _ (fixed_execHeartbeat _ _ s)
  obtain rfl | h := special_case h
  · show (if bit v 18 = true then after (execInjectTask w v s) s else after (execInjectRaise w v s) s).fixed = s.fixed
    split
    · exact fixed_after _ _ (fixed_execInjectTask _ _ s)
    · exact fixed_after _ _ (fixed_execInjectRaise _ _ s)
  obtain rfl | h := special_case h
  · exact fixed_after _ _ (fixed_execMsyncRetry _ _ s)
  obtain rfl | h := special_case h
  · exact fixed_after _ _ (fixed_execGlLoad _ _ s)
  obtain rfl | h := special_case h
  · exact fixed_after _ _ (fixed_execGlSwap _ _ s)
  obtain rfl | h := special_case h
  · exact fixed_wakeCause s
  cases h

theorem fixed_specialIn (a : Nat) (p : Special) (h : specialIn a = some p) (w : Writer) (v : Nat) (s : State) :
    (p.run w v s).fixed = s.fixed := by
  unfold specialIn at h
  simp only [Option.orElse_eq_orElse, Option.orElse_eq_or, Option.or_eq_some_iff, Option.map_eq_some_iff, Option.bind_eq_some_iff] at h
  obtain h | ⟨-, h⟩ := h
  · obtain ⟨n, -, rfl⟩ := h; exact fixed_canCtl w n v s
  obtain h | ⟨-, h⟩ := h
  · obtain ⟨n, -, rfl⟩ := h; exact fixed_canShadow w n v s
  obtain h | ⟨-, h⟩ := h
  · obtain ⟨n, -, rfl⟩ := h; exact fixed_queueCtl w n v s
  obtain h | ⟨-, h⟩ := h
  · obtain ⟨n, -, rfl⟩ := h; exact fixed_wakeConfig n s
  obtain h | ⟨-, h⟩ := h
  · obtain ⟨n, -, k, -, rfl⟩ := h; exact fixed_noteTracing s
  obtain h | ⟨-, h⟩ := h
  · obtain ⟨n, -, rfl⟩ := h; exact fixed_when _ (execQeiSnap w n) (fixed_execQeiSnap w n) s
  obtain h | ⟨-, h⟩ := h
  · obtain ⟨n, -, rfl⟩ := h; exact fixed_when _ (execMoOvrGo w n) (fixed_execMoOvrGo w n) s
  obtain h | ⟨-, h⟩ := h
  · obtain ⟨n, -, rfl⟩ := h; exact fixed_when _ (execEthRestart w n) (fixed_execEthRestart w n) s
  obtain h | ⟨-, h⟩ := h
  · obtain ⟨q, -, n, -, rfl⟩ := h; exact fixed_after _ _ (fixed_execRxqDb w n q v s)
  obtain h | ⟨-, h⟩ := h
  · obtain ⟨n, -, rfl⟩ := h; exact fixed_after _ _ (fixed_execCciGo w n v s)
  obtain h | ⟨-, h⟩ := h
  · obtain ⟨n, -, rfl⟩ := h; exact fixed_after _ _ (fixed_execToutArm w n v s)
  obtain h | ⟨-, h⟩ := h
  · obtain ⟨n, -, rfl⟩ := h; exact fixed_after _ _ (fixed_execLaunchGridArm w n v s)
  obtain h | ⟨-, h⟩ := h
  · obtain ⟨n, -, rfl⟩ := h; exact fixed_after _ _ (fixed_execMcRetrainReq w n v s)
  obtain h | ⟨-, h⟩ := h
  · obtain ⟨n, -, rfl⟩ := h; exact fixed_after _ _ (fixed_execFenceLift w n v s)
  obtain h | ⟨-, h⟩ := h
  · obtain ⟨n, -, rfl⟩ := h; exact fixed_after _ _ (fixed_execFenceSet w n v s)
  · obtain ⟨n, -, rfl⟩ := h
    show (if bit v 0 = true then submitMbx w.master n s else s).fixed = s.fixed
    split
    · exact fixed_submitMbx _ _ _
    · rfl

theorem fixed_special (a : Nat) (p : Special) (h : special a = some p) (w : Writer) (v : Nat) (s : State) :
    (p.run w v s).fixed = s.fixed := by
  unfold special at h
  simp only [Option.orElse_eq_orElse, Option.orElse_eq_or, Option.or_eq_some_iff] at h
  obtain h | ⟨-, h⟩ := h
  · exact fixed_specialAt a p h w v s
  · exact fixed_specialIn a p h w v s

theorem fixed_afterWrites (a : Nat) (ws : List (Writer × Nat)) (hw : List HwUpdate) (s : State) (t : State) : (afterWrites a ws hw s t).fixed = t.fixed := by
  unfold afterWrites
  repeat' first | simp only [↓fixed_ite, ↓fixed_applyField, ↓fixed_fenceTarget, ↓fixed_hvDiscard, fixed_foldl, ite_self, implies_true] | split

theorem fixed_gather (g : Gather) (run : Writer → Nat → State → State) (h : ∀ w v t, (run w v t).fixed = t.fixed) (ws : List (Writer × Nat)) (s : State) :
    (gather g run ws s).fixed = s.fixed := by
  unfold gather
  repeat' first | simp only [↓fixed_ite, h, fixed_foldl, ite_self, implies_true] | split

/-- A special register keeps the fixed part if what its writes start does. -/
theorem fixed_specialCycle (a : Nat) (p : Special) (h : ∀ w v t, (p.run w v t).fixed = t.fixed) (ws : List (Writer × Nat)) (hw : List HwUpdate) (s : State) :
    (specialCycle a p ws hw s).fixed = s.fixed := by
  unfold specialCycle
  split
  · rw [fixed_gather _ _ h, fixed_applyCycle]
  · simp only [↓fixed_afterWrites, fixed_gather _ _ h, fixed_applyCycle]

theorem fixed_deviceWrite (a : Nat) (ws : List (Writer × Nat)) (hw : List HwUpdate) (s : State) : (deviceWrite a ws hw s).fixed = s.fixed := by
  unfold deviceWrite
  split
  · rfl
  split
  · next p h => exact fixed_specialCycle a p (fixed_special a p h) ws hw s
  split
  · exact fixed_foldl _ _ (fun t e => fixed_setMasterIdx _ _ _ t) _
  split
  · exact fixed_bindRegister _ _ _ _
  split
  · simp only
    split
    · exact fixed_after _ _ (fixed_execSqDb _ _ s)
    split
    · exact fixed_after _ _ (fixed_execCqDb _ _ s)
    · rfl
  · exact fixed_applyCycle _ _ _ s

theorem fixed_cycleWrite (a : Nat) (ws : List (Writer × Nat)) (hw : List HwUpdate) (s : State) : (cycleWrite a ws hw s).fixed = s.fixed := by
  unfold cycleWrite; simp only [↓fixed_ite, ↓fixed_holdLow, ↓fixed_deviceWrite, fixed_wrShadow, ite_self]

theorem fixed_imageWrite (a : Nat) (v : Nat) (mask : Nat) (s : State) : (imageWrite a v mask s).fixed = s.fixed := by
  unfold imageWrite
  repeat' first | simp only [↓fixed_ite, ↓fixed_cycleWrite, ↓fixed_inc, fixed_boot, ite_self] | split

theorem fixed_applyRegAll (p : Bytes) (s : State) : (applyRegAll p s).fixed = s.fixed := by
  unfold applyRegAll; simp only [↓fixed_ite, ↓fixed_imageWrite, fixed_foldl, ite_self, implies_true]

theorem fixed_stLocal (c : Nat) (a : Nat) (b : Bytes) (s : State) : (stLocal c a b s).fixed = s.fixed := by
  unfold stLocal; simp only [fixed_loc]

theorem fixed_storePayload (r : Record) (s : State) : (storePayload r s).fixed = s.fixed := by
  unfold storePayload
  repeat' first | simp only [↓fixed_ite, ↓fixed_memWrite, ↓fixed_stLocal, ite_self] | split

theorem fixed_loadSlot (x : Nat) (s : State) : (loadSlot x s).fixed = s.fixed := by
  unfold loadSlot; simp only [↓fixed_set, fixed_gl]

theorem fixed_declareExtp (r : Record) (s : State) : (declareExtp r s).fixed = s.fixed := by
  unfold declareExtp; simp only [↓fixed_set, ↓fixed_wr, fixed_img]

theorem fixed_bindRegisters (e : Bytes) (s : State) : (bindRegisters e s).fixed = s.fixed := by
  unfold bindRegisters
  repeat' first | simp only [↓fixed_wrs] | split

theorem fixed_bindEntry (e : Bytes) (s : State) : (bindEntry e s).fixed = s.fixed := by
  unfold bindEntry
  repeat' first | simp only [↓fixed_bindQueue, ↓fixed_bindRegisters] | split

theorem fixed_applySafe (p : Bytes) (s : State) : (applySafe p s).fixed = s.fixed := by
  unfold applySafe; simp only [↓fixed_wr, fixed_img, fixed_foldl, implies_true]

theorem fixed_applyRot (p : Bytes) (s : State) : (applyRot p s).fixed = s.fixed := by
  unfold applyRot; simp only [↓fixed_wrs, fixed_img]

theorem fixed_applyRecord (s : State) (r : Record) : (applyRecord s r).fixed = s.fixed := by
  unfold applyRecord
  repeat' first | simp only [↓fixed_ite, ↓fixed_applyPolicy, ↓fixed_applyRegAll, ↓fixed_storePayload, ↓fixed_loadSlot, ↓fixed_declareExtp, ↓fixed_bindEntry, ↓fixed_applySafe, ↓fixed_applyRot, ↓fixed_applyLogRegion, ↓fixed_applyProof, ↓fixed_post, fixed_img, fixed_foldl, ite_self, implies_true] | split

theorem fixed_readRefused (w : Writer) (a : Nat) (c : Nat) (s : State) : (readRefused w a c s).fixed = s.fixed := by
  unfold readRefused
  repeat' first | simp only [↓fixed_ite, ↓fixed_answer, ↓fixed_inc, ↓fixed_ownViol, ↓fixed_registerTimeout, ite_self] | split

theorem fixed_hostError (code : Nat) (bar : Nat) (off : Nat) (write : Bool) (s : State) : (hostError code bar off write s).fixed = s.fixed := by
  unfold hostError; simp only [↓fixed_ite, ↓fixed_inc, ↓fixed_wrs, ite_self]

theorem fixed_hostRead (w : Writer) (a : Nat) (s : State) : (hostRead w a s).fixed = s.fixed := by
  unfold hostRead
  repeat' first | simp only [↓fixed_ite, ↓fixed_hostError, ite_self] | split

theorem fixed_guardedRead (w : Writer) (a : Nat) (data : Nat) (f : State → State) (s : State) (h3 : ∀ t, (f t).fixed = t.fixed) : (guardedRead w a data f s).fixed = s.fixed := by
  unfold guardedRead; simp only [↓fixed_ite, ↓fixed_answer, ↓fixed_hostRead, ↓fixed_readRefused, ite_self, h3]

theorem fixed_latchRead (m : Nat) (a : Nat) (v : Nat) (s : State) : (latchRead m a v s).fixed = s.fixed := by
  unfold latchRead; simp only [fixed_rdShadow]

theorem fixed_execTkTimeRead (w : Writer) (s : State) : ∀ t, (execTkTimeRead w s) = .next t → t.fixed = s.fixed := by
  intro t h
  unfold execTkTimeRead at h
  repeat' first | (refine fixed_next h ?_; clear h) | split at h
  all_goals repeat' simp only [↓fixed_guardedRead, ↓fixed_latchRead, implies_true]

theorem fixed_execCalDateRead (w : Writer) (s : State) : ∀ t, (execCalDateRead w s) = .next t → t.fixed = s.fixed := by
  intro t h
  unfold execCalDateRead at h
  repeat' first | (refine fixed_next h ?_; clear h) | split at h
  all_goals repeat' simp only [↓fixed_guardedRead, ↓fixed_latchRead, implies_true]

theorem fixed_readClear (w : Writer) (f : Field) (s : State) : (readClear w f s).fixed = s.fixed := by
  unfold readClear; simp only [↓fixed_guardedRead, ↓fixed_wr, implies_true]

theorem fixed_execGlLatMaxRead (w : Writer) (s : State) : ∀ t, (execGlLatMaxRead w s) = .next t → t.fixed = s.fixed := by
  intro t h
  unfold execGlLatMaxRead at h
  repeat' first | (refine fixed_next h ?_; clear h) | split at h
  all_goals repeat' simp only [↓fixed_readClear]

theorem fixed_execMsyncSkewMaxRead (w : Writer) (s : State) : ∀ t, (execMsyncSkewMaxRead w s) = .next t → t.fixed = s.fixed := by
  intro t h
  unfold execMsyncSkewMaxRead at h
  repeat' first | (refine fixed_next h ?_; clear h) | split at h
  all_goals repeat' simp only [↓fixed_readClear]

theorem fixed_popTxts (n : Nat) (s : State) : (popTxts n s).fixed = s.fixed := by
  unfold popTxts; simp only [↓fixed_setTxts]

theorem fixed_execTxtsNsRead (w : Writer) (n : Nat) (s : State) : ∀ t, (execTxtsNsRead w n s) = .next t → t.fixed = s.fixed := by
  intro t h
  unfold execTxtsNsRead at h
  repeat' first | (refine fixed_next h ?_; clear h) | split at h
  all_goals repeat' simp only [↓fixed_guardedRead, ↓fixed_popTxts, implies_true]

theorem fixed_setTcap (s : State) (n : Nat) (l : List Capture) : (setTcap s n l).fixed = s.fixed := by
  unfold setTcap; simp only [fixed_tk]

theorem fixed_popTcap (n : Nat) (s : State) : (popTcap n s).fixed = s.fixed := by
  unfold popTcap; simp only [↓fixed_setTcap]

theorem fixed_execTcapNsRead (w : Writer) (n : Nat) (s : State) : ∀ t, (execTcapNsRead w n s) = .next t → t.fixed = s.fixed := by
  intro t h
  unfold execTcapNsRead at h
  repeat' first | (refine fixed_next h ?_; clear h) | split at h
  all_goals repeat' simp only [↓fixed_guardedRead, ↓fixed_popTcap, implies_true]

theorem fixed_execMcLatMaxRead (w : Writer) (m : Nat) (s : State) : ∀ t, (execMcLatMaxRead w m s) = .next t → t.fixed = s.fixed := by
  intro t h
  unfold execMcLatMaxRead at h
  repeat' first | (refine fixed_next h ?_; clear h) | split at h
  all_goals repeat' simp only [↓fixed_ite, ↓fixed_readClear, ite_self]

theorem fixed_execFuErrmaxRead (w : Writer) (e : Nat) (s : State) : ∀ t, (execFuErrmaxRead w e s) = .next t → t.fixed = s.fixed := by
  intro t h
  unfold execFuErrmaxRead at h
  repeat' first | (refine fixed_next h ?_; clear h) | split at h
  all_goals repeat' simp only [↓fixed_readClear]

theorem fixed_execAttSelmaxRead (w : Writer) (e : Nat) (s : State) : ∀ t, (execAttSelmaxRead w e s) = .next t → t.fixed = s.fixed := by
  intro t h
  unfold execAttSelmaxRead at h
  repeat' first | (refine fixed_next h ?_; clear h) | split at h
  all_goals repeat' simp only [↓fixed_readClear]

theorem fixed_execShpTaskMaxendRead (w : Writer) (q : Nat) (s : State) : ∀ t, (execShpTaskMaxendRead w q s) = .next t → t.fixed = s.fixed := by
  intro t h
  unfold execShpTaskMaxendRead at h
  repeat' first | (refine fixed_next h ?_; clear h) | split at h
  all_goals repeat' simp only [↓fixed_ite, ↓fixed_readClear, ite_self]

theorem fixed_execTmCpmRead (w : Writer) (r : Nat) (s : State) : ∀ t, (execTmCpmRead w r s) = .next t → t.fixed = s.fixed := by
  intro t h
  unfold execTmCpmRead at h
  repeat' first | (refine fixed_next h ?_; clear h) | split at h
  all_goals repeat' simp only [↓fixed_ite, ↓fixed_guardedRead, ↓fixed_wr, ite_self, implies_true]

theorem fixed_readEffect (w : Writer) (a : Nat) (s t : State) (h : readEffect w a s = some t) : t.fixed = s.fixed := by
  unfold readEffect at h
  split at h
  · cases h; exact fixed_after _ _ (fixed_execTkTimeRead w s)
  split at h
  · cases h; exact fixed_after _ _ (fixed_execCalDateRead w s)
  split at h
  · cases h; exact fixed_after _ _ (fixed_execGlLatMaxRead w s)
  split at h
  · cases h; exact fixed_after _ _ (fixed_execMsyncSkewMaxRead w s)
  simp only [Option.orElse_eq_orElse, Option.orElse_eq_or, Option.or_eq_some_iff, Option.map_eq_some_iff] at h
  have k1 := fun n => fixed_after _ _ (fixed_execTxtsNsRead w n s)
  have k2 := fun n => fixed_after _ _ (fixed_execTcapNsRead w n s)
  have k3 := fun n => fixed_after _ _ (fixed_execMcLatMaxRead w n s)
  have k4 := fun n => fixed_after _ _ (fixed_execFuErrmaxRead w n s)
  have k5 := fun n => fixed_after _ _ (fixed_execAttSelmaxRead w n s)
  have k6 := fun n => fixed_after _ _ (fixed_execShpTaskMaxendRead w n s)
  have k7 := fun n => fixed_after _ _ (fixed_execTmCpmRead w n s)
  rcases h with ⟨n, -, rfl⟩ | ⟨-, ⟨n, -, rfl⟩ | ⟨-, ⟨n, -, rfl⟩ | ⟨-, ⟨n, -, rfl⟩ | ⟨-, ⟨n, -, rfl⟩ | ⟨-, ⟨n, -, rfl⟩ | ⟨-, n, -, rfl⟩⟩⟩⟩⟩⟩ <;>
    simp only [k1, k2, k3, k4, k5, k6, k7]

theorem fixed_imageRead (a : Nat) (s : State) : (imageRead a s).2.fixed = s.fixed := by
  unfold imageRead
  show ((readEffect imageWriter a s).getD s).fixed = s.fixed
  cases h : readEffect imageWriter a s with
  | none => rfl
  | some t => exact fixed_readEffect _ _ _ _ h

theorem fixed_setDelay (us : Nat) (s : State) : (setDelay us s).fixed = s.fixed := by
  unfold setDelay
  repeat' first | simp only [fixed_boot] | split

theorem fixed_pollEntry (e : Bytes) (s : State) : (pollEntry e s).2.fixed = s.fixed := by
  unfold pollEntry
  repeat' first | simp only [↓fixed_imageRead] | split

theorem fixed_setPoll (t : Option Nat) (s : State) : (setPoll t s).fixed = s.fixed := by
  unfold setPoll
  repeat' first | simp only [fixed_boot] | split

theorem fixed_applyReg (p : Bytes) (n i : Nat) (s : State) : (applyReg p n i s).2.fixed = s.fixed := by
  induction n generalizing i s with
  | zero => rfl
  | succ n ih =>
    unfold applyReg
    simp only
    split
    · split
      · rw [ih, fixed_setPoll]; exact fixed_pollEntry _ _
      · exact (fixed_setPoll _ _).trans (fixed_pollEntry _ _)
    · split
      · exact (fixed_setDelay _ _).trans (fixed_imageWrite _ _ _ _)
      · rw [ih]; exact fixed_imageWrite _ _ _ _

theorem fixed_applyTodo (f : State → Record → State) (hf : ∀ s r, (f s r).fixed = s.fixed) (l : List Record) (pos : Nat) (s : State) :
    (applyTodo f l pos s).2.fixed = s.fixed := by
  induction l generalizing pos s with
  | nil => rfl
  | cons r l ih =>
    unfold applyTodo
    split
    · have h := fixed_applyReg r.payload (r.payload.length / 16 - pos) pos s
      split
      · next e => rw [e] at h; exact h
      · next e => rw [e] at h; rw [ih]; exact h
    · rw [ih, hf]

theorem fixed_arm (s : State) : (arm s).fixed = s.fixed := by
  unfold arm; simp only [↓fixed_noteEdge, ↓fixed_wrs]

theorem fixed_startOtp (s : State) : (startOtp s).fixed = s.fixed := by
  unfold startOtp; simp only [↓fixed_ite, fixed_secu, ite_self]

theorem fixed_askOtp (l : List OtpProg) (s : State) : (askOtp l s).fixed = s.fixed := by
  unfold askOtp; simp only [↓fixed_startOtp, fixed_secu]

theorem fixed_fuCount (c : Nat) (t : Fu) (nans : Nat) (s : State) : (fuCount c t nans s).fixed = s.fixed := by
  unfold fuCount; simp only [↓fixed_ite, ↓fixed_inc, ↓fixed_wr, ↓fixed_free, ite_self]

theorem fixed_attnCount (c : Nat) (t : AttnTally) (s : State) : (attnCount c t s).fixed = s.fixed := by
  unfold attnCount; simp only [↓fixed_ite, ↓fixed_inc, ↓fixed_fuCount, ↓fixed_wr, ite_self]

theorem fixed_attnSeq (b : Bytes) (v : Attn) (q : Bytes) (m : Option Nat) (z : KvSeq) (r r' : State × AttnTally)
    (e : attnSeq b v q m z r = .ok r') : r'.1.fixed = r.1.fixed := by
  unfold attnSeq at e
  split at e
  · cases e
  split at e
  · cases e
  · simp only at e
    split at e
    · cases e
    · cases e; rfl

theorem fixed_autoExposure (n : Nat) (s : State) : (autoExposure n s).fixed = s.fixed := by
  unfold autoExposure
  repeat' first | simp only [↓fixed_ite, ↓fixed_memWrite, ↓fixed_set, ↓fixed_startCci, fixed_intake, ite_self] | split

theorem fixed_badWrite (s : State) : (badWrite s).fixed = s.fixed := by
  unfold badWrite; simp only [↓fixed_answer, ↓fixed_inc]

theorem fixed_enterRecovery (s : State) : (enterRecovery s).fixed = s.fixed := by
  unfold enterRecovery; simp only [↓fixed_safeLevels, ↓fixed_wr, fixed_boot]

theorem fixed_dropAttempt (pcie : Bool) (s : State) : (dropAttempt pcie s).fixed = s.fixed := by
  unfold dropAttempt
  repeat' first | simp only [↓fixed_dropFields, fixed_mk, fixed_eta] | split | refine (fixed_foldl _ _ (fun s x => ?_) _).trans ?_ | refine (fixed_foldl_snd _ _ (fun s x => ?_) _).trans ?_

theorem fixed_programReject (c : Nat) (s : State) : (programReject c s).fixed = s.fixed := by
  unfold programReject; simp only [↓fixed_progFlash]

theorem fixed_showTries (c : Nat) (s : State) : (showTries c s).fixed = s.fixed := by
  unfold showTries; simp only [↓fixed_wr]

theorem fixed_clearTry (c : Nat) (s : State) : (clearTry c s).fixed = s.fixed := by
  unfold clearTry
  repeat' first | simp only [↓fixed_showTries, ↓fixed_progFlash] | split

theorem fixed_portConfig (c : Nat) (h : Bytes) (s : State) : (portConfig c h s).fixed = s.fixed := by
  unfold portConfig
  repeat' first | simp only [↓fixed_ite, ↓fixed_wrs, ite_self] | split

theorem fixed_startAttempt (c : Nat) (s : State) : (startAttempt c s).fixed = s.fixed := by
  unfold startAttempt; simp only [↓fixed_ite, ↓fixed_clearTry, ↓fixed_wr, ↓fixed_portConfig, fixed_boot, ite_self]

theorem fixed_beginWatch (s : State) : (beginWatch s).fixed = s.fixed := by
  unfold beginWatch
  repeat' first | simp only [fixed_boot] | split

theorem fixed_tryNext (s : State) : (tryNext s).fixed = s.fixed := by
  unfold tryNext
  repeat' first | simp only [↓fixed_beginWatch, ↓fixed_enterRecovery, ↓fixed_startAttempt, fixed_boot] | split

theorem fixed_failAttempt (code : Nat) (s : State) : (failAttempt code s).fixed = s.fixed := by
  unfold failAttempt
  repeat' first | simp only [↓fixed_ite, ↓fixed_wr, ↓fixed_enterRecovery, ↓fixed_dropAttempt, ↓fixed_programReject, ↓fixed_tryNext, ↓fixed_set, ite_self] | split

theorem fixed_programConfirm (p : Nat) (s : State) : (programConfirm p s).fixed = s.fixed := by
  unfold programConfirm; simp only [↓fixed_ite, ↓fixed_progFlash, ite_self]

theorem fixed_raiseArb (a : Nat) (then_ : Option Nat) (s : State) : (raiseArb a then_ s).fixed = s.fixed := by
  unfold raiseArb
  repeat' first | simp only [↓fixed_ite, ↓fixed_programConfirm, ↓fixed_post, ↓fixed_set, ↓fixed_askOtp] | split

theorem fixed_withDefaults (l : List Record) (s : State) : (withDefaults l s).fixed = s.fixed := by
  unfold withDefaults; simp only [↓fixed_ite, ↓fixed_applyPolicy, ite_self]

theorem fixed_clearAll (s : State) : (clearAll s).fixed = s.fixed := by
  unfold clearAll
  repeat' first | simp only [fixed_mk, fixed_eta] | split | refine (fixed_foldl _ _ (fun s x => ?_) _).trans ?_ | refine (fixed_foldl_snd _ _ (fun s x => ?_) _).trans ?_

theorem fixed_performReset (cls : Nat) (req : Nat) (s : State) : (performReset cls req s).fixed = s.fixed := by
  unfold performReset; simp only [↓fixed_ite, ↓fixed_dropFields, ↓fixed_clearAll, ↓fixed_safeLevels, ↓fixed_wrs, ↓fixed_set, ↓fixed_inc, fixed_power, fixed_foldl, ite_self, implies_true]

theorem fixed_setPower (g : Power → Power) (s : State) : (setPower g s).fixed = s.fixed := by
  unfold setPower; simp only [fixed_power]

theorem fixed_recordCause (cls : Nat) (s : State) : (recordCause cls s).fixed = s.fixed := by
  unfold recordCause
  repeat' first | simp only [↓fixed_ite, ↓fixed_set, ↓fixed_setPower, ↓fixed_wr, ite_self] | split

theorem fixed_resetInDark (cls : Nat) (s : State) : (resetInDark cls s).fixed = s.fixed := by
  unfold resetInDark
  repeat' first | simp only [↓fixed_ite, ↓fixed_setPower, ↓fixed_startPower, ↓fixed_wr, fixed_snap, ite_self] | split

theorem fixed_holdReset (cls : Nat) (s : State) : (holdReset cls s).fixed = s.fixed := by
  unfold holdReset
  repeat' first | simp only [↓fixed_setPower, ↓fixed_wr] | split

theorem fixed_requestReset (cls : Nat) (s : State) : (requestReset cls s).fixed = s.fixed := by
  unfold requestReset
  repeat' first | simp only [↓fixed_ite, ↓fixed_holdReset, ↓fixed_performReset, ↓fixed_recordCause, ↓fixed_resetInDark, ite_self] | split

theorem fixed_restartAttempt (s : State) : (restartAttempt s).fixed = s.fixed := by
  unfold restartAttempt
  repeat' first | simp only [↓fixed_ite, ↓fixed_dropAttempt, ↓fixed_failAttempt, ↓fixed_portConfig, ↓fixed_wr, fixed_boot, ite_self] | split

theorem fixed_continueTodo (f : State → Record → State) (hf : ∀ s r, (f s r).fixed = s.fixed) (s : State) : (continueTodo f s).fixed = s.fixed := by
  unfold continueTodo
  repeat' first | simp only [fixed_applyTodo f hf, fixed_boot] | split

theorem fixed_continueApply (s : State) : (continueApply s).fixed = s.fixed := by
  unfold continueApply
  repeat' first | simp only [↓fixed_ite, ↓fixed_applyRecord, ↓fixed_continueTodo, ↓fixed_requestReset, ↓fixed_restartAttempt, fixed_boot, ite_self, implies_true] | split

theorem fixed_beginApply (s : State) : (beginApply s).fixed = s.fixed := by
  unfold beginApply
  repeat' first | simp only [↓fixed_ite, ↓fixed_continueApply, ↓fixed_failAttempt, ↓fixed_raiseArb, ↓fixed_withDefaults, ↓fixed_wr, fixed_boot, ite_self] | split

theorem fixed_beginBatch (recs : List EventRec) (taken : Nat) (s : State) : (beginBatch recs taken s).fixed = s.fixed := by
  unfold beginBatch; simp only [↓fixed_progFlash, fixed_evlog]

theorem fixed_mapSteps (g : EngineStep → EngineStep) (s : State) : (mapSteps g s).fixed = s.fixed := by
  unfold mapSteps; simp only [fixed_drv]

theorem fixed_pauseStep (c : Nat) (s : State) : (pauseStep c s).fixed = s.fixed := by
  unfold pauseStep
  repeat' first | simp only [↓fixed_ite, ↓fixed_countStretch, ↓fixed_addServed, ↓fixed_inc, ↓fixed_mapSteps, ↓fixed_putSeq, ↓fixed_showColumn, fixed_foldl, implies_true] | split

theorem fixed_beginClaim (e : Nat) (q : Nat) (s : State) : (beginClaim e q s).fixed = s.fixed := by
  unfold beginClaim; simp only [↓fixed_setRot, ↓fixed_pauseStep, ↓fixed_showColumns, fixed_foldl, implies_true]

theorem fixed_cutMotorFrames (s : State) : (cutMotorFrames s).fixed = s.fixed := by
  unfold cutMotorFrames
  repeat' first | simp only [↓fixed_ite, ↓fixed_clr, fixed_can, ite_self] | split | refine (fixed_foldl _ _ (fun s x => ?_) _).trans ?_

theorem fixed_leaveBarrier (s : State) : (leaveBarrier s).fixed = s.fixed := by
  unfold leaveBarrier; simp only [↓fixed_ite, ↓fixed_wrs, fixed_msync, ite_self]

theorem fixed_countReason (n : Nat) (code : Nat) (s : State) : (countReason n code s).fixed = s.fixed := by
  unfold countReason; simp only [↓fixed_ite, ↓fixed_inc, ite_self]

theorem fixed_endBlock (n : Nat) (block : Nat) (s : State) : (endBlock n block s).fixed = s.fixed := by
  unfold endBlock
  repeat' first | simp only [fixed_intake] | split

theorem fixed_discardFrames (code : Nat) (p : Frame → Bool) (s : State) : (discardFrames code p s).fixed = s.fixed := by
  unfold discardFrames
  repeat' first | simp only [↓fixed_ite, ↓fixed_countReason, ↓fixed_endBlock, ↓fixed_showPool, ↓fixed_wr, fixed_intake, fixed_foldl, ite_self, implies_true] | split

theorem fixed_intakeDrain (s : State) : (intakeDrain s).fixed = s.fixed := by
  unfold intakeDrain; simp only [↓fixed_setReplays, ↓fixed_discardFrames]

theorem fixed_maintBusy (s : State) : (maintBusy s).fixed = s.fixed := by
  unfold maintBusy; simp only [↓fixed_showColumn, fixed_drv, ↓fixed_modifyFlights, ↓fixed_post, ↓fixed_set, ↓fixed_clr, ↓fixed_wr, fixed_mc, fixed_foldl, implies_true]

theorem fixed_holdBarrier (s : State) : (holdBarrier s).fixed = s.fixed := by
  unfold holdBarrier
  repeat' first | simp only [↓fixed_ite, ↓fixed_wrs, ite_self] | split

theorem fixed_stopRotation (s : State) : (stopRotation s).fixed = s.fixed := by
  unfold stopRotation
  repeat' first | simp only [↓fixed_ite, ↓fixed_clr, ↓fixed_dropInst, ↓fixed_holdBarrier, ↓fixed_maintBusy, ↓fixed_pauseStep, ↓fixed_setRot, ↓fixed_showColumns, ↓fixed_wrs, fixed_foldl, ite_self, implies_true] | split

theorem fixed_leaveFrame (s : State) (n : Nat) : (leaveFrame s n).fixed = s.fixed := by
  unfold leaveFrame
  repeat' first | simp only [↓fixed_ite, ↓fixed_abandonAll, ↓fixed_wr, fixed_can, ite_self] | split

theorem fixed_stopForDrain (s : State) : (stopForDrain s).fixed = s.fixed := by
  unfold stopForDrain
  repeat' first | simp only [↓fixed_abandonUpdate, ↓fixed_intakeDrain, ↓fixed_leaveBarrier, ↓fixed_leaveFrame, ↓fixed_stopRotation, fixed_foldl, implies_true] | split

theorem fixed_beginDrain (s : State) : (beginDrain s).fixed = s.fixed := by
  unfold beginDrain
  repeat' first | simp only [↓fixed_ite, ↓fixed_cutMotorFrames, ↓fixed_loopReaction, ↓fixed_setPower, ↓fixed_stopForDrain, ↓fixed_wr, ↓fixed_wrs, ite_self] | split

theorem fixed_countFrame (n : Nat) (tm : Nat) (s : State) : (countFrame n tm s).fixed = s.fixed := by
  unfold countFrame; simp only [↓fixed_setCommits]

theorem fixed_matchFrame (n : Nat) (fsTs : Nat) (fsMono : Nat) (s : State) : (matchFrame n fsTs fsMono s).2.fixed = s.fixed := by
  unfold matchFrame
  repeat' first | simp only [↓fixed_ite_snd, ↓fixed_countFrame, ↓fixed_missTrigger, ↓fixed_setTriggers, ↓fixed_inc, fixed_foldl, ite_self, implies_true] | split

theorem fixed_nextSid (n : Nat) (s : State) : (nextSid n s).2.fixed = s.fixed := by
  unfold nextSid; simp only [↓fixed_wrPair]

theorem fixed_setGroup (g : Nat) (l : List Sample) (s : State) : (setGroup g l s).fixed = s.fixed := by
  unfold setGroup; simp only [↓fixed_ite, ↓fixed_wr, ↓fixed_raiseVector, ↓fixed_set, fixed_intake, ite_self]

theorem fixed_nondet (q : Nat) (kind : Nat) (s : State) : (nondet q kind s).fixed = s.fixed := by
  unfold nondet; simp only [↓fixed_ite, ↓fixed_inc, ↓fixed_wr, ↓fixed_set, ite_self]

theorem fixed_countRelease (g : Nat) (n : Nat) (code : Nat) (s : State) : (countRelease g n code s).fixed = s.fixed := by
  unfold countRelease
  repeat' first | simp only [↓fixed_countReason, ↓fixed_nondet] | split

theorem fixed_releaseQueued (g : Nat) (code : Nat) (p : Sample → Bool) (s : State) : (releaseQueued g code p s).fixed = s.fixed := by
  unfold releaseQueued; simp only [↓fixed_ite, ↓fixed_setGroup, ↓fixed_showPool, ↓fixed_countRelease, fixed_foldl, ite_self, implies_true]

theorem fixed_reclaim (n size fuel : Nat) (s : State) : (reclaim n size fuel s).2.fixed = s.fixed := by
  induction fuel generalizing s with
  | zero => rfl
  | succ fuel ih =>
    unfold reclaim
    split
    · rfl
    split
    · rfl
    rw [ih, fixed_releaseQueued]

theorem fixed_takeBuf (n : Nat) (size : Nat) (s : State) : (takeBuf n size s).2.fixed = s.fixed := by
  unfold takeBuf
  repeat' first | simp only [↓fixed_ite_snd, ↓fixed_reclaim, ite_self] | split

theorem fixed_openFrame (f : Frame) (s : State) : (openFrame f s).2.fixed = s.fixed := by
  have h := fixed_nextSid f.stream s
  unfold openFrame
  revert h
  generalize nextSid f.stream s = x
  intro h
  have h2 := fixed_takeBuf f.stream (frameGranules x.2 f.stream f.prep) x.2
  revert h2
  simp only
  generalize takeBuf f.stream (frameGranules x.2 f.stream f.prep) x.2 = b
  intro h2
  split
  · exact h
  split
  · exact (fixed_countReason _ _ _).trans (h2.trans h)
  · exact h2.trans h

theorem fixed_beginFrame (n : Nat) (ch : Nat) (w : Nat) (h : Nat) (srcSeq : Nat) (fs : Nat) (fsMono : Nat) (jpeg : Bool) (ok : Bool) (s : State) : (beginFrame n ch w h srcSeq fs fsMono jpeg ok s).2.fixed = s.fixed := by
  unfold beginFrame
  generalize frameGranules = z
  repeat' simp only [↓fixed_ite_snd, ↓fixed_matchFrame, ↓fixed_countReason, ↓fixed_openFrame, fixed_intake, ite_self]

theorem fixed_initiatorReset (pid : Nat) (s : State) : (initiatorReset pid s).fixed = s.fixed := by
  unfold initiatorReset; simp only [↓fixed_mapPieces]

theorem fixed_targetReset (pid : Nat) (s : State) : (targetReset pid s).fixed = s.fixed := by
  unfold targetReset; simp only [↓fixed_mapPieces]

theorem fixed_clearPorts (k : Nat) (s : State) : (clearPorts k s).fixed = s.fixed := by
  unfold clearPorts
  repeat' first | simp only [↓fixed_deliver, ↓fixed_initiatorReset, ↓fixed_targetReset] | split

theorem fixed_seedTime (s : State) : (seedTime s).fixed = s.fixed := by
  unfold seedTime
  repeat' first | simp only [↓fixed_rangeAgain, fixed_time] | split

theorem fixed_clearTimekeeper (s : State) : (clearTimekeeper s).fixed = s.fixed := by
  unfold clearTimekeeper
  repeat' first | simp only [↓fixed_dropServo, ↓fixed_incWrap, ↓fixed_seedTime, fixed_mk, fixed_eta] | split | refine (fixed_foldl _ _ (fun s x => ?_) _).trans ?_ | refine (fixed_foldl_snd _ _ (fun s x => ?_) _).trans ?_

theorem fixed_rerunSteps (p : Nat → Bool) (s : State) : (rerunSteps p s).fixed = s.fixed := by
  unfold rerunSteps; simp only [↓fixed_inc, ↓fixed_mapSteps, ↓fixed_showColumns, fixed_foldl, implies_true]

theorem fixed_clearDrover (s : State) : (clearDrover s).fixed = s.fixed := by
  unfold clearDrover; simp only [↓fixed_endMaint, ↓fixed_rerunSteps, ↓fixed_abortFlights, ↓fixed_stopRotation, fixed_drv]

theorem fixed_releaseSlot (n : Nat) (s : State) : (releaseSlot n s).fixed = s.fixed := by
  unfold releaseSlot; simp only [↓fixed_discardFrames, ↓fixed_releaseQueued, ↓fixed_clr, ↓fixed_wr, fixed_intake, fixed_foldl, implies_true]

theorem fixed_intakeStop (s : State) : (intakeStop s).fixed = s.fixed := by
  unfold intakeStop
  repeat' first | simp only [↓fixed_intakeDrain, ↓fixed_releaseQueued, fixed_foldl, implies_true] | split

theorem fixed_intakeReset (s : State) : (intakeReset s).fixed = s.fixed := by
  unfold intakeReset
  repeat' first | simp only [↓fixed_intakeStop, ↓fixed_releaseSlot, fixed_foldl, implies_true, fixed_mk, fixed_eta] | split | refine (fixed_foldl _ _ (fun s x => ?_) _).trans ?_ | refine (fixed_foldl_snd _ _ (fun s x => ?_) _).trans ?_

theorem fixed_showLinks (s : State) : (showLinks s).fixed = s.fixed := by
  unfold showLinks; simp only [↓fixed_wrs]

theorem fixed_resetProbe (n : Nat) (s : State) : (resetProbe n s).fixed = s.fixed := by
  unfold resetProbe
  repeat' first | simp only [↓fixed_setFifo, ↓fixed_wr, fixed_prb] | split

theorem fixed_nodeReset (n : Nat) (s : State) : (nodeReset n s).fixed = s.fixed := by
  unfold nodeReset; simp only [↓fixed_showLinks, ↓fixed_wrs, ↓fixed_mapPieces, ↓fixed_deliver, ↓fixed_resetProbe]

theorem fixed_clearController (m : Nat) (s : State) : (clearController m s).fixed = s.fixed := by
  unfold clearController; simp only [↓fixed_ite, ↓fixed_clr, ite_self, ↓fixed_endMaint, fixed_mc]

theorem fixed_dropLink (n : Nat) (s : State) : (dropLink n s).fixed = s.fixed := by
  unfold dropLink
  repeat' first | simp only [↓fixed_abandonFrames, ↓fixed_clr, ↓fixed_wr, fixed_eth] | split

theorem fixed_dropLinks (s : State) : (dropLinks s).fixed = s.fixed := by
  unfold dropLinks; simp only [↓fixed_ite, ↓fixed_dropLink, fixed_foldl, ite_self, implies_true]

theorem fixed_clearEthernet (s : State) : (clearEthernet s).fixed = s.fixed := by
  unfold clearEthernet; simp only [↓fixed_releaseFrames, ↓fixed_dropLinks, ↓fixed_abortFlights, fixed_eth]

theorem fixed_clearCan (s : State) : (clearCan s).fixed = s.fixed := by
  unfold clearCan; simp only [↓fixed_unbookLaunch, ↓fixed_withdraw, ↓fixed_abortFlights, fixed_can, fixed_foldl, implies_true]

theorem fixed_resetCollector (s : State) : (resetCollector s).fixed = s.fixed := by
  unfold resetCollector; simp only [↓fixed_inc, fixed_prb]

theorem fixed_clearHidden (k : Nat) (s : State) : (clearHidden k s).fixed = s.fixed := by
  unfold clearHidden; simp only [↓fixed_endMaint, ↓fixed_ite, ↓fixed_clearTimekeeper, ↓fixed_clearDrover, ↓fixed_intakeReset, ↓fixed_abortFlights, ↓fixed_rerunSteps, ↓fixed_nodeReset, ↓fixed_clearController, ↓fixed_clearEthernet, ↓fixed_clearCan, ↓fixed_resetCollector, fixed_joint, fixed_gl, ite_self]

theorem fixed_resetIsland (k : Nat) (s : State) : (resetIsland k s).fixed = s.fixed := by
  unfold resetIsland; simp only [↓fixed_ite, ↓fixed_loopReaction, ↓fixed_dropFields, ↓fixed_clearPorts, ↓fixed_clearHidden, ite_self]

theorem fixed_beginIslandReset (k : Nat) (s : State) : (beginIslandReset k s).fixed = s.fixed := by
  unfold beginIslandReset
  repeat' first | simp only [↓fixed_resetIsland, ↓fixed_wrs, fixed_mk, fixed_eta] | split | refine (fixed_foldl _ _ (fun s x => ?_) _).trans ?_ | refine (fixed_foldl_snd _ _ (fun s x => ?_) _).trans ?_

theorem fixed_beginSupervision (s : State) : (beginSupervision s).fixed = s.fixed := by
  unfold beginSupervision; simp only [↓fixed_wr, ↓fixed_set, fixed_safety, fixed_shp, fixed_foldl, implies_true]

theorem fixed_bookLaunch (e : LaunchEntry) (s : State) : (bookLaunch e s).2.fixed = s.fixed := by
  unfold bookLaunch; simp only [↓fixed_ite_snd, ↓fixed_wr, ↓fixed_inc, fixed_tk, ite_self]

theorem fixed_refuseOverride (m : Nat) (s : State) : (refuseOverride m s).fixed = s.fixed := by
  unfold refuseOverride
  repeat' first | simp only [↓fixed_ite, ↓fixed_inc, ↓fixed_withdraw, ite_self] | split

theorem fixed_bookGo (tmpl : Bytes) (rec : Bytes) (d : Decision) (m : Nat) (l : Nat) (close : Nat) (nsWord : Nat) (s : State) : (bookGo tmpl rec d m l close nsWord s).2.fixed = s.fixed := by
  unfold bookGo
  repeat' first | simp only [↓fixed_ite_snd, ↓fixed_bookLaunch, ↓fixed_putTemplate, ↓fixed_refuseOverride, ↓fixed_set, ↓fixed_unbookLaunch, ite_self] | split

theorem fixed_bookAll (tmpl rec : Bytes) (d : Decision) (l close nsWord : Nat) (ms : List Nat) (s : State) :
    (bookAll tmpl rec d l close nsWord ms s).2.fixed = s.fixed := by
  induction ms generalizing s with
  | nil => rfl
  | cons m ms ih =>
    unfold bookAll
    simp only
    split
    · rw [ih]; exact fixed_bookGo _ _ _ _ _ _ _ _
    · exact (fixed_withdraw _ _).trans (fixed_bookGo _ _ _ _ _ _ _ _)

theorem fixed_confirmImage (s : State) : (confirmImage s).fixed = s.fixed := by
  unfold confirmImage
  repeat' first | simp only [↓fixed_ite, ↓fixed_wrs, ↓fixed_raiseArb, ↓fixed_programConfirm, fixed_boot, ite_self] | split

theorem fixed_execConfirm (w : Writer) (s : State) : ∀ t, (execConfirm w s) = .next t → t.fixed = s.fixed := by
  intro t h
  unfold execConfirm at h
  repeat' first | (refine fixed_next h ?_; clear h) | split at h
  all_goals repeat' simp only [↓fixed_ite, ↓fixed_guarded, ↓fixed_confirmImage, ite_self, implies_true]

theorem fixed_startHostImage (s : State) : (startHostImage s).fixed = s.fixed := by
  unfold startHostImage
  repeat' first | simp only [↓fixed_ite, ↓fixed_beginWatch, ↓fixed_enterRecovery, ↓fixed_startAttempt, ↓fixed_wr, fixed_boot, ite_self] | split

theorem fixed_resumeWatch (s : State) : (resumeWatch s).fixed = s.fixed := by
  unfold resumeWatch
  repeat' first | simp only [fixed_boot] | split

theorem fixed_execHostgo (w : Writer) (master : Bool) (s : State) : ∀ t, (execHostgo w master s) = .next t → t.fixed = s.fixed := by
  intro t h
  unfold execHostgo at h
  repeat' first | (refine fixed_next h ?_; clear h) | split at h
  all_goals repeat' first | simp only [↓fixed_ite, ↓fixed_beginApply, ↓fixed_guarded, ↓fixed_resumeWatch, ↓fixed_startHostImage, fixed_hl, ite_self, implies_true] | split

theorem fixed_execRetry (w : Writer) (s : State) : ∀ t, (execRetry w s) = .next t → t.fixed = s.fixed := by
  intro t h
  unfold execRetry at h
  repeat' first | (refine fixed_next h ?_; clear h) | split at h
  all_goals repeat' first | simp only [↓fixed_ite, ↓fixed_guarded, ↓fixed_wr, fixed_boot, ite_self, implies_true] | split

theorem fixed_bootCtl (w : Writer) (v : Nat) (s : State) : (bootCtl w v s).fixed = s.fixed :=
  (fixed_when _ (execRetry w) (fixed_execRetry w) _).trans
    ((fixed_when _ (fun s => execHostgo w s.hl.busMaster s) (fun s => fixed_execHostgo w s.hl.busMaster s) _).trans
      (fixed_when _ (execConfirm w) (fixed_execConfirm w) s))

theorem fixed_bootScripts (s : State) : (bootScripts s).fixed = s.fixed := by
  unfold bootScripts
  repeat' first | simp only [↓fixed_startCci, fixed_foldl, implies_true] | split

theorem fixed_canIrq (n : Nat) (en : Field) (s : State) : (canIrq n en s).fixed = s.fixed := by
  unfold canIrq; simp only [↓fixed_ite, ↓fixed_raiseVector, ite_self]

theorem fixed_busOff (n : Nat) (s : State) : (busOff n s).fixed = s.fixed := by
  unfold busOff; simp only [↓fixed_wr, ↓fixed_abandonAll, ↓fixed_unbookLaunch, ↓fixed_canIrq, ↓fixed_post, ↓fixed_inc, ↓fixed_set]

theorem fixed_storeCode (cap : Nat) (code : Bytes) (s : State) : (storeCode cap code s).fixed = s.fixed := by
  unfold storeCode
  repeat' first | simp only [↓fixed_ite, ↓fixed_memWrite, fixed_intake, ite_self] | split

theorem fixed_cacheDone (late : Bool) (s : State) : (cacheDone late s).fixed = s.fixed := by
  unfold cacheDone
  repeat' first | simp only [↓fixed_ite, ↓fixed_inc, ↓fixed_set, ↓fixed_storeCode, ↓fixed_wr, fixed_intake, ite_self] | split

theorem fixed_modifyReq (o : Nat) (g : CanReq → CanReq) (s : State) : (modifyReq o g s).fixed = s.fixed := by
  unfold modifyReq; simp only [↓fixed_setReqs]

theorem fixed_startBit (mf : MotorFrame) (sof : Nat) (s : State) : (startBit mf sof s).fixed = s.fixed := by
  unfold startBit
  repeat' first | simp only [↓fixed_ite, fixed_safety] | split

theorem fixed_canAttempt (n : Nat) (s : State) : (canAttempt n s).fixed = s.fixed := by
  unfold canAttempt
  repeat' first | simp only [↓fixed_ite, ↓fixed_modifyReq, ↓fixed_startBit, fixed_can, ite_self] | split

theorem fixed_canIntegrated (n : Nat) (s : State) : (canIntegrated n s).fixed = s.fixed := by
  unfold canIntegrated; simp only [↓fixed_ite, ↓fixed_wr, ↓fixed_set, fixed_can, ite_self]

theorem fixed_readFifo (n t k dst done : Nat) (s : State) : (readFifo n t k dst done s).2.2.fixed = s.fixed := by
  induction k generalizing dst done s with
  | zero => rfl
  | succ k ih =>
    unfold readFifo
    split
    · rfl
    simp only
    split
    · exact fixed_memWrite _ _ _ _ _
    · rw [ih, fixed_clearNew, fixed_popFifo, fixed_memWrite]

theorem fixed_commandStarts (q : Nat) (s : State) : (commandStarts q s).fixed = s.fixed := by
  unfold commandStarts
  repeat' first | simp only [↓fixed_judgePassed, ↓fixed_ite, ↓fixed_raiseViolation, ↓fixed_setInst] | split

theorem fixed_settle (q : Nat) (r : Result) (s : State) : (settle q r s).fixed = s.fixed := by
  unfold settle; simp only [↓fixed_modifyLast]

theorem fixed_countReads (q : Nat) (unit : Nat) (c : Bytes) (s : State) : (countReads q unit c s).fixed = s.fixed := by
  unfold countReads
  repeat' first | simp only [↓fixed_ite, ↓fixed_noteRead, fixed_foldl, ite_self, implies_true] | split

theorem fixed_runHead (q : Nat) (unit : Nat) (c : Bytes) (r : Result) (s : State) : (runHead q unit c r s).fixed = s.fixed := by
  unfold runHead
  repeat' first | simp only [↓fixed_commandStarts, ↓fixed_countReads, ↓fixed_launch, ↓fixed_settle] | split

theorem fixed_canRead (q : Nat) (c : Bytes) (s : State) : (canRead q c s).fixed = s.fixed := by
  unfold canRead
  repeat' first | simp only [↓fixed_ite, ↓fixed_clearNew, ↓fixed_memWrite, ↓fixed_readFifo, ↓fixed_runHead, ite_self] | split

theorem fixed_recAfterGood (s : State) (n : Nat) : (recAfterGood s n).2.fixed = s.fixed := by
  unfold recAfterGood; simp only [↓fixed_ite_snd, ↓fixed_free, ite_self]

theorem fixed_setErrors (n : Nat) (tec : Nat) (rec : Nat) (s : State) : (setErrors n tec rec s).fixed = s.fixed := by
  unfold setErrors; simp only [↓fixed_ite, ↓fixed_wr, ↓fixed_set, ↓fixed_canIrq, ↓fixed_post, ite_self]

theorem fixed_storeObject (n : Nat) (o : Nat) (f : CanFrame) (sof : Nat) (s : State) : (storeObject n o f sof s).fixed = s.fixed := by
  unfold storeObject; simp only [↓fixed_ite, ↓fixed_wrs, ↓fixed_putSlot, ↓fixed_set, fixed_can, ite_self]

theorem fixed_storeFifo (n : Nat) (f : CanFrame) (sof : Nat) (s : State) : (storeFifo n f sof s).fixed = s.fixed := by
  unfold storeFifo; simp only [↓fixed_ite, ↓fixed_wr, ↓fixed_storeObject, ↓fixed_clearNew, ↓fixed_raiseVector, ↓fixed_popFifo, ↓fixed_inc, ↓fixed_set, ite_self]

theorem fixed_canStore (n : Nat) (f : CanFrame) (sof : Nat) (s : State) : (canStore n f sof s).fixed = s.fixed := by
  unfold canStore
  repeat' first | simp only [↓fixed_ite, ↓fixed_inc, ↓fixed_canIrq, ↓fixed_storeObject, ↓fixed_storeFifo, ite_self] | split

theorem fixed_seePeer (n : Nat) (id : Nat) (x : Bool) (s : State) : (seePeer n id x s).fixed = s.fixed := by
  unfold seePeer
  repeat' first | simp only [↓fixed_ite, ↓fixed_inc, fixed_can] | split

theorem fixed_feedPeers (n : Nat) (f : CanFrame) (s : State) : (feedPeers n f s).fixed = s.fixed := by
  unfold feedPeers; simp only [↓fixed_seePeer, fixed_foldl, implies_true]

theorem fixed_countGood (n : Nat) (s : State) : (countGood n s).fixed = s.fixed := by
  unfold countGood; simp only [↓fixed_ite, ↓fixed_wr, fixed_can, ite_self]

theorem fixed_canReceive (n : Nat) (f : CanFrame) (s : State) : (canReceive n f s).fixed = s.fixed := by
  unfold canReceive; simp only [↓fixed_ite, ↓fixed_recAfterGood, ↓fixed_setErrors, ↓fixed_canStore, ↓fixed_feedPeers, ↓fixed_countGood, ↓fixed_inc, ite_self]

theorem fixed_canRxError (n : Nat) (kind : Nat) (heavy : Bool) (s : State) : (canRxError n kind heavy s).fixed = s.fixed := by
  unfold canRxError; simp only [↓fixed_ite, ↓fixed_canIntegrate, ↓fixed_set, ↓fixed_wr, ↓fixed_inc, ↓fixed_setErrors, fixed_can, ite_self]

theorem fixed_canWrite (c : Bytes) (data : Bytes) (s : State) : (canWrite c data s).fixed = s.fixed := by
  unfold canWrite; simp only [↓fixed_ite, ↓fixed_putSlot, ↓fixed_wr, ite_self]

theorem fixed_startHead (q : Nat) (unit : Nat) (wait : Nat) (c : Bytes) (s : State) : (startHead q unit wait c s).fixed = s.fixed := by
  unfold startHead
  repeat' first | simp only [↓fixed_commandStarts, ↓fixed_countReads, ↓fixed_launch, ↓fixed_modifyLast] | split

theorem fixed_canTx (q : Nat) (c : Bytes) (s : State) : (canTx q c s).fixed = s.fixed := by
  unfold canTx; simp only [↓fixed_ite, ↓fixed_runHead, ↓fixed_canWrite, ↓fixed_startHead, ↓fixed_inc, ↓fixed_settleAt, ↓fixed_addReq, ↓fixed_bookLaunch, ite_self]

theorem fixed_measureDelay (n : Nat) (o : Nat) (s : State) : (measureDelay n o s).fixed = s.fixed := by
  unfold measureDelay
  simp only [↓fixed_ite, ↓fixed_set, ↓fixed_wr, ↓fixed_free, ite_self]

theorem fixed_completeStarted (p : Decision → Bool) (s : State) : (completeStarted p s).fixed = s.fixed := by
  unfold completeStarted
  repeat' first | simp only [↓fixed_endDecision] | split | refine (fixed_foldl _ _ (fun s x => ?_) _).trans ?_ | refine (fixed_foldl_snd _ _ (fun s x => ?_) _).trans ?_

theorem fixed_startPassed (mf : MotorFrame) (s : State) : (startPassed mf s).fixed = s.fixed := by
  unfold startPassed
  repeat' first | simp only [↓fixed_completeStarted] | split

theorem fixed_canTxDone (n : Nat) (s : State) : (canTxDone n s).fixed = s.fixed := by
  unfold canTxDone
  repeat' first | simp only [↓fixed_ite, ↓fixed_clr, ↓fixed_dropReqs, ↓fixed_inc, ↓fixed_incWrap, ↓fixed_measureDelay, ↓fixed_setErrors, ↓fixed_settleAt, ↓fixed_startPassed, fixed_can, ite_self] | split

theorem fixed_canTxError (n : Nat) (arb : Bool) (kind : Nat) (s : State) : (canTxError n arb kind s).fixed = s.fixed := by
  unfold canTxError
  repeat' first | simp only [↓fixed_ite, ↓fixed_inc, ↓fixed_wr, ↓fixed_setErrors, ↓fixed_busOff, fixed_can, ite_self] | split

theorem fixed_canWindowClose (o : Nat) (s : State) : (canWindowClose o s).fixed = s.fixed := by
  unfold canWindowClose
  repeat' first | simp only [↓fixed_ite, ↓fixed_abandonReq, ite_self] | split

theorem fixed_commit (n : Nat) (uncertain : Bool) (s : State) : (commit n uncertain s).fixed = s.fixed := by
  unfold commit; simp only [↓fixed_setCommits, ↓fixed_wr]

theorem fixed_cciCommit (b : Nat) (fails : List (List Bool)) (release : List Bool) (s : State) : (cciCommit b fails release s).fixed = s.fixed := by
  unfold cciCommit
  repeat' first | simp only [↓fixed_ite, ↓fixed_commit, ↓fixed_inc, ↓fixed_post, ↓fixed_set, ↓fixed_setCci, ↓fixed_showCci, fixed_intake, ite_self] | split

theorem fixed_checkConsec (n : Nat) (s : State) : (checkConsec n s).fixed = s.fixed := by
  unfold checkConsec
  repeat' first | simp only [↓fixed_ite, ↓fixed_raiseFault, fixed_safety, ite_self] | split

theorem fixed_copyTables (x : Nat) (s : State) : (copyTables x s).fixed = s.fixed := by
  unfold copyTables; simp only [↓fixed_stLocal, ↓fixed_setGl]

theorem fixed_checkSlot (x : Nat) (extra : Nat) (s : State) : (checkSlot x extra s).fixed = s.fixed := by
  unfold checkSlot
  repeat' first | simp only [↓fixed_wr, ↓fixed_setGl, ↓fixed_copyTables, ↓fixed_wrs] | split

theorem fixed_clearFold (s : State) : (clearFold s).fixed = s.fixed := by
  unfold clearFold; simp only [↓fixed_inc, ↓fixed_clr, fixed_foldl, implies_true]

theorem fixed_clearLink (s : State) : (clearLink s).fixed = s.fixed := by
  unfold clearLink; simp only [↓fixed_dropFields]

theorem fixed_storeSentinels (f : Frame) (lines : Option (Bytes × Bytes)) (bad : Bool) (s : State) : (storeSentinels f lines bad s).fixed = s.fixed := by
  unfold storeSentinels
  repeat' first | simp only [↓fixed_ite, ↓fixed_memWrite, fixed_freeCount, ite_self] | split

theorem fixed_writeStats (f : Frame) (s : State) : (writeStats f s).fixed = s.fixed := by
  unfold writeStats
  repeat' first | simp only [↓fixed_ite, ↓fixed_memWrite, fixed_intake, ite_self] | split

theorem fixed_settleState (n : Nat) (s : State) : (settleState n s).fixed = s.fixed := by
  unfold settleState; simp only [↓fixed_ite, ↓fixed_wr, ite_self]

theorem fixed_usePixels (f : Frame) (s : State) : (usePixels f s).fixed = s.fixed := by
  unfold usePixels; simp only [↓fixed_ite, fixed_freeCount, ite_self]

theorem fixed_setClosed (s : State) (l : List Frame) : (setClosed s l).fixed = s.fixed := by
  unfold setClosed; simp only [fixed_intake]

theorem fixed_closeFrame (f : Frame) (ended : Bool) (bad1 : Bool) (bad2 : Bool) (s : State) : (closeFrame f ended bad1 bad2 s).fixed = s.fixed := by
  unfold closeFrame
  repeat' first | simp only [↓fixed_ite, ↓fixed_countReason, ↓fixed_setClosed, ↓fixed_settleState, ↓fixed_showPool, ↓fixed_storeSentinels, ↓fixed_usePixels, ↓fixed_writeStats, fixed_intake, ite_self] | split

theorem fixed_showOpen (u : Nat) (v : Nat) (b : Bool) (s : State) : (showOpen u v b s).fixed = s.fixed := by
  unfold showOpen; simp only [↓fixed_wr]

theorem fixed_setOpen (s : State) (l : List Frame) : (setOpen s l).fixed = s.fixed := by
  unfold setOpen; simp only [fixed_intake]

theorem fixed_closeOpen (ch : Nat) (mark : Option Nat) (ended : Bool) (fe : Nat) (bad1 : Bool) (bad2 : Bool) (s : State) : (closeOpen ch mark ended fe bad1 bad2 s).fixed = s.fixed := by
  unfold closeOpen
  repeat' first | simp only [↓fixed_showOpen, ↓fixed_setOpen, ↓fixed_closeFrame] | split

theorem fixed_collect (s : State) (r : Nat) : (collect s r).fixed = s.fixed := by
  unfold collect; simp only [↓fixed_ite, ↓fixed_inc, fixed_prb, ite_self]

theorem fixed_commitBatch (s : State) : (commitBatch s).fixed = s.fixed := by
  unfold commitBatch; simp only [↓fixed_ite, ↓fixed_progFlash, ↓fixed_wr, ↓fixed_set, ↓fixed_wantErase, ↓fixed_showOldest, fixed_evlog, ite_self]

theorem fixed_lastBatch (tail : List EventRec) (s : State) : (lastBatch tail s).fixed = s.fixed := by
  unfold lastBatch
  repeat' first | simp only [↓fixed_ite, ↓fixed_beginBatch, ↓fixed_clearFold, ite_self] | split

theorem fixed_enterSector (s : State) : (enterSector s).fixed = s.fixed := by
  unfold enterSector
  repeat' first | simp only [↓fixed_progFlash, fixed_evlog] | split

theorem fixed_roomForBatch (s : State) : (roomForBatch s).fixed = s.fixed := by
  unfold roomForBatch; simp only [↓fixed_ite, ↓fixed_enterSector, ite_self]

theorem fixed_roomForLast (tail : List EventRec) (s : State) : (roomForLast tail s).fixed = s.fixed := by
  unfold roomForLast
  repeat' first | simp only [↓fixed_ite, ↓fixed_enterSector, ite_self] | split

theorem fixed_commitLast (tail : List EventRec) (s : State) : (commitLast tail s).fixed = s.fixed := by
  unfold commitLast
  repeat' first | simp only [↓fixed_ite, ↓fixed_commitBatch, ↓fixed_lastBatch, ↓fixed_roomForLast, ite_self] | split

theorem fixed_countClean (s : State) : (countClean s).fixed = s.fixed := by
  unfold countClean
  repeat' first | rfl | simp only [↓fixed_ite, ↓fixed_arm, ite_self]

theorem fixed_holdDecision (d : Decision) (outcome : Nat) (s : State) : (holdDecision d outcome s).fixed = s.fixed := by
  unfold holdDecision; simp only [↓fixed_checkConsec, ↓fixed_safeReaction, ↓fixed_endDecision]

theorem fixed_releaseDecision (d : Decision) (a : Bytes) (b : Bytes) (s : State) : (releaseDecision d a b s).fixed = s.fixed := by
  unfold releaseDecision
  repeat' first | simp only [↓fixed_ite, ↓fixed_holdDecision, ↓fixed_bookAll, fixed_safety, ite_self] | split

theorem fixed_dcompare (q : Nat) (c : Bytes) (s : State) : (dcompare q c s).fixed = s.fixed := by
  unfold dcompare
  repeat' first | simp only [↓fixed_noteRead, ↓fixed_ite, ↓fixed_checkConsec, ↓fixed_endDecision, ↓fixed_holdDecision, ↓fixed_releaseDecision, ↓fixed_startHead, ite_self] | split

theorem fixed_dramLost (s : State) : (dramLost s).fixed = s.fixed := by
  unfold dramLost
  repeat' first | simp only [↓fixed_setPower, fixed_mk, fixed_eta] | split | refine (fixed_foldl _ _ (fun s x => ?_) _).trans ?_ | refine (fixed_foldl_snd _ _ (fun s x => ?_) _).trans ?_

theorem fixed_setBlocks (s : State) (l : List Block) : (setBlocks s l).fixed = s.fixed := by
  unfold setBlocks; simp only [fixed_intake]

theorem fixed_dropBlocks (code : Nat) (p : Block → Bool) (s : State) : (dropBlocks code p s).fixed = s.fixed := by
  unfold dropBlocks
  repeat' first | simp only [↓fixed_countReason, ↓fixed_endBlock, ↓fixed_setBlocks, ↓fixed_settleState, ↓fixed_showPool, fixed_foldl, implies_true] | split

theorem fixed_dropNonce (s : State) : (dropNonce s).fixed = s.fixed := by
  unfold dropNonce; simp only [↓fixed_clr, fixed_secu, fixed_foldl, implies_true]

theorem fixed_dropScan (n : Nat) (f : Frame) (code : Nat) (s : State) : (dropScan n f code s).fixed = s.fixed := by
  unfold dropScan; simp only [↓fixed_showPool, ↓fixed_countReason, ↓fixed_setClosed]

theorem fixed_dsafe (q : Nat) (c : Bytes) (s : State) : (dsafe q c s).fixed = s.fixed := by
  unfold dsafe
  repeat' first | simp only [↓fixed_free, ↓fixed_memWrite, ↓fixed_runHead, ↓fixed_safeReaction] | split

theorem fixed_endGrant (s : State) : (endGrant s).fixed = s.fixed := by
  unfold endGrant; simp only [↓fixed_dropNonce, ↓fixed_wrs]

theorem fixed_endLoading (x : Nat) (s : State) : (endLoading x s).fixed = s.fixed := by
  unfold endLoading; simp only [↓fixed_setGl]

theorem fixed_engineDone (x : Ctx) (b : Bytes) (r : Result) (s : State) : (engineDone x b r s).fixed = s.fixed := by
  unfold engineDone
  repeat' first | simp only [↓fixed_ite, ↓fixed_countReads, ↓fixed_inc, ↓fixed_mapSteps, ↓fixed_pauseStep, ↓fixed_runHead, ite_self] | split

theorem fixed_endStale (x : Ctx) (b : Bytes) (s : State) : (endStale x b s).fixed = s.fixed := by
  unfold endStale; simp only [↓fixed_ite, ↓fixed_engineDone, ↓fixed_nondet, ↓fixed_inc, ite_self]

theorem fixed_endpointReset (s : State) : (endpointReset s).fixed = s.fixed := by
  unfold endpointReset; simp only [↓fixed_abandonUpdate, ↓fixed_initiatorReset, ↓fixed_clearLink, fixed_hl]

theorem fixed_setGood (n : Nat) (s : State) : (setGood n s).fixed = s.fixed := by
  unfold setGood; simp only [↓fixed_wr, fixed_clocks]

theorem fixed_enterLost (cause : Field) (s : State) : (enterLost cause s).fixed = s.fixed := by
  unfold enterLost
  repeat' first | simp only [↓fixed_ite, ↓fixed_abandonDvfs, ↓fixed_dropLinks, ↓fixed_dropServo, ↓fixed_loopReaction, ↓fixed_restMemory, ↓fixed_set, ↓fixed_setGood, ↓fixed_stopRotation, ↓fixed_wr, fixed_clocks, ite_self] | split

theorem fixed_idleReactions (s : State) : (idleReactions s).fixed = s.fixed := by
  unfold idleReactions; simp only [↓fixed_ite, ↓fixed_sendPriority, fixed_foldl, ite_self, implies_true]

theorem fixed_settleDoze (s : State) : (settleDoze s).fixed = s.fixed := by
  unfold settleDoze
  repeat' first | simp only [↓fixed_ite, ↓fixed_wr, fixed_joint, ite_self] | split

theorem fixed_quietCan (s : State) : (quietCan s).fixed = s.fixed := by
  unfold quietCan; simp only [↓fixed_wr, ↓fixed_withdraw, ↓fixed_unbookLaunch, fixed_can, fixed_foldl, implies_true]

theorem fixed_releaseLink (s : State) : (releaseLink s).fixed = s.fixed := by
  unfold releaseLink
  repeat' first | simp only [↓fixed_ite, ↓fixed_wrs, ite_self] | split

theorem fixed_writeReady (q n : Nat) (s : State) : (writeReady q n s).fixed = s.fixed := by
  induction n generalizing s with
  | zero => rfl
  | succ n ih =>
    unfold writeReady
    split
    · rfl
    · rw [ih, fixed_writeCompletion]

theorem fixed_writeAllReady (s : State) : (writeAllReady s).fixed = s.fixed := by
  unfold writeAllReady
  repeat' first | simp only [↓fixed_writeReady, fixed_foldl, implies_true] | split

theorem fixed_completeAborted (s : State) : (completeAborted s).fixed = s.fixed := by
  unfold completeAborted
  repeat' first | simp only [↓fixed_abortFlights, ↓fixed_writeAllReady] | split

theorem fixed_finishOff (s : State) : (finishOff s).fixed = s.fixed := by
  unfold finishOff
  repeat' first | simp only [↓fixed_ite, ↓fixed_commitLast, ↓fixed_completeAborted, ↓fixed_dropLinks, ↓fixed_quietCan, ↓fixed_releaseLink, ↓fixed_setDram, ↓fixed_setPower, ite_self] | split

theorem fixed_dropRetrains (s : State) : (dropRetrains s).fixed = s.fixed := by
  unfold dropRetrains
  repeat' first | simp only [↓fixed_clr, fixed_mc, fixed_foldl, implies_true] | split

theorem fixed_enterPower (r : Nat) (s : State) : (enterPower r s).fixed = s.fixed := by
  unfold enterPower
  repeat' first | simp only [↓fixed_ite, ↓fixed_abandonAll, ↓fixed_disarm, ↓fixed_dropLinks, ↓fixed_dropRetrains, ↓fixed_endGrant, ↓fixed_finishOff, ↓fixed_idleReactions, ↓fixed_intakeStop, ↓fixed_leaveBarrier, ↓fixed_setPower, ↓fixed_settleDoze, ↓fixed_stopRotation, ↓fixed_wr, ite_self] | split

theorem fixed_enterQueue (g : Nat) (x : Sample) (s : State) : (enterQueue g x s).fixed = s.fixed := by
  unfold enterQueue
  repeat' first | simp only [↓fixed_ite, ↓fixed_countRelease, ↓fixed_inc, ↓fixed_memWrite, ↓fixed_setGroup, ↓fixed_showPool, fixed_intake, ite_self] | split

theorem fixed_eraseSector (i : Nat) (s : State) : (eraseSector i s).fixed = s.fixed := by
  unfold eraseSector; simp only [↓fixed_ite, fixed_flashA, fixed_flashB, ite_self]

theorem fixed_eraseSlot (c : Nat) (len : Nat) (s : State) : (eraseSlot c len s).fixed = s.fixed := by
  unfold eraseSlot; simp only [↓fixed_ite, fixed_flashA, fixed_flashB, ite_self]

theorem fixed_toIntake (n : Nat) (b : Bytes) (ago : Nat) (s : State) : (toIntake n b ago s).fixed = s.fixed := by
  unfold toIntake
  repeat' first | simp only [↓fixed_takeCells, ↓fixed_ite, ↓fixed_inc, fixed_eth, ite_self] | split

theorem fixed_toRing (n : Nat) (q : Nat) (b : Bytes) (stamp : Nat) (s : State) : (toRing n q b stamp s).fixed = s.fixed := by
  unfold toRing
  repeat' first | simp only [↓fixed_ite, ↓fixed_inc, ↓fixed_memWrite, ↓fixed_raiseVector, ↓fixed_wr, fixed_eth, ite_self] | split

theorem fixed_notePdelayReq (n : Nat) (b : Bytes) (sfd : Nat) (s : State) : (notePdelayReq n b sfd s).fixed = s.fixed := by
  unfold notePdelayReq
  repeat' first | simp only [↓fixed_ite, fixed_eth, ite_self] | split

end Sys2Proof.Machine.Laws
end

