-- ==== Sys2Proof/Laws/FixedC.lean ====
section
/-! SUPPORT. What every operation and every meaning leaves of the fixed part of the state (queue, fuses, OTP): one lemma per definition,
in the order in which they call each other. Part 3 of 4. -/

namespace Sys2Proof.Machine.Laws

theorem fixed_ethReceive (n : Nat) (b : Bytes) (fcsOk : Bool) (ago : Nat) (s : State) : (ethReceive n b fcsOk ago s).fixed = s.fixed := by
  unfold ethReceive
  repeat' first | simp only [↓fixed_ite, ↓fixed_inc, ↓fixed_notePdelayReq, ↓fixed_toIntake, ↓fixed_toRing, ite_self] | split

theorem fixed_ethTx (q : Nat) (c : Bytes) (s : State) : (ethTx q c s).fixed = s.fixed := by
  unfold ethTx; simp only [↓fixed_ite, ↓fixed_runHead, ↓fixed_startHead, ↓fixed_inc, ↓fixed_settleAt, ↓fixed_countAbandoned, ↓fixed_holdFrame, ↓fixed_bookLaunch, ite_self]

theorem fixed_ethTxDone (n : Nat) (ago : Nat) (s : State) : (ethTxDone n ago s).fixed = s.fixed := by
  unfold ethTxDone
  repeat' first | simp only [↓fixed_ite, ↓fixed_clr, ↓fixed_inc, ↓fixed_incWrap, ↓fixed_pushTxts, ↓fixed_releaseFrames, ↓fixed_settleAt, ↓fixed_startBit, ↓fixed_startPassed, fixed_eth, ite_self] | split

theorem fixed_execVaonLoss (s : State) : ∀ t, (execVaonLoss s) = .next t → t.fixed = s.fixed := by
  intro t h
  unfold execVaonLoss at h
  repeat' first | (refine fixed_next h ?_; clear h) | split at h
  all_goals repeat' first | simp only [fixed_mk, fixed_eta] | split | refine (fixed_foldl _ _ (fun s x => ?_) _).trans ?_ | refine (fixed_foldl_snd _ _ (fun s x => ?_) _).trans ?_

theorem fixed_execPresenceQualified (s : State) : ∀ t, (execPresenceQualified s) = .next t → t.fixed = s.fixed := by
  intro t h
  unfold execPresenceQualified at h
  repeat' first | (refine fixed_next h ?_; clear h) | split at h
  all_goals repeat' simp only [↓fixed_ite, ↓fixed_setPower, ↓fixed_startPower, ite_self]

theorem fixed_execPgoodMemRise (s : State) : ∀ t, (execPgoodMemRise s) = .next t → t.fixed = s.fixed := by
  intro t h
  unfold execPgoodMemRise at h
  repeat' first | (refine fixed_next h ?_; clear h) | split at h
  all_goals repeat' simp only [↓fixed_ite, ↓fixed_setPower, ite_self]

theorem fixed_resumePath (s : State) : (resumePath s).fixed = s.fixed := by
  unfold resumePath
  repeat' first | simp only [↓fixed_dropFields, ↓fixed_wr, fixed_mk, fixed_eta] | split | refine (fixed_foldl _ _ (fun s x => ?_) _).trans ?_ | refine (fixed_foldl_snd _ _ (fun s x => ?_) _).trans ?_

theorem fixed_execPgoodMainRise (s : State) : ∀ t, (execPgoodMainRise s) = .next t → t.fixed = s.fixed := by
  intro t h
  unfold execPgoodMainRise at h
  repeat' first | (refine fixed_next h ?_; clear h) | split at h
  all_goals repeat' simp only [↓fixed_ite, ↓fixed_resumePath, ↓fixed_setPower, ite_self]

theorem fixed_mainLost (s : State) : (mainLost s).fixed = s.fixed := by
  unfold mainLost
  repeat' first | simp only [↓fixed_setPower, fixed_loc] | split

theorem fixed_powerFailed (s : State) : (powerFailed s).fixed = s.fixed := by
  unfold powerFailed; simp only [↓fixed_ite, ↓fixed_setPower, ↓fixed_mainLost, ↓fixed_set, ↓fixed_post, ite_self]

theorem fixed_execPgTimeout (s : State) : ∀ t, (execPgTimeout s) = .next t → t.fixed = s.fixed := by
  intro t h
  unfold execPgTimeout at h
  repeat' first | (refine fixed_next h ?_; clear h) | split at h
  all_goals repeat' simp only [↓fixed_ite, ↓fixed_powerFailed, ite_self]

theorem fixed_execPgRetry (s : State) : ∀ t, (execPgRetry s) = .next t → t.fixed = s.fixed := by
  intro t h
  unfold execPgRetry at h
  repeat' first | (refine fixed_next h ?_; clear h) | split at h
  all_goals repeat' simp only [↓fixed_ite, ↓fixed_startPower, ite_self]

theorem fixed_railsTrip (mem : Bool) (s : State) : (railsTrip mem s).fixed = s.fixed := by
  unfold railsTrip; simp only [↓fixed_wr, ↓fixed_safeLevels, ↓fixed_mainLost, ↓fixed_setPower, fixed_snap]

theorem fixed_execPgoodMainFall (s : State) : ∀ t, (execPgoodMainFall s) = .next t → t.fixed = s.fixed := by
  intro t h
  unfold execPgoodMainFall at h
  repeat' first | (refine fixed_next h ?_; clear h) | split at h
  all_goals repeat' first | simp only [↓fixed_ite, ↓fixed_mainLost, ↓fixed_powerFailed, ↓fixed_railsTrip, ↓fixed_setPower, ↓fixed_startPower, ↓fixed_wr, ite_self] | split

theorem fixed_execPgoodMemFall (s : State) : ∀ t, (execPgoodMemFall s) = .next t → t.fixed = s.fixed := by
  intro t h
  unfold execPgoodMemFall at h
  repeat' first | (refine fixed_next h ?_; clear h) | split at h
  all_goals repeat' first | simp only [↓fixed_ite, ↓fixed_dramLost, ↓fixed_railsTrip, ↓fixed_setPower, ↓fixed_startPower, ite_self] | split

theorem fixed_releaseIslands (s : State) : (releaseIslands s).fixed = s.fixed := by
  unfold releaseIslands
  repeat' first | simp only [fixed_mk, fixed_eta] | split | refine (fixed_foldl _ _ (fun s x => ?_) _).trans ?_ | refine (fixed_foldl_snd _ _ (fun s x => ?_) _).trans ?_

theorem fixed_sampleStraps (mode : Nat) (chip : Nat) (hostlink : Bool) (test : Bool) (s : State) : (sampleStraps mode chip hostlink test s).fixed = s.fixed := by
  unfold sampleStraps; simp only [fixed_straps]

theorem fixed_execColdReset (mode : Nat) (chip : Nat) (hostlink : Bool) (test : Bool) (s : State) : ∀ t, (execColdReset mode chip hostlink test s) = .next t → t.fixed = s.fixed := by
  intro t h
  unfold execColdReset at h
  repeat' first | (refine fixed_next h ?_; clear h) | split at h
  all_goals repeat' first | simp only [↓fixed_ite, ↓fixed_holdReset, ↓fixed_performReset, ↓fixed_releaseIslands, ↓fixed_sampleStraps, ↓fixed_set, ite_self] | split

theorem fixed_execPinReset (s : State) : ∀ t, (execPinReset s) = .next t → t.fixed = s.fixed := by
  intro t h
  unfold execPinReset at h
  repeat' first | (refine fixed_next h ?_; clear h) | split at h
  all_goals repeat' simp only [↓fixed_requestReset]

theorem fixed_execResetRelease (mode : Nat) (chip : Nat) (hostlink : Bool) (test : Bool) (s : State) : ∀ t, (execResetRelease mode chip hostlink test s) = .next t → t.fixed = s.fixed := by
  intro t h
  unfold execResetRelease at h
  repeat' first | (refine fixed_next h ?_; clear h) | split at h
  all_goals repeat' first | simp only [↓fixed_ite, ↓fixed_releaseIslands, ↓fixed_sampleStraps, ite_self] | split

theorem fixed_execSysReset (w : Writer) (v : Nat) (s : State) : ∀ t, (execSysReset w v s) = .next t → t.fixed = s.fixed := by
  intro t h
  unfold execSysReset at h
  repeat' first | (refine fixed_next h ?_; clear h) | split at h
  all_goals repeat' simp only [↓fixed_ite, ↓fixed_guarded, ↓fixed_requestReset, ite_self, implies_true]

theorem fixed_execWdgReset (s : State) : ∀ t, (execWdgReset s) = .next t → t.fixed = s.fixed := by
  intro t h
  unfold execWdgReset at h
  repeat' first | (refine fixed_next h ?_; clear h) | split at h
  all_goals repeat' first | simp only [↓fixed_ite, ↓fixed_requestReset, ite_self] | split

theorem fixed_recordDenied (w : Writer) (a : Nat) (s : State) : (recordDenied w a s).fixed = s.fixed := by
  unfold recordDenied
  repeat' first | simp only [↓fixed_ite, ↓fixed_ownViol, ite_self] | split

theorem fixed_deny (w : Writer) (a : Nat) (s : State) : (deny w a s).fixed = s.fixed := by
  unfold deny
  repeat' first | simp only [↓fixed_answer, ↓fixed_recordDenied] | split

theorem fixed_execIslReset (w : Writer) (v : Nat) (s : State) : ∀ t, (execIslReset w v s) = .next t → t.fixed = s.fixed := by
  intro t h
  unfold execIslReset at h
  repeat' first | (refine fixed_next h ?_; clear h) | split at h
  all_goals repeat' first | simp only [↓fixed_ite, ↓fixed_beginIslandReset, ↓fixed_clr, ↓fixed_deny, ↓fixed_guarded, ↓fixed_inc, ↓fixed_recordCause, ↓fixed_restartAttempt, ↓fixed_set, ↓fixed_wrs, ite_self, implies_true] | split

theorem fixed_reapplyRecord (s : State) (r : Record) : (reapplyRecord s r).fixed = s.fixed := by
  unfold reapplyRecord
  repeat' first | simp only [↓fixed_ite, ↓fixed_applyRecord, ↓fixed_bindRegisters, ↓fixed_storePayload, ↓fixed_wrs, fixed_foldl, ite_self, implies_true] | split

theorem fixed_reapplyRecords (k : Nat) (s : State) : (reapplyRecords k s).fixed = s.fixed := by
  unfold reapplyRecords
  repeat' first | simp only [↓fixed_reapplyRecord, fixed_foldl, implies_true] | split

theorem fixed_performAt (errs : List (Nat × Nat)) (p : Piece) (s : State) : (performAt errs p s).2.fixed = s.fixed := by
  unfold performAt
  repeat' first | simp only [↓fixed_ite_snd, ↓fixed_mcRead, ↓fixed_mcWrite, ite_self] | split

theorem fixed_reachNode (dead : List Nat) (errs : List (Nat × Nat)) (p : Piece) (s : State) : (reachNode dead errs p s).2.fixed = s.fixed := by
  unfold reachNode
  repeat' first | simp only [↓fixed_ite, ↓fixed_ite_snd, ↓fixed_inc, ↓fixed_performAt, ite_self] | split

theorem fixed_targetBack (pid : Nat) (s : State) : (targetBack pid s).fixed = s.fixed := by
  unfold targetBack; simp only [↓fixed_ite_snd, ↓fixed_reachNode, ↓fixed_deliver, ↓fixed_setPieces, fixed_foldl_snd, ite_self, implies_true]

theorem fixed_exposureRestart (s : State) : (exposureRestart s).fixed = s.fixed := by
  unfold exposureRestart; simp only [↓fixed_showCci, ↓fixed_setCci, ↓fixed_bootScripts, ↓fixed_commit, fixed_intake, fixed_foldl, implies_true]

theorem fixed_pinStreams (s : State) : (pinStreams s).fixed = s.fixed := by
  unfold pinStreams; simp only [↓fixed_ite, ↓fixed_wr, ↓fixed_allocSlot, fixed_foldl, ite_self, implies_true]

theorem fixed_nodeBack (n : Nat) (s : State) : (nodeBack n s).fixed = s.fixed := by
  unfold nodeBack; simp only [↓fixed_showLinks, ↓fixed_wrs]

theorem fixed_retrainController (m : Nat) (s : State) : (retrainController m s).fixed = s.fixed := by
  unfold retrainController; simp only [↓fixed_wrs]

theorem fixed_startCan (s : State) : (startCan s).fixed = s.fixed := by
  unfold startCan; simp only [↓fixed_canIntegrate, fixed_can, fixed_foldl, implies_true]

theorem fixed_restartIsland (k : Nat) (s : State) : (restartIsland k s).fixed = s.fixed := by
  unfold restartIsland
  repeat' first | simp only [↓fixed_ite, ↓fixed_targetBack, ↓fixed_pump, ↓fixed_exposureRestart, ↓fixed_pinStreams, ↓fixed_nodeBack, ↓fixed_retrainController, ↓fixed_startCan, fixed_foldl, ite_self, implies_true] | split

theorem fixed_execIslReapplyDone (s : State) : ∀ t, (execIslReapplyDone s) = .next t → t.fixed = s.fixed := by
  intro t h
  unfold execIslReapplyDone at h
  repeat' first | (refine fixed_next h ?_; clear h) | split at h
  all_goals repeat' first | simp only [↓fixed_ite, ↓fixed_clr, ↓fixed_continueTodo, ↓fixed_reapplyRecord, ↓fixed_restartIsland, fixed_clocks, ite_self, implies_true] | split

theorem fixed_setPerst (b : Bool) (s : State) : (setPerst b s).fixed = s.fixed := by
  unfold setPerst
  repeat' first | simp only [fixed_hl] | split

theorem fixed_linkPassed (s : State) : (linkPassed s).fixed = s.fixed := by
  unfold linkPassed
  repeat' first | simp only [↓fixed_endpointReset, ↓fixed_inc, ↓fixed_post] | split

theorem fixed_execLnkReset (kind : Nat) (s : State) : ∀ t, (execLnkReset kind s) = .next t → t.fixed = s.fixed := by
  intro t h
  unfold execLnkReset at h
  repeat' first | (refine fixed_next h ?_; clear h) | split at h
  all_goals repeat' first | simp only [↓fixed_ite, ↓fixed_failAttempt, ↓fixed_inc, ↓fixed_linkPassed, ↓fixed_recordCause, ↓fixed_setPerst, ↓fixed_setPower, ↓fixed_wrs, ite_self] | split

theorem fixed_postReset (s : State) : (postReset s).fixed = s.fixed := by
  unfold postReset; simp only [↓fixed_ite, ↓fixed_post, fixed_boot, ite_self]

theorem fixed_selectSlots (a : Bool) (b : Bool) (s : State) : (selectSlots a b s).fixed = s.fixed := by
  unfold selectSlots
  repeat' first | simp only [↓fixed_ite, ↓fixed_wr, ↓fixed_showTries, ↓fixed_tryNext, fixed_boot, fixed_foldl, ite_self, implies_true] | split | refine (fixed_foldl _ _ (fun s x => ?_) _).trans ?_

theorem fixed_takePath (s : State) : (takePath s).fixed = s.fixed := by
  unfold takePath
  repeat' first | simp only [↓fixed_ite, ↓fixed_enterRecovery, ↓fixed_postReset, ↓fixed_wr, fixed_boot, ite_self] | split

theorem fixed_execSlotSelection (a : Bool) (b : Bool) (s : State) : ∀ t, (execSlotSelection a b s) = .next t → t.fixed = s.fixed := by
  intro t h
  unfold execSlotSelection at h
  repeat' first | (refine fixed_next h ?_; clear h) | split at h
  all_goals repeat' first | simp only [↓fixed_ite, ↓fixed_selectSlots, ↓fixed_takePath, ite_self] | split

theorem fixed_execFlashReadTimeout (s : State) (a : Nat) : ∀ t, (execFlashReadTimeout s a) = .next t → t.fixed = s.fixed := by
  intro t h
  unfold execFlashReadTimeout at h
  repeat' first | (refine fixed_next h ?_; clear h) | split at h
  all_goals repeat' first | simp only [↓fixed_ite, ↓fixed_failAttempt, ↓fixed_inc, fixed_boot, ite_self] | split

theorem fixed_finishPlat (s : State) : (finishPlat s).fixed = s.fixed := by
  unfold finishPlat
  repeat' first | simp only [↓fixed_ite, ↓fixed_applyPlat, ↓fixed_failAttempt, ↓fixed_resumeWatch, ↓fixed_setPower, ↓fixed_wr, fixed_boot, ite_self] | split

theorem fixed_holdWatch (s : State) : (holdWatch s).fixed = s.fixed := by
  unfold holdWatch
  repeat' first | simp only [fixed_boot] | split

theorem fixed_execPrefixVerified (trained : Bool) (s : State) : ∀ t, (execPrefixVerified trained s) = .next t → t.fixed = s.fixed := by
  intro t h
  unfold execPrefixVerified at h
  repeat' first | (refine fixed_next h ?_; clear h) | split at h
  all_goals repeat' first | simp only [↓fixed_ite, ↓fixed_failAttempt, ↓fixed_finishPlat, ↓fixed_holdWatch, ↓fixed_post, ↓fixed_wr, fixed_boot, ite_self] | split

theorem fixed_streamIn (l : List Record) (s : State) : (streamIn l s).fixed = s.fixed := by
  unfold streamIn
  repeat' first | simp only [↓fixed_storePayload, fixed_dram, fixed_foldl, implies_true] | split

theorem fixed_execImageVerified (s : State) : ∀ t, (execImageVerified s) = .next t → t.fixed = s.fixed := by
  intro t h
  unfold execImageVerified at h
  repeat' first | (refine fixed_next h ?_; clear h) | split at h
  all_goals repeat' first | simp only [↓fixed_ite, ↓fixed_beginApply, ↓fixed_failAttempt, ↓fixed_holdWatch, ↓fixed_streamIn, ↓fixed_wr, fixed_boot, ite_self] | split

theorem fixed_execRegPollTimeout (s : State) : ∀ t, (execRegPollTimeout s) = .next t → t.fixed = s.fixed := by
  intro t h
  unfold execRegPollTimeout at h
  repeat' first | (refine fixed_next h ?_; clear h) | split at h
  all_goals repeat' first | simp only [↓fixed_ite, ↓fixed_failAttempt, ↓fixed_pollEntry, ite_self] | split

theorem fixed_keepImage (h : Bytes) (l : List Record) (s : State) : (keepImage h l s).fixed = s.fixed := by
  unfold keepImage; simp only [fixed_img]

theorem fixed_showImage (c : Nat) (h : Bytes) (confirmed : Bool) (s : State) : (showImage c h confirmed s).fixed = s.fixed := by
  unfold showImage; simp only [↓fixed_wrs, ↓fixed_wrPair]

theorem fixed_listenPorts (s : State) : (listenPorts s).fixed = s.fixed := by
  unfold listenPorts
  repeat' first | simp only [↓fixed_ite, ↓fixed_wr, fixed_foldl, ite_self, implies_true] | split

theorem fixed_readyBlocks (s : State) : (readyBlocks s).fixed = s.fixed := by
  unfold readyBlocks
  repeat' first | simp only [↓fixed_bootScripts, ↓fixed_listenPorts, ↓fixed_pinStreams, ↓fixed_seedTime, fixed_can] | split

theorem fixed_sealImage (c : Nat) (s : State) : (sealImage c s).fixed = s.fixed := by
  unfold sealImage
  repeat' first | simp only [↓fixed_applyOwn, ↓fixed_holdBarrier, ↓fixed_keepImage, ↓fixed_readyBlocks, ↓fixed_showImage, ↓fixed_wr, fixed_boot] | split

theorem fixed_execSeal (s : State) : ∀ t, (execSeal s) = .next t → t.fixed = s.fixed := by
  intro t h
  unfold execSeal at h
  repeat' first | (refine fixed_next h ?_; clear h) | split at h
  all_goals repeat' first | simp only [↓fixed_ite, ↓fixed_continueApply, ↓fixed_sealImage, ite_self] | split

theorem fixed_execAutoConfirm (s : State) : ∀ t, (execAutoConfirm s) = .next t → t.fixed = s.fixed := by
  intro t h
  unfold execAutoConfirm at h
  repeat' first | (refine fixed_next h ?_; clear h) | split at h
  all_goals repeat' simp only [↓fixed_ite, ↓fixed_confirmImage, ite_self]

theorem fixed_execPtpGateTimeout (s : State) : ∀ t, (execPtpGateTimeout s) = .next t → t.fixed = s.fixed := by
  intro t h
  unfold execPtpGateTimeout at h
  repeat' first | (refine fixed_next h ?_; clear h) | split at h
  all_goals repeat' first | simp only [↓fixed_ite, ↓fixed_post, fixed_boot, ite_self] | split

theorem fixed_execExtpGo (w : Writer) (v : Nat) (s : State) : ∀ t, (execExtpGo w v s) = .next t → t.fixed = s.fixed := by
  intro t h
  unfold execExtpGo at h
  repeat' first | (refine fixed_next h ?_; clear h) | split at h
  all_goals repeat' simp only [↓fixed_ite, ↓fixed_guarded, ↓fixed_wr, ↓fixed_set, fixed_boot, ite_self, implies_true]

theorem fixed_payloadVerified (i : Nat) (r : Record) (s : State) : (payloadVerified i r s).fixed = s.fixed := by
  unfold payloadVerified; simp only [↓fixed_ite, ↓fixed_wr, ↓fixed_loadSlot, fixed_boot, ite_self]

theorem fixed_execExtpHashDone (s : State) : ∀ t, (execExtpHashDone s) = .next t → t.fixed = s.fixed := by
  intro t h
  unfold execExtpHashDone at h
  repeat' first | (refine fixed_next h ?_; clear h) | split at h
  all_goals repeat' first | simp only [↓fixed_ite, ↓fixed_clr, ↓fixed_payloadVerified, ↓fixed_post, ↓fixed_inc, fixed_boot, ite_self] | split

theorem fixed_refusePower (r : Nat) (s : State) : (refusePower r s).fixed = s.fixed := by
  unfold refusePower; simp only [↓fixed_answer, ↓fixed_post]

theorem fixed_requestPower (r : Nat) (s : State) : (requestPower r s).fixed = s.fixed := by
  unfold requestPower
  repeat' first | simp only [↓fixed_ite, ↓fixed_refusePower, ↓fixed_setPower, ↓fixed_wr, ite_self] | split

theorem fixed_execRunRequest (w : Writer) (s : State) : ∀ t, (execRunRequest w s) = .next t → t.fixed = s.fixed := by
  intro t h
  unfold execRunRequest at h
  repeat' first | (refine fixed_next h ?_; clear h) | split at h
  all_goals repeat' simp only [↓fixed_guarded, ↓fixed_requestPower, implies_true]

theorem fixed_execDozeRequest (w : Writer) (s : State) : ∀ t, (execDozeRequest w s) = .next t → t.fixed = s.fixed := by
  intro t h
  unfold execDozeRequest at h
  repeat' first | (refine fixed_next h ?_; clear h) | split at h
  all_goals repeat' simp only [↓fixed_guarded, ↓fixed_requestPower, implies_true]

theorem fixed_execFoldRequest (w : Writer) (s : State) : ∀ t, (execFoldRequest w s) = .next t → t.fixed = s.fixed := by
  intro t h
  unfold execFoldRequest at h
  repeat' first | (refine fixed_next h ?_; clear h) | split at h
  all_goals repeat' simp only [↓fixed_guarded, ↓fixed_requestPower, implies_true]

theorem fixed_execOffRequest (w : Writer) (s : State) : ∀ t, (execOffRequest w s) = .next t → t.fixed = s.fixed := by
  intro t h
  unfold execOffRequest at h
  repeat' first | (refine fixed_next h ?_; clear h) | split at h
  all_goals repeat' simp only [↓fixed_guarded, ↓fixed_requestPower, implies_true]

theorem fixed_powerCtl (w : Writer) (v : Nat) (s : State) : (powerCtl w v s).fixed = s.fixed := by
  unfold powerCtl
  refine fixed_after _ _ (fun t h => ?_)
  split at h
  · exact fixed_execRunRequest w s t h
  split at h
  · exact fixed_execDozeRequest w s t h
  split at h
  · exact fixed_execFoldRequest w s t h
  · exact fixed_execOffRequest w s t h

theorem fixed_execDebugEnd (w : Writer) (s : State) : ∀ t, (execDebugEnd w s) = .next t → t.fixed = s.fixed := by
  intro t h
  unfold execDebugEnd at h
  repeat' first | (refine fixed_next h ?_; clear h) | split at h
  all_goals repeat' simp only [↓fixed_guarded, ↓fixed_endGrant, implies_true]

theorem fixed_execSecRevoke (w : Writer) (v : Nat) (s : State) : ∀ t, (execSecRevoke w v s) = .next t → t.fixed = s.fixed := by
  intro t h
  unfold execSecRevoke at h
  repeat' first | (refine fixed_next h ?_; clear h) | split at h
  all_goals repeat' first | simp only [↓fixed_ite, ↓fixed_askOtp, ↓fixed_deny, ↓fixed_guarded, ite_self, implies_true] | split

theorem fixed_failUpdate (code : Nat) (s : State) : (failUpdate code s).fixed = s.fixed := by
  unfold failUpdate; simp only [↓fixed_wrs]

theorem fixed_execFlashUpdate (w : Writer) (v : Nat) (s : State) : ∀ t, (execFlashUpdate w v s) = .next t → t.fixed = s.fixed := by
  intro t h
  unfold execFlashUpdate at h
  repeat' first | (refine fixed_next h ?_; clear h) | split at h
  all_goals repeat' simp only [↓fixed_ite, ↓fixed_guarded, ↓fixed_wr, ↓fixed_failUpdate, ↓fixed_wrs, fixed_hl, ite_self, implies_true]

theorem fixed_systemSpecial (a : Nat) (p : Special) (h : systemSpecial a = some p) (w : Writer) (v : Nat) (s : State) :
    (p.run w v s).fixed = s.fixed := by
  unfold systemSpecial at h
  obtain rfl | h := special_case h
  · exact fixed_after _ _ (fixed_execSysReset _ _ s)
  obtain rfl | h := special_case h
  · exact fixed_after _ _ (fixed_execIslReset _ _ s)
  obtain rfl | h := special_case h
  · exact fixed_powerCtl _ _ s
  obtain rfl | h := special_case h
  · exact fixed_after _ _ (fixed_execFlashUpdate _ _ s)
  obtain rfl | h := special_case h
  · exact fixed_bootCtl _ _ s
  obtain rfl | h := special_case h
  · exact fixed_after _ _ (fixed_execExtpGo _ _ s)
  obtain rfl | h := special_case h
  · exact fixed_after _ _ (fixed_execSecRevoke _ _ s)
  obtain rfl | h := special_case h
  · exact (fixed_clr _ _).trans (fixed_when _ (execDebugEnd w) (fixed_execDebugEnd w) s)
  cases h

theorem fixed_standingWrites (a : Nat) (ws : List (Writer × Nat)) (hw : List HwUpdate) (s : State) :
    (standingWrites a ws hw s).fixed = s.fixed := by
  unfold standingWrites
  split
  · next p h => exact fixed_specialCycle a p (fixed_systemSpecial a p h) ws hw s
  · exact fixed_cycleWrite _ _ _ s

theorem fixed_refuseWrites (a : Nat) (l : List ((Writer × Nat) × Nat)) (s : State) : (refuseWrites a l s).fixed = s.fixed := by
  unfold refuseWrites
  repeat' first | simp only [↓fixed_ite, ↓fixed_writeRefused, fixed_foldl, ite_self, implies_true] | split

theorem fixed_wordWrites (a : Nat) (l : List (Writer × Nat)) (hw : List HwUpdate) (s : State) : (wordWrites a l hw s).fixed = s.fixed := by
  unfold wordWrites
  repeat' first | simp only [↓fixed_ite, ↓fixed_answer, ↓fixed_recordDenied, ↓fixed_refuseWrites, ↓fixed_standingWrites, fixed_bus, fixed_foldl, ite_self, implies_true] | split

theorem fixed_registerWrite (a : Nat) (l : List RegWrite) (hw : List HwUpdate) (s : State) : (registerWrite a l hw s).fixed = s.fixed := by
  unfold registerWrite
  repeat' first | simp only [↓fixed_ite, ↓fixed_badWrite, ↓fixed_wordWrites, fixed_foldl, ite_self, implies_true] | split

theorem fixed_askReset (cls : Nat) (s : State) : (askReset cls s).fixed = s.fixed := by
  unfold askReset
  split
  · exact fixed_after _ _ (fixed_execLnkReset 0 s)
  · rw [fixed_ite, fixed_requestReset, ite_self]

theorem fixed_writeUnderReset (cls : Nat) (a : Nat) (l : List RegWrite) (hw : List HwUpdate) (s : State) : (writeUnderReset cls a l hw s).fixed = s.fixed := by
  unfold writeUnderReset
  repeat' first | simp only [↓fixed_applyField, fixed_foldl, implies_true] | split

theorem fixed_execRegisterWrite (a : Nat) (l : List RegWrite) (hw : List HwUpdate) (s : State) (rst : Option Nat) : ∀ t, (execRegisterWrite a l hw s rst) = .next t → t.fixed = s.fixed := by
  intro t h
  unfold execRegisterWrite at h
  repeat' first | (refine fixed_next h ?_; clear h) | split at h
  all_goals repeat' first | simp only [↓fixed_ite, ↓fixed_askReset, ↓fixed_registerWrite, ↓fixed_writeUnderReset, ite_self] | split

theorem fixed_readWord (w : Writer) (a : Nat) (s : State) : (readWord w a s).fixed = s.fixed := by
  unfold readWord
  split
  · exact fixed_answer _ _ _
  simp only
  split
  · rw [fixed_answer, fixed_rdShadow]
  cases h : readEffect w a s with
  | some t => exact fixed_readEffect w a s _ h
  | none => simp only [↓fixed_ite, fixed_answer, fixed_latchRead, fixed_inc, ite_self]

theorem fixed_readReg (w : Writer) (a : Nat) (s : State) : (readReg w a s).fixed = s.fixed := by
  unfold readReg; simp only [↓fixed_ite, ↓fixed_answer, ↓fixed_readWord, ↓fixed_readRefused, ite_self]

theorem fixed_readAccess (w : Writer) (width : Nat) (a : Nat) (s : State) : (readAccess w width a s).fixed = s.fixed := by
  unfold readAccess
  repeat' first | simp only [↓fixed_ite, ↓fixed_answer, ↓fixed_readReg, ite_self] | split

theorem fixed_execPairLoRead (w : Writer) (a : Nat) (s : State) (width : Nat) (l : List RegWrite) : ∀ t, (execPairLoRead w a s width l) = .next t → t.fixed = s.fixed := by
  intro t h
  unfold execPairLoRead at h
  repeat' first | (refine fixed_next h ?_; clear h) | split at h
  all_goals repeat' first | simp only [↓fixed_ite, ↓fixed_hostRead, ↓fixed_readAccess, ↓fixed_registerWrite, fixed_bus, ite_self] | split

theorem fixed_turnValid (fromRequal : Bool) (s : State) : (turnValid fromRequal s).fixed = s.fixed := by
  unfold turnValid; simp only [↓fixed_ite, ↓fixed_setGood, ↓fixed_wr, ↓fixed_finishPlat, fixed_clocks, ite_self]

theorem fixed_postLost (s : State) : (postLost s).fixed = s.fixed := by
  unfold postLost; simp only [↓fixed_ite, ↓fixed_post, fixed_clocks, ite_self]

theorem fixed_execRefclkGateEnd (count : Nat) (stop : Bool) (s : State) : ∀ t, (execRefclkGateEnd count stop s) = .next t → t.fixed = s.fixed := by
  intro t h
  unfold execRefclkGateEnd at h
  repeat' first | (refine fixed_next h ?_; clear h) | split at h
  all_goals repeat' simp only [↓fixed_ite, ↓fixed_wr, ↓fixed_enterLost, ↓fixed_set, ↓fixed_setGood, ↓fixed_turnValid, ↓fixed_postLost, fixed_clocks, ite_self]

theorem fixed_monitorFault (cause : Field) (s : State) : (monitorFault cause s).fixed = s.fixed := by
  unfold monitorFault; simp only [↓fixed_ite, ↓fixed_enterLost, ↓fixed_set, ↓fixed_setGood, ite_self]

theorem fixed_execRefclkGlitch (s : State) : ∀ t, (execRefclkGlitch s) = .next t → t.fixed = s.fixed := by
  intro t h
  unfold execRefclkGlitch at h
  repeat' first | (refine fixed_next h ?_; clear h) | split at h
  all_goals repeat' simp only [↓fixed_ite, ↓fixed_inc, ↓fixed_post, ↓fixed_monitorFault, fixed_clocks, ite_self]

theorem fixed_execRefclkStop (s : State) : ∀ t, (execRefclkStop s) = .next t → t.fixed = s.fixed := by
  intro t h
  unfold execRefclkStop at h
  repeat' first | (refine fixed_next h ?_; clear h) | split at h
  all_goals repeat' simp only [↓fixed_ite, ↓fixed_monitorFault, fixed_clocks, ite_self]

theorem fixed_execLostCutoff (s : State) : ∀ t, (execLostCutoff s) = .next t → t.fixed = s.fixed := by
  intro t h
  unfold execLostCutoff at h
  repeat' first | (refine fixed_next h ?_; clear h) | split at h
  all_goals repeat' first | simp only [↓fixed_ite, ↓fixed_abortFlights, ↓fixed_rerunSteps, ↓fixed_restMemory, ↓fixed_setDram, ite_self] | split

theorem fixed_execXtalFail (s : State) : ∀ t, (execXtalFail s) = .next t → t.fixed = s.fixed := by
  intro t h
  unfold execXtalFail at h
  repeat' first | (refine fixed_next h ?_; clear h) | split at h
  all_goals repeat' simp only [↓fixed_ite, ↓fixed_set, fixed_clocks, ite_self]

theorem fixed_execXtalRestore (s : State) : ∀ t, (execXtalRestore s) = .next t → t.fixed = s.fixed := by
  intro t h
  unfold execXtalRestore at h
  repeat' first | (refine fixed_next h ?_; clear h) | split at h
  all_goals repeat' simp only [fixed_clocks]

theorem fixed_execBoscTrim (trim : Nat) (s : State) : ∀ t, (execBoscTrim trim s) = .next t → t.fixed = s.fixed := by
  intro t h
  unfold execBoscTrim at h
  repeat' first | (refine fixed_next h ?_; clear h) | split at h
  all_goals repeat' simp only [↓fixed_ite, fixed_clocks, ite_self]

theorem fixed_showIslandFault (k : Nat) (s : State) : (showIslandFault k s).fixed = s.fixed := by
  unfold showIslandFault; simp only [↓fixed_ite, ↓fixed_wr, ite_self]

theorem fixed_stopIsland (k : Nat) (s : State) : (stopIsland k s).fixed = s.fixed := by
  unfold stopIsland
  repeat' first | simp only [↓fixed_endMaint, ↓fixed_showIslandFault, ↓fixed_rerunSteps, ↓fixed_abortFlights, ↓fixed_fenceTarget, fixed_clocks] | split

theorem fixed_execIslandClockFault (k : Nat) (s : State) : ∀ t, (execIslandClockFault k s) = .next t → t.fixed = s.fixed := by
  intro t h
  unfold execIslandClockFault at h
  repeat' first | (refine fixed_next h ?_; clear h) | split at h
  all_goals repeat' simp only [↓fixed_ite, ↓fixed_raiseFault, ↓fixed_stopIsland, ite_self]

theorem fixed_performSwitch (c : Nat) (f : Nat) (s : State) : (performSwitch c f s).fixed = s.fixed := by
  unfold performSwitch
  repeat' first | simp only [↓fixed_ite, ↓fixed_setVolt, ↓fixed_wr, fixed_clocks, ite_self] | split

theorem fixed_prepareSwitch (c : Nat) (f : Nat) (s : State) : (prepareSwitch c f s).fixed = s.fixed := by
  unfold prepareSwitch
  repeat' first | simp only [↓fixed_ite, ↓fixed_setVolt, fixed_clocks, ite_self] | split

theorem fixed_switchColumn (c : Nat) (s : State) : (switchColumn c s).fixed = s.fixed := by
  unfold switchColumn
  repeat' first | simp only [↓fixed_ite, ↓fixed_performSwitch, ↓fixed_prepareSwitch, ite_self] | split

theorem fixed_execDvfsSwitch (k : Nat) (s : State) : ∀ t, (execDvfsSwitch k s) = .next t → t.fixed = s.fixed := by
  intro t h
  unfold execDvfsSwitch at h
  repeat' first | (refine fixed_next h ?_; clear h) | split at h
  all_goals repeat' first | simp only [↓fixed_ite, ↓fixed_switchColumn] | split

theorem fixed_execPowerTransition (s : State) : ∀ t, (execPowerTransition s) = .next t → t.fixed = s.fixed := by
  intro t h
  unfold execPowerTransition at h
  repeat' first | (refine fixed_next h ?_; clear h) | split at h
  all_goals repeat' simp only [↓fixed_ite, ↓fixed_settleDoze, ↓fixed_finishOff, ↓fixed_enterPower, ite_self]

theorem fixed_takeSnapshot (s : State) : (takeSnapshot s).fixed = s.fixed := by
  unfold takeSnapshot
  repeat' first | simp only [↓fixed_wr, fixed_mk, fixed_eta] | split | refine (fixed_foldl _ _ (fun s x => ?_) _).trans ?_ | refine (fixed_foldl_snd _ _ (fun s x => ?_) _).trans ?_

theorem fixed_execFoldSnapshotCommit (s : State) : ∀ t, (execFoldSnapshotCommit s) = .next t → t.fixed = s.fixed := by
  intro t h
  unfold execFoldSnapshotCommit at h
  repeat' first | (refine fixed_next h ?_; clear h) | split at h
  all_goals repeat' first | simp only [↓fixed_ite, ↓fixed_quietCan, ↓fixed_setDram, ↓fixed_setPower, ↓fixed_takeSnapshot, ite_self] | split

theorem fixed_releaseWakePin (s : State) : (releaseWakePin s).fixed = s.fixed := by
  unfold releaseWakePin; simp only [fixed_power]

theorem fixed_wakeSources (l : List Nat) (s : State) : (wakeSources l s).fixed = s.fixed := by
  unfold wakeSources
  repeat' first | simp only [↓fixed_ite, ↓fixed_wakeNow, ↓fixed_releaseWakePin, ↓fixed_setPerst, ite_self] | split

theorem fixed_execWakeLatch (l : List Nat) (s : State) : ∀ t, (execWakeLatch l s) = .next t → t.fixed = s.fixed := by
  intro t h
  unfold execWakeLatch at h
  repeat' first | (refine fixed_next h ?_; clear h) | split at h
  all_goals repeat' simp only [↓fixed_wakeSources]

theorem fixed_execDozeExit (us : Nat) (s : State) : ∀ t, (execDozeExit us s) = .next t → t.fixed = s.fixed := by
  intro t h
  unfold execDozeExit at h
  repeat' first | (refine fixed_next h ?_; clear h) | split at h
  all_goals repeat' simp only [↓fixed_ite, ↓fixed_setPower, ↓fixed_wrs, ite_self]

theorem fixed_restoreFields (saved : RegStore) (s : State) : (restoreFields saved s).fixed = s.fixed := by
  unfold restoreFields
  repeat' first | simp only [↓fixed_dropFields, fixed_regs] | split

theorem fixed_runControllers (s : State) : (runControllers s).fixed = s.fixed := by
  unfold runControllers; simp only [↓fixed_ite, ↓fixed_wr, fixed_foldl, ite_self, implies_true]

theorem fixed_linkAfterFold (s : State) : (linkAfterFold s).fixed = s.fixed := by
  unfold linkAfterFold
  repeat' first | simp only [↓fixed_ite, ↓fixed_linkPassed, ite_self] | split

theorem fixed_resumeFold (us : Nat) (s : State) : (resumeFold us s).fixed = s.fixed := by
  unfold resumeFold
  repeat' first | simp only [↓fixed_dropServo, ↓fixed_exposureRestart, ↓fixed_linkAfterFold, ↓fixed_noteTracing, ↓fixed_restoreFields, ↓fixed_runControllers, ↓fixed_seedTime, ↓fixed_setPower, ↓fixed_startCan, ↓fixed_wrs, fixed_mk, fixed_eta] | split | refine (fixed_foldl _ _ (fun s x => ?_) _).trans ?_ | refine (fixed_foldl_snd _ _ (fun s x => ?_) _).trans ?_

theorem fixed_execFoldExit (us : Nat) (good : Bool) (s : State) : ∀ t, (execFoldExit us good s) = .next t → t.fixed = s.fixed := by
  intro t h
  unfold execFoldExit at h
  repeat' first | (refine fixed_next h ?_; clear h) | split at h
  all_goals repeat' first | simp only [↓fixed_ite, ↓fixed_requestReset, ↓fixed_resumeFold, ↓fixed_set, ite_self] | split

theorem fixed_execEjectAccept (s : State) : ∀ t, (execEjectAccept s) = .next t → t.fixed = s.fixed := by
  intro t h
  unfold execEjectAccept at h
  repeat' first | (refine fixed_next h ?_; clear h) | split at h
  all_goals repeat' first | simp only [↓fixed_ite, ↓fixed_abandonUpdate, ↓fixed_beginDrain, ↓fixed_post, ↓fixed_setPower, ↓fixed_wr, ↓fixed_wrs, ite_self] | split

theorem fixed_performHeld (s : State) : (performHeld s).fixed = s.fixed := by
  unfold performHeld
  repeat' first | simp only [↓fixed_ite, ↓fixed_performReset, ↓fixed_setPower, ite_self] | split

theorem fixed_endLeaving (s : State) : (endLeaving s).fixed = s.fixed := by
  unfold endLeaving
  repeat' first | simp only [↓fixed_abandonAll, fixed_can] | split

theorem fixed_drainCommands (s : State) : (drainCommands s).fixed = s.fixed := by
  unfold drainCommands
  repeat' first | simp only [↓fixed_completeAborted, ↓fixed_endLeaving] | split

theorem fixed_drainSteps (us : Nat) (s : State) : (drainSteps us s).fixed = s.fixed := by
  unfold drainSteps
  repeat' first | simp only [↓fixed_abandonFrames, ↓fixed_commitLast, ↓fixed_drainCommands, ↓fixed_dropLinks, ↓fixed_quietCan, ↓fixed_wrs] | split

theorem fixed_execDrained (us : Nat) (s : State) : ∀ t, (execDrained us s) = .next t → t.fixed = s.fixed := by
  intro t h
  unfold execDrained at h
  repeat' first | (refine fixed_next h ?_; clear h) | split at h
  all_goals repeat' first | simp only [↓fixed_ite, ↓fixed_drainSteps, ↓fixed_performHeld, ↓fixed_wrs, ite_self] | split

theorem fixed_execEjectRelease (s : State) : ∀ t, (execEjectRelease s) = .next t → t.fixed = s.fixed := by
  intro t h
  unfold execEjectRelease at h
  repeat' first | (refine fixed_next h ?_; clear h) | split at h
  all_goals repeat' simp only [↓fixed_setPower]

theorem fixed_dropEnables (s : State) : (dropEnables s).fixed = s.fixed := by
  unfold dropEnables
  repeat' first | simp only [↓fixed_ite, ↓fixed_dramLost, ↓fixed_setPower, ↓fixed_wr, ite_self] | split

theorem fixed_execSurpriseRemoval (s : State) : ∀ t, (execSurpriseRemoval s) = .next t → t.fixed = s.fixed := by
  intro t h
  unfold execSurpriseRemoval at h
  repeat' first | (refine fixed_next h ?_; clear h) | split at h
  all_goals repeat' first | simp only [↓fixed_ite, ↓fixed_beginDrain, ↓fixed_dropEnables, ↓fixed_setPower, ↓fixed_wr, ite_self] | split

theorem fixed_execStreamIdleRelease (n : Nat) (s : State) : ∀ t, (execStreamIdleRelease n s) = .next t → t.fixed = s.fixed := by
  intro t h
  unfold execStreamIdleRelease at h
  repeat' first | (refine fixed_next h ?_; clear h) | split at h
  all_goals repeat' simp only [↓fixed_ite, ↓fixed_releaseSlot, ite_self]

theorem fixed_execCanPeerAgeout (n : Nat) (id : Nat) (xtd : Bool) (s : State) : ∀ t, (execCanPeerAgeout n id xtd s) = .next t → t.fixed = s.fixed := by
  intro t h
  unfold execCanPeerAgeout at h
  repeat' first | (refine fixed_next h ?_; clear h) | split at h
  all_goals repeat' first | simp only [↓fixed_ite, ↓fixed_raiseFault, fixed_can, ite_self] | split

theorem fixed_selectMaster (s : State) : (selectMaster s).fixed = s.fixed := by
  unfold selectMaster; simp only [↓fixed_ite, ↓fixed_dropServo, ↓fixed_wrPair, ↓fixed_wr, fixed_tk, fixed_foldl, ite_self, implies_true]

theorem fixed_setForeign (s : State) (l : List Foreign) : (setForeign s l).fixed = s.fixed := by
  unfold setForeign; simp only [fixed_tk]

theorem fixed_execPtpForeignAgeout (n : Nat) (sender : Nat) (s : State) : ∀ t, (execPtpForeignAgeout n sender s) = .next t → t.fixed = s.fixed := by
  intro t h
  unfold execPtpForeignAgeout at h
  repeat' first | (refine fixed_next h ?_; clear h) | split at h
  all_goals repeat' simp only [↓fixed_selectMaster, ↓fixed_setForeign]

theorem fixed_execPdelayNeighbourLoss (n : Nat) (s : State) : ∀ t, (execPdelayNeighbourLoss n s) = .next t → t.fixed = s.fixed := by
  intro t h
  unfold execPdelayNeighbourLoss at h
  repeat' first | (refine fixed_next h ?_; clear h) | split at h
  all_goals repeat' simp only [↓fixed_ite, ↓fixed_clr, fixed_tk, ite_self]

theorem fixed_execDeferredStep (s : State) : ∀ t, (execDeferredStep s) = .next t → t.fixed = s.fixed := by
  intro t h
  unfold execDeferredStep at h
  repeat' first | (refine fixed_next h ?_; clear h) | split at h
  all_goals repeat' first | simp only [↓fixed_ite, ↓fixed_applyStep, ite_self] | split

theorem fixed_trackLock (off : Int) (s : State) : (trackLock off s).fixed = s.fixed := by
  unfold trackLock
  repeat' first | simp only [↓fixed_ite, ↓fixed_clr, ↓fixed_wr, fixed_tk, ite_self] | split

theorem fixed_noteRate (want : Int) (s : State) : (noteRate want s).fixed = s.fixed := by
  unfold noteRate
  repeat' first | simp only [↓fixed_ite, ↓fixed_set, ite_self] | split

theorem fixed_slew (s : State) : (slew s).fixed = s.fixed := by
  unfold slew
  repeat' first | simp only [↓fixed_free, ↓fixed_noteRate, ↓fixed_wr] | split

theorem fixed_followCalendar (s : State) : (followCalendar s).fixed = s.fixed := by
  unfold followCalendar
  repeat' first | simp only [↓fixed_ite, ↓fixed_wr, ↓fixed_wrs, ↓fixed_clr, ite_self] | split

theorem fixed_recordRate (s : State) : (recordRate s).fixed = s.fixed := by
  unfold recordRate; simp only [↓fixed_ite, fixed_tk, ite_self]

theorem fixed_servoStep (off : Int) (s : State) : (servoStep off s).fixed = s.fixed := by
  unfold servoStep
  repeat' first | simp only [↓fixed_free, ↓fixed_noteRate, ↓fixed_requestStep] | split

theorem fixed_ptpSync (n : Nat) (origin : Nat) (corr : Int) (ago : Nat) (s : State) : (ptpSync n origin corr ago s).fixed = s.fixed := by
  unfold ptpSync
  repeat' first | simp only [↓fixed_ite, ↓fixed_followCalendar, ↓fixed_recordRate, ↓fixed_servoStep, ↓fixed_slew, ↓fixed_trackLock, ↓fixed_wr, fixed_tk, ite_self] | split

theorem fixed_execPtpSync (n : Nat) (origin : Nat) (corr : ℤ) (ago : Nat) (s : State) : ∀ t, (execPtpSync n origin corr ago s) = .next t → t.fixed = s.fixed := by
  intro t h
  unfold execPtpSync at h
  repeat' first | (refine fixed_next h ?_; clear h) | split at h
  all_goals repeat' simp only [↓fixed_ptpSync]

theorem fixed_execSyncLoss (s : State) : ∀ t, (execSyncLoss s) = .next t → t.fixed = s.fixed := by
  intro t h
  unfold execSyncLoss at h
  repeat' first | (refine fixed_next h ?_; clear h) | split at h
  all_goals repeat' first | simp only [↓fixed_ite, ↓fixed_dropServo, ite_self] | split

theorem fixed_ptpAnnounce (n : Nat) (a : Announce) (s : State) : (ptpAnnounce n a s).fixed = s.fixed := by
  unfold ptpAnnounce; simp only [↓fixed_ite, ↓fixed_followCalendar, ↓fixed_selectMaster, ↓fixed_setForeign, ite_self]

theorem fixed_execPtpAnnounce (n : Nat) (a : Announce) (s : State) : ∀ t, (execPtpAnnounce n a s) = .next t → t.fixed = s.fixed := by
  intro t h
  unfold execPtpAnnounce at h
  repeat' first | (refine fixed_next h ?_; clear h) | split at h
  all_goals repeat' simp only [↓fixed_ptpAnnounce]

theorem fixed_ptpPdelayResp (n : Nat) (sender : Nat) (round : Nat) (turn : Nat) (s : State) : (ptpPdelayResp n sender round turn s).fixed = s.fixed := by
  unfold ptpPdelayResp
  repeat' first | simp only [↓fixed_ite, ↓fixed_set, ↓fixed_wr, fixed_tk, ite_self] | split

theorem fixed_execPtpPdelayResp (n : Nat) (sender : Nat) (round : Nat) (turn : Nat) (s : State) : ∀ t, (execPtpPdelayResp n sender round turn s) = .next t → t.fixed = s.fixed := by
  intro t h
  unfold execPtpPdelayResp at h
  repeat' first | (refine fixed_next h ?_; clear h) | split at h
  all_goals repeat' simp only [↓fixed_ptpPdelayResp]

theorem fixed_execToutEdge (n : Nat) (s : State) : ∀ t, (execToutEdge n s) = .next t → t.fixed = s.fixed := by
  intro t h
  unfold execToutEdge at h
  repeat' first | (refine fixed_next h ?_; clear h) | split at h
  all_goals repeat' simp only [↓fixed_ite, ↓fixed_produceEdge, ite_self]

theorem fixed_tcapEdge (n : Nat) (rising : Bool) (ago : Nat) (s : State) : (tcapEdge n rising ago s).fixed = s.fixed := by
  unfold tcapEdge
  repeat' first | simp only [↓fixed_ite, ↓fixed_set, ↓fixed_setTcap, ite_self] | split

theorem fixed_execTcapEdge (n : Nat) (rising : Bool) (ago : Nat) (s : State) : ∀ t, (execTcapEdge n rising ago s) = .next t → t.fixed = s.fixed := by
  intro t h
  unfold execTcapEdge at h
  repeat' first | (refine fixed_next h ?_; clear h) | split at h
  all_goals repeat' simp only [↓fixed_tcapEdge]

theorem fixed_offer (canP : CanReq → Bool) (ethP : EthFrame → Bool) (s : State) : (offer canP ethP s).fixed = s.fixed := by
  unfold offer; simp only [↓fixed_setReqs, fixed_eth]

theorem fixed_guardGo (m : Nat) (l : Nat) (s : State) : (guardGo m l s).fixed = s.fixed := by
  unfold guardGo
  repeat' first | simp only [↓fixed_inc, ↓fixed_withdraw, ↓fixed_safeReaction, ↓fixed_endDecision] | split

theorem fixed_launchEntry (e : LaunchEntry) (s : State) : (launchEntry e s).fixed = s.fixed := by
  unfold launchEntry; simp only [↓fixed_ite, ↓fixed_offer, ↓fixed_guardGo, ite_self]

theorem fixed_launchInstantCmd (s : State) : (launchInstantCmd s).fixed = s.fixed := by
  unfold launchInstantCmd
  repeat' first | simp only [↓fixed_ite, ↓fixed_unbookLaunch, ↓fixed_launchEntry, fixed_foldl, ite_self, implies_true] | split

theorem fixed_execLaunchInstant (s : State) : ∀ t, (execLaunchInstant s) = .next t → t.fixed = s.fixed := by
  intro t h
  unfold execLaunchInstant at h
  repeat' first | (refine fixed_next h ?_; clear h) | split at h
  all_goals repeat' simp only [↓fixed_launchInstantCmd]

theorem fixed_lastLeap (sec : Nat) (s : State) : (lastLeap sec s).fixed = s.fixed := by
  unfold lastLeap
  repeat' first | simp only [↓fixed_ite, fixed_time, ite_self] | split

theorem fixed_leapSecond (s : State) : (leapSecond s).fixed = s.fixed := by
  unfold leapSecond
  repeat' first | simp only [↓fixed_ite, ↓fixed_clr, ↓fixed_lastLeap, ↓fixed_wr, ite_self] | split

theorem fixed_execLeapSecond (s : State) : ∀ t, (execLeapSecond s) = .next t → t.fixed = s.fixed := by
  intro t h
  unfold execLeapSecond at h
  repeat' first | (refine fixed_next h ?_; clear h) | split at h
  all_goals repeat' simp only [↓fixed_leapSecond]

theorem fixed_execRtcRealign (s : State) : ∀ t, (execRtcRealign s) = .next t → t.fixed = s.fixed := by
  intro t h
  unfold execRtcRealign at h
  repeat' first | (refine fixed_next h ?_; clear h) | split at h
  all_goals repeat' simp only [↓fixed_ite, ↓fixed_wr, ↓fixed_wrPair, fixed_time, ite_self]

theorem fixed_execAonAlarm (s : State) : ∀ t, (execAonAlarm s) = .next t → t.fixed = s.fixed := by
  intro t h
  unfold execAonAlarm at h
  repeat' first | (refine fixed_next h ?_; clear h) | split at h
  all_goals repeat' simp only [↓fixed_aonAlarm]

theorem fixed_packetHeader (u : Nat) (ecc : Nat) (s : State) : (packetHeader u ecc s).2.fixed = s.fixed := by
  unfold packetHeader; simp only [↓fixed_ite_snd, ↓fixed_set, ↓fixed_inc, ↓fixed_setOpen, ite_self]

theorem fixed_newSlot (tpl : Nat) (src : Nat) (unit : Nat) (vc : Nat) (s : State) : (newSlot tpl src unit vc s).2.fixed = s.fixed := by
  unfold newSlot
  repeat' first | simp only [↓fixed_inc, ↓fixed_wrs, ↓fixed_allocSlot] | split

theorem fixed_joinUnit (u : Nat) (stop : Bool) (s : State) : (joinUnit u stop s).fixed = s.fixed := by
  unfold joinUnit
  repeat' first | simp only [↓fixed_ite, fixed_intake, ite_self] | split

theorem fixed_frameStart (u : Nat) (v : Nat) (fn : Nat) (ecc : Nat) (stop : Bool) (s : State) : (frameStart u v fn ecc stop s).fixed = s.fixed := by
  unfold frameStart
  repeat' first | simp only [↓fixed_ite, ↓fixed_ite_snd, ↓fixed_beginFrame, ↓fixed_closeOpen, ↓fixed_joinUnit, ↓fixed_newSlot, ↓fixed_packetHeader, ↓fixed_setOpen, ↓fixed_showOpen, ↓fixed_showPool, ↓fixed_wr, ite_self] | split

theorem fixed_execFrameStart (u v fn ecc : Nat) (s : State) (stop : Bool) (more : List FrameStart) : ∀ t, (execFrameStart u v fn ecc s stop more) = .next t → t.fixed = s.fixed := by
  intro t h
  unfold execFrameStart at h
  repeat' first | (refine fixed_next h ?_; clear h) | split at h
  all_goals repeat' first | simp only [↓fixed_frameStart, fixed_foldl, implies_true] | split

theorem fixed_onOpen (ch : Nat) (g : Frame → Frame) (s : State) : (onOpen ch g s).fixed = s.fixed := by
  unfold onOpen; simp only [↓fixed_setOpen]

theorem fixed_storeLine (f : Frame) (k : Nat) (l : Bytes) (s : State) : (storeLine f k l s).fixed = s.fixed := by
  unfold storeLine
  repeat' first | simp only [↓fixed_memWrite] | split

theorem fixed_notePixels (px : Nat) (span : Nat) (s : State) : (notePixels px span s).fixed = s.fixed := by
  unfold notePixels
  repeat' first | simp only [↓fixed_ite, ↓fixed_set, fixed_intake, ite_self] | split

theorem fixed_linePacket (u : Nat) (v : Nat) (dt : Nat) (ecc : Nat) (crcOk : Bool) (data : Bytes) (s : State) : (linePacket u v dt ecc crcOk data s).fixed = s.fixed := by
  unfold linePacket
  repeat' first | simp only [↓fixed_ite, ↓fixed_inc, ↓fixed_notePixels, ↓fixed_onOpen, ↓fixed_packetHeader, ↓fixed_storeLine, ite_self] | split

theorem fixed_execLinePacket (u : Nat) (v : Nat) (dt : Nat) (ecc : Nat) (crcOk : Bool) (data : Bytes) (s : State) : ∀ t, (execLinePacket u v dt ecc crcOk data s) = .next t → t.fixed = s.fixed := by
  intro t h
  unfold execLinePacket at h
  repeat' first | (refine fixed_next h ?_; clear h) | split at h
  all_goals repeat' simp only [↓fixed_linePacket]

theorem fixed_frameEnd (u : Nat) (v : Nat) (ecc : Nat) (bad1 : Bool) (bad2 : Bool) (s : State) : (frameEnd u v ecc bad1 bad2 s).fixed = s.fixed := by
  unfold frameEnd; simp only [↓fixed_ite, ↓fixed_packetHeader, ↓fixed_closeOpen, ↓fixed_inc, ite_self]

theorem fixed_execFrameEnd (u : Nat) (v : Nat) (ecc : Nat) (bad1 : Bool) (bad2 : Bool) (s : State) : ∀ t, (execFrameEnd u v ecc bad1 bad2 s) = .next t → t.fixed = s.fixed := by
  intro t h
  unfold execFrameEnd at h
  repeat' first | (refine fixed_next h ?_; clear h) | split at h
  all_goals repeat' simp only [↓fixed_frameEnd]

theorem fixed_truncateUnit (u : Nat) (p : Frame → Bool) (s : State) : (truncateUnit u p s).fixed = s.fixed := by
  unfold truncateUnit; simp only [↓fixed_closeOpen, fixed_foldl, implies_true]

theorem fixed_execLineTimeout (u : Nat) (v : Nat) (s : State) : ∀ t, (execLineTimeout u v s) = .next t → t.fixed = s.fixed := by
  intro t h
  unfold execLineTimeout at h
  repeat' first | (refine fixed_next h ?_; clear h) | split at h
  all_goals repeat' simp only [↓fixed_ite, ↓fixed_truncateUnit, ite_self]

theorem fixed_execClockLaneLoss (u : Nat) (s : State) : ∀ t, (execClockLaneLoss u s) = .next t → t.fixed = s.fixed := by
  intro t h
  unfold execClockLaneLoss at h
  repeat' first | (refine fixed_next h ?_; clear h) | split at h
  all_goals repeat' first | simp only [↓fixed_ite, ↓fixed_clr, ↓fixed_truncateUnit, fixed_intake, ite_self] | split

theorem fixed_gvStream (f : Nat) (p : GvPacket) (fresh : Bool) (s : State) : (gvStream f p fresh s).2.fixed = s.fixed := by
  unfold gvStream
  repeat' first | simp only [↓fixed_ite_snd, ↓fixed_newSlot, fixed_intake] | split

theorem fixed_storeLines (f : Frame) (s : State) : (storeLines f s).fixed = s.fixed := by
  unfold storeLines; simp only [↓fixed_storeLine, fixed_foldl, implies_true]

theorem fixed_finishBlock (b : Block) (bad1 : Bool) (bad2 : Bool) (s : State) : (finishBlock b bad1 bad2 s).fixed = s.fixed := by
  unfold finishBlock
  repeat' first | simp only [↓fixed_ite, ↓fixed_closeFrame, ↓fixed_countReason, ↓fixed_endBlock, ↓fixed_setBlocks, ↓fixed_setClosed, ↓fixed_settleState, ↓fixed_showPool, ↓fixed_storeLines, ite_self] | split

theorem fixed_gvPacket (f : Nat) (n : Nat) (p : GvPacket) (h : GvHeader) (bad1 : Bool) (bad2 : Bool) (s : State) : (gvPacket f n p h bad1 bad2 s).fixed = s.fixed := by
  unfold gvPacket
  repeat' first | simp only [↓fixed_ite, ↓fixed_beginFrame, ↓fixed_countReason, ↓fixed_dropBlocks, ↓fixed_endBlock, ↓fixed_finishBlock, ↓fixed_notePixels, ↓fixed_setBlocks, ↓fixed_showPool, ↓fixed_wr, ite_self] | split

theorem fixed_gvMatched (f : Nat) (p : GvPacket) (h : GvHeader) (bad1 : Bool) (bad2 : Bool) (s : State) : (gvMatched f p h bad1 bad2 s).fixed = s.fixed := by
  unfold gvMatched
  repeat' first | simp only [↓fixed_ite, ↓fixed_gvPacket, ↓fixed_gvStream, ↓fixed_inc, fixed_intake, ite_self] | split

theorem fixed_gvTake (kind : GvHeader → Bool) (bad1 : Bool) (bad2 : Bool) (s : State) : (gvTake kind bad1 bad2 s).fixed = s.fixed := by
  unfold gvTake
  repeat' first | simp only [↓fixed_ite, ↓fixed_freeCells, ↓fixed_gvMatched, ↓fixed_inc, fixed_eth] | split

theorem fixed_execGvspLeader (s : State) : ∀ t, (execGvspLeader s) = .next t → t.fixed = s.fixed := by
  intro t h
  unfold execGvspLeader at h
  repeat' first | (refine fixed_next h ?_; clear h) | split at h
  all_goals repeat' first | simp only [↓fixed_gvTake] | split

theorem fixed_execGvspPayload (s : State) (bad1 : Bool) (bad2 : Bool) : ∀ t, (execGvspPayload s bad1 bad2) = .next t → t.fixed = s.fixed := by
  intro t h
  unfold execGvspPayload at h
  repeat' first | (refine fixed_next h ?_; clear h) | split at h
  all_goals repeat' first | simp only [↓fixed_gvTake] | split

theorem fixed_execGvspTrailer (s : State) (bad1 : Bool) (bad2 : Bool) : ∀ t, (execGvspTrailer s bad1 bad2) = .next t → t.fixed = s.fixed := by
  intro t h
  unfold execGvspTrailer at h
  repeat' first | (refine fixed_next h ?_; clear h) | split at h
  all_goals repeat' first | simp only [↓fixed_gvTake] | split

theorem fixed_execGvspBlockTimeout (n : Nat) (s : State) : ∀ t, (execGvspBlockTimeout n s) = .next t → t.fixed = s.fixed := by
  intro t h
  unfold execGvspBlockTimeout at h
  repeat' first | (refine fixed_next h ?_; clear h) | split at h
  all_goals repeat' simp only [↓fixed_dropBlocks]

theorem fixed_placeImage (n : Nat) (f : Frame) (w : Nat) (h : Nat) (rows : List Bytes) (bad1 : Bool) (bad2 : Bool) (s : State) : (placeImage n f w h rows bad1 bad2 s).fixed = s.fixed := by
  unfold placeImage
  repeat' first | simp only [↓fixed_closeFrame, ↓fixed_dropScan, ↓fixed_inc, ↓fixed_notePixels, ↓fixed_setClosed, ↓fixed_storeLines, ↓fixed_takeBuf] | split

theorem fixed_jpegDone (n : Nat) (bad1 : Bool) (bad2 : Bool) (s : State) : (jpegDone n bad1 bad2 s).fixed = s.fixed := by
  unfold jpegDone
  repeat' first | simp only [↓fixed_ite, ↓fixed_dropScan, ↓fixed_inc, ↓fixed_placeImage] | split

theorem fixed_execJpegDecodeDone (n : Nat) (s : State) (bad1 : Bool) (bad2 : Bool) : ∀ t, (execJpegDecodeDone n s bad1 bad2) = .next t → t.fixed = s.fixed := by
  intro t h
  unfold execJpegDecodeDone at h
  repeat' first | (refine fixed_next h ?_; clear h) | split at h
  all_goals repeat' first | simp only [↓fixed_jpegDone] | split

theorem fixed_writeTensor (f : Frame) (s : State) : (writeTensor f s).fixed = s.fixed := by
  unfold writeTensor
  repeat' first | simp only [↓fixed_ite, ↓fixed_memWrite, ite_self] | split

theorem fixed_judgeSentinels (f : Frame) (s : State) : (judgeSentinels f s).fixed = s.fixed := by
  unfold judgeSentinels; simp only [↓fixed_ite, ↓fixed_wr, ↓fixed_post, ↓fixed_inc, ↓fixed_raiseFault, fixed_safety, fixed_foldl, ite_self, implies_true]

theorem fixed_giveWay (n : Nat) (g : Nat) (s : State) : (giveWay n g s).fixed = s.fixed := by
  unfold giveWay
  repeat' first | simp only [↓fixed_ite, ↓fixed_releaseQueued, fixed_foldl, ite_self, implies_true] | split

theorem fixed_queueSample (f : Frame) (status : Nat) (flags : Nat) (near : Nat) (s : State) : (queueSample f status flags near s).fixed = s.fixed := by
  unfold queueSample
  repeat' first | simp only [↓fixed_ite, ↓fixed_enterQueue, ↓fixed_giveWay, ↓fixed_judgeSentinels, ite_self] | split

end Sys2Proof.Machine.Laws
end

