-- ==== Sys2Proof/Laws/FixedD.lean ====
section
/-! SUPPORT. What every operation and every meaning leaves of the fixed part of the state (queue, fuses, OTP): one lemma per definition,
in the order in which they call each other. Part 4 of 4. -/

namespace Sys2Proof.Machine.Laws

theorem fixed_sampleReady (n : Nat) (s : State) : (sampleReady n s).fixed = s.fixed := by
  unfold sampleReady
  repeat' first | simp only [↓fixed_ite, ↓fixed_queueSample, ↓fixed_setClosed, ↓fixed_writeTensor, ite_self] | split

theorem fixed_execSampleReady (l : List Nat) (s : State) : ∀ t, (execSampleReady l s) = .next t → t.fixed = s.fixed := by
  intro t h
  unfold execSampleReady at h
  repeat' first | (refine fixed_next h ?_; clear h) | split at h
  all_goals repeat' simp only [↓fixed_sampleReady, fixed_foldl, implies_true]

theorem fixed_execSampleStale (n : Nat) (s t : State) (h : execSampleStale n s = .next t) : t.fixed = s.fixed := by
  unfold execSampleStale at h
  exact fixed_next h (fixed_foldl _ _ (fun t g => fixed_releaseQueued _ _ _ t) _)

theorem fixed_replayMiss (r : Replay) (n : Nat) (s : State) : (replayMiss r n s).fixed = s.fixed := by
  unfold replayMiss; simp only [↓fixed_countReason, ↓fixed_inc, ↓fixed_nondet, ↓fixed_enterQueue]

theorem fixed_replayHit (r : Replay) (n : Nat) (e : CacheEntry) (s : State) : (replayHit r n e s).fixed = s.fixed := by
  unfold replayHit
  repeat' first | simp only [↓fixed_countReason, ↓fixed_queueSample, ↓fixed_storeLines, ↓fixed_takeBuf, ↓fixed_writeTensor] | split

theorem fixed_replayReady (s : State) : (replayReady s).fixed = s.fixed := by
  unfold replayReady
  repeat' first | simp only [↓fixed_ite, ↓fixed_replayHit, ↓fixed_replayMiss, ↓fixed_setReplays] | split

theorem fixed_execReplayReady (s : State) : ∀ t, (execReplayReady s) = .next t → t.fixed = s.fixed := by
  intro t h
  unfold execReplayReady at h
  repeat' first | (refine fixed_next h ?_; clear h) | split at h
  all_goals repeat' simp only [↓fixed_replayReady]

theorem fixed_execCciCommit (b : Nat) (fails : List (List Bool)) (release : List Bool) (s : State) : ∀ t, (execCciCommit b fails release s) = .next t → t.fixed = s.fixed := by
  intro t h
  unfold execCciCommit at h
  repeat' first | (refine fixed_next h ?_; clear h) | split at h
  all_goals repeat' first | simp only [↓fixed_cciCommit] | split

theorem fixed_execAutoExposure (n : Nat) (s : State) : ∀ t, (execAutoExposure n s) = .next t → t.fixed = s.fixed := by
  intro t h
  unfold execAutoExposure at h
  repeat' first | (refine fixed_next h ?_; clear h) | split at h
  all_goals repeat' simp only [↓fixed_autoExposure]

theorem fixed_issue (p : Nat) (oc : Nat) (kind : Nat) (tid : Nat) (addr : Nat) (n : Nat) (rt : Bool) (data : Bytes) (dead : List Nat) (errs : List (Nat × Nat)) (s : State) : (issue p oc kind tid addr n rt data dead errs s).fixed = s.fixed := by
  unfold issue
  repeat' first | simp only [↓fixed_ite, ↓fixed_count, ↓fixed_reachNode, ↓fixed_setPieces, fixed_fab, fixed_foldl_snd, ite_self, implies_true] | split

theorem fixed_execMcRead (p : Nat) (oc : Nat) (tid : Nat) (addr : Nat) (n : Nat) (rt : Bool) (dead : List Nat) (errs : List (Nat × Nat)) (s : State) : ∀ t, (execMcRead p oc tid addr n rt dead errs s) = .next t → t.fixed = s.fixed := by
  intro t h
  unfold execMcRead at h
  repeat' first | (refine fixed_next h ?_; clear h) | split at h
  all_goals repeat' simp only [↓fixed_issue]

theorem fixed_execMcWrite (p : Nat) (oc : Nat) (tid : Nat) (addr : Nat) (b : Bytes) (rt : Bool) (dead : List Nat) (errs : List (Nat × Nat)) (s : State) : ∀ t, (execMcWrite p oc tid addr b rt dead errs s) = .next t → t.fixed = s.fixed := by
  intro t h
  unfold execMcWrite at h
  repeat' first | (refine fixed_next h ?_; clear h) | split at h
  all_goals repeat' simp only [↓fixed_issue]

theorem fixed_execRefresh (c : Nat) (hot : Bool) (s : State) : ∀ t, (execRefresh c hot s) = .next t → t.fixed = s.fixed := by
  intro t h
  unfold execRefresh at h
  repeat' first | (refine fixed_next h ?_; clear h) | split at h
  all_goals repeat' simp only [↓fixed_ite, ↓fixed_wr, ↓fixed_post, fixed_mc, ite_self]

theorem fixed_execRefreshShadow (m : Nat) (drift : Nat) (beyond : Bool) (s : State) (c : Nat) : ∀ t, (execRefreshShadow m drift beyond s c) = .next t → t.fixed = s.fixed := by
  intro t h
  unfold execRefreshShadow at h
  repeat' first | (refine fixed_next h ?_; clear h) | split at h
  all_goals repeat' first | simp only [↓fixed_ite, ↓fixed_incWrap, ↓fixed_requestRetrain, ↓fixed_wr, fixed_mc, ite_self] | split

theorem fixed_execRetrainTimeout (m : Nat) (s : State) : ∀ t, (execRetrainTimeout m s) = .next t → t.fixed = s.fixed := by
  intro t h
  unfold execRetrainTimeout at h
  repeat' first | (refine fixed_next h ?_; clear h) | split at h
  all_goals repeat' first | simp only [↓fixed_ite, ↓fixed_post, ↓fixed_showPending, ↓fixed_set, ↓fixed_clr, fixed_mc, ite_self] | split

theorem fixed_execPatrolScrub (m : Nat) (kind : Nat) (s : State) : ∀ t, (execPatrolScrub m kind s) = .next t → t.fixed = s.fixed := by
  intro t h
  unfold execPatrolScrub at h
  repeat' first | (refine fixed_next h ?_; clear h) | split at h
  all_goals repeat' first | simp only [↓fixed_ite, ↓fixed_arise, ↓fixed_inc, ↓fixed_incWrap, ↓fixed_meetUnit, ↓fixed_wr, fixed_mc, ite_self] | split

theorem fixed_execLinkReplay (n : Nat) (ring : Nat) (good : Bool) (s : State) : ∀ t, (execLinkReplay n ring good s) = .next t → t.fixed = s.fixed := by
  intro t h
  unfold execLinkReplay at h
  repeat' first | (refine fixed_next h ?_; clear h) | split at h
  all_goals repeat' simp only [↓fixed_ite, ↓fixed_inc, ↓fixed_wr, ↓fixed_raiseFault, ↓fixed_showLinks, fixed_fab, ite_self]

theorem fixed_execFabricTimeout (p : Nat) (tag : Nat) (s : State) : ∀ t, (execFabricTimeout p tag s) = .next t → t.fixed = s.fixed := by
  intro t h
  unfold execFabricTimeout at h
  repeat' first | (refine fixed_next h ?_; clear h) | split at h
  all_goals repeat' first | simp only [↓fixed_ite, ↓fixed_deliver, ↓fixed_noteTimeout, ↓fixed_setPieces, ite_self] | split

theorem fixed_execTonote (s : State) : ∀ t, (execTonote s) = .next t → t.fixed = s.fixed := by
  intro t h
  unfold execTonote at h
  repeat' first | (refine fixed_next h ?_; clear h) | split at h
  all_goals repeat' first | simp only [↓fixed_ite, ↓fixed_inc, ↓fixed_raiseFault, ↓fixed_fenceTarget, fixed_fab, ite_self] | split

theorem fixed_targetAnswers (p : Nat) (tag : Nat) (tgt : Nat) (s : State) : (targetAnswers p tag tgt s).fixed = s.fixed := by
  unfold targetAnswers
  repeat' first | simp only [↓fixed_ite, ↓fixed_wr, ↓fixed_performAt, ↓fixed_setPieces, ↓fixed_inc, ite_self] | split

theorem fixed_execFabricResponse (p : Nat) (tag : Nat) (tgt : Nat) (fromTarget : Bool) (s : State) : ∀ t, (execFabricResponse p tag tgt fromTarget s) = .next t → t.fixed = s.fixed := by
  intro t h
  unfold execFabricResponse at h
  repeat' first | (refine fixed_next h ?_; clear h) | split at h
  all_goals repeat' simp only [↓fixed_ite, ↓fixed_targetAnswers, ↓fixed_answerArrives, ite_self]

theorem fixed_execSyncRequest (p : Nat) (tgt : Nat) (oc : Nat) (s : State) (typ : Nat) : ∀ t, (execSyncRequest p tgt oc s typ) = .next t → t.fixed = s.fixed := by
  intro t h
  unfold execSyncRequest at h
  repeat' first | (refine fixed_next h ?_; clear h) | split at h
  all_goals repeat' first | simp only [↓fixed_ite, ↓fixed_count, ↓fixed_deliver, ↓fixed_reachNode, ↓fixed_setPieces, fixed_fab, ite_self] | split

theorem fixed_filterSees (n : Nat) (p : Packet) (s : State) (f : Nat) : (filterSees n p s f).fixed = s.fixed := by
  unfold filterSees; simp only [↓fixed_ite, ↓fixed_count, ↓fixed_emit, ite_self]

theorem fixed_execProbeObserve (n : Nat) (flits : Nat) (l : List Packet) (s : State) : ∀ t, (execProbeObserve n flits l s) = .next t → t.fixed = s.fixed := by
  intro t h
  unfold execProbeObserve at h
  repeat' first | (refine fixed_next h ?_; clear h) | split at h
  all_goals repeat' simp only [↓fixed_ite, ↓fixed_count, ↓fixed_filterSees, fixed_foldl, ite_self, implies_true]

theorem fixed_execWindowTick (s : State) : ∀ t, (execWindowTick s) = .next t → t.fixed = s.fixed := by
  intro t h
  unfold execWindowTick at h
  repeat' first | (refine fixed_next h ?_; clear h) | split at h
  all_goals repeat' simp only [↓fixed_ite, ↓fixed_tick, ite_self]

theorem fixed_execTraceSync (s : State) : ∀ t, (execTraceSync s) = .next t → t.fixed = s.fixed := by
  intro t h
  unfold execTraceSync at h
  repeat' first | (refine fixed_next h ?_; clear h) | split at h
  all_goals repeat' simp only [↓fixed_ite, ↓fixed_syncAll, ite_self]

theorem fixed_execTraceLoss (n : Nat) (s : State) : ∀ t, (execTraceLoss n s) = .next t → t.fixed = s.fixed := by
  intro t h
  unfold execTraceLoss at h
  repeat' first | (refine fixed_next h ?_; clear h) | split at h
  all_goals repeat' simp only [↓fixed_ite, ↓fixed_setFifo, ite_self]

theorem fixed_execFetchError (q : Nat) (s : State) : ∀ t, (execFetchError q s) = .next t → t.fixed = s.fixed := by
  intro t h
  unfold execFetchError at h
  repeat' first | (refine fixed_next h ?_; clear h) | split at h
  all_goals repeat' first | simp only [↓fixed_ite, ↓fixed_launch, ↓fixed_modifyLast, ↓fixed_noteRead, ite_self] | split

theorem fixed_noteReady (q : Nat) (s : State) : (noteReady q s).fixed = s.fixed := by
  unfold noteReady
  repeat' first | simp only [↓fixed_ite, ↓fixed_modifyFlights, ite_self] | split

theorem fixed_execCommandComplete (q : Nat) (s : State) : ∀ t, (execCommandComplete q s) = .next t → t.fixed = s.fixed := by
  intro t h
  unfold execCommandComplete at h
  repeat' first | (refine fixed_next h ?_; clear h) | split at h
  all_goals repeat' first | simp only [↓fixed_noteReady, ↓fixed_ite, ↓fixed_writeCompletion, ↓fixed_afterWrite, ite_self] | split

theorem fixed_execIrqTimer (q : Nat) (s : State) : ∀ t, (execIrqTimer q s) = .next t → t.fixed = s.fixed := by
  intro t h
  unfold execIrqTimer at h
  repeat' first | (refine fixed_next h ?_; clear h) | split at h
  all_goals repeat' first | simp only [↓fixed_ite, ↓fixed_raiseVector, fixed_drv, ite_self] | split

theorem fixed_execNop (q : Nat) (s : State) : ∀ t, (execNop q s) = .next t → t.fixed = s.fixed := by
  intro t h
  unfold execNop at h
  repeat' first | (refine fixed_next h ?_; clear h) | split at h
  all_goals repeat' first | simp only [↓fixed_pump, ↓fixed_runHead] | split

theorem fixed_writeReg (w : Writer) (a : Nat) (v : Nat) (s : State) : (writeReg w a v s).fixed = s.fixed := by
  unfold writeReg; simp only [↓fixed_registerWrite]

theorem fixed_maskedWrite (w : Writer) (a : Nat) (v : Nat) (mask : Nat) (s : State) : (maskedWrite w a v mask s).fixed = s.fixed := by
  unfold maskedWrite; simp only [↓fixed_ite, ↓fixed_writeReg, ↓fixed_readReg, ite_self]

theorem fixed_execRegwr (q : Nat) (s : State) : ∀ t, (execRegwr q s) = .next t → t.fixed = s.fixed := by
  intro t h
  unfold execRegwr at h
  repeat' first | (refine fixed_next h ?_; clear h) | split at h
  all_goals repeat' first | simp only [↓fixed_startHead, ↓fixed_maskedWrite, ↓fixed_pump, ↓fixed_settle] | split

theorem fixed_execRegrd (q : Nat) (s : State) : ∀ t, (execRegrd q s) = .next t → t.fixed = s.fixed := by
  intro t h
  unfold execRegrd at h
  repeat' first | (refine fixed_next h ?_; clear h) | split at h
  all_goals repeat' first | simp only [↓fixed_readReg, ↓fixed_startHead, ↓fixed_pump, ↓fixed_settle] | split

theorem fixed_pollOnce (q : Nat) (idx : Nat) (c : Bytes) (s : State) : (pollOnce q idx c s).fixed = s.fixed := by
  unfold pollOnce; simp only [↓fixed_ite, ↓fixed_readReg, ↓fixed_settleAt, ite_self]

theorem fixed_execRegpoll (q : Nat) (s : State) : ∀ t, (execRegpoll q s) = .next t → t.fixed = s.fixed := by
  intro t h
  unfold execRegpoll at h
  repeat' first | (refine fixed_next h ?_; clear h) | split at h
  all_goals repeat' first | simp only [↓fixed_pollOnce, ↓fixed_pump, ↓fixed_startHead] | split

theorem fixed_execRegpollTimeout (q : Nat) (s : State) : ∀ t, (execRegpollTimeout q s) = .next t → t.fixed = s.fixed := by
  intro t h
  unfold execRegpollTimeout at h
  repeat' first | (refine fixed_next h ?_; clear h) | split at h
  all_goals repeat' first | simp only [↓fixed_ite, ↓fixed_settleAt, ite_self] | split

theorem fixed_takeUp (q : Nat) (e : Nat) (c : Bytes) (s : State) : (takeUp q e c s).fixed = s.fixed := by
  unfold takeUp; simp only [↓fixed_ite, ↓fixed_setCarried, ite_self]

theorem fixed_wake (e : Nat) (s : State) : (wake e s).fixed = s.fixed := by
  unfold wake; simp only [↓fixed_wr, ↓fixed_takeUp, ↓fixed_modifyFlights, fixed_foldl, implies_true]

theorem fixed_setEvent (s : State) (e : Nat) (v : Event) : (setEvent s e v).fixed = s.fixed := by
  unfold setEvent; simp only [fixed_drv]

theorem fixed_signalEvent (q : Nat) (c : Bytes) (s : State) : (signalEvent q c s).fixed = s.fixed := by
  unfold signalEvent; simp only [↓fixed_wake, ↓fixed_setEvent]

theorem fixed_execSignalEvent (q : Nat) (s : State) : ∀ t, (execSignalEvent q s) = .next t → t.fixed = s.fixed := by
  intro t h
  unfold execSignalEvent at h
  repeat' first | (refine fixed_next h ?_; clear h) | split at h
  all_goals repeat' first | simp only [↓fixed_pump, ↓fixed_runHead, ↓fixed_signalEvent] | split

theorem fixed_execWaitEvent (q : Nat) (s : State) : ∀ t, (execWaitEvent q s) = .next t → t.fixed = s.fixed := by
  intro t h
  unfold execWaitEvent at h
  repeat' first | (refine fixed_next h ?_; clear h) | split at h
  all_goals repeat' first | simp only [↓fixed_ite, ↓fixed_pump, ↓fixed_takeUp, ↓fixed_runHead, ↓fixed_wr, ↓fixed_startHead, ite_self] | split

theorem fixed_execWaitTimeout (q : Nat) (s : State) : ∀ t, (execWaitTimeout q s) = .next t → t.fixed = s.fixed := by
  intro t h
  unfold execWaitTimeout at h
  repeat' first | (refine fixed_next h ?_; clear h) | split at h
  all_goals repeat' first | simp only [↓fixed_ite, ↓fixed_wr, ↓fixed_settleAt, ite_self] | split

theorem fixed_execEvset (q : Nat) (s : State) : ∀ t, (execEvset q s) = .next t → t.fixed = s.fixed := by
  intro t h
  unfold execEvset at h
  repeat' first | (refine fixed_next h ?_; clear h) | split at h
  all_goals repeat' first | simp only [↓fixed_pump, ↓fixed_runHead, ↓fixed_wake, ↓fixed_setEvent] | split

theorem fixed_selfCheck (r : Nat) (s : State) : (selfCheck r s).fixed = s.fixed := by
  unfold selfCheck
  repeat' first | simp only [↓fixed_ite, ↓fixed_incWrap, ↓fixed_raiseFault, ↓fixed_set, fixed_safety, ite_self] | split

theorem fixed_firstStart (s : State) : (firstStart s).fixed = s.fixed := by
  unfold firstStart; simp only [↓fixed_ite, ↓fixed_wr, ↓fixed_post, fixed_boot, ite_self]

theorem fixed_execMajorBoundary (check : Nat) (s : State) : ∀ t, (execMajorBoundary check s) = .next t → t.fixed = s.fixed := by
  intro t h
  unfold execMajorBoundary at h
  repeat' first | (refine fixed_next h ?_; clear h) | split at h
  all_goals repeat' simp only [↓fixed_ite, ↓fixed_selfCheck, ↓fixed_firstStart, ↓fixed_beginSupervision, ↓fixed_countClean, ↓fixed_incWrap, ↓fixed_setRot, ↓fixed_tick, ite_self]

theorem fixed_startRotation (first : Nat) (s : State) : (startRotation first s).fixed = s.fixed := by
  unfold startRotation
  repeat' first | simp only [↓fixed_setRot, ↓fixed_wrs, fixed_drv] | split

theorem fixed_execRotationStart (s : State) : ∀ t, (execRotationStart s) = .next t → t.fixed = s.fixed := by
  intro t h
  unfold execRotationStart at h
  repeat' first | (refine fixed_next h ?_; clear h) | split at h
  all_goals repeat' simp only [↓fixed_ite, ↓fixed_startRotation, ite_self]

theorem fixed_markSeen (e : Nat) (s : State) : (markSeen e s).fixed = s.fixed := by
  unfold markSeen; simp only [↓fixed_setRot]

theorem fixed_execFixedClaimStart (e : Nat) (s : State) : ∀ t, (execFixedClaimStart e s) = .next t → t.fixed = s.fixed := by
  intro t h
  unfold execFixedClaimStart at h
  repeat' first | (refine fixed_next h ?_; clear h) | split at h
  all_goals repeat' simp only [↓fixed_ite, ↓fixed_announce, ↓fixed_beginClaim, ↓fixed_markSeen, ite_self]

theorem fixed_takeSamples (g : Nat) (m : Nat) (s : State) : (takeSamples g m s).2.fixed = s.fixed := by
  unfold takeSamples; simp only [↓fixed_releaseQueued, ↓fixed_setGroup]

theorem fixed_giveTake (q : Nat) (l : List Sample) (s : State) : (giveTake q l s).fixed = s.fixed := by
  unfold giveTake
  repeat' first | simp only [fixed_intake] | split

theorem fixed_execHeadFire (e : Nat) (s : State) : ∀ t, (execHeadFire e s) = .next t → t.fixed = s.fixed := by
  intro t h
  unfold execHeadFire at h
  repeat' first | (refine fixed_next h ?_; clear h) | split at h
  all_goals repeat' first | simp only [↓fixed_ite, ↓fixed_announce, ↓fixed_beginClaim, ↓fixed_giveTake, ↓fixed_inc, ↓fixed_markSeen, ↓fixed_setRot, ↓fixed_showArmed, ↓fixed_showPool, ↓fixed_takeSamples, ↓fixed_wr, ite_self] | split

theorem fixed_execChainClaimStart (e : Nat) (s : State) : ∀ t, (execChainClaimStart e s) = .next t → t.fixed = s.fixed := by
  intro t h
  unfold execChainClaimStart at h
  repeat' first | (refine fixed_next h ?_; clear h) | split at h
  all_goals repeat' simp only [↓fixed_ite, ↓fixed_markSeen, ↓fixed_setRot, ↓fixed_announce, ↓fixed_showArmed, ↓fixed_beginClaim, ite_self]

theorem fixed_takeRequest (claim : Nat) (s : State) (r : Request) : (takeRequest claim s r).fixed = s.fixed := by
  unfold takeRequest
  repeat' first | rfl | simp only [↓fixed_ite, ↓fixed_modifyFlights, fixed_drv] | split

theorem fixed_runRequest (m : MaintRun) (s : State) : (runRequest m s).fixed = s.fixed := by
  unfold runRequest; simp only [↓fixed_ite, ↓fixed_modifyFlights, ↓fixed_set, ↓fixed_showColumn, fixed_drv, ite_self]

theorem fixed_runNext (claim : Nat) (s : State) : (runNext claim s).fixed = s.fixed := by
  unfold runNext
  repeat' first | simp only [↓fixed_ite, ↓fixed_runRequest] | split

theorem fixed_execMaintClaimStart (e : Nat) (s : State) : ∀ t, (execMaintClaimStart e s) = .next t → t.fixed = s.fixed := by
  intro t h
  unfold execMaintClaimStart at h
  repeat' first | (refine fixed_next h ?_; clear h) | split at h
  all_goals repeat' simp only [↓fixed_ite, ↓fixed_beginClaim, ↓fixed_markSeen, ↓fixed_takeRequest, ↓fixed_runNext, ↓fixed_showPending, fixed_foldl, ite_self, implies_true]

theorem fixed_execClaimEnd (e : Nat) (s : State) : ∀ t, (execClaimEnd e s) = .next t → t.fixed = s.fixed := by
  intro t h
  unfold execClaimEnd at h
  repeat' first | (refine fixed_next h ?_; clear h) | split at h
  all_goals repeat' first | simp only [↓fixed_ite, ↓fixed_showArmed, ↓fixed_setRot, ↓fixed_releaseClaim, ite_self] | split

theorem fixed_execServingDispatch (c : Nat) (s : State) : ∀ t, (execServingDispatch c s) = .next t → t.fixed = s.fixed := by
  intro t h
  unfold execServingDispatch at h
  repeat' first | (refine fixed_next h ?_; clear h) | split at h
  all_goals repeat' first | simp only [↓fixed_ite, ↓fixed_mapSteps, ↓fixed_showColumn, ↓fixed_wrs] | split

theorem fixed_execServingOverrun (c : Nat) (s : State) : ∀ t, (execServingOverrun c s) = .next t → t.fixed = s.fixed := by
  intro t h
  unfold execServingOverrun at h
  repeat' first | (refine fixed_next h ?_; clear h) | split at h
  all_goals repeat' first | simp only [↓fixed_ite, ↓fixed_modifyFlights, ↓fixed_raiseFault, ↓fixed_inc, ite_self] | split

theorem fixed_startStep (f : Nat) (c : Nat) (s : State) : (startStep f c s).fixed = s.fixed := by
  unfold startStep; simp only [↓fixed_ite, ↓fixed_putSeq, ↓fixed_setSeqState, ↓fixed_st, ↓fixed_showFlock, ↓fixed_showColumn, fixed_drv, fixed_foldl, ite_self, implies_true]

theorem fixed_execFlockStepStart (f : Nat) (c : Nat) (s : State) : ∀ t, (execFlockStepStart f c s) = .next t → t.fixed = s.fixed := by
  intro t h
  unfold execFlockStepStart at h
  repeat' first | (refine fixed_next h ?_; clear h) | split at h
  all_goals repeat' simp only [↓fixed_ite, ↓fixed_startStep, ite_self]

theorem fixed_finishStep (t : EngineStep) (s : State) : (finishStep t s).fixed = s.fixed := by
  unfold finishStep; simp only [↓fixed_closeStep, ↓fixed_inc, ↓fixed_advanceSeq, fixed_foldl, implies_true]

theorem fixed_execFlockStepEnd (c : Nat) (s : State) : ∀ t, (execFlockStepEnd c s) = .next t → t.fixed = s.fixed := by
  intro t h
  unfold execFlockStepEnd at h
  repeat' first | (refine fixed_next h ?_; clear h) | split at h
  all_goals repeat' first | simp only [↓fixed_ite, ↓fixed_abandonStep, ↓fixed_finishStep] | split

theorem fixed_execFlockAdmitTimeout (i : Nat) (s : State) : ∀ t, (execFlockAdmitTimeout i s) = .next t → t.fixed = s.fixed := by
  intro t h
  unfold execFlockAdmitTimeout at h
  repeat' first | (refine fixed_next h ?_; clear h) | split at h
  all_goals repeat' first | simp only [↓fixed_ite, ↓fixed_nondet, ↓fixed_showFlock, ↓fixed_inc, ↓fixed_leaveFlock, ite_self] | split

theorem fixed_execMaintExpiry (q : Nat) (s : State) : ∀ t, (execMaintExpiry q s) = .next t → t.fixed = s.fixed := by
  intro t h
  unfold execMaintExpiry at h
  repeat' first | (refine fixed_next h ?_; clear h) | split at h
  all_goals repeat' first | simp only [↓fixed_ite, ↓fixed_inc, ↓fixed_takeRequest, ↓fixed_raiseViolation, ↓fixed_showColumn, ↓fixed_showPending, ↓fixed_set, ↓fixed_settleAt, ite_self] | split

theorem fixed_execForcedRun (q : Nat) (s : State) : ∀ t, (execForcedRun q s) = .next t → t.fixed = s.fixed := by
  intro t h
  unfold execForcedRun at h
  repeat' first | (refine fixed_next h ?_; clear h) | split at h
  all_goals repeat' first | simp only [↓fixed_ite, ↓fixed_pauseStep, ↓fixed_runRequest, ite_self] | split

theorem fixed_noteBad (c : Nat) (w : Nat) (s : State) : (noteBad c w s).fixed = s.fixed := by
  unfold noteBad; simp only [↓fixed_ite, ↓fixed_inc, ↓fixed_set, ↓fixed_wr, ↓fixed_raiseFault, ite_self]

theorem fixed_noteOpd (x : Ctx) (o : Opd) (n : Nat) (s : State) : (noteOpd x o n s).fixed = s.fixed := by
  unfold noteOpd
  repeat' first | simp only [↓fixed_ite, ↓fixed_noteBad, ↓fixed_noteRead, fixed_foldl, ite_self, implies_true] | split

theorem fixed_noteReads (x : Ctx) (l : List (Opd × Nat)) (s : State) : (noteReads x l s).fixed = s.fixed := by
  unfold noteReads
  repeat' first | simp only [↓fixed_noteOpd, fixed_foldl, implies_true] | split

theorem fixed_finish (x : Ctx) (b : Bytes) (pos : List Nat) (st : Nat) (s : State) : (finish x b pos st s).fixed = s.fixed := by
  unfold finish; simp only [↓fixed_engineDone]

theorem fixed_writeOpd (x : Ctx) (o : Opd) (off : Nat) (b : Bytes) (s : State) : (writeOpd x o off b s).2.fixed = s.fixed := by
  unfold writeOpd
  repeat' first | simp only [↓fixed_ite_snd, ↓fixed_memWrite, ↓fixed_stLocal, ite_self] | split

theorem fixed_writeParts (x : Ctx) (o : Opd) (l : List (Nat × Bytes)) (s : State) : (writeParts x o l s).2.fixed = s.fixed := by
  unfold writeParts; simp only [↓fixed_writeOpd, fixed_foldl_snd, implies_true]

theorem fixed_storeRows (x : Ctx) (b : Bytes) (pos : List Nat) (o : Opd) (parts : List (Nat × Bytes)) (nans : Nat) (s : State) : (storeRows x b pos o parts nans s).fixed = s.fixed := by
  unfold storeRows; simp only [↓fixed_writeParts, ↓fixed_finish, ↓fixed_inc]

theorem fixed_runGemm (x : Ctx) (b : Bytes) (s : State) : (runGemm x b s).fixed = s.fixed := by
  unfold runGemm
  repeat' first | simp only [↓fixed_ite, ↓fixed_addBlocks, ↓fixed_endStale, ↓fixed_finish, ↓fixed_noteReads, ↓fixed_storeRows, ite_self] | split

theorem fixed_execGemm (q : Nat) (c : Nat) (s : State) : ∀ t, (execGemm q c s) = .next t → t.fixed = s.fixed := by
  intro t h
  unfold execGemm at h
  repeat' first | (refine fixed_next h ?_; clear h) | split at h
  all_goals repeat' first | simp only [↓fixed_runGemm] | split

theorem fixed_runConv (x : Ctx) (b : Bytes) (s : State) : (runConv x b s).fixed = s.fixed := by
  unfold runConv; simp only [↓fixed_ite, ↓fixed_endStale, ↓fixed_noteReads, ↓fixed_finish, ↓fixed_addBlocks, ↓fixed_storeRows, ite_self]

theorem fixed_execConv (q : Nat) (c : Nat) (s : State) : ∀ t, (execConv q c s) = .next t → t.fixed = s.fixed := by
  intro t h
  unfold execConv at h
  repeat' first | (refine fixed_next h ?_; clear h) | split at h
  all_goals repeat' first | simp only [↓fixed_runConv] | split

theorem fixed_runReq (x : Ctx) (b : Bytes) (s : State) : (runReq x b s).fixed = s.fixed := by
  unfold runReq; simp only [↓fixed_ite, ↓fixed_endStale, ↓fixed_noteReads, ↓fixed_finish, ↓fixed_storeRows, ite_self]

theorem fixed_execReq (q : Nat) (c : Nat) (s : State) : ∀ t, (execReq q c s) = .next t → t.fixed = s.fixed := by
  intro t h
  unfold execReq at h
  repeat' first | (refine fixed_next h ?_; clear h) | split at h
  all_goals repeat' first | simp only [↓fixed_runReq] | split

theorem fixed_runCopy (x : Ctx) (b : Bytes) (s : State) : (runCopy x b s).fixed = s.fixed := by
  unfold runCopy; simp only [↓fixed_ite, ↓fixed_endStale, ↓fixed_noteReads, ↓fixed_finish, ↓fixed_storeRows, ite_self]

theorem fixed_execCopy (q : Nat) (c : Nat) (s : State) : ∀ t, (execCopy q c s) = .next t → t.fixed = s.fixed := by
  intro t h
  unfold execCopy at h
  repeat' first | (refine fixed_next h ?_; clear h) | split at h
  all_goals repeat' first | simp only [↓fixed_runCopy] | split

theorem fixed_runFill (x : Ctx) (b : Bytes) (s : State) : (runFill x b s).fixed = s.fixed := by
  unfold runFill; simp only [↓fixed_ite, ↓fixed_endStale, ↓fixed_storeRows, ite_self]

theorem fixed_execFill (q : Nat) (c : Nat) (s : State) : ∀ t, (execFill q c s) = .next t → t.fixed = s.fixed := by
  intro t h
  unfold execFill at h
  repeat' first | (refine fixed_next h ?_; clear h) | split at h
  all_goals repeat' first | simp only [↓fixed_runFill] | split

theorem fixed_failSentinel (y : Sample) (s : State) : (failSentinel y s).fixed = s.fixed := by
  unfold failSentinel
  repeat' first | simp only [↓fixed_ite, fixed_safety, ite_self] | split

theorem fixed_runSigchk (x : Ctx) (b : Bytes) (s : State) : (runSigchk x b s).fixed = s.fixed := by
  unfold runSigchk
  repeat' first | simp only [↓fixed_ite, ↓fixed_endStale, ↓fixed_noteReads, ↓fixed_finish, ↓fixed_raiseFault, ↓fixed_failSentinel, ↓fixed_inc, ite_self] | split

theorem fixed_execSigchk (q : Nat) (c : Nat) (s : State) : ∀ t, (execSigchk q c s) = .next t → t.fixed = s.fixed := by
  intro t h
  unfold execSigchk at h
  repeat' first | (refine fixed_next h ?_; clear h) | split at h
  all_goals repeat' first | simp only [↓fixed_runSigchk] | split

theorem fixed_scrubWords (c : Nat) (corr : Field) (errs : List (Nat × Bool)) (s : State) : (scrubWords c corr errs s).fixed = s.fixed := by
  unfold scrubWords; simp only [↓fixed_ite, ↓fixed_inc, fixed_loc, fixed_foldl, ite_self, implies_true]

theorem fixed_execPastureScrub (e : Nat) (errs : List (Nat × Bool)) (pass : Bool) (s : State) : ∀ t, (execPastureScrub e errs pass s) = .next t → t.fixed = s.fixed := by
  intro t h
  unfold execPastureScrub at h
  repeat' first | (refine fixed_next h ?_; clear h) | split at h
  all_goals repeat' simp only [↓fixed_ite, ↓fixed_scrubWords, ↓fixed_incWrap, ite_self]

theorem fixed_fuFinish (x : Ctx) (b : Bytes) (pos : List Nat) (st : Nat) (t : Fu) (s : State) : (fuFinish x b pos st t s).fixed = s.fixed := by
  unfold fuFinish; simp only [↓fixed_engineDone]

theorem fixed_runFunction (op : Nat) (x : Ctx) (b : Bytes) (s : State) : (runFunction op x b s).fixed = s.fixed := by
  unfold runFunction; simp only [↓fixed_ite, ↓fixed_endStale, ↓fixed_noteReads, ↓fixed_fuFinish, ↓fixed_writeParts, ↓fixed_inc, ↓fixed_fuCount, ite_self]

theorem fixed_execAct (q : Nat) (c : Nat) (s : State) : ∀ t, (execAct q c s) = .next t → t.fixed = s.fixed := by
  intro t h
  unfold execAct at h
  repeat' first | (refine fixed_next h ?_; clear h) | split at h
  all_goals repeat' first | simp only [↓fixed_runFunction] | split

theorem fixed_execGlu (q : Nat) (c : Nat) (s : State) : ∀ t, (execGlu q c s) = .next t → t.fixed = s.fixed := by
  intro t h
  unfold execGlu at h
  repeat' first | (refine fixed_next h ?_; clear h) | split at h
  all_goals repeat' first | simp only [↓fixed_runFunction] | split

theorem fixed_execRowstat (q : Nat) (c : Nat) (s : State) : ∀ t, (execRowstat q c s) = .next t → t.fixed = s.fixed := by
  intro t h
  unfold execRowstat at h
  repeat' first | (refine fixed_next h ?_; clear h) | split at h
  all_goals repeat' first | simp only [↓fixed_runFunction] | split

theorem fixed_execLnorm (q : Nat) (c : Nat) (s : State) : ∀ t, (execLnorm q c s) = .next t → t.fixed = s.fixed := by
  intro t h
  unfold execLnorm at h
  repeat' first | (refine fixed_next h ?_; clear h) | split at h
  all_goals repeat' first | simp only [↓fixed_runFunction] | split

theorem fixed_execRmsnorm (q : Nat) (c : Nat) (s : State) : ∀ t, (execRmsnorm q c s) = .next t → t.fixed = s.fixed := by
  intro t h
  unfold execRmsnorm at h
  repeat' first | (refine fixed_next h ?_; clear h) | split at h
  all_goals repeat' first | simp only [↓fixed_runFunction] | split

theorem fixed_execSoftmax (q : Nat) (c : Nat) (s : State) : ∀ t, (execSoftmax q c s) = .next t → t.fixed = s.fixed := by
  intro t h
  unfold execSoftmax at h
  repeat' first | (refine fixed_next h ?_; clear h) | split at h
  all_goals repeat' first | simp only [↓fixed_runFunction] | split

theorem fixed_noteSeqFault (x : Ctx) (z : KvSeq) (cause : Nat) (addr : Nat) (s : State) : (noteSeqFault x z cause addr s).fixed = s.fixed := by
  unfold noteSeqFault
  repeat' first | simp only [↓fixed_ite, ↓fixed_inc, ↓fixed_wrs, ↓fixed_post, ↓fixed_st, ↓fixed_mapSteps, ite_self] | split

theorem fixed_zeroRows (v : Attn) (z : KvSeq) (r : State × AttnTally) : (zeroRows v z r).1.fixed = r.1.fixed := rfl

theorem fixed_noteAccess (pid : Nat) (a : KvAccess) (s : State) : (noteAccess pid a s).fixed = s.fixed := by
  unfold noteAccess
  repeat' first | simp only [↓fixed_memWrite, ↓fixed_noteRead] | split

theorem fixed_runSeqs {τ : Type} (x : Ctx) (f : KvSeq → State × τ → Except KvErr (State × τ)) (bad : KvSeq → State × τ → State × τ)
    (hf : ∀ z r r', f z r = .ok r' → r'.1.fixed = r.1.fixed) (hb : ∀ z r, (bad z r).1.fixed = r.1.fixed) (l : List KvSeq) (r : KvRun τ) :
    (runSeqs x f bad l r).s.fixed = r.s.fixed := by
  induction l generalizing r with
  | nil => rfl
  | cons z l ih =>
    unfold runSeqs
    split
    · next k => rw [ih]; exact hf _ _ _ k
    · exact fixed_noteAccess _ _ _
    · split
      · exact fixed_noteAccess _ _ _
      · rw [ih]; exact (fixed_noteSeqFault _ _ _ _ _).trans ((hb _ _).trans (fixed_noteAccess _ _ _))
    · split
      · rfl
      · rw [ih]; exact (fixed_noteSeqFault _ _ _ _ _).trans (hb _ _)

theorem fixed_runAttn (x : Ctx) (b : Bytes) (s : State) : (runAttn x b s).fixed = s.fixed := by
  unfold runAttn
  simp only [↓fixed_ite, ↓fixed_engineDone, ↓fixed_endStale, ↓fixed_noteReads, ↓fixed_writeParts, ↓fixed_attnCount,
    fixed_runSeqs _ _ _ (fixed_attnSeq _ _ _ _) (fixed_zeroRows _), ite_self]

theorem fixed_execAttn (q : Nat) (c : Nat) (s : State) : ∀ t, (execAttn q c s) = .next t → t.fixed = s.fixed := by
  intro t h
  unfold execAttn at h
  repeat' first | (refine fixed_next h ?_; clear h) | split at h
  all_goals repeat' first | simp only [↓fixed_runAttn] | split

theorem fixed_runAppend (x : Ctx) (b : Bytes) (s : State) : (runAppend x b s).fixed = s.fixed := by
  unfold runAppend
  simp only [↓fixed_ite, ↓fixed_engineDone, ↓fixed_noteReads, ↓fixed_inc,
    fixed_runSeqs _ _ (fun _ v => v) (fixed_appendSeq _ _ _ _ _) (fun _ _ => rfl), ite_self]

theorem fixed_execKvappend (q : Nat) (c : Nat) (s : State) : ∀ t, (execKvappend q c s) = .next t → t.fixed = s.fixed := by
  intro t h
  unfold execKvappend at h
  repeat' first | (refine fixed_next h ?_; clear h) | split at h
  all_goals repeat' first | simp only [↓fixed_runAppend] | split

theorem fixed_tokSeq (x : Ctx) (c : Bool) (buf : Bytes) (z : KvSeq) (r r' : State × (List Bytes × Nat))
    (e : tokSeq x c buf z r = .ok r') : r'.1.fixed = r.1.fixed := by
  unfold tokSeq at e
  split at e
  · cases e
  simp only at e
  split at e
  · split at e
    · cases e
    · split at e
      · cases e
      · next k => cases e; exact fixed_kvWrite _ _ _ _ _ _ k
  · split at e
    · cases e
    · split at e
      · cases e
      · cases e; rfl

theorem fixed_runTok (x : Ctx) (b : Bytes) (s : State) : (runTok x b s).fixed = s.fixed := by
  have q : ∀ c buf (g : KvSeq → List Bytes × Nat → List Bytes × Nat) (l : List KvSeq) (t : State) (a : List Bytes × Nat),
      (runSeqs x (tokSeq x c buf) (fun z r => (r.1, g z r.2)) l { s := t, tally := a }).s.fixed = t.fixed :=
    fun c buf g l t a => fixed_runSeqs x (tokSeq x c buf) (fun z r => (r.1, g z r.2)) (fixed_tokSeq x c buf) (fun _ _ => rfl) l ⟨t, a, 0, 0⟩
  unfold runTok
  simp only [↓fixed_ite, ↓fixed_engineDone, ↓fixed_writeOpd]
  have k : (if bit (u8 b 16) 0 = true then
      noteReads x [(opdOf (u64 b 8), if bit (u8 b 16) 0 = true then 4 * (batchSeqs s x).length else 0)] s else s).fixed = s.fixed := by
    split <;> simp only [fixed_noteReads]
  rw [q _ _ (fun z a => (a.1 ++ [zeros (if bit (u8 b 16) 0 = true then 0 else 4 * z.tokens)], a.2 + 1))]
  simp only [↓fixed_ite, ↓fixed_noteReads, ite_self]

theorem fixed_execKvtok (q : Nat) (c : Nat) (s : State) : ∀ t, (execKvtok q c s) = .next t → t.fixed = s.fixed := by
  intro t h
  unfold execKvtok at h
  repeat' first | (refine fixed_next h ?_; clear h) | split at h
  all_goals repeat' first | simp only [↓fixed_runTok] | split

theorem fixed_takeSequence (q : Nat) (c : Bytes) (s : State) : (takeSequence q c s).fixed = s.fixed := by
  unfold takeSequence; simp only [↓fixed_ite, ↓fixed_startHead, ↓fixed_putSeq, ↓fixed_admitFlock, fixed_drv, ite_self]

theorem fixed_execFlockreq (q : Nat) (s : State) : ∀ t, (execFlockreq q s) = .next t → t.fixed = s.fixed := by
  intro t h
  unfold execFlockreq at h
  repeat' first | (refine fixed_next h ?_; clear h) | split at h
  all_goals repeat' first | simp only [↓fixed_takeSequence] | split

theorem fixed_runVector (op : Nat) (x : Ctx) (b : Bytes) (s : State) : (runVector op x b s).fixed = s.fixed := by
  unfold runVector
  repeat' first | simp only [↓fixed_ite, ↓fixed_endStale, ↓fixed_finish, ↓fixed_inc, ↓fixed_noteReads, ↓fixed_writeParts] | split

theorem fixed_vectorCommand (op : Nat) (q : Nat) (c : Nat) (s : State) : (vectorCommand op q c s).fixed = s.fixed := by
  unfold vectorCommand
  repeat' first | simp only [↓fixed_runVector] | split

theorem fixed_execVresize (q : Nat) (c : Nat) (s : State) : ∀ t, (execVresize q c s) = .next t → t.fixed = s.fixed := by
  intro t h
  unfold execVresize at h
  repeat' first | (refine fixed_next h ?_; clear h) | split at h
  all_goals repeat' simp only [↓fixed_vectorCommand]

theorem fixed_execVfilt (q : Nat) (c : Nat) (s : State) : ∀ t, (execVfilt q c s) = .next t → t.fixed = s.fixed := by
  intro t h
  unfold execVfilt at h
  repeat' first | (refine fixed_next h ?_; clear h) | split at h
  all_goals repeat' simp only [↓fixed_vectorCommand]

theorem fixed_execVstereo (q : Nat) (c : Nat) (s : State) : ∀ t, (execVstereo q c s) = .next t → t.fixed = s.fixed := by
  intro t h
  unfold execVstereo at h
  repeat' first | (refine fixed_next h ?_; clear h) | split at h
  all_goals repeat' simp only [↓fixed_vectorCommand]

theorem fixed_execVpcloud (q : Nat) (c : Nat) (s : State) : ∀ t, (execVpcloud q c s) = .next t → t.fixed = s.fixed := by
  intro t h
  unfold execVpcloud at h
  repeat' first | (refine fixed_next h ?_; clear h) | split at h
  all_goals repeat' simp only [↓fixed_vectorCommand]

theorem fixed_execVboxfit (q : Nat) (c : Nat) (s : State) : ∀ t, (execVboxfit q c s) = .next t → t.fixed = s.fixed := by
  intro t h
  unfold execVboxfit at h
  repeat' first | (refine fixed_next h ?_; clear h) | split at h
  all_goals repeat' simp only [↓fixed_vectorCommand]

theorem fixed_execVboxpca (q : Nat) (c : Nat) (s : State) : ∀ t, (execVboxpca q c s) = .next t → t.fixed = s.fixed := by
  intro t h
  unfold execVboxpca at h
  repeat' first | (refine fixed_next h ?_; clear h) | split at h
  all_goals repeat' simp only [↓fixed_vectorCommand]

theorem fixed_execVnms (q : Nat) (c : Nat) (s : State) : ∀ t, (execVnms q c s) = .next t → t.fixed = s.fixed := by
  intro t h
  unfold execVnms at h
  repeat' first | (refine fixed_next h ?_; clear h) | split at h
  all_goals repeat' simp only [↓fixed_vectorCommand]

theorem fixed_execVsort (q : Nat) (c : Nat) (s : State) : ∀ t, (execVsort q c s) = .next t → t.fixed = s.fixed := by
  intro t h
  unfold execVsort at h
  repeat' first | (refine fixed_next h ?_; clear h) | split at h
  all_goals repeat' simp only [↓fixed_vectorCommand]

theorem fixed_execVtopk (q : Nat) (c : Nat) (s : State) : ∀ t, (execVtopk q c s) = .next t → t.fixed = s.fixed := by
  intro t h
  unfold execVtopk at h
  repeat' first | (refine fixed_next h ?_; clear h) | split at h
  all_goals repeat' simp only [↓fixed_vectorCommand]

theorem fixed_execVargmax (q : Nat) (c : Nat) (s : State) : ∀ t, (execVargmax q c s) = .next t → t.fixed = s.fixed := by
  intro t h
  unfold execVargmax at h
  repeat' first | (refine fixed_next h ?_; clear h) | split at h
  all_goals repeat' simp only [↓fixed_vectorCommand]

theorem fixed_execVik (q : Nat) (c : Nat) (s : State) : ∀ t, (execVik q c s) = .next t → t.fixed = s.fixed := by
  intro t h
  unfold execVik at h
  repeat' first | (refine fixed_next h ?_; clear h) | split at h
  all_goals repeat' simp only [↓fixed_vectorCommand]

theorem fixed_execVjerk (q : Nat) (c : Nat) (s : State) : ∀ t, (execVjerk q c s) = .next t → t.fixed = s.fixed := by
  intro t h
  unfold execVjerk at h
  repeat' first | (refine fixed_next h ?_; clear h) | split at h
  all_goals repeat' simp only [↓fixed_vectorCommand]

theorem fixed_execVmatmul (q : Nat) (c : Nat) (s : State) : ∀ t, (execVmatmul q c s) = .next t → t.fixed = s.fixed := by
  intro t h
  unfold execVmatmul at h
  repeat' first | (refine fixed_next h ?_; clear h) | split at h
  all_goals repeat' simp only [↓fixed_vectorCommand]

theorem fixed_execVact (q : Nat) (c : Nat) (s : State) : ∀ t, (execVact q c s) = .next t → t.fixed = s.fixed := by
  intro t h
  unfold execVact at h
  repeat' first | (refine fixed_next h ?_; clear h) | split at h
  all_goals repeat' simp only [↓fixed_vectorCommand]

theorem fixed_execClusterScrub (v : Nat) (errs : List (Nat × Bool)) (pass : Bool) (s : State) : ∀ t, (execClusterScrub v errs pass s) = .next t → t.fixed = s.fixed := by
  intro t h
  unfold execClusterScrub at h
  repeat' first | (refine fixed_next h ?_; clear h) | split at h
  all_goals repeat' simp only [↓fixed_ite, ↓fixed_scrubWords, ↓fixed_incWrap, ite_self]

theorem fixed_execIndexCheck (x : Nat) (s : State) : ∀ t, (execIndexCheck x s) = .next t → t.fixed = s.fixed := by
  intro t h
  unfold execIndexCheck at h
  repeat' first | (refine fixed_next h ?_; clear h) | split at h
  all_goals repeat' first | simp only [↓fixed_ite, ↓fixed_checkSlot, ↓fixed_endLoading, ↓fixed_copyTables, ite_self] | split

theorem fixed_stepQuery (x : Ctx) (g : Search) (slot : Nat) (y : Progress) (e : Nat × Nat × List Nat) :
    (stepQuery x g slot y e).s.fixed = y.s.fixed := by
  unfold stepQuery
  repeat' first | simp only [↓fixed_ite, ↓fixed_memWrite, ↓fixed_noteRead, ↓fixed_inc, ↓fixed_nondet, ite_self] | split

/-- The queries of a command, one after the other. -/
theorem fixed_queries {α : Type} (g : Progress → α → Progress) (h : ∀ y e, (g y e).s.fixed = y.s.fixed) (l : List α) (y : Progress) :
    (l.foldl g y).s.fixed = y.s.fixed := by
  induction l generalizing y with
  | nil => rfl
  | cons e l ih => rw [List.foldl_cons, ih, h]

theorem fixed_runSearch (x : Ctx) (b : Bytes) (lists : Nat → Nat) (s : State) : (runSearch x b lists s).fixed = s.fixed := by
  unfold runSearch
  have q := fun g slot => fixed_queries (stepQuery x g slot) (fixed_stepQuery x g slot)
  have q0 := fun g slot => fixed_queries (fun y (i : Nat) => stepQuery x g slot y (i, 0, [])) (fun y i => fixed_stepQuery x g slot y _)
  simp only [↓fixed_ite, ↓fixed_engineDone, ↓fixed_setGl, q, q0]
  repeat' first | split | simp only | rw [fixed_foldl _ _ (fun t w => fixed_noteBad 12 w t)]

theorem fixed_execGsearch (q : Nat) (s : State) : ∀ t, (execGsearch q s) = .next t → t.fixed = s.fixed := by
  intro t h
  unfold execGsearch at h
  repeat' first | (refine fixed_next h ?_; clear h) | split at h
  all_goals repeat' first | simp only [↓fixed_ite, ↓fixed_runSearch, ite_self] | split

theorem fixed_execGsearchDeadline (q : Nat) (scanned : List Nat) (s : State) : ∀ t, (execGsearchDeadline q scanned s) = .next t → t.fixed = s.fixed := by
  intro t h
  unfold execGsearchDeadline at h
  repeat' first | (refine fixed_next h ?_; clear h) | split at h
  all_goals repeat' first | simp only [↓fixed_ite, ↓fixed_runSearch, ite_self] | split

theorem fixed_execDcompare (q : Nat) (s : State) : ∀ t, (execDcompare q s) = .next t → t.fixed = s.fixed := by
  intro t h
  unfold execDcompare at h
  repeat' first | (refine fixed_next h ?_; clear h) | split at h
  all_goals repeat' simp only [↓fixed_dcompare]

theorem fixed_execDsafe (q : Nat) (s t : State) (h : execDsafe q s = .next t) : t.fixed = s.fixed := by
  unfold execDsafe at h
  split at h
  · exact fixed_next h (fixed_dsafe _ _ _)
  · exact fixed_next h rfl

theorem fixed_raiseFaults (l : List (Nat × Nat)) (s : State) : (raiseFaults l s).fixed = s.fixed := by
  unfold raiseFaults
  repeat' first | simp only [↓fixed_ite, ↓fixed_emergencyReaction, ↓fixed_react, ↓fixed_recordFault, fixed_foldl, ite_self, implies_true] | split

theorem fixed_execFaultReport (l : List (Nat × Nat)) (s : State) : ∀ t, (execFaultReport l s) = .next t → t.fixed = s.fixed := by
  intro t h
  unfold execFaultReport at h
  repeat' first | (refine fixed_next h ?_; clear h) | split at h
  all_goals repeat' simp only [↓fixed_raiseFaults]

theorem fixed_execSafeToggle (s : State) : ∀ t, (execSafeToggle s) = .next t → t.fixed = s.fixed := by
  intro t h
  unfold execSafeToggle at h
  repeat' first | (refine fixed_next h ?_; clear h) | split at h
  all_goals repeat' simp only [↓fixed_noteEdge, ↓fixed_ite, ↓fixed_wrs, ite_self]

theorem fixed_execSafeOutputReadback (a b m : Bool) (s t : State) (h : execSafeOutputReadback a b m s = .next t) : t.fixed = s.fixed := by
  unfold execSafeOutputReadback at h
  simp only at h
  split at h
  · cases h; rfl
  split at h
  · cases h; exact fixed_safety _ _
  · cases h
    split
    · rw [fixed_raiseFault, fixed_safety]
    · exact fixed_safety _ _

theorem fixed_execStartLate (q : Nat) (s : State) : ∀ t, (execStartLate q s) = .next t → t.fixed = s.fixed := by
  intro t h
  unfold execStartLate at h
  repeat' first | (refine fixed_next h ?_; clear h) | split at h
  all_goals repeat' first | simp only [↓fixed_ite, ↓fixed_judge, ite_self] | split

theorem fixed_execEndLate (q : Nat) (s : State) : ∀ t, (execEndLate q s) = .next t → t.fixed = s.fixed := by
  intro t h
  unfold execEndLate at h
  repeat' first | (refine fixed_next h ?_; clear h) | split at h
  all_goals repeat' first | simp only [↓fixed_ite, ↓fixed_judge, ite_self] | split

theorem fixed_execBudget (q : Nat) (s : State) : ∀ t, (execBudget q s) = .next t → t.fixed = s.fixed := by
  intro t h
  unfold execBudget at h
  repeat' first | (refine fixed_next h ?_; clear h) | split at h
  all_goals repeat' first | simp only [↓fixed_ite, ↓fixed_judge, ite_self] | split

theorem fixed_execHbLate (q : Nat) (s : State) : ∀ t, (execHbLate q s) = .next t → t.fixed = s.fixed := by
  intro t h
  unfold execHbLate at h
  repeat' first | (refine fixed_next h ?_; clear h) | split at h
  all_goals repeat' first | simp only [↓fixed_ite, ↓fixed_raiseViolation, fixed_shp, ite_self] | split

theorem fixed_requestMaint (q : Nat) (opc : Nat) (s : State) : (requestMaint q opc s).fixed = s.fixed := by
  unfold requestMaint
  repeat' first | simp only [↓fixed_ite, ↓fixed_pump, ↓fixed_runHead, ↓fixed_set, ↓fixed_showPending, ↓fixed_startHead, ite_self] | split

theorem fixed_execLbist (q : Nat) (s : State) : ∀ t, (execLbist q s) = .next t → t.fixed = s.fixed := by
  intro t h
  unfold execLbist at h
  repeat' first | (refine fixed_next h ?_; clear h) | split at h
  all_goals repeat' simp only [↓fixed_requestMaint]

theorem fixed_execMbist (q : Nat) (s : State) : ∀ t, (execMbist q s) = .next t → t.fixed = s.fixed := by
  intro t h
  unfold execMbist at h
  repeat' first | (refine fixed_next h ?_; clear h) | split at h
  all_goals repeat' simp only [↓fixed_requestMaint]

theorem fixed_execRetrain (q : Nat) (s : State) : ∀ t, (execRetrain q s) = .next t → t.fixed = s.fixed := by
  intro t h
  unfold execRetrain at h
  repeat' first | (refine fixed_next h ?_; clear h) | split at h
  all_goals repeat' simp only [↓fixed_requestMaint]

theorem fixed_retrained (m : Nat) (pass : Bool) (s : State) : (retrained m pass s).fixed = s.fixed := by
  unfold retrained; simp only [↓fixed_ite, ↓fixed_wr, ↓fixed_clr, ↓fixed_inc, ite_self]

theorem fixed_maintResult (opc : Nat) (target : Nat) (granule : Nat) (forced : Bool) (fail : Bool) (s : State) : (maintResult opc target granule forced fail s).fixed = s.fixed := by
  unfold maintResult; simp only [↓fixed_inc, ↓fixed_wrs]

theorem fixed_failWords (c : Nat) (g : Nat) (s : State) : (failWords c g s).fixed = s.fixed := by
  unfold failWords; simp only [↓fixed_ite, ↓fixed_stLocal, fixed_foldl, fixed_freeCount, ite_self, implies_true]

theorem fixed_finishRequest (m : MaintRun) (c : Bytes) (pass : Bool) (granule : Nat) (s : State) : (finishRequest m c pass granule s).fixed = s.fixed := by
  unfold finishRequest; simp only [↓fixed_ite, ↓fixed_failWords, ↓fixed_maintResult, ↓fixed_settleAt, ↓fixed_retrained, ↓fixed_stopIsland, ↓fixed_raiseViolation, ↓fixed_reapplyRecords, ite_self]

theorem fixed_execMaintRequestDone (req : Nat) (pass : Bool) (granule : Nat) (s : State) : ∀ t, (execMaintRequestDone req pass granule s) = .next t → t.fixed = s.fixed := by
  intro t h
  unfold execMaintRequestDone at h
  repeat' first | (refine fixed_next h ?_; clear h) | split at h
  all_goals repeat' first | simp only [↓fixed_reapplyRecords, ↓fixed_ite, ↓fixed_clr, ↓fixed_retrained, ↓fixed_finishRequest, ↓fixed_showColumn, ↓fixed_runNext, fixed_drv, ite_self] | split

theorem fixed_execBarrierPoint (s : State) : ∀ t, (execBarrierPoint s) = .next t → t.fixed = s.fixed := by
  intro t h
  unfold execBarrierPoint at h
  repeat' first | (refine fixed_next h ?_; clear h) | split at h
  all_goals repeat' simp only [↓fixed_ite, ↓fixed_wrs, fixed_msync, ite_self]

theorem fixed_passBarrier (rel : Nat) (s : State) : (passBarrier rel s).fixed = s.fixed := by
  unfold passBarrier; simp only [↓fixed_inc, ↓fixed_wrPair, ↓fixed_wrs, ↓fixed_startRotation, fixed_msync]

theorem fixed_execBellwetherRelease (s : State) : ∀ t, (execBellwetherRelease s) = .next t → t.fixed = s.fixed := by
  intro t h
  unfold execBellwetherRelease at h
  repeat' first | (refine fixed_next h ?_; clear h) | split at h
  all_goals repeat' simp only [↓fixed_ite, ↓fixed_passBarrier, ite_self]

theorem fixed_execFollowerRelease (ago : Nat) (s : State) : ∀ t, (execFollowerRelease ago s) = .next t → t.fixed = s.fixed := by
  intro t h
  unfold execFollowerRelease at h
  repeat' first | (refine fixed_next h ?_; clear h) | split at h
  all_goals repeat' first | simp only [↓fixed_ite, ↓fixed_inc, ↓fixed_passBarrier, ite_self] | split

theorem fixed_execBarrierTimeout (s : State) : ∀ t, (execBarrierTimeout s) = .next t → t.fixed = s.fixed := by
  intro t h
  unfold execBarrierTimeout at h
  repeat' first | (refine fixed_next h ?_; clear h) | split at h
  all_goals repeat' first | simp only [↓fixed_ite, ↓fixed_post, ↓fixed_startRotation, ↓fixed_wrs, fixed_msync, ite_self] | split

theorem fixed_execMarkerSend (s : State) : ∀ t, (execMarkerSend s) = .next t → t.fixed = s.fixed := by
  intro t h
  unfold execMarkerSend at h
  repeat' first | (refine fixed_next h ?_; clear h) | split at h
  all_goals repeat' simp only [↓fixed_ite, ↓fixed_inc, fixed_msync, ite_self]

theorem fixed_execMarkerReceive (ago : Nat) (s : State) : ∀ t, (execMarkerReceive ago s) = .next t → t.fixed = s.fixed := by
  intro t h
  unfold execMarkerReceive at h
  repeat' first | (refine fixed_next h ?_; clear h) | split at h
  all_goals repeat' simp only [↓fixed_ite, ↓fixed_inc, ↓fixed_wr, ↓fixed_startRotation, ↓fixed_wrs, ↓fixed_set, ↓fixed_post, fixed_msync, ite_self]

theorem fixed_execMarkerMiss (s : State) : ∀ t, (execMarkerMiss s) = .next t → t.fixed = s.fixed := by
  intro t h
  unfold execMarkerMiss at h
  repeat' first | (refine fixed_next h ?_; clear h) | split at h
  all_goals repeat' simp only [↓fixed_ite, ↓fixed_set, ↓fixed_post, fixed_msync, ite_self]

theorem fixed_execCanReceive (n : Nat) (f : CanFrame) (s : State) : ∀ t, (execCanReceive n f s) = .next t → t.fixed = s.fixed := by
  intro t h
  unfold execCanReceive at h
  repeat' first | (refine fixed_next h ?_; clear h) | split at h
  all_goals repeat' simp only [↓fixed_canReceive]

theorem fixed_execCantx (q : Nat) (s : State) : ∀ t, (execCantx q s) = .next t → t.fixed = s.fixed := by
  intro t h
  unfold execCantx at h
  repeat' first | (refine fixed_next h ?_; clear h) | split at h
  all_goals repeat' simp only [↓fixed_ite, ↓fixed_canTx, ite_self]

theorem fixed_execCanrd (q : Nat) (s : State) : ∀ t, (execCanrd q s) = .next t → t.fixed = s.fixed := by
  intro t h
  unfold execCanrd at h
  repeat' first | (refine fixed_next h ?_; clear h) | split at h
  all_goals repeat' simp only [↓fixed_canRead]

theorem fixed_execCanTxAttempt (n : Nat) (s : State) : ∀ t, (execCanTxAttempt n s) = .next t → t.fixed = s.fixed := by
  intro t h
  unfold execCanTxAttempt at h
  repeat' first | (refine fixed_next h ?_; clear h) | split at h
  all_goals repeat' simp only [↓fixed_canAttempt]

theorem fixed_execCanTxDone (n : Nat) (s : State) : ∀ t, (execCanTxDone n s) = .next t → t.fixed = s.fixed := by
  intro t h
  unfold execCanTxDone at h
  repeat' first | (refine fixed_next h ?_; clear h) | split at h
  all_goals repeat' simp only [↓fixed_canTxDone]

theorem fixed_execCanTxError (n : Nat) (arb : Bool) (kind : Nat) (s : State) : ∀ t, (execCanTxError n arb kind s) = .next t → t.fixed = s.fixed := by
  intro t h
  unfold execCanTxError at h
  repeat' first | (refine fixed_next h ?_; clear h) | split at h
  all_goals repeat' simp only [↓fixed_canTxError]

theorem fixed_execCanTxWindowClose (o : Nat) (s : State) : ∀ t, (execCanTxWindowClose o s) = .next t → t.fixed = s.fixed := by
  intro t h
  unfold execCanTxWindowClose at h
  repeat' first | (refine fixed_next h ?_; clear h) | split at h
  all_goals repeat' simp only [↓fixed_canWindowClose]

theorem fixed_execCanRecoveryDone (n : Nat) (s : State) : ∀ t, (execCanRecoveryDone n s) = .next t → t.fixed = s.fixed := by
  intro t h
  unfold execCanRecoveryDone at h
  repeat' first | (refine fixed_next h ?_; clear h) | split at h
  all_goals repeat' simp only [↓fixed_ite, ↓fixed_canIntegrate, ↓fixed_inc, ↓fixed_setErrors, ite_self]

theorem fixed_execCanIntegrated (n : Nat) (s : State) : ∀ t, (execCanIntegrated n s) = .next t → t.fixed = s.fixed := by
  intro t h
  unfold execCanIntegrated at h
  repeat' first | (refine fixed_next h ?_; clear h) | split at h
  all_goals repeat' simp only [↓fixed_canIntegrated]

theorem fixed_execCanSleep (n : Nat) (s : State) : ∀ t, (execCanSleep n s) = .next t → t.fixed = s.fixed := by
  intro t h
  unfold execCanSleep at h
  repeat' first | (refine fixed_next h ?_; clear h) | split at h
  all_goals repeat' simp only [↓fixed_ite, ↓fixed_wr, ite_self]

theorem fixed_execCanAutowake (n : Nat) (s : State) : ∀ t, (execCanAutowake n s) = .next t → t.fixed = s.fixed := by
  intro t h
  unfold execCanAutowake at h
  repeat' first | (refine fixed_next h ?_; clear h) | split at h
  all_goals repeat' simp only [↓fixed_ite, ↓fixed_canIntegrate, ↓fixed_clr, ite_self]

theorem fixed_execCanWakeDominant (n : Nat) (s : State) : ∀ t, (execCanWakeDominant n s) = .next t → t.fixed = s.fixed := by
  intro t h
  unfold execCanWakeDominant at h
  repeat' first | (refine fixed_next h ?_; clear h) | split at h
  all_goals repeat' simp only [↓fixed_ite, ↓fixed_wakeSources, ↓fixed_set, ite_self]

theorem fixed_execCanWakeFrame (n : Nat) (f : Option CanFrame) (s : State) : ∀ t, (execCanWakeFrame n f s) = .next t → t.fixed = s.fixed := by
  intro t h
  unfold execCanWakeFrame at h
  repeat' first | (refine fixed_next h ?_; clear h) | split at h
  all_goals repeat' first | simp only [↓fixed_ite, ↓fixed_wr, ↓fixed_wakeSources, ↓fixed_set, ite_self] | split

theorem fixed_execJspFrameStart (n : Nat) (s : State) : ∀ t, (execJspFrameStart n s) = .next t → t.fixed = s.fixed := by
  intro t h
  unfold execJspFrameStart at h
  repeat' first | (refine fixed_next h ?_; clear h) | split at h
  all_goals repeat' simp only [↓fixed_ite, ↓fixed_jspStart, ite_self]

theorem fixed_jspCount (n : Nat) (outcome : Nat) (s : State) : (jspCount n outcome s).fixed = s.fixed := by
  unfold jspCount; simp only [↓fixed_ite, ↓fixed_wr, ↓fixed_inc, ite_self]

theorem fixed_jspFrameEnd (n : Nat) (ready : Bool) (raw : Nat) (s : State) : (jspFrameEnd n ready raw s).fixed = s.fixed := by
  unfold jspFrameEnd
  repeat' first | simp only [↓fixed_ite, ↓fixed_ite_snd, ↓fixed_free, ↓fixed_jspCount, ↓fixed_memWrite, ↓fixed_setJsp, ↓fixed_wr, ↓fixed_wrPair, ↓fixed_wrs, ite_self] | split

theorem fixed_execJspFrameEnd (n : Nat) (ready : Bool) (raw : Nat) (s : State) : ∀ t, (execJspFrameEnd n ready raw s) = .next t → t.fixed = s.fixed := by
  intro t h
  unfold execJspFrameEnd at h
  repeat' first | (refine fixed_next h ?_; clear h) | split at h
  all_goals repeat' simp only [↓fixed_jspFrameEnd]

theorem fixed_execJspStale (n : Nat) (s : State) : ∀ t, (execJspStale n s) = .next t → t.fixed = s.fixed := by
  intro t h
  unfold execJspStale at h
  repeat' first | (refine fixed_next h ?_; clear h) | split at h
  all_goals repeat' simp only [↓fixed_ite, ↓fixed_set, ↓fixed_clr, ite_self]

theorem fixed_fireCompares (k : Nat) (s : State) : (fireCompares k s).fixed = s.fixed := by
  unfold fireCompares; simp only [↓fixed_toutEdge, ↓fixed_setTout, fixed_foldl, implies_true]

theorem fixed_motionWake (s : State) : (motionWake s).fixed = s.fixed := by
  unfold motionWake; simp only [↓fixed_ite, ↓fixed_latchWake, ite_self]

theorem fixed_setCount (k : Nat) (v : Nat) (s : State) : (setCount k v s).fixed = s.fixed := by
  unfold setCount; simp only [↓fixed_ite, ↓fixed_fireCompares, ↓fixed_wr, ↓fixed_motionWake, fixed_joint, ite_self]

theorem fixed_execQeiCountChange (k : Nat) (up : Bool) (illegal : Bool) (s : State) : ∀ t, (execQeiCountChange k up illegal s) = .next t → t.fixed = s.fixed := by
  intro t h
  unfold execQeiCountChange at h
  repeat' first | (refine fixed_next h ?_; clear h) | split at h
  all_goals repeat' first | simp only [↓fixed_ite, ↓fixed_inc, ↓fixed_setCount, ite_self] | split

theorem fixed_execQeiIndex (k : Nat) (s : State) : ∀ t, (execQeiIndex k s) = .next t → t.fixed = s.fixed := by
  intro t h
  unfold execQeiIndex at h
  repeat' first | (refine fixed_next h ?_; clear h) | split at h
  all_goals repeat' first | simp only [↓fixed_ite, ↓fixed_setCount, fixed_joint, ite_self] | split

theorem fixed_execEthReceive (n : Nat) (b : Bytes) (fcsOk : Bool) (ago : Nat) (s : State) : ∀ t, (execEthReceive n b fcsOk ago s) = .next t → t.fixed = s.fixed := by
  intro t h
  unfold execEthReceive at h
  repeat' first | (refine fixed_next h ?_; clear h) | split at h
  all_goals repeat' simp only [↓fixed_ethReceive]

theorem fixed_execEthtx (q : Nat) (s : State) : ∀ t, (execEthtx q s) = .next t → t.fixed = s.fixed := by
  intro t h
  unfold execEthtx at h
  repeat' first | (refine fixed_next h ?_; clear h) | split at h
  all_goals repeat' simp only [↓fixed_ite, ↓fixed_ethTx, ite_self]

theorem fixed_execEthTxDone (n : Nat) (ago : Nat) (s : State) : ∀ t, (execEthTxDone n ago s) = .next t → t.fixed = s.fixed := by
  intro t h
  unfold execEthTxDone at h
  repeat' first | (refine fixed_next h ?_; clear h) | split at h
  all_goals repeat' simp only [↓fixed_ethTxDone]

theorem fixed_execEthTxAbandon (h : Nat) (s : State) : ∀ t, (execEthTxAbandon h s) = .next t → t.fixed = s.fixed := by
  intro t h
  unfold execEthTxAbandon at h
  repeat' first | (refine fixed_next h ?_; clear h) | split at h
  all_goals repeat' first | simp only [↓fixed_ite, ↓fixed_abandonFrame, ite_self] | split

theorem fixed_execLinkTrainStart (n : Nat) (s : State) : ∀ t, (execLinkTrainStart n s) = .next t → t.fixed = s.fixed := by
  intro t h
  unfold execLinkTrainStart at h
  repeat' first | (refine fixed_next h ?_; clear h) | split at h
  all_goals repeat' first | simp only [↓fixed_ite, ↓fixed_wr, fixed_eth, ite_self] | split

theorem fixed_execLinkUp (n : Nat) (s : State) : ∀ t, (execLinkUp n s) = .next t → t.fixed = s.fixed := by
  intro t h
  unfold execLinkUp at h
  repeat' first | (refine fixed_next h ?_; clear h) | split at h
  all_goals repeat' first | simp only [↓fixed_ite, ↓fixed_wr, ↓fixed_wrs, fixed_eth, ite_self] | split

theorem fixed_execLinkTrainTimeout (n : Nat) (s : State) : ∀ t, (execLinkTrainTimeout n s) = .next t → t.fixed = s.fixed := by
  intro t h
  unfold execLinkTrainTimeout at h
  repeat' first | (refine fixed_next h ?_; clear h) | split at h
  all_goals repeat' first | simp only [↓fixed_ite, ↓fixed_dropLink, ite_self] | split

theorem fixed_linkDown (n : Nat) (fault : Nat) (s : State) : (linkDown n fault s).fixed = s.fixed := by
  unfold linkDown; simp only [↓fixed_ite, ↓fixed_wrs, ↓fixed_dropLink, ↓fixed_inc, ↓fixed_post, ↓fixed_wr, fixed_eth, ite_self]

theorem fixed_execLinkDown (n : Nat) (fault : Nat) (s : State) : ∀ t, (execLinkDown n fault s) = .next t → t.fixed = s.fixed := by
  intro t h
  unfold execLinkDown at h
  repeat' first | (refine fixed_next h ?_; clear h) | split at h
  all_goals repeat' simp only [↓fixed_linkDown]

theorem fixed_sendPending (s : State) : (sendPending s).fixed = s.fixed := by
  unfold sendPending; simp only [↓fixed_ite, ↓fixed_sendMsix, fixed_hl, fixed_foldl, ite_self, implies_true]

theorem fixed_setEntry (v : Nat) (e : MsixEntry) (s : State) : (setEntry v e s).fixed = s.fixed := by
  unfold setEntry
  repeat' first | simp only [fixed_hl] | split

theorem fixed_msixWindow (o : Nat) (v : Nat) (write : Bool) (s : State) : (msixWindow o v write s).fixed = s.fixed := by
  unfold msixWindow
  repeat' first | simp only [↓fixed_ite, ↓fixed_answer, ↓fixed_hostError, ↓fixed_sendPending, ↓fixed_setEntry, ite_self] | split

theorem fixed_execHostDoorbell (q : Nat) (off : Nat) (v : Nat) (write : Bool) (s : State) : ∀ t, (execHostDoorbell q off v write s) = .next t → t.fixed = s.fixed := by
  intro t h
  unfold execHostDoorbell at h
  repeat' first | (refine fixed_next h ?_; clear h) | split at h
  all_goals repeat' first | simp only [↓fixed_ite, ↓fixed_advanceHead, ↓fixed_advanceTail, ↓fixed_answer, ↓fixed_hostError, ↓fixed_msixWindow, ite_self] | split

theorem fixed_execHostAperture (off : Nat) (n : Nat) (write : Bool) (b : Bytes) (s : State) : ∀ t, (execHostAperture off n write b s) = .next t → t.fixed = s.fixed := by
  intro t h
  unfold execHostAperture at h
  refine fixed_next h ?_
  have hr : ((apertureParts s off n).foldl apertureRead ((0, []), s)).2.fixed = s.fixed := fixed_foldl_snd _ _ fixed_apertureRead _
  have hw : ((apertureParts s off n).foldl apertureWrite ((0, b), s)).2.fixed = s.fixed := fixed_foldl_snd _ _ fixed_apertureWrite _
  simp only [↓fixed_ite, ↓fixed_answer, ↓fixed_hostError, hr, hw, ite_self]

theorem fixed_execMsixUnmask (v : Nat) (addr : Nat) (data : Nat) (mask : Bool) (enable : Bool) (func : Bool) (s : State) : ∀ t, (execMsixUnmask v addr data mask enable func s) = .next t → t.fixed = s.fixed := by
  intro t h
  unfold execMsixUnmask at h
  repeat' first | (refine fixed_next h ?_; clear h) | split at h
  all_goals repeat' first | simp only [↓fixed_ite, ↓fixed_sendPending, fixed_hl, ite_self] | split

theorem fixed_execPmeTurnOff (s : State) : ∀ t, (execPmeTurnOff s) = .next t → t.fixed = s.fixed := by
  intro t h
  unfold execPmeTurnOff at h
  repeat' first | (refine fixed_next h ?_; clear h) | split at h
  all_goals repeat' first | simp only [↓fixed_ite, ↓fixed_wr, fixed_hl, ite_self] | split

theorem fixed_finishUpdate (c : Nat) (s : State) : (finishUpdate c s).fixed = s.fixed := by
  unfold finishUpdate; simp only [↓fixed_wrs, ↓fixed_progFlash]

theorem fixed_execUpdateStepDone (ok : Bool) (s : State) : ∀ t, (execUpdateStepDone ok s) = .next t → t.fixed = s.fixed := by
  intro t h
  unfold execUpdateStepDone at h
  repeat' first | (refine fixed_next h ?_; clear h) | split at h
  all_goals repeat' first | simp only [↓fixed_ite, ↓fixed_eraseSlot, ↓fixed_failUpdate, ↓fixed_finishUpdate, ↓fixed_progFlash, ↓fixed_wr, ite_self] | split

theorem fixed_setValid (f : Field) (b : Nat) (ok : Bool) (s : State) : (setValid f b ok s).fixed = s.fixed := by
  unfold setValid; simp only [↓fixed_wr]

theorem fixed_takeReading (s : State) (e : Nat × Nat × Nat × Bool) : (takeReading s e).fixed = s.fixed := by
  unfold takeReading
  repeat' first | simp only [↓fixed_ite, ↓fixed_setValid, ↓fixed_wr, fixed_stw, ite_self] | split

theorem fixed_execSensorUpdate (l : List (Nat × Nat × Nat × Bool)) (s : State) : ∀ t, (execSensorUpdate l s) = .next t → t.fixed = s.fixed := by
  intro t h
  unfold execSensorUpdate at h
  repeat' first | (refine fixed_next h ?_; clear h) | split at h
  all_goals repeat' simp only [↓fixed_ite, ↓fixed_takeReading, ↓fixed_wr, fixed_foldl, ite_self, implies_true]

theorem fixed_marginStep (acc : List Nat × State) (r : Nat) : (marginStep acc r).2.fixed = acc.2.fixed := by
  unfold marginStep
  repeat' simp only [↓fixed_ite_snd, ↓fixed_post, ↓fixed_lowerColumns, ↓fixed_stw, ite_self]

theorem fixed_raiseColumns (l : List (Nat × Nat)) (s : State) : (raiseColumns l s).fixed = s.fixed := by
  unfold raiseColumns
  repeat' first | simp only [↓fixed_ite, ↓fixed_wr, fixed_foldl, ite_self, implies_true] | split

theorem fixed_retreatMargins (s : State) : (retreatMargins s).fixed = s.fixed := by
  unfold retreatMargins
  repeat' first | simp only [↓fixed_ite, ↓fixed_raiseColumns, fixed_stw, ite_self] | split | refine (fixed_foldl _ _ (fun s x => ?_) _).trans ?_

theorem fixed_retreat (s : State) : (retreat s).fixed = s.fixed := by
  unfold retreat
  repeat' first | simp only [↓fixed_ite, ↓fixed_retreatMargins, ↓fixed_applyDuty, ↓fixed_raiseColumns, fixed_stw, ite_self] | split

theorem fixed_showPolicy (s : State) : (showPolicy s).fixed = s.fixed := by
  unfold showPolicy; simp only [↓fixed_ite, ↓fixed_wrs, ↓fixed_post, ite_self]

theorem fixed_setEmergency (on : Bool) (s : State) : (setEmergency on s).fixed = s.fixed := by
  unfold setEmergency; simp only [↓fixed_ite, ↓fixed_raiseFault, ↓fixed_inc, fixed_stw, ite_self]

theorem fixed_decideNow (s : State) : (decideNow s).fixed = s.fixed := by
  unfold decideNow; simp only [fixed_stw]

theorem fixed_execStewardDecide (s : State) : ∀ t, (execStewardDecide s) = .next t → t.fixed = s.fixed := by
  intro t h
  unfold execStewardDecide at h
  repeat' first | (refine fixed_next h ?_; clear h) | split at h
  all_goals repeat' simp only [↓fixed_decideNow, ↓fixed_ite, ↓fixed_marginStep, ↓fixed_advance, ↓fixed_retreat, ↓fixed_showPolicy, ↓fixed_setEmergency, fixed_stw, fixed_foldl_snd, ite_self, implies_true]

theorem fixed_execThermalTrip (n : Nat) (s : State) : ∀ t, (execThermalTrip n s) = .next t → t.fixed = s.fixed := by
  intro t h
  unfold execThermalTrip at h
  repeat' first | (refine fixed_next h ?_; clear h) | split at h
  all_goals repeat' simp only [↓fixed_ite, ↓fixed_wr, ↓fixed_set, ↓fixed_post, ↓fixed_disarm, fixed_power, ite_self]

theorem fixed_execThermtripRestart (s : State) : ∀ t, (execThermtripRestart s) = .next t → t.fixed = s.fixed := by
  intro t h
  unfold execThermtripRestart at h
  repeat' first | (refine fixed_next h ?_; clear h) | split at h
  all_goals repeat' simp only [↓fixed_ite, ↓fixed_startPower, fixed_power, ite_self]

theorem fixed_mbxAnswer (k : Nat) (st : Nat) (rsp : Bytes) (s : State) : (mbxAnswer k st rsp s).fixed = s.fixed := by
  unfold mbxAnswer; simp only [↓fixed_wr, ↓fixed_clr, fixed_stw, fixed_foldl, implies_true]

theorem fixed_mbxServe (k : Nat) (opc : Nat) (f : Bytes → State → Nat × Bytes × State) (s : State) (h2 : ∀ b t, (f b t).2.2.fixed = t.fixed) : (mbxServe k opc f s).fixed = s.fixed := by
  unfold mbxServe; simp only [↓fixed_ite, ↓fixed_mbxAnswer, ite_self, h2]

theorem fixed_execTelem (k : Nat) (s : State) : ∀ t, (execTelem k s) = .next t → t.fixed = s.fixed := by
  intro t h
  unfold execTelem at h
  repeat' first | (refine fixed_next h ?_; clear h) | split at h
  all_goals repeat' simp only [↓fixed_mbxServe, implies_true]

theorem fixed_execLogread (k : Nat) (s t : State) (h : execLogread k s = .next t) : t.fixed = s.fixed := by
  unfold execLogread at h
  injection h with h
  rw [← h]
  refine fixed_mbxServe _ _ _ _ (fun b t => ?_)
  split <;> rfl

theorem fixed_execLoginfo (k : Nat) (s : State) : ∀ t, (execLoginfo k s) = .next t → t.fixed = s.fixed := by
  intro t h
  unfold execLoginfo at h
  repeat' first | (refine fixed_next h ?_; clear h) | split at h
  all_goals repeat' simp only [↓fixed_mbxServe, implies_true]

theorem fixed_execCapduty (k : Nat) (s t : State) (h : execCapduty k s = .next t) : t.fixed = s.fixed := by
  unfold execCapduty at h
  refine fixed_next h (fixed_mbxServe _ _ _ _ (fun b t => ?_))
  simp only
  split
  · rfl
  split
  · rfl
  · exact (fixed_applyDuty _).trans (fixed_wr _ _ _)

theorem fixed_execPostUser (k : Nat) (s : State) : ∀ t, (execPostUser k s) = .next t → t.fixed = s.fixed := by
  intro t h
  unfold execPostUser at h
  repeat' first | (refine fixed_next h ?_; clear h) | split at h
  all_goals repeat' simp only [↓fixed_mbxServe, ↓fixed_post, implies_true]

theorem fixed_execEventPost (code : Nat) (src : Nat) (args : List Nat) (s : State) : ∀ t, (execEventPost code src args s) = .next t → t.fixed = s.fixed := by
  intro t h
  unfold execEventPost at h
  repeat' first | (refine fixed_next h ?_; clear h) | split at h
  all_goals repeat' simp only [↓fixed_ite, ↓fixed_post, ite_self]

theorem fixed_normalBatch (cap : Nat) (s : State) : (normalBatch cap s).fixed = s.fixed := by
  unfold normalBatch; simp only [↓fixed_ite, ↓fixed_beginBatch, ↓fixed_clearFold, ite_self]

theorem fixed_execLogBatchStart (s : State) : ∀ t, (execLogBatchStart s) = .next t → t.fixed = s.fixed := by
  intro t h
  unfold execLogBatchStart at h
  repeat' first | (refine fixed_next h ?_; clear h) | split at h
  all_goals repeat' first | simp only [↓fixed_ite, ↓fixed_drainCommands, ↓fixed_lastBatch, ↓fixed_normalBatch, ↓fixed_roomForBatch, ↓fixed_roomForLast, ite_self] | split

theorem fixed_failBatch (s : State) : (failBatch s).fixed = s.fixed := by
  unfold failBatch
  repeat' first | simp only [↓fixed_inc, ↓fixed_wr, ↓fixed_wantErase, fixed_evlog, fixed_foldl, implies_true] | split

theorem fixed_execLogBatchDone (ok : Bool) (s : State) : ∀ t, (execLogBatchDone ok s) = .next t → t.fixed = s.fixed := by
  intro t h
  unfold execLogBatchDone at h
  repeat' first | (refine fixed_next h ?_; clear h) | split at h
  all_goals repeat' simp only [↓fixed_ite, ↓fixed_commitBatch, ↓fixed_failBatch, ite_self]

theorem fixed_nonceWord (s : State) (j : Nat) : (nonceWord s j).fixed = s.fixed := by
  unfold nonceWord; simp only [↓fixed_free, ↓fixed_wr]

theorem fixed_execDebugChallenge (s : State) : ∀ t, (execDebugChallenge s) = .next t → t.fixed = s.fixed := by
  intro t h
  unfold execDebugChallenge at h
  repeat' first | (refine fixed_next h ?_; clear h) | split at h
  all_goals repeat' simp only [↓fixed_ite, ↓fixed_nonceWord, fixed_secu, fixed_foldl, ite_self, implies_true]

theorem fixed_execDebugResponse (level : Nat) (keysel : Nat) (resv : Nat) (sig : Bytes) (s : State) : ∀ t, (execDebugResponse level keysel resv sig s) = .next t → t.fixed = s.fixed := by
  intro t h
  unfold execDebugResponse at h
  repeat' first | (refine fixed_next h ?_; clear h) | split at h
  all_goals repeat' simp only [↓fixed_ite, ↓fixed_dropNonce, ↓fixed_wrs, ↓fixed_wr, ↓fixed_set, ↓fixed_inc, ↓fixed_post, fixed_secu, ite_self]

theorem fixed_execDebugRefuseEnd (s : State) : ∀ t, (execDebugRefuseEnd s) = .next t → t.fixed = s.fixed := by
  intro t h
  unfold execDebugRefuseEnd at h
  repeat' first | (refine fixed_next h ?_; clear h) | split at h
  all_goals repeat' simp only [↓fixed_ite, ↓fixed_clr, ite_self]

theorem fixed_execAonRailsGood (s : State) : ∀ t, (execAonRailsGood s) = .next t → t.fixed = s.fixed := by
  intro t h
  unfold execAonRailsGood at h
  repeat' first | (refine fixed_next h ?_; clear h) | split at h
  all_goals repeat' simp only [↓fixed_ite, ↓fixed_safeLevels, ↓fixed_setPower, ite_self]

theorem fixed_execPllLock (s : State) : ∀ t, (execPllLock s) = .next t → t.fixed = s.fixed := by
  intro t h
  unfold execPllLock at h
  repeat' first | (refine fixed_next h ?_; clear h) | split at h
  all_goals repeat' simp only [↓fixed_ite, ↓fixed_setDram, fixed_clocks, ite_self]

theorem fixed_execCanRxError (n : Nat) (kind : Nat) (heavy : Bool) (s : State) : ∀ t, (execCanRxError n kind heavy s) = .next t → t.fixed = s.fixed := by
  intro t h
  unfold execCanRxError at h
  repeat' first | (refine fixed_next h ?_; clear h) | split at h
  all_goals repeat' simp only [↓fixed_canRxError]

theorem fixed_execCacheEncodeDone (late : Bool) (s : State) : ∀ t, (execCacheEncodeDone late s) = .next t → t.fixed = s.fixed := by
  intro t h
  unfold execCacheEncodeDone at h
  repeat' first | (refine fixed_next h ?_; clear h) | split at h
  all_goals repeat' simp only [↓fixed_cacheDone]

theorem fixed_execReloadVerifyDone (x : Nat) (s : State) : ∀ t, (execReloadVerifyDone x s) = .next t → t.fixed = s.fixed := by
  intro t h
  unfold execReloadVerifyDone at h
  repeat' first | (refine fixed_next h ?_; clear h) | split at h
  all_goals repeat' simp only [↓fixed_ite, ↓fixed_endLoading, ↓fixed_set, ↓fixed_setGl, ↓fixed_wr, ite_self]

theorem fixed_execSyncInGlitch (s : State) : ∀ t, (execSyncInGlitch s) = .next t → t.fixed = s.fixed := by
  intro t h
  unfold execSyncInGlitch at h
  repeat' first | (refine fixed_next h ?_; clear h) | split at h
  all_goals repeat' simp only [↓fixed_ite, ↓fixed_inc, ite_self]

theorem fixed_execPcieLinkTrained (speed : Nat) (width : Nat) (s : State) : ∀ t, (execPcieLinkTrained speed width s) = .next t → t.fixed = s.fixed := by
  intro t h
  unfold execPcieLinkTrained at h
  repeat' first | (refine fixed_next h ?_; clear h) | split at h
  all_goals repeat' first | simp only [↓fixed_ite, ↓fixed_releaseWakePin, ↓fixed_wrs, fixed_hl, ite_self] | split

theorem fixed_sendPtp (n : Nat) (kind : Nat) (origin : Nat) (correction : Nat) (s : State) : (sendPtp n kind origin correction s).fixed = s.fixed := by
  unfold sendPtp
  repeat' first | simp only [fixed_tk] | split

theorem fixed_ptpMessage (n : Nat) (kind : Nat) (turn : Nat) (s : State) : (ptpMessage n kind turn s).fixed = s.fixed := by
  unfold ptpMessage
  repeat' first | simp only [↓fixed_ite, ↓fixed_sendPtp, ite_self] | split

theorem fixed_execPtpMessageInterval (n : Nat) (kind : Nat) (turn : Nat) (s : State) : ∀ t, (execPtpMessageInterval n kind turn s) = .next t → t.fixed = s.fixed := by
  intro t h
  unfold execPtpMessageInterval at h
  repeat' first | (refine fixed_next h ?_; clear h) | split at h
  all_goals repeat' simp only [↓fixed_ptpMessage]

theorem fixed_execSectorEraseDone (ok : Bool) (s : State) : ∀ t, (execSectorEraseDone ok s) = .next t → t.fixed = s.fixed := by
  intro t h
  unfold execSectorEraseDone at h
  repeat' first | (refine fixed_next h ?_; clear h) | split at h
  all_goals repeat' first | simp only [↓fixed_ite, ↓fixed_eraseSector, ↓fixed_inc, ↓fixed_showOldest, ↓fixed_wantErase, fixed_evlog, ite_self] | split

theorem fixed_toTracePort (r : Nat) (s : State) : (toTracePort r s).fixed = s.fixed := by
  unfold toTracePort; simp only [↓fixed_ite, ↓fixed_inc, fixed_prb, ite_self]

theorem fixed_toTraceRing (r : Nat) (s : State) : (toTraceRing r s).fixed = s.fixed := by
  unfold toTraceRing
  repeat' first | simp only [↓fixed_ite, ↓fixed_inc, ↓fixed_memWrite, ↓fixed_set, ↓fixed_stopTrace, ↓fixed_wr, ite_self] | split

theorem fixed_passOn (s : State) : (passOn s).fixed = s.fixed := by
  unfold passOn
  repeat' first | simp only [↓fixed_ite, ↓fixed_toTracePort, ↓fixed_toTraceRing, fixed_prb, ite_self] | split

theorem fixed_traceCycle (s : State) : (traceCycle s).fixed = s.fixed := by
  unfold traceCycle
  repeat' first | simp only [↓fixed_ite, ↓fixed_collect, ↓fixed_setFifo, ↓fixed_passOn, fixed_foldl, implies_true] | split

theorem fixed_timeTick (s : State) : (timeTick s).fixed = s.fixed := by
  unfold timeTick
  repeat' first | simp only [↓fixed_ite, fixed_time, ite_self] | split

theorem fixed_rtcTick (s : State) : (rtcTick s).fixed = s.fixed := by
  unfold rtcTick
  repeat' first | simp only [↓fixed_ite, ↓fixed_wr, ↓fixed_wrPair, fixed_time, ite_self] | split

theorem fixed_idle (s : State) : (idle s).fixed = s.fixed := by
  unfold idle
  repeat' first | simp only [↓fixed_completeStarted, ↓fixed_rtcTick, ↓fixed_timeTick, ↓fixed_traceCycle] | split

theorem fixed_rehearse (l : List Record) (s : State) : (rehearse l s).fixed = s.fixed := by
  unfold rehearse; simp only [↓fixed_applyRecord, ↓fixed_withDefaults, fixed_foldl, implies_true]

end Sys2Proof.Machine.Laws
end

