-- ==== Sys2Proof/Laws/Exec.lean ====
section
/-! SUPPORT. What every command leaves of the queue, the fuses and the OTP: all of it, but for the end of an OTP program, which only
raises OTP bits. -/

namespace Sys2Proof.Machine.Laws
open Sys2Proof.Safety

/-- Every command but the end of an OTP program leaves the waiting commands, the fuses and the OTP as they are. -/
theorem exec_fixed (c : Instr) (s t : State) (hc : c ≠ .otpProgramDone) (h : exec c s = .next t) : t.fixed = s.fixed := by
  cases c with
  | vaonLoss => exact fixed_execVaonLoss s t h
  | presenceQualified => exact fixed_execPresenceQualified s t h
  | pgoodMemRise => exact fixed_execPgoodMemRise s t h
  | pgoodMainRise => exact fixed_execPgoodMainRise s t h
  | pgTimeout => exact fixed_execPgTimeout s t h
  | pgRetry => exact fixed_execPgRetry s t h
  | pgoodMainFall => exact fixed_execPgoodMainFall s t h
  | pgoodMemFall => exact fixed_execPgoodMemFall s t h
  | coldReset mode chip hostlink test => exact fixed_execColdReset mode chip hostlink test s t h
  | pinReset => exact fixed_execPinReset s t h
  | resetRelease mode chip hostlink test => exact fixed_execResetRelease mode chip hostlink test s t h
  | sysReset w v => exact fixed_execSysReset w v s t h
  | wdgReset => exact fixed_execWdgReset s t h
  | islReset w v => exact fixed_execIslReset w v s t h
  | islReapplyDone => exact fixed_execIslReapplyDone s t h
  | lnkReset kind => exact fixed_execLnkReset kind s t h
  | slotSelection a b => exact fixed_execSlotSelection a b s t h
  | flashReadTimeout a => exact fixed_execFlashReadTimeout s a t h
  | prefixVerified trained => exact fixed_execPrefixVerified trained s t h
  | imageVerified => exact fixed_execImageVerified s t h
  | regPollTimeout => exact fixed_execRegPollTimeout s t h
  | sealBoot => exact fixed_execSeal s t h
  | hostgo w master => exact fixed_execHostgo w master s t h
  | confirm w => exact fixed_execConfirm w s t h
  | autoConfirm => exact fixed_execAutoConfirm s t h
  | retry w => exact fixed_execRetry w s t h
  | ptpGateTimeout => exact fixed_execPtpGateTimeout s t h
  | extpGo w v => exact fixed_execExtpGo w v s t h
  | extpHashDone => exact fixed_execExtpHashDone s t h
  | registerWrite a l hw rst => exact fixed_execRegisterWrite a l hw s rst t h
  | pairLoRead w a width l => exact fixed_execPairLoRead w a s width l t h
  | refclkGateEnd count stop => exact fixed_execRefclkGateEnd count stop s t h
  | refclkGlitch => exact fixed_execRefclkGlitch s t h
  | refclkStop => exact fixed_execRefclkStop s t h
  | lostCutoff => exact fixed_execLostCutoff s t h
  | xtalFail => exact fixed_execXtalFail s t h
  | xtalRestore => exact fixed_execXtalRestore s t h
  | boscTrim trim => exact fixed_execBoscTrim trim s t h
  | islandClockFault k => exact fixed_execIslandClockFault k s t h
  | dvfsSwitch k => exact fixed_execDvfsSwitch k s t h
  | runRequest w => exact fixed_execRunRequest w s t h
  | dozeRequest w => exact fixed_execDozeRequest w s t h
  | foldRequest w => exact fixed_execFoldRequest w s t h
  | offRequest w => exact fixed_execOffRequest w s t h
  | powerTransition => exact fixed_execPowerTransition s t h
  | foldSnapshotCommit => exact fixed_execFoldSnapshotCommit s t h
  | wakeLatch l => exact fixed_execWakeLatch l s t h
  | dozeExit us => exact fixed_execDozeExit us s t h
  | foldExit us good => exact fixed_execFoldExit us good s t h
  | ejectAccept => exact fixed_execEjectAccept s t h
  | drained us => exact fixed_execDrained us s t h
  | ejectRelease => exact fixed_execEjectRelease s t h
  | surpriseRemoval => exact fixed_execSurpriseRemoval s t h
  | streamIdleRelease n => exact fixed_execStreamIdleRelease n s t h
  | canPeerAgeout n id xtd => exact fixed_execCanPeerAgeout n id xtd s t h
  | ptpForeignAgeout n sender => exact fixed_execPtpForeignAgeout n sender s t h
  | pdelayNeighbourLoss n => exact fixed_execPdelayNeighbourLoss n s t h
  | timeStep w => exact fixed_execTimeStep w s t h
  | deferredStep => exact fixed_execDeferredStep s t h
  | ptpSync n origin corr ago => exact fixed_execPtpSync n origin corr ago s t h
  | syncLoss => exact fixed_execSyncLoss s t h
  | ptpAnnounce n a => exact fixed_execPtpAnnounce n a s t h
  | ptpPdelayResp n sender round turn => exact fixed_execPtpPdelayResp n sender round turn s t h
  | txtsNsRead w n => exact fixed_execTxtsNsRead w n s t h
  | tkTimeRead w => exact fixed_execTkTimeRead w s t h
  | toutArm w n v => exact fixed_execToutArm w n v s t h
  | toutEdge n => exact fixed_execToutEdge n s t h
  | tcapEdge n rising ago => exact fixed_execTcapEdge n rising ago s t h
  | tcapNsRead w n => exact fixed_execTcapNsRead w n s t h
  | launchGridArm w g v => exact fixed_execLaunchGridArm w g v s t h
  | launchInstant => exact fixed_execLaunchInstant s t h
  | leapSchedule w v => exact fixed_execLeapSchedule w v s t h
  | leapSecond => exact fixed_execLeapSecond s t h
  | calSet w v => exact fixed_execCalSet w v s t h
  | calDateRead w => exact fixed_execCalDateRead w s t h
  | rtcRealign => exact fixed_execRtcRealign s t h
  | aonAlarm => exact fixed_execAonAlarm s t h
  | frameStart u v fn ecc stop more => exact fixed_execFrameStart u v fn ecc s stop more t h
  | linePacket u v dt ecc crcOk data => exact fixed_execLinePacket u v dt ecc crcOk data s t h
  | frameEnd u v ecc bad1 bad2 => exact fixed_execFrameEnd u v ecc bad1 bad2 s t h
  | lineTimeout u v => exact fixed_execLineTimeout u v s t h
  | clockLaneLoss u => exact fixed_execClockLaneLoss u s t h
  | gvspLeader => exact fixed_execGvspLeader s t h
  | gvspPayload bad1 bad2 => exact fixed_execGvspPayload s bad1 bad2 t h
  | gvspTrailer bad1 bad2 => exact fixed_execGvspTrailer s bad1 bad2 t h
  | gvspBlockTimeout n => exact fixed_execGvspBlockTimeout n s t h
  | jpegDecodeDone n bad1 bad2 => exact fixed_execJpegDecodeDone n s bad1 bad2 t h
  | sampleReady l => exact fixed_execSampleReady l s t h
  | sampleStale n => exact fixed_execSampleStale n s t h
  | replayGo w v => exact fixed_execReplayGo w v s t h
  | replayReady => exact fixed_execReplayReady s t h
  | cciGo w n v => exact fixed_execCciGo w n v s t h
  | cciCommit b fails release => exact fixed_execCciCommit b fails release s t h
  | autoExposure n => exact fixed_execAutoExposure n s t h
  | mcRead p oc tid addr n rt dead errs => exact fixed_execMcRead p oc tid addr n rt dead errs s t h
  | mcWrite p oc tid addr b rt dead errs => exact fixed_execMcWrite p oc tid addr b rt dead errs s t h
  | refresh c hot => exact fixed_execRefresh c hot s t h
  | refreshShadow m drift beyond c => exact fixed_execRefreshShadow m drift beyond s c t h
  | mcRetrainReq w m v => exact fixed_execMcRetrainReq w m v s t h
  | retrainTimeout m => exact fixed_execRetrainTimeout m s t h
  | patrolScrub m kind => exact fixed_execPatrolScrub m kind s t h
  | linkReplay n ring good => exact fixed_execLinkReplay n ring good s t h
  | fabricTimeout p tag => exact fixed_execFabricTimeout p tag s t h
  | tonote => exact fixed_execTonote s t h
  | fenceSet w k v => exact fixed_execFenceSet w k v s t h
  | fenceLift w k v => exact fixed_execFenceLift w k v s t h
  | fabricResponse p tag tgt fromTarget => exact fixed_execFabricResponse p tag tgt fromTarget s t h
  | syncRequest p tgt oc typ => exact fixed_execSyncRequest p tgt oc s typ t h
  | probeObserve n flits l => exact fixed_execProbeObserve n flits l s t h
  | windowTick => exact fixed_execWindowTick s t h
  | prbClear w ticked => exact fixed_execPrbClear w ticked s t h
  | traceSync => exact fixed_execTraceSync s t h
  | traceLoss n => exact fixed_execTraceLoss n s t h
  | bind w q => exact fixed_execBind w q s t h
  | unbind w q => exact fixed_execUnbind w q s t h
  | resume w q => exact fixed_execResume w q s t h
  | sqDb q l => exact fixed_execSqDb q l s t h
  | cqDb q l => exact fixed_execCqDb q l s t h
  | fetchError q => exact fixed_execFetchError q s t h
  | commandComplete q => exact fixed_execCommandComplete q s t h
  | irqTimer q => exact fixed_execIrqTimer q s t h
  | nop q => exact fixed_execNop q s t h
  | regwr q => exact fixed_execRegwr q s t h
  | regrd q => exact fixed_execRegrd q s t h
  | regpoll q => exact fixed_execRegpoll q s t h
  | regpollTimeout q => exact fixed_execRegpollTimeout q s t h
  | signalEvent q => exact fixed_execSignalEvent q s t h
  | waitEvent q => exact fixed_execWaitEvent q s t h
  | waitTimeout q => exact fixed_execWaitTimeout q s t h
  | evset q => exact fixed_execEvset q s t h
  | majorBoundary check => exact fixed_execMajorBoundary check s t h
  | rotationStart => exact fixed_execRotationStart s t h
  | fixedClaimStart e => exact fixed_execFixedClaimStart e s t h
  | headFire e => exact fixed_execHeadFire e s t h
  | chainClaimStart e => exact fixed_execChainClaimStart e s t h
  | maintClaimStart e => exact fixed_execMaintClaimStart e s t h
  | claimEnd e => exact fixed_execClaimEnd e s t h
  | servingDispatch c => exact fixed_execServingDispatch c s t h
  | servingOverrun c => exact fixed_execServingOverrun c s t h
  | flockStepStart f c => exact fixed_execFlockStepStart f c s t h
  | flockStepEnd c => exact fixed_execFlockStepEnd c s t h
  | flockAdmitTimeout i => exact fixed_execFlockAdmitTimeout i s t h
  | maintExpiry q => exact fixed_execMaintExpiry q s t h
  | forcedRun q => exact fixed_execForcedRun q s t h
  | gemm q c => exact fixed_execGemm q c s t h
  | conv q c => exact fixed_execConv q c s t h
  | req q c => exact fixed_execReq q c s t h
  | copy q c => exact fixed_execCopy q c s t h
  | fill q c => exact fixed_execFill q c s t h
  | sigchk q c => exact fixed_execSigchk q c s t h
  | pastureScrub e errs pass => exact fixed_execPastureScrub e errs pass s t h
  | act q c => exact fixed_execAct q c s t h
  | glu q c => exact fixed_execGlu q c s t h
  | rowstat q c => exact fixed_execRowstat q c s t h
  | lnorm q c => exact fixed_execLnorm q c s t h
  | rmsnorm q c => exact fixed_execRmsnorm q c s t h
  | softmax q c => exact fixed_execSoftmax q c s t h
  | attn q c => exact fixed_execAttn q c s t h
  | kvappend q c => exact fixed_execKvappend q c s t h
  | kvtok q c => exact fixed_execKvtok q c s t h
  | flockreq q => exact fixed_execFlockreq q s t h
  | vresize q c => exact fixed_execVresize q c s t h
  | vfilt q c => exact fixed_execVfilt q c s t h
  | vstereo q c => exact fixed_execVstereo q c s t h
  | vpcloud q c => exact fixed_execVpcloud q c s t h
  | vboxfit q c => exact fixed_execVboxfit q c s t h
  | vboxpca q c => exact fixed_execVboxpca q c s t h
  | vnms q c => exact fixed_execVnms q c s t h
  | vsort q c => exact fixed_execVsort q c s t h
  | vtopk q c => exact fixed_execVtopk q c s t h
  | vargmax q c => exact fixed_execVargmax q c s t h
  | vik q c => exact fixed_execVik q c s t h
  | vjerk q c => exact fixed_execVjerk q c s t h
  | vmatmul q c => exact fixed_execVmatmul q c s t h
  | vact q c => exact fixed_execVact q c s t h
  | clusterScrub v errs pass => exact fixed_execClusterScrub v errs pass s t h
  | indexCheck x => exact fixed_execIndexCheck x s t h
  | glLoad w v => exact fixed_execGlLoad w v s t h
  | glSwap w v => exact fixed_execGlSwap w v s t h
  | gsearch q => exact fixed_execGsearch q s t h
  | gsearchDeadline q scanned => exact fixed_execGsearchDeadline q scanned s t h
  | dcompare q => exact fixed_execDcompare q s t h
  | dsafe q => exact fixed_execDsafe q s t h
  | faultReport l => exact fixed_execFaultReport l s t h
  | sfFltClr w clr key => exact fixed_execSfFltClr w clr key s t h
  | safeToggle => exact fixed_execSafeToggle s t h
  | safeOutputReadback a b m => exact fixed_execSafeOutputReadback a b m s t h
  | startLate q => exact fixed_execStartLate q s t h
  | endLate q => exact fixed_execEndLate q s t h
  | budget q => exact fixed_execBudget q s t h
  | heartbeat w v => exact fixed_execHeartbeat w v s t h
  | hbLate q => exact fixed_execHbLate q s t h
  | lbist q => exact fixed_execLbist q s t h
  | mbist q => exact fixed_execMbist q s t h
  | retrain q => exact fixed_execRetrain q s t h
  | maintRequestDone req pass granule => exact fixed_execMaintRequestDone req pass granule s t h
  | injectRaise w v => exact fixed_execInjectRaise w v s t h
  | injectTask w v => exact fixed_execInjectTask w v s t h
  | barrierPoint => exact fixed_execBarrierPoint s t h
  | bellwetherRelease => exact fixed_execBellwetherRelease s t h
  | followerRelease ago => exact fixed_execFollowerRelease ago s t h
  | barrierTimeout => exact fixed_execBarrierTimeout s t h
  | msyncRetry w v => exact fixed_execMsyncRetry w v s t h
  | markerSend => exact fixed_execMarkerSend s t h
  | markerReceive ago => exact fixed_execMarkerReceive ago s t h
  | markerMiss => exact fixed_execMarkerMiss s t h
  | canReceive n f => exact fixed_execCanReceive n f s t h
  | canShadowGo w n o => exact fixed_execCanShadowGo w n o s t h
  | canShadowPop w n => exact fixed_execCanShadowPop w n s t h
  | cantx q => exact fixed_execCantx q s t h
  | canrd q => exact fixed_execCanrd q s t h
  | canTxAttempt n => exact fixed_execCanTxAttempt n s t h
  | canTxDone n => exact fixed_execCanTxDone n s t h
  | canTxError n arb kind => exact fixed_execCanTxError n arb kind s t h
  | canTxWindowClose o => exact fixed_execCanTxWindowClose o s t h
  | canRecover w n => exact fixed_execCanRecover w n s t h
  | canRecoveryDone n => exact fixed_execCanRecoveryDone n s t h
  | canIntegrated n => exact fixed_execCanIntegrated n s t h
  | canSleep n => exact fixed_execCanSleep n s t h
  | canAutowake n => exact fixed_execCanAutowake n s t h
  | canWakeDominant n => exact fixed_execCanWakeDominant n s t h
  | canWakeFrame n f => exact fixed_execCanWakeFrame n f s t h
  | jspFrameStart n => exact fixed_execJspFrameStart n s t h
  | jspFrameEnd n ready raw => exact fixed_execJspFrameEnd n ready raw s t h
  | jspStale n => exact fixed_execJspStale n s t h
  | qeiCountChange k up illegal => exact fixed_execQeiCountChange k up illegal s t h
  | qeiSnap w k => exact fixed_execQeiSnap w k s t h
  | qeiIndex k => exact fixed_execQeiIndex k s t h
  | moOvrGo w m => exact fixed_execMoOvrGo w m s t h
  | ethReceive n b fcsOk ago => exact fixed_execEthReceive n b fcsOk ago s t h
  | rxqDb w n q v => exact fixed_execRxqDb w n q v s t h
  | ethtx q => exact fixed_execEthtx q s t h
  | ethTxDone n ago => exact fixed_execEthTxDone n ago s t h
  | ethTxAbandon k => exact fixed_execEthTxAbandon k s t h
  | linkTrainStart n => exact fixed_execLinkTrainStart n s t h
  | linkUp n => exact fixed_execLinkUp n s t h
  | linkTrainTimeout n => exact fixed_execLinkTrainTimeout n s t h
  | linkDown n fault => exact fixed_execLinkDown n fault s t h
  | ethRestart w n => exact fixed_execEthRestart w n s t h
  | hostDoorbell q off v write => exact fixed_execHostDoorbell q off v write s t h
  | hostAperture off n write b => exact fixed_execHostAperture off n write b s t h
  | msixUnmask v addr data mask enable func => exact fixed_execMsixUnmask v addr data mask enable func s t h
  | pmeTurnOff => exact fixed_execPmeTurnOff s t h
  | flashUpdate w v => exact fixed_execFlashUpdate w v s t h
  | updateStepDone ok => exact fixed_execUpdateStepDone ok s t h
  | sensorUpdate l => exact fixed_execSensorUpdate l s t h
  | stewardDecide => exact fixed_execStewardDecide s t h
  | thermalTrip n => exact fixed_execThermalTrip n s t h
  | thermtripRestart => exact fixed_execThermtripRestart s t h
  | telem k => exact fixed_execTelem k s t h
  | logread k => exact fixed_execLogread k s t h
  | loginfo k => exact fixed_execLoginfo k s t h
  | capduty k => exact fixed_execCapduty k s t h
  | postUser k => exact fixed_execPostUser k s t h
  | eventPost code src args => exact fixed_execEventPost code src args s t h
  | logBatchStart => exact fixed_execLogBatchStart s t h
  | logBatchDone ok => exact fixed_execLogBatchDone ok s t h
  | secRevoke w v => exact fixed_execSecRevoke w v s t h
  | otpProgramDone => exact absurd rfl hc
  | debugChallenge => exact fixed_execDebugChallenge s t h
  | debugResponse level keysel resv sig => exact fixed_execDebugResponse level keysel resv sig s t h
  | debugRefuseEnd => exact fixed_execDebugRefuseEnd s t h
  | debugEnd w => exact fixed_execDebugEnd w s t h
  | mcLatMaxRead w m => exact fixed_execMcLatMaxRead w m s t h
  | fuErrmaxRead w e => exact fixed_execFuErrmaxRead w e s t h
  | attSelmaxRead w e => exact fixed_execAttSelmaxRead w e s t h
  | glLatMaxRead w => exact fixed_execGlLatMaxRead w s t h
  | shpTaskMaxendRead w q => exact fixed_execShpTaskMaxendRead w q s t h
  | msyncSkewMaxRead w => exact fixed_execMsyncSkewMaxRead w s t h
  | aonRailsGood => exact fixed_execAonRailsGood s t h
  | pllLock => exact fixed_execPllLock s t h
  | canRxError n kind heavy => exact fixed_execCanRxError n kind heavy s t h
  | cacheEncodeDone late => exact fixed_execCacheEncodeDone late s t h
  | reloadVerifyDone x => exact fixed_execReloadVerifyDone x s t h
  | syncInGlitch => exact fixed_execSyncInGlitch s t h
  | pcieLinkTrained speed width => exact fixed_execPcieLinkTrained speed width s t h
  | ptpMessageInterval n kind turn => exact fixed_execPtpMessageInterval n kind turn s t h
  | sectorEraseDone ok => exact fixed_execSectorEraseDone ok s t h
  | tmCpmRead w r => exact fixed_execTmCpmRead w r s t h

/-- An OTP program raises bits of the OTP and clears none. -/
theorem otpRises_progOtp (a : Nat) (b : Bytes) (s : State) : otpRises s (progOtp a b s) := by
  intro i
  unfold progOtp
  simp only
  by_cases h : i < a ∨ a + (List.zipWith (· ||| ·) (ldOtp s a b.length) b).length ≤ i
  · rw [get_writeMem_out _ _ _ _ _ h]; exact BitVec.and_self
  · obtain ⟨j, rfl⟩ : ∃ j, i = a + j := ⟨i - a, by omega⟩
    have hj : j < (List.zipWith (· ||| ·) (ldOtp s a b.length) b).length := by omega
    rw [get_writeMem_in _ _ _ _ _ hj]
    have hl : j < (ldOtp s a b.length).length ∧ j < b.length := by
      simpa [List.length_zipWith] using hj
    have e : (ldOtp s a b.length)[j]'hl.1 = s.otp.get 0 (a + j) := by
      simp [ldOtp, readMem]
    simp only [List.getElem_zipWith, e]
    ext k hk; simp; intro h; simp [h]

end Sys2Proof.Machine.Laws
end

