-- ==== Sys2Proof/Machine/Pins.lean ====
section
/-! DEFINITION. What the device drives on its pins (R163, R726, 5.9): the levels that the state gives them, and where they are high-impedance. -/

namespace Sys2Proof.Machine
open Reg

/-- What stands on an output ball: high-impedance, or a level. -/
inductive Drive where
  | off
  | low
  | high
  deriving DecidableEq, Repr

def drive (level : Bool) : Drive := if level then .high else .low

/-- An output of the AON pin bank: high-impedance until VAON and VAON_IO are good. -/
def aonPin (s : State) (level : Bool) : Drive := if s.power.vaon then drive level else .off

def pinSafeA (s : State) : Drive := aonPin s (s.rdb SF_STATUS_SAFE_A)
def pinSafeB (s : State) : Drive := aonPin s (s.rdb SF_STATUS_SAFE_B)
def pinMinhN (s : State) : Drive := aonPin s (s.rdb SF_STATUS_MINH_N)
def pinPenMem (s : State) : Drive := aonPin s s.power.penMem
def pinPenMain (s : State) : Drive := aonPin s s.power.penMain

/-- WAKE# is open-drain (R726): pulled low while it is asserted. -/
def pinWakeN (s : State) : Drive := if s.power.vaon && s.power.wakePin then .low else .off

/-- DRAM_RESET_N: low from the arrival of VMEMPHY until the memory is trained. -/
def pinDramResetN (s : State) : Drive := if s.power.pgMem && !s.straps.testmode then drive s.power.dramReset else .off

/-- SYNC_OUT: low from the arrival of VIO18 until the image configures the sync block; then high-impedance with EN at 0, push-pull at the
bellwether, open-drain at a follower (R636, R637). Test mode drives no output beyond the AON pin bank (R785). -/
def pinSyncOut (s : State) : Drive :=
  let level := s.rdb MSYNC_STATUS_SYNC_OUT
  if s.railsOff ∨ s.straps.testmode ∨ (s.rdb BOOT_STATUS_SEALED ∧ !s.rdb MSYNC_CFG_EN) then .off
  else if s.rdb MSYNC_CFG_EN ∧ s.straps.chipaddr ≠ 0 ∧ level then .off
  else drive level

/-- Every other output is driven once its island has left reset and the image has configured it (R163); DEDUCED (log 128): the image has configured it
at the seal. `k` is its island. -/
def outputDriven (s : State) (k : Nat) : Bool :=
  !s.railsOff && s.power.resetNow.isNone && !s.clocks.islBusy.contains k && s.rdb BOOT_STATUS_SEALED

/-- An output of island `k` at the level that the island gives it. -/
def outputPin (s : State) (k : Nat) (level : Bool) : Drive := if outputDriven s k then drive level else .off

end Sys2Proof.Machine
end

