-- ==== Sys2Proof/WellFormed.lean ====
section
/-! DEFINITION. Which commands name something the part has: the ranges of a command's operands. A command whose operands are out of
range names nothing of the part and is never sent (log 7). -/

namespace Sys2Proof

/-- The identities of R85: a tenant, IMAGE, HOST, STEWARD or SAFETY; 0x1801 stands for HOST through the debug port (R764, log 15). -/
def Writer.wf (w : Writer) : Bool := (decide (w.master < 1024) || (decide (0x800 ≤ w.master) && decide (w.master ≤ 0x803)) || w.master == 0x1801) && decide (w.qid < 1024)

/-- An access of a cycle: 4 or 8 bytes are the widths R86 accepts, others are answered with a width error. -/
def RegWrite.wf (r : RegWrite) : Bool := r.by_.wf && decide (0 < r.width) && decide (r.width ≤ 8) && decide (r.value < 2 ^ 64)

/-- An FS packet: a unit, a virtual channel, a frame number, and what its ECC showed. -/
def FrameStart.wf (f : FrameStart) : Bool := decide (f.unit < 16) && decide (f.vc < 16) && decide (f.number < 65536) && decide (f.ecc < 3)

/-- Operands of a CAN frame: 11- or 29-bit identifier, DLC 0 to 15, and no more payload than the DLC says. -/
def CanFrame.wf (f : CanFrame) : Bool := decide (f.id < 2 ^ 29) && decide (f.dlc < 16) && decide (f.data.length ≤ 64)

/-- A probe's packet. -/
def Packet.wf (p : Packet) : Bool := decide (p.point < 4) && decide (p.typ < 16) && decide (p.spid < 128) && decide (p.dpid < 128)

/-- A queue (R364). -/
def queueWf (q : Nat) : Bool := decide (q < 1024)

/-- A command of an engine: a queue or, from 1,024 on, the step list of a flock (R402); and a column (R397). -/
def engineWf (q c : Nat) : Bool := decide (q < 1056) && decide (c < 14)

/-- Bytes handed over in one go, at an address of a memory. -/
def spanWf (a n : Nat) : Bool := decide (a < 2 ^ 64) && decide (n ≤ 2 ^ 32)

/-- The ranges of a command's operands. -/
def Instr.wf (i : Instr) : Bool :=
  match i with
  | .vaonLoss => true
  | .presenceQualified => true
  | .pgoodMemRise => true
  | .pgoodMainRise => true
  | .pgTimeout => true
  | .pgRetry => true
  | .pgoodMainFall => true
  | .pgoodMemFall => true
  | .coldReset mode chip _ _ => decide (mode < 4) && decide (chip < 16)
  | .pinReset => true
  | .resetRelease mode chip _ _ => decide (mode < 4) && decide (chip < 16)
  | .sysReset w v => w.wf && decide (v < 2 ^ 32)
  | .wdgReset => true
  | .islReset w v => w.wf && decide (v < 2 ^ 32)
  | .islReapplyDone => true
  | .lnkReset kind => decide (kind < 4)
  | .slotSelection _ _ => true
  | .flashReadTimeout a => decide (a < 2 ^ 32)
  | .prefixVerified _ => true
  | .imageVerified => true
  | .regPollTimeout => true
  | .sealBoot => true
  | .hostgo w _ => w.wf
  | .confirm w => w.wf
  | .autoConfirm => true
  | .retry w => w.wf
  | .ptpGateTimeout => true
  | .extpGo w v => w.wf && decide (v < 2 ^ 32)
  | .extpHashDone => true
  | .registerWrite a l _ r => decide (a < 2 ^ 25) && l.all (·.wf) && r.all (fun c => c == 1 || c == 2 || c == 3 || c == 5)
  | .pairLoRead w a width l => w.wf && decide (0 < width) && decide (width ≤ 8) && decide (a < 2 ^ 25) && l.all (·.wf)
  | .refclkGateEnd _ _ => true
  | .refclkGlitch => true
  | .refclkStop => true
  | .lostCutoff => true
  | .xtalFail => true
  | .xtalRestore => true
  | .boscTrim _ => true
  | .islandClockFault k => decide (k < 78)
  | .dvfsSwitch k => decide (k < 78)
  | .runRequest w => w.wf
  | .dozeRequest w => w.wf
  | .foldRequest w => w.wf
  | .offRequest w => w.wf
  | .powerTransition => true
  | .foldSnapshotCommit => true
  | .wakeLatch l => l.all (fun n => decide (n < 32))
  | .dozeExit _ => true
  | .foldExit _ _ => true
  | .ejectAccept => true
  | .drained _ => true
  | .ejectRelease => true
  | .surpriseRemoval => true
  | .streamIdleRelease n => decide (n < 32)
  | .canPeerAgeout n id _ => decide (n < 8) && decide (id < 2 ^ 29)
  | .ptpForeignAgeout n _ => decide (n < 4)
  | .pdelayNeighbourLoss n => decide (n < 4)
  | .timeStep w => w.wf
  | .deferredStep => true
  | .ptpSync n _ _ _ => decide (n < 4)
  | .syncLoss => true
  | .ptpAnnounce n _ => decide (n < 4)
  | .ptpPdelayResp n _ _ _ => decide (n < 4)
  | .txtsNsRead w n => w.wf && decide (n < 4)
  | .tkTimeRead w => w.wf
  | .toutArm w n v => w.wf && decide (n < 16) && decide (v < 2 ^ 32)
  | .toutEdge n => decide (n < 16)
  | .tcapEdge n _ _ => decide (n < 16)
  | .tcapNsRead w n => w.wf && decide (n < 16)
  | .launchGridArm w g v => w.wf && decide (g < 8) && decide (v < 2 ^ 32)
  | .launchInstant => true
  | .leapSchedule w v => w.wf && decide (v < 2 ^ 32)
  | .leapSecond => true
  | .calSet w v => w.wf && decide (v < 2 ^ 32)
  | .calDateRead w => w.wf
  | .rtcRealign => true
  | .aonAlarm => true
  | .frameStart u v fn ecc stop more => (FrameStart.mk u v fn ecc stop).wf && more.all (·.wf)
  | .linePacket u v dt ecc _ _ => decide (u < 16) && decide (v < 16) && decide (dt < 64) && decide (ecc < 3)
  | .frameEnd u v ecc _ _ => decide (u < 16) && decide (v < 16) && decide (ecc < 3)
  | .lineTimeout u v => decide (u < 16) && decide (v < 16)
  | .clockLaneLoss u => decide (u < 16)
  | .gvspLeader => true
  | .gvspPayload _ _ => true
  | .gvspTrailer _ _ => true
  | .gvspBlockTimeout n => decide (n < 32)
  | .jpegDecodeDone n _ _ => decide (n < 32)
  | .sampleReady l => l.all (fun n => decide (n < 32))
  | .sampleStale n => decide (n < 32)
  | .replayGo w v => w.wf && decide (v < 2 ^ 32)
  | .replayReady => true
  | .cciGo w n v => w.wf && decide (n < 32) && decide (v < 2 ^ 32)
  | .cciCommit b _ _ => decide (b < 8)
  | .autoExposure n => decide (n < 32)
  | .mcRead p oc tid addr n _ _ _ => decide (p < 96) && decide (oc < 16) && decide (tid < 1024) && spanWf addr n
  | .mcWrite p oc tid addr b _ _ _ => decide (p < 96) && decide (oc < 16) && decide (tid < 1024) && spanWf addr b.length
  | .refresh c _ => decide (c < 24)
  | .refreshShadow m _ _ c => decide (m < 6) && decide (c < 4)
  | .mcRetrainReq w m v => w.wf && decide (m < 6) && decide (v < 2 ^ 32)
  | .retrainTimeout m => decide (m < 6)
  | .patrolScrub m kind => decide (m < 6) && decide (kind < 5)
  | .linkReplay n ring _ => decide (n < 24) && decide (ring < 3)
  | .fabricTimeout p tag => decide (p < 96) && decide (tag < 256)
  | .tonote => true
  | .fenceSet w k v => w.wf && decide (k < 3) && decide (v < 2 ^ 32)
  | .fenceLift w k v => w.wf && decide (k < 3) && decide (v < 2 ^ 32)
  | .fabricResponse p tag tgt _ => decide (p < 96) && decide (tag < 256) && decide (tgt < 96)
  | .syncRequest p tgt oc typ => decide (p < 96) && decide (tgt < 128) && decide (oc < 4) && (typ == 4 || (decide (6 ≤ typ) && decide (typ < 16)))
  | .probeObserve n _ l => decide (n < 24) && l.all (·.wf)
  | .windowTick => true
  | .prbClear w _ => w.wf
  | .traceSync => true
  | .traceLoss n => decide (n < 24)
  | .bind w q => w.wf && queueWf q
  | .unbind w q => w.wf && queueWf q
  | .resume w q => w.wf && queueWf q
  | .sqDb q l => queueWf q && l.all (fun e => e.1.wf && decide (e.2 < 2 ^ 32))
  | .cqDb q l => queueWf q && l.all (fun e => e.1.wf && decide (e.2 < 2 ^ 32))
  | .fetchError q => queueWf q
  | .commandComplete q => queueWf q
  | .irqTimer q => queueWf q
  | .nop q => queueWf q
  | .regwr q => queueWf q
  | .regrd q => queueWf q
  | .regpoll q => queueWf q
  | .regpollTimeout q => queueWf q
  | .signalEvent q => queueWf q
  | .waitEvent q => queueWf q
  | .waitTimeout q => queueWf q
  | .evset q => queueWf q
  | .majorBoundary check => decide (check < 4)
  | .rotationStart => true
  | .fixedClaimStart e => decide (e < 4096)
  | .headFire e => decide (e < 4096)
  | .chainClaimStart e => decide (e < 4096)
  | .maintClaimStart e => decide (e < 4096)
  | .claimEnd e => decide (e < 4096)
  | .servingDispatch c => decide (c < 14)
  | .servingOverrun c => decide (c < 14)
  | .flockStepStart f c => decide (f < 32) && decide (c < 14)
  | .flockStepEnd c => decide (c < 14)
  | .flockAdmitTimeout _ => true
  | .maintExpiry q => queueWf q
  | .forcedRun q => queueWf q
  | .gemm q c => engineWf q c
  | .conv q c => engineWf q c
  | .req q c => engineWf q c
  | .copy q c => engineWf q c
  | .fill q c => engineWf q c
  | .sigchk q c => engineWf q c
  | .pastureScrub e _ _ => decide (e < 8)
  | .act q c => engineWf q c
  | .glu q c => engineWf q c
  | .rowstat q c => engineWf q c
  | .lnorm q c => engineWf q c
  | .rmsnorm q c => engineWf q c
  | .softmax q c => engineWf q c
  | .attn q c => engineWf q c
  | .kvappend q c => engineWf q c
  | .kvtok q c => engineWf q c
  | .flockreq q => queueWf q
  | .vresize q c => engineWf q c
  | .vfilt q c => engineWf q c
  | .vstereo q c => engineWf q c
  | .vpcloud q c => engineWf q c
  | .vboxfit q c => engineWf q c
  | .vboxpca q c => engineWf q c
  | .vnms q c => engineWf q c
  | .vsort q c => engineWf q c
  | .vtopk q c => engineWf q c
  | .vargmax q c => engineWf q c
  | .vik q c => engineWf q c
  | .vjerk q c => engineWf q c
  | .vmatmul q c => engineWf q c
  | .vact q c => engineWf q c
  | .clusterScrub v _ _ => decide (v < 4)
  | .indexCheck x => decide (x < 3)
  | .glLoad w v => w.wf && decide (v < 2 ^ 32)
  | .glSwap w v => w.wf && decide (v < 2 ^ 32)
  | .gsearch q => queueWf q
  | .gsearchDeadline q _ => queueWf q
  | .dcompare q => queueWf q
  | .dsafe q => queueWf q
  | .faultReport l => l.all (fun e => decide (e.1 < 256))
  | .sfFltClr w _ _ => w.wf
  | .safeToggle => true
  | .safeOutputReadback _ _ _ => true
  | .startLate q => queueWf q
  | .endLate q => queueWf q
  | .budget q => queueWf q
  | .heartbeat w v => w.wf && decide (v < 2 ^ 32)
  | .hbLate q => queueWf q
  | .lbist q => queueWf q
  | .mbist q => queueWf q
  | .retrain q => queueWf q
  | .maintRequestDone _ _ _ => true
  | .injectRaise w v => w.wf && decide (v < 2 ^ 32)
  | .injectTask w v => w.wf && decide (v < 2 ^ 32)
  | .barrierPoint => true
  | .bellwetherRelease => true
  | .followerRelease _ => true
  | .barrierTimeout => true
  | .msyncRetry w v => w.wf && decide (v < 2 ^ 32)
  | .markerSend => true
  | .markerReceive _ => true
  | .markerMiss => true
  | .canReceive n f => decide (n < 8) && f.wf
  | .canShadowGo w n o => w.wf && decide (n < 8) && decide (o < 2048)
  | .canShadowPop w n => w.wf && decide (n < 8)
  | .cantx q => queueWf q
  | .canrd q => queueWf q
  | .canTxAttempt n => decide (n < 8)
  | .canTxDone n => decide (n < 8)
  | .canTxError n _ kind => decide (n < 8) && decide (kind < 8)
  | .canTxWindowClose o => decide (o < 2048)
  | .canRecover w n => w.wf && decide (n < 8)
  | .canRecoveryDone n => decide (n < 8)
  | .canIntegrated n => decide (n < 8)
  | .canSleep n => decide (n < 8)
  | .canAutowake n => decide (n < 8)
  | .canWakeDominant n => decide (n < 8)
  | .canWakeFrame n f => decide (n < 8) && f.all (·.wf)
  | .jspFrameStart n => decide (n < 8)
  | .jspFrameEnd n _ _ => decide (n < 8)
  | .jspStale n => decide (n < 8)
  | .qeiCountChange k _ _ => decide (k < 4)
  | .qeiSnap w k => w.wf && decide (k < 4)
  | .qeiIndex k => decide (k < 4)
  | .moOvrGo w m => w.wf && decide (m < 32)
  | .ethReceive n b _ _ => decide (n < 4) && decide (b.length < 65536)
  | .rxqDb w n q v => w.wf && decide (n < 4) && decide (q < 8) && decide (v < 2 ^ 32)
  | .ethtx q => queueWf q
  | .ethTxDone n _ => decide (n < 4)
  | .ethTxAbandon _ => true
  | .linkTrainStart n => decide (n < 4)
  | .linkUp n => decide (n < 4)
  | .linkTrainTimeout n => decide (n < 4)
  | .linkDown n fault => decide (n < 4) && decide (fault < 8)
  | .ethRestart w n => w.wf && decide (n < 4)
  | .hostDoorbell q off v _ => decide (q < 2048) && decide (off < 4096) && decide (v < 2 ^ 32)
  | .hostAperture _ n _ _ => decide (n ≤ 4096)
  | .msixUnmask v _ _ _ _ _ => decide (v < 1024)
  | .pmeTurnOff => true
  | .flashUpdate w v => w.wf && decide (v < 2 ^ 32)
  | .updateStepDone _ => true
  | .sensorUpdate l => l.all (fun e => decide (e.2.1 < 32))
  | .stewardDecide => true
  | .thermalTrip n => decide (n < 24)
  | .thermtripRestart => true
  | .telem k => decide (k < 4)
  | .logread k => decide (k < 4)
  | .loginfo k => decide (k < 4)
  | .capduty k => decide (k < 4)
  | .postUser k => decide (k < 4)
  | .eventPost code src args => decide (code < 65536) && decide (src < 256) && decide (args.length ≤ 8)
  | .logBatchStart => true
  | .logBatchDone _ => true
  | .secRevoke w v => w.wf && decide (v < 2 ^ 32)
  | .otpProgramDone => true
  | .debugChallenge => true
  | .debugResponse level keysel resv _ => decide (level < 256) && decide (keysel < 256) && decide (resv < 65536)
  | .debugRefuseEnd => true
  | .debugEnd w => w.wf
  | .mcLatMaxRead w m => w.wf && decide (m < 6)
  | .fuErrmaxRead w e => w.wf && decide (e < 8)
  | .attSelmaxRead w e => w.wf && decide (e < 8)
  | .glLatMaxRead w => w.wf
  | .shpTaskMaxendRead w q => w.wf && queueWf q
  | .msyncSkewMaxRead w => w.wf
  | .aonRailsGood => true
  | .pllLock => true
  | .canRxError n kind _ => decide (n < 8) && decide (kind < 8)
  | .cacheEncodeDone _ => true
  | .reloadVerifyDone x => decide (x < 3)
  | .syncInGlitch => true
  | .pcieLinkTrained speed width => decide (speed < 5) && decide (width < 5)
  | .ptpMessageInterval n kind _ => decide (n < 4) && decide (kind < 9)
  | .sectorEraseDone _ => true
  | .tmCpmRead w r => w.wf && decide (r < 16)

end Sys2Proof
end

