-- ==== Sys2Proof/Tests/Slice0.lean ====
section
/-! SUPPORT. Tests: for each statement about commands a state and operands that meet its hypotheses; an ill-formed command for each check of
WellFormed; steps from the spec's worked examples. -/

namespace Sys2Proof.Tests
set_option Elab.async false
open Machine Machine.Reg Safety

def base : State := State.reset
def img : Sys2Proof.Writer := ⟨0x800, 0⟩
/-- The reset state with registers written. -/
def at0 (l : List (Machine.Field × Nat)) : State := base.wrs l
/-- The same state at a time of MONO, in ns. -/
def atMono (ns : Nat) (s : State) : State := { s with time := { s.time with mono := ns * 65536 } }
def pw (f : Power → Power) (s : State) : State := { s with power := f s.power }
def bt (f : Boot → Boot) (s : State) : State := { s with boot := f s.boot }
def ck (f : Clocks → Clocks) (s : State) : State := { s with clocks := f s.clocks }
def dr (f : Drover → Drover) (s : State) : State := { s with drv := f s.drv }
def frame1 : CanFrame := ⟨0x123, false, false, false, false, false, 0, [], 0⟩
/-- A command of 64 bytes: class, opcode, and fields by byte offset. -/
def cmd (cls opc : Nat) (l : List (Nat × Nat)) : Bytes := leBytes 64 (opc + 256 * cls + (l.map fun e => e.2 * 256 ^ e.1).sum)
/-- Queue 1023 running a class, with a command at its head. -/
def headed (cls : Nat) (c : Bytes) (l : List (Machine.Field × Nat)) : State :=
  dr (fun d => { d with heads := [(1023, ⟨c⟩)] }) (at0 ([(Q_STATE_STATE 1023, 2), (Q_CFG_CLASS 1023, cls), (MC_CFG_GIB 0, 1)] ++ l))
/-- Queue 1023 with a command in flight. -/
def flying (wait : Nat) (c : Bytes) : Flight := { q := 1023, idx := 0, cmd := c, unit := 14, start := 0, startMono := 0, wait := wait }
def withFlight (f : Flight) (s : State) : State := dr (fun d => { d with flights := [f] }) s
def ann : Announce := ⟨1, 128, 6, 0x21, 0, 128, 0, 1, 0, 37, true, false, false⟩
def it (f : Intake → Intake) (s : State) : State := { s with intake := f s.intake }
/-- A frame of stream 31 in reception on unit 15, channel 15. -/
def frame0 : Frame := { stream := 31, chan := 255, sid := 31, fs := 0, fsMono := 0, width := 64, height := 1, fmt := 0 }
/-- Unit 0 and stream 31 of it, ready. -/
def camera (l : List (Machine.Field × Nat)) : State :=
  at0 ([(UNIT_CFG_EN 14, 1), (STREAM_CFG_EN 31, 1), (STREAM_CFG_UNIT 31, 14), (STREAM_CFG_VC 31, 15), (STREAM_STATE_STATE 31, 1),
    (STREAM_DIM_WIDTH 31, 64), (STREAM_DIM_HEIGHT 31, 1)] ++ l)
/-- A command at the head of queue 1023, served on a column. -/
def served (cls col : Nat) (c : Bytes) : State :=
  headed cls c [(Q_ENG_ENG 1023, 1), (COL_STATE_STATE col, 1), (COL_STATE_QID col, 1023), (SRV_LIMIT_US col, 65535)]
/-- An engine step of flock 0 on engine 0 whose next command lies at address 0. -/
def stepping (t : EngineStep) (c : Bytes) : State :=
  { dr (fun d => { d with steps := [t] }) (at0 [(FLK_LIST_COUNT 0, 1), (MC_CFG_GIB 0, 1), (FLK_CFG_ENG 0, 1), (FLK_BATCH_LO 0, 0x10000)]) with
    dram := writeMem [] 0 0 c }
def step0 : EngineStep := { flock := 0, col := 0, no := 0, seqs := [], start := 0 }
/-- A rotation of 4 ticks that runs, with one entry. -/
def rotState (e : Bytes) (l : List (Machine.Field × Nat)) : State :=
  { at0 ([(ROT_STATUS_RUN, 1), (ROT_MAJOR_MAJOR, 4), (ROT_COUNT_ENTRIES, 1), (BOOT_STATUS_SEALED, 1)] ++ l) with
    img := { base.img with rot := zeros 64 ++ e } }
/-- An entry of the rotation at tick 0: kind and group word, length 1, columns, queue 1023, count 1. -/
def entry (w cols : Nat) : Bytes := leBytes 4 w ++ leBytes 4 1 ++ leBytes 2 cols ++ leBytes 2 1023 ++ leBytes 2 1 ++ zeros 2
/-- A SHEP record with one task of queue 1023. -/
def tasks (e : Bytes) (s : State) : State := { s with img := { s.img with shep := leBytes 4 1 ++ zeros 12 ++ e } }
def task (kind : Nat) (hb : Nat) : Bytes := leBytes 2 1023 ++ leBytes 1 kind ++ zeros 13 ++ leBytes 4 1 ++ zeros 4 ++ leBytes 4 hb ++ zeros 4
def sync (l : List (Machine.Field × Nat)) (chip : Nat) (at_ : Bool) : State :=
  { at0 ([(MSYNC_CFG_EN, 1)] ++ l) with straps := { base.straps with chipaddr := chip }, msync := { base.msync with atPoint := at_ } }
/-- A SAFE record with actuator 0 and decision stream 0 of queue 1023. -/
def safeRecord (s : State) : State :=
  { s with img := { s.img with safe := leBytes 2 1 ++ leBytes 2 1 ++ zeros 76 ++ ([0, 0] ++ leBytes 2 1023 ++ zeros 60) } }
def canReq : CanReq := { ctrl := 7, obj := 2047, rank := 3, ready := true, start := 0, close := none }
def ethFrame : EthFrame := { handle := 1, port := 3, queue := 0, bytes := zeros 60, account := 51, cells := 1, group := 3, ready := true, start := 0, close := none }
/-- A log of 8 sectors in flash A at 0, its first sector holding a record of SEQ 5. -/
def logged : State :=
  let r := leBytes 4 5 ++ zeros 56
  let h := leBytes 4 0x474F4C45 ++ zeros 8
  let s : State := { base with evlog := { base.evlog with region := zeros 2 ++ leBytes 2 8 ++ zeros 60 } }
  let m := writeMem (writeMem [] 0xFF 0 (r ++ leBytes 4 (crc32 r))) 0xFF 3840 (leBytes 4 (2 ^ 32 - 6))
  { s with flashA := writeMem m 0xFF 4080 (h ++ leBytes 4 (crc32 h)) }

/-! ### Witnesses: for each clause of a statement that every command completes, a state and operands that meet its hypotheses -/

theorem witness_PowerRailCommandsComplete_1 :
  (let s : State := pw (fun p => { p with vaon := false }) base; s.power.vaon = false) ∧
  (let s : State := pw (fun p => { p with penMem := false }) base; s.power.vaon = true ∧ s.power.penMem = false ∧ s.power.wait = 0 ∧ s.rd PWR_STATE_STATE = 0) ∧
  (let s : State := pw (fun p => { p with pgMem := false, wait := 4 }) base; s.power.penMem = true ∧ s.power.pgMem = false ∧ s.power.wait = 4) ∧
  (let s : State := pw (fun p => { p with pgMain := false, wait := 5 }) base; s.power.penMain = true ∧ s.power.pgMain = false ∧ s.rd PWR_STATE_STATE ≠ 5) ∧
  (let s : State := pw (fun p => { p with wait := 5 }) base; (s.power.wait = 4 ∨ s.power.wait = 5)) := by decide +kernel

theorem witness_PowerRailCommandsComplete_2 :
  (let s : State := pw (fun p => { p with wait := 1 }) base; s.power.wait = 1) ∧
  (let s : State := base; s.power.pgMain = true ∧ s.power.penMain = true ∧ s.rd PWR_STATE_STATE ≠ 5) ∧
  (let s : State := base; s.power.pgMem = true ∧ s.power.penMem = true ∧ s.rd PWR_STATE_STATE = 0) := by decide +kernel

theorem witness_ResetCommandsComplete_1 :
  (let s : State := pw (fun p => { p with wait := 6 }) base; s.power.wait = 6 ∧ s.railsOff = false ∧ s.rd LIV_STATUS_STATE ≠ 1 ∧ s.power.ejectLow = false ∧ s.power.aonLoss = false) ∧
  (let s : State := base; s.power.vaon = true ∧ s.railsOff = false ∧ s.rd LIV_STATUS_STATE = 0 ∧ s.power.resetNow = none) ∧
  (let s : State := at0 [(BOOT_STATUS_SEALED, 1)]; watchdogHeld s = false ∧ watchdogDue s = true ∧ s.power.vaon = true ∧ s.railsOff = false ∧ s.rd LIV_STATUS_STATE = 0 ∧ s.power.resetNow = none) ∧
  (let s : State := base; let w : Writer := img; let v : Nat := 0xA501; writeStatus s w.master 0x10 = 0 ∧ bit v 0 = true ∧ bits v 8 8 = 0xA5) ∧
  (let s : State := pw (fun p => { p with resetNow := some 1 }) base; s.power.resetNow = some 1 ∧ s.power.ejectLow = false ∧ s.railsOff = false) := by decide +kernel

theorem witness_ResetCommandsComplete_2 :
  (let s : State := at0 [(BOOT_STATUS_SEALED, 1)]; let w : Writer := img; let v : Nat := 0x5A014D; writeStatus s w.master 0x12010 = 0 ∧ bit v 8 = true ∧ bits v 16 8 = 0x5A ∧ bit v 10 = false ∧ mayReset s (v % 256) = true ∧ s.rdb RST_ISL_BUSY = false ∧ s.power.resetNow = none ∧ s.rdb BOOT_STATUS_SEALED = true) ∧
  (let s : State := ck (fun c => { c with islBusy := [2] }) base; let k : Nat := 2; let l : List Nat := []; s.clocks.islBusy = k :: l ∧ s.boot.waitTo ≤ s.mono ∧ (continueTodo reapplyRecord s).boot.todo = []) ∧
  (let s : State := { base with straps := { base.straps with hostlink := true } }; let kind : Nat := 2; s.railsOff = false ∧ s.straps.hostlink = true ∧ s.power.resetNow = none) := by decide +kernel

theorem witness_PowerStateCommandsComplete_1 :
  (let s : State := at0 [(PWR_STATE_STATE, 2)]; let w : Writer := img; writeStatus s w.master 0x12024 = 0 ∧ s.power.resetNow = none ∧ s.rd PWR_STATE_STATE = 2) ∧
  (let s : State := at0 [(PWR_CFG_DOZE_OK, 1)]; let w : Writer := img; writeStatus s w.master 0x12024 = 0 ∧ s.power.resetNow = none ∧ s.rd PWR_STATE_STATE = 0 ∧ s.rd LIV_STATUS_STATE = 0 ∧ s.rdb PWR_CFG_DOZE_OK = true ∧ s.power.request = 0) ∧
  (let s : State := at0 [(PWR_CFG_FOLD_OK, 1)]; let w : Writer := img; writeStatus s w.master 0x12024 = 0 ∧ s.power.resetNow = none ∧ s.rd PWR_STATE_STATE = 0 ∧ s.rd LIV_STATUS_STATE = 0 ∧ s.rdb PWR_CFG_FOLD_OK = true ∧ hostAway s = true ∧ s.power.request = 0) ∧
  (let s : State := at0 [(PWR_CFG_OFF_OK, 1)]; let w : Writer := img; writeStatus s w.master 0x12024 = 0 ∧ s.power.resetNow = none ∧ s.rd PWR_STATE_STATE = 0 ∧ s.rd LIV_STATUS_STATE = 0 ∧ s.rdb PWR_CFG_OFF_OK = true ∧ s.power.request = 0) ∧
  (let s : State := pw (fun p => { p with request := 2 }) base; s.railsOff = false ∧ s.rd LIV_STATUS_STATE = 0 ∧ s.rd PWR_STATE_STATE = 0 ∧ s.power.request ≠ 0 ∧ (s.drv.maint.any fun m => m.running) = false) := by decide +kernel

theorem witness_PowerStateCommandsComplete_2 :
  (let s : State := at0 [(PWR_STATE_STATE, 4)]; s.rd PWR_STATE_STATE = 4 ∧ s.snap.commit = false ∧ s.railsOff = false ∧ enginesIdle s = true) ∧
  (let s : State := base; let l : List Nat := [0]; s.power.vaon = true ∧ 2 ∉ l ∧ s.power.wait ≠ 2 ∧ (latchWake l s).power.wait ≠ 2) ∧
  (let s : State := at0 [(CAN_WK_CFG_MODE 7, 1)]; let n : Nat := 7; n < 8 ∧ s.power.vaon = true ∧ s.rd (CAN_WK_CFG_MODE n) = 1) ∧
  (let s : State := at0 [(CAN_WK_CFG_MODE 7, 2), (CAN_WK_ID 7, 0x123)]; let n : Nat := 7; let f : CanFrame := frame1; n < 8 ∧ s.power.vaon = true ∧ s.rd (CAN_WK_CFG_MODE n) = 2 ∧ f.fdf = false ∧ wakeMatches (s.wr (CAN_WK_STAT_ERRCNT n) (s.rd (CAN_WK_STAT_ERRCNT n) - 1)) n f = true) ∧
  (let s : State := at0 [(PWR_STATE_STATE, 3)]; s.rd PWR_STATE_STATE = 3 ∧ s.railsOff = false) := by decide +kernel

theorem witness_PowerStateCommandsComplete_3 :
  (let s : State := { at0 [(PWR_STATE_STATE, 5), (CLK_STATUS_REFMON, 1)] with snap := { present := true, commit := true, good := true, size := 0, crc := crc32 [], digest := sha384 (runningFirmware base) } }; s.rd PWR_STATE_STATE = 5 ∧ s.railsOff = false ∧ refclkValid s = true ∧ snapshotRight s = true) := by decide +kernel

theorem witness_LiveInsertionCommandsComplete_1 :
  (let s : State := base; s.power.vaon = true ∧ s.power.ejectLow = false ∧ s.rd LIV_STATUS_STATE = 0 ∧ s.rd PWR_STATE_STATE = 0 ∧ s.railsOff = false ∧ s.power.resetNow = none) ∧
  (let s : State := at0 [(LIV_STATUS_STATE, 3)]; (s.rd LIV_STATUS_STATE = 1 ∨ s.rd LIV_STATUS_STATE = 3) ∧ s.railsOff = false ∧ s.power.resetNow = none) ∧
  (let s : State := base; s.power.vaon = true ∧ s.power.prsntLow = true ∧ s.railsOff = false ∧ s.rd LIV_STATUS_STATE = 0 ∧ s.power.resetNow = none) ∧
  (let s : State := atMono (10 ^ 12) (at0 [(STREAM_CFG_EN 31, 1), (STREAM_STATE_STATE 31, 1)]); let n : Nat := 31; s.rdb (STREAM_CFG_EN n) = true ∧ s.rdb (STREAM_CFG_PIN n) = false ∧ s.rd (STREAM_STATE_STATE n) = 1 ∧ s.intake.lastFrame.get 0 n + s.rd LIV_STREAM_CFG_IDLE_MS * 1000000 ≤ s.mono) ∧
  (let p : Peer := ⟨7, 5, false, false, 0, true⟩; let n : Nat := 7; let id : Nat := 5; let x : Bool := false; let s : State := atMono (10 ^ 12) { base with can := { base.can with peers := [p] } }; s.can.peers.find? (samePeer n id x) = some p ∧ p.pinned = false ∧ p.seen + s.rd LIV_CANPEER_CFG_AGE_MS * 1000000 ≤ s.mono) := by decide +kernel

theorem witness_LiveInsertionCommandsComplete_2 :
  (let p : Peer := ⟨7, 5, false, true, 0, true⟩; let n : Nat := 7; let id : Nat := 5; let x : Bool := false; let s : State := atMono (10 ^ 12) { base with can := { base.can with peers := [p] } }; s.can.peers.find? (samePeer n id x) = some p ∧ p.pinned = true ∧ p.present = true ∧ p.seen + s.rd LIV_CANPEER_CFG_AGE_MS * 1000000 ≤ s.mono) := by decide +kernel

theorem witness_ClockCommandsComplete_1 :
  (let s : State := at0 [(CLK_STATUS_REFMON, 1)]; let count : Nat := 24988; monitorRuns s = true ∧ s.rd CLK_STATUS_REFMON = 1 ∧ 24987 < count ∧ count < 25013 ∧ s.clocks.unposted = false) ∧
  (let s : State := at0 [(CLK_STATUS_REFMON, 1)]; monitorRuns s = true ∧ s.rd CLK_STATUS_REFMON = 1 ∧ s.clocks.glitchNow = false ∧ s.clocks.glitchPrev = false) ∧
  (let s : State := at0 [(CLK_STATUS_REFMON, 1)]; monitorRuns s = true ∧ s.rd CLK_STATUS_REFMON = 1) ∧
  (let s : State := atMono 500000 (ck (fun c => { c with lost := true }) base); s.clocks.lost = true ∧ s.clocks.lostAt + 500000 ≤ s.mono) ∧
  (let s : State := ck (fun c => { c with relocking := true }) (at0 [(CLK_STATUS_REFMON, 1), (CLK_CFG_RESUME, 1)]); s.clocks.relocking = true ∧ s.rd CLK_STATUS_REFMON = 1 ∧ s.rdb CLK_CFG_RESUME = true) := by decide +kernel

theorem witness_ClockCommandsComplete_2 :
  (let s : State := ck (fun c => { c with relocking := true }) base; s.clocks.relocking = true ∧ s.rd CLK_STATUS_REFMON ≠ 1) ∧
  (let s : State := base; s.power.vaon = true) ∧
  (let s : State := base; s.railsOff = false ∧ s.clocks.rcClock = false ∧ s.rdb CLK_STATUS_XTAL_FAIL = false) ∧
  (let s : State := at0 [(CLK_STATUS_REFMON, 1)]; let k : Nat := 0x4D; monitorRuns s = true ∧ s.rd CLK_STATUS_REFMON = 1 ∧ s.clocks.lost = false ∧ k ≠ 0 ∧ islandExists s k = true) ∧
  (let s : State := at0 [(CLK_STATUS_REFMON, 1), (CLK_ISL_TGT 0x1B, 20)]; let c : Nat := 11; monitorRuns s = true ∧ s.rd CLK_STATUS_REFMON = 1 ∧ columnExists s c = true ∧ c < 13 ∧ tgtOf s c ≠ s.rd (CLK_ISL_CUR (columnIsland c)) ∧ fcodeOk s c (tgtOf s c) = true ∧ islandRuns s (columnIsland c) = true ∧ atBoundary (prepareSwitch c (tgtOf s c) s) c = true) := by decide +kernel

theorem witness_BootCommandsComplete_1 :
  (let s : State := base; loading s = true ∧ s.straps.testmode = false ∧ s.rd BOOT_STATUS_PHASE = 0) ∧
  (let s : State := at0 [(BOOT_STATUS_PHASE, 1)]; loading s = true ∧ s.straps.testmode = false ∧ s.rd BOOT_STATUS_PHASE = 1 ∧ s.boot.hostWait = false) ∧
  (let a : Nat := 0xFFFFFF; let s : State := bt (fun b => { b with attempt := some 1, retries := 2, retryAt := 0xFFFFFF }) (at0 [(BOOT_STATUS_PHASE, 4)]); let c : Nat := 1; loading s = true ∧ s.boot.attempt = some c ∧ c ≤ 1 ∧ (s.rd BOOT_STATUS_PHASE = 2 ∨ s.rd BOOT_STATUS_PHASE = 4) ∧ s.boot.retryAt = a ∧ s.boot.retries < 3) ∧
  (let a : Nat := 0; let s : State := bt (fun b => { b with attempt := some 1, retries := 3, retryAt := 0xFFFFFF }) (at0 [(BOOT_STATUS_PHASE, 2)]); let c : Nat := 1; loading s = true ∧ s.boot.attempt = some c ∧ c ≤ 1 ∧ (s.rd BOOT_STATUS_PHASE = 2 ∨ s.rd BOOT_STATUS_PHASE = 4) ∧ s.boot.retryAt ≠ a) ∧
  (let s : State := bt (fun b => { b with attempt := some 1 }) (at0 [(BOOT_STATUS_PHASE, 2), (CLK_STATUS_REFMON, 1)]); let c : Nat := 1; loading s = true ∧ s.boot.attempt = some c ∧ s.rd BOOT_STATUS_PHASE = 2 ∧ refclkValid s = true) := by decide +kernel

theorem witness_BootCommandsComplete_2 :
  (let s : State := bt (fun b => { b with attempt := some 1, header := List.replicate 512 1 }) (at0 [(BOOT_STATUS_PHASE, 4)]); let c : Nat := 1; loading s = true ∧ s.boot.attempt = some c ∧ s.rd BOOT_STATUS_PHASE = 4 ∧ (let t := streamIn (streamedRecords s c (imageLen s.boot.header - 256) (recordCount s.boot.header) 0x200) s; imageRecords t c s.boot.header = none)) ∧
  (let s : State := bt (fun b => { b with attempt := some 1 }) (at0 [(BOOT_STATUS_PHASE, 4)]); let c : Nat := 1; let l : List Record := []; loading s = true ∧ s.boot.attempt = some c ∧ s.rd BOOT_STATUS_PHASE = 4 ∧ (let t := streamIn (streamedRecords s c (imageLen s.boot.header - 256) (recordCount s.boot.header) 0x200) s; imageRecords t c s.boot.header = some l)) ∧
  (let e : Bytes := leBytes 4 0x38 ++ leBytes 4 1 ++ leBytes 4 1 ++ leBytes 4 (2 ^ 31); let s : State := atMono 1000000 (bt (fun b => { b with attempt := some 1, pollSince := some 0, todo := [⟨0, 0, 0, 0, 0, e⟩] }) (at0 [(BOOT_STATUS_PHASE, 6)])); loading s = true ∧ s.rd BOOT_STATUS_PHASE = 6 ∧ pollExpired s = some e ∧ (pollEntry e s).1 = false) ∧
  (let e : Bytes := leBytes 4 0x38 ++ leBytes 4 0 ++ leBytes 4 1 ++ leBytes 4 (2 ^ 31); let s : State := atMono 1000000 (bt (fun b => { b with attempt := some 1, pollSince := some 0, todo := [⟨0, 0, 0, 0, 0, e⟩] }) (at0 [(BOOT_STATUS_PHASE, 6)])); loading s = true ∧ s.rd BOOT_STATUS_PHASE = 6 ∧ pollExpired s = some e ∧ (pollEntry e s).1 = true) ∧
  (let s : State := bt (fun b => { b with attempt := some 1 }) (at0 [(BOOT_STATUS_PHASE, 6)]); let c : Nat := 1; loading s = true ∧ s.boot.attempt = some c ∧ s.rd BOOT_STATUS_PHASE = 6 ∧ s.boot.waitTo ≤ s.mono ∧ loading (continueApply s) = true ∧ (continueApply s).rd BOOT_STATUS_PHASE = 6 ∧ (continueApply s).boot.todo = [] ∧ (continueApply s).secu.progs = []) := by decide +kernel

theorem witness_BootCommandsComplete_3 :
  (let s : State := at0 [(BOOT_STATUS_PHASE, 0xE)]; let w : Writer := img; writeStatus s w.master 0x380020 = 0 ∧ loading s = true ∧ s.rd BOOT_STATUS_PHASE = 0xE) ∧
  (let s : State := at0 [(BOOT_STATUS_SEALED, 1), (PAGE_OWN_HOST 0x380, 1)]; let w : Writer := ⟨0x801, 0⟩; writeStatus s w.master 0x380020 = 0 ∧ onTrial s = true ∧ (w.master = 0x801 ∨ w.master = 0)) ∧
  (let s : State := { at0 [(BOOT_STATUS_SEALED, 1)] with img := { base.img with confirmAuto := true } }; onTrial s = true ∧ s.img.confirmAuto = true ∧ s.img.confirmCycles ≤ s.boot.cleanConfirm) ∧
  (let s : State := at0 [(BOOT_STATUS_PHASE, 0xF)]; let w : Writer := img; writeStatus s w.master 0x380020 = 0 ∧ loading s = true ∧ s.rd BOOT_STATUS_PHASE = 0xF ∧ s.rdPair HL_IMG_LEN_LO HL_IMG_LEN_HI = 0) ∧
  (let s : State := bt (fun b => { b with ptpGate := some 0 }) base; let t : Nat := 0; s.boot.ptpGate = some t ∧ s.rd TK_STATUS_SERVO ≠ 2 ∧ t + u16 s.boot.header 0x36 * 1000000 ≤ s.mono) := by decide +kernel

theorem witness_BootCommandsComplete_4 :
  (let s : State := { at0 [(BOOT_STATUS_SEALED, 1)] with img := { base.img with extp := [⟨0, 0, 0, 0, 0, []⟩] } }; let w : Writer := img; let v : Nat := 0x100; writeStatus s w.master 0x380044 = 0 ∧ bit v 8 = true ∧ s.rdb EXTP_STATUS_HASHING = false ∧ s.rdb BOOT_STATUS_SEALED = true ∧ v % 64 < s.img.extp.length ∧ v % 64 ∉ s.boot.verified) ∧
  (let i : Nat := 0; let r : Record := ⟨0, 0, 0, 0, 0, []⟩; let s : State := { bt (fun b => { b with hashing := some 0 }) base with img := { base.img with extp := [r] } }; s.boot.hashing = some i ∧ s.img.extp[i]? = some r) ∧
  (let s : State := at0 [(BOOT_STATUS_SEALED, 1), (BOOT_STATUS_SLOT, 1)]; let w : Writer := img; let v : Nat := 0x3C0101; writeStatus s w.master 0x371030 = 0 ∧ bit v 8 = true ∧ bits v 16 8 = 0x3C ∧ s.rdb BOOT_STATUS_SEALED = true ∧ s.rd HL_UPD_STAT_STATE = 0 ∧ (let t := (s.answer 0 0).wr HL_UPD_CTL_SLOT v; updateCode t (t.rd HL_UPD_CTL_SLOT) (t.rdPair HL_UPD_LEN_LO HL_UPD_LEN_HI) = 0)) ∧
  (let s : State := at0 [(HL_UPD_STAT_STATE, 1)]; s.rd HL_UPD_STAT_STATE = 1) ∧
  (let s : State := at0 [(HL_UPD_STAT_STATE, 2), (HL_LINK_STATE, 4)]; s.rd HL_UPD_STAT_STATE = 2 ∧ draining s = false ∧ linkUp s = true) := by decide +kernel

theorem witness_BootCommandsComplete_5 :
  (let s : State := at0 [(HL_UPD_STAT_STATE, 3)]; s.rd HL_UPD_STAT_STATE = 3 ∧ draining s = false) := by decide +kernel

theorem witness_RegisterCommandsComplete_1 :
  (let s : State := base; let w : Writer := img; let a : Nat := 0x4C400; a % 4 = 0 ∧ writeStatus s w.master a = 0 ∧ lockedOut s w.master a = false ∧ inert s a = false ∧ systemSpecial a = none ∧ special a = none ∧ perMasterBits a = none ∧ isPairLo a = false ∧ isPairLo (a - 4) = false ∧ (a < 0x42000 ∨ 0x4C000 ≤ a)) ∧
  (let s : State := base; let w : Writer := img; let a : Nat := 0x20004; a % 4 = 0 ∧ readStatus s w.master a = 0 ∧ inert s a = false ∧ s.rdShadow.find (shadowKey w.master a) = none ∧ readEffect w a s = none ∧ isPairLo a = true ∧ foreignResponse s w a = false) ∧
  (let c : Bytes := cmd 0 0x01 [(8, 0x11000), (16, 0xFFFFFFFF)]; let q : Nat := 1023; let s : State := headed 0 c []; headIs s q 0 0x01 = some c ∧ u32 c 16 = 2 ^ 32 - 1) ∧
  (let c : Bytes := cmd 0 0x02 [(8, 0x11000)]; let q : Nat := 1023; let s : State := headed 0 c []; headIs s q 0 0x02 = some c) ∧
  (let c : Bytes := cmd 0 0x03 [(8, 0x11000), (20, 10000)]; let q : Nat := 1023; let s : State := headed 0 c []; (s.drv.flights.find? fun f => f.q == q && f.wait == 2) = none ∧ headIs s q 0 0x03 = some c) := by decide +kernel

theorem witness_RegisterCommandsComplete_2 :
  (let q : Nat := 1023; let f : Flight := flying 2 []; let s : State := withFlight f base; (s.drv.flights.find? fun f => f.q == q && f.wait == 2) = some f) ∧
  (let q : Nat := 1023; let f : Flight := flying 2 (cmd 0 0x03 [(20, 10000)]); let s : State := atMono 10000000 (withFlight f base); (s.drv.flights.find? fun f => f.q == q && f.wait == 2) = some f ∧ f.startMono + u32 f.cmd 20 * 1000 ≤ s.mono) := by decide +kernel

theorem witness_ReadClearCommandsComplete_1 :
  (let s : State := base; let w : Writer := img; let m : Nat := 5; m < 6 ∧ readStatus s w.master (MC_LAT_MAX m).addr = 0) ∧
  (let s : State := base; let w : Writer := img; let e : Nat := 7; e < 8 ∧ readStatus s w.master (FU_ERRMAX e).addr = 0 ∧ inert s (FU_ERRMAX e).addr = false) ∧
  (let s : State := base; let w : Writer := img; let e : Nat := 7; e < 8 ∧ readStatus s w.master (ATT_SELMAX e).addr = 0 ∧ inert s (ATT_SELMAX e).addr = false) ∧
  (let s : State := base; let w : Writer := img; readStatus s w.master GL_LAT_MAX.addr = 0) ∧
  (let s : State := base; let w : Writer := img; let q : Nat := 1023; q < 1024 ∧ readStatus s w.master (SHP_TASK_MAXEND q).addr = 0) := by decide +kernel

theorem witness_ReadClearCommandsComplete_2 :
  (let s : State := base; let w : Writer := img; readStatus s w.master MSYNC_SKEW_MAX.addr = 0) ∧
  (let s : State := base; let w : Writer := img; let r : Nat := 12; r < 13 ∧ readStatus s w.master (TM_CPM_MARGIN r).addr = 0) := by decide +kernel

theorem witness_ServoCommandsComplete_1 :
  (let s : State := base; let w : Writer := img; writeStatus s w.master 0x20028 = 0 ∧ s.tk.lastStep = none) ∧
  (let s : State := { at0 [(TK_STEP_CFG_GAP_MS, 1)] with tk := { base.tk with lastStep := some 0 } }; let w : Writer := img; let m : Nat := 0; writeStatus s w.master 0x20028 = 0 ∧ s.tk.lastStep = some m ∧ s.mono < m + s.rd TK_STEP_CFG_GAP_MS * 1000000) ∧
  (let s : State := { at0 [(TK_STEP_CFG_GAP_MS, 0)] with tk := { base.tk with lastStep := some 0, deferred := some (-5) } }; let d : Int := -5; let m : Nat := 0; s.tk.deferred = some d ∧ s.tk.lastStep = some m ∧ m + s.rd TK_STEP_CFG_GAP_MS * 1000000 ≤ s.mono) ∧
  (let s : State := { at0 [(PTP_CFG_MODE, 1), (PTP_CFG_PORT_EN, 8)] with tk := { base.tk with parent := some 3, delaySeen := [3] } }; let n : Nat := 3; s.rd PTP_CFG_MODE ≠ 0 ∧ ptpPort s n = true ∧ s.tk.parent = some n ∧ s.rd TK_STATUS_SERVO = 0 ∧ s.tk.delaySeen = [n]) ∧
  (let s : State := { atMono (10 ^ 12) (at0 [(TK_STATUS_SERVO, 2)]) with tk := { base.tk with lastSync := some 0 } }; let m : Nat := 0; s.tk.lastSync = some m ∧ m + 3 * logInterval (s.rd PTP_PRIO_LOG_SYNC) ≤ s.mono ∧ s.rd TK_STATUS_SERVO ≠ 0) := by decide +kernel

theorem witness_ServoCommandsComplete_2 :
  (let s : State := at0 [(PTP_CFG_MODE, 1), (PTP_CFG_PORT_EN, 8)]; let n : Nat := 3; let x : Announce := ann; s.rd PTP_CFG_MODE ≠ 0 ∧ ptpPort s n = true ∧ s.rd PTP_CFG_PROFILE ≠ 2 ∧ x.domain = s.rd PTP_CFG_DOMAIN ∧ s.tk.foreign = []) ∧
  (let s : State := at0 [(PTP_CFG_MODE, 1), (PTP_CFG_PORT_EN, 8)]; let n : Nat := 3; s.rd PTP_CFG_MODE ≠ 0 ∧ ptpPort s n = true ∧ s.rd PTP_CFG_PROFILE = 0) ∧
  (let s : State := at0 [(PTP_CFG_MODE, 1), (PTP_CFG_PORT_EN, 8), (PTP_CFG_PROFILE, 2)]; let n : Nat := 3; s.rd PTP_CFG_MODE ≠ 0 ∧ ptpPort s n = true ∧ s.rd PTP_CFG_PROFILE ≠ 0) ∧
  (let s : State := { base with tk := { base.tk with missed := [(3, 3)] } }; let n : Nat := 3; 3 ≤ s.tk.missed.get 0 n) ∧
  (let s : State := at0 [(PTP_CFG_MODE, 1), (PTP_CFG_PORT_EN, 8), (PTP_CFG_ONESTEP, 8), (PTP_PORT_STATE 3, 6), (ETH_STATUS_STATE 3, 2)]; let n : Nat := 3; ptpSends s n 0 = true ∧ bit (s.rd PTP_CFG_ONESTEP) n = true) := by decide +kernel

theorem witness_TimekeeperIoCommandsComplete_1 :
  (let s : State := { base with tk := { base.tk with txts := [(3, [⟨1, 2, 3⟩])] } }; let w : Writer := img; let n : Nat := 3; let t : TxStamp := ⟨1, 2, 3⟩; let l : List TxStamp := []; n < 4 ∧ readStatus s w.master (0x2040c + 0x20 * n) = 0 ∧ txtsAt s n = t :: l) ∧
  (let s : State := base; let w : Writer := img; readStatus s w.master 0x20000 = 0) ∧
  (let s : State := at0 [(TOUT_WIDTH_NS 15, 1), (TOUT_PERIOD_NS 15, 101)]; let w : Writer := img; let n : Nat := 15; let v : Nat := 0x42; n < 16 ∧ writeStatus s w.master (0x21000 + 0x40 * n) = 0 ∧ bit v 6 = true ∧ toutDue s n = false ∧ (let t := (s.answer 0 0).wrs [(TOUT_CTL_MODE n, bits v 0 2), (TOUT_CTL_POL n, bits v 2 1), (TOUT_CTL_REALIGN n, bits v 3 1), (TOUT_CTL_QEISEL n, bits v 4 2)]; toutOk t n = true)) ∧
  (let s : State := { at0 [(TOUT_STATUS_RUNNING 15, 1)] with tk := { base.tk with tout := [(15, { mode := 1 })] } }; let n : Nat := 15; toutDue s n = true) ∧
  (let s : State := at0 [(TCAP_CTL_EN 15, 1), (TCAP_CTL_EDGE 15, 1), (TCAP_CTL_FILTER 15, 15)]; let n : Nat := 15; let ago : Nat := 75; s.rdb (TCAP_CTL_EN n) = true ∧ bit (s.rd (TCAP_CTL_EDGE n)) 0 = true ∧ 5 * s.rd (TCAP_CTL_FILTER n) ≤ ago ∧ (tcapAt s n).length < 8) := by decide +kernel

theorem witness_TimekeeperIoCommandsComplete_2 :
  (let s : State := { at0 [(TCAP_CTL_EN 15, 1), (TCAP_CTL_EDGE 15, 2)] with tk := { base.tk with tcap := [(15, List.replicate 8 ⟨0, true⟩)] } }; let n : Nat := 15; let ago : Nat := 10; s.rdb (TCAP_CTL_EN n) = true ∧ bit (s.rd (TCAP_CTL_EDGE n)) 1 = true ∧ 5 * s.rd (TCAP_CTL_FILTER n) ≤ ago ∧ 8 ≤ (tcapAt s n).length) ∧
  (let s : State := { base with tk := { base.tk with tcap := [(15, [⟨7, true⟩])] } }; let w : Writer := img; let n : Nat := 15; let c : Capture := ⟨7, true⟩; let l : List Capture := []; n < 16 ∧ readStatus s w.master (0x21808 + 0x10 * n) = 0 ∧ tcapAt s n = c :: l) ∧
  (let s : State := base; let w : Writer := img; let g : Nat := 7; let v : Nat := 1; g < 8 ∧ writeStatus s w.master (0x22000 + 0x10 * g) = 0 ∧ bit v 0 = true) ∧
  (let e : LaunchEntry := ⟨11, 0, 1, 0⟩; let s : State := { base with tk := { base.tk with launch := [e] } }; s.tk.launch = [e] ∧ e.at_ ≤ s.mono) := by decide +kernel

theorem witness_CalendarCommandsComplete_1 :
  (let s : State := base; let w : Writer := img; let v : Nat := 0; writeStatus s w.master 0x2080c = 0 ∧ (bit v 18 = false ∨ leapOk (s.answer 0 0) (bits v 0 18) = true)) ∧
  (let s : State := { at0 [(CAL_LEAP_PENDING, 1), (CAL_OFFSET_SEC, 0)] with time := { base.time with dev := (86401 + 946684800) * 10 ^ 9 * 65536 } }; s.rdb CAL_LEAP_PENDING = true ∧ s.rdb CAL_LEAP_DELETE = false ∧ ((s.rd CAL_LEAP_DAYS + 1) * 86400 : Nat) + 1 ≤ utcSeconds s) ∧
  (let s : State := { at0 [(CAL_LEAP_PENDING, 1), (CAL_LEAP_DELETE, 1), (CAL_OFFSET_SEC, 0)] with time := { base.time with dev := (86399 + 946684800) * 10 ^ 9 * 65536 } }; s.rdb CAL_LEAP_PENDING = true ∧ s.rdb CAL_LEAP_DELETE = true ∧ ((s.rd CAL_LEAP_DAYS + 1) * 86400 : Nat) - 1 ≤ utcSeconds s) ∧
  (let s : State := at0 [(CAL_SET_DATE_YEAR, 2399), (CAL_SET_DATE_MONTH, 12), (CAL_SET_DATE_DAY, 31)]; let w : Writer := img; let v : Nat := 1; writeStatus s w.master 0x20818 = 0 ∧ bit v 0 = true ∧ (let t := (s.answer 0 0).wr CAL_CTL_FROM_PTP (bits v 1 1); setOk t = true ∧ t.rd TK_STATUS_SERVO ≠ 2)) ∧
  (let s : State := base; let w : Writer := img; readStatus s w.master 0x20800 = 0) := by decide +kernel

theorem witness_CalendarCommandsComplete_2 :
  (let s : State := at0 [(TK_STATUS_SERVO, 2)]; s.rd TK_STATUS_SERVO = 2) ∧
  (let s : State := at0 [(AON_ALARM_CTL_EN, 1)]; s.rdb AON_ALARM_CTL_EN = true ∧ s.time.alarmAt ≠ some (s.rdPair AON_RTC_LO AON_RTC_HI) ∧ s.rdPair AON_ALARM_LO_SEC AON_ALARM_HI_SEC ≤ s.rdPair AON_RTC_LO AON_RTC_HI) := by decide +kernel

theorem witness_IntakeCommandsComplete_1 :
  (let u : Nat := 14; let v : Nat := 15; let fn : Nat := 65535; let n : Nat := 31; let s : State := it (fun i => { i with csiJoined := [14] }) (camera [(STREAM_POOL_RESV 31, 16), (POOL_CFG_POOL_GRANULES, 16)]); let b : Option Frame × State := (let r := s.wr (UNIT_STATUS_HS u) 1; beginFrame n (16 * u + v) (r.rd (STREAM_DIM_WIDTH n)) (r.rd (STREAM_DIM_HEIGHT n)) (fn % 65536) r.ts64 r.mono false true r); let f : Frame := b.1.getD frame0; let t : State := b.2; intakeOn s = true ∧ unitOn s u = true ∧ v < 16 ∧ u ∈ s.intake.csiJoined ∧ s.intake.open_.find? (·.chan == 16 * u + v) = none ∧ csiStream (s.wr (UNIT_STATUS_HS u) 1) u v = some n ∧ (let r := s.wr (UNIT_STATUS_HS u) 1; beginFrame n (16 * u + v) (r.rd (STREAM_DIM_WIDTH n)) (r.rd (STREAM_DIM_HEIGHT n)) (fn % 65536) r.ts64 r.mono false true r = (some f, t))) ∧
  (let f : Frame := { frame0 with chan := 239 }; let u : Nat := 14; let v : Nat := 15; let s : State := it (fun i => { i with open_ := [f] }) (camera []); intakeOn s = true ∧ unitOn s u = true ∧ v < 16 ∧ s.intake.open_.find? (·.chan == 16 * u + v) = some f ∧ f.lines.length < f.height) ∧
  (let s : State := it (fun i => { i with open_ := [{ frame0 with chan := 239 }] }) (camera []); let u : Nat := 14; let v : Nat := 15; intakeOn s = true ∧ unitOn s u = true ∧ v < 16 ∧ s.intake.open_.any (·.chan == 16 * u + v) = true) ∧
  (let s : State := camera []; let u : Nat := 14; let v : Nat := 15; unitOn s u = true ∧ v < 16) ∧
  (let s : State := camera []; let u : Nat := 14; unitOn s u = true ∧ s.rdb (UNIT_CFG_CONTCLK u) = false) := by decide +kernel

theorem witness_IntakeCommandsComplete_2 :
  (let s : State := camera [(UNIT_CFG_CONTCLK 14, 1)]; let u : Nat := 14; unitOn s u = true ∧ s.rdb (UNIT_CFG_CONTCLK u) = true) ∧
  (let p : GvPacket := ⟨3, 0, 5, 0, 0, 1, leBytes 32 (1 * 2 ^ 32), 0, 0⟩; let l : List GvPacket := []; let f : Nat := 15; let n : Nat := 31; let s : State := it (fun i => { i with gvJoined := [15] }) { at0 [(GV_FILT_EN 15, 1), (GV_FILT_PORT 15, 3), (GV_FILT_STREAM 15, 31), (GV_SRCIP 15, 5), (STREAM_CFG_EN 31, 1), (STREAM_STATE_STATE 31, 1)] with eth := { base.eth with gv := [p] } }; let t : State := (gvStream f p true (freeCells (accountOf p.port 16) p.cells { s with eth := { s.eth with gv := l } })).2; s.eth.gv = p :: l ∧ intakeOn s = true ∧ (gvHeader p.payload).format = 1 ∧ (let r := freeCells (accountOf p.port 16) p.cells { s with eth := { s.eth with gv := l } }; intakeOn r = true ∧ gvFilter r p = some f ∧ gvStream f p true (if f ∈ r.intake.gvJoined then r else { r with intake := { r.intake with gvJoined := f :: r.intake.gvJoined } }) = (some n, t))) ∧
  (let p : GvPacket := ⟨3, 0, 5, 0, 0, 1, leBytes 32 (3 * 2 ^ 32), 0, 0⟩; let l : List GvPacket := []; let f : Nat := 15; let n : Nat := 31; let s : State := it (fun i => { i with gvJoined := [15] }) { at0 [(GV_FILT_EN 15, 1), (GV_FILT_PORT 15, 3), (GV_FILT_STREAM 15, 31), (GV_SRCIP 15, 5), (STREAM_CFG_EN 31, 1), (STREAM_STATE_STATE 31, 1)] with eth := { base.eth with gv := [p] } }; let t : State := (gvStream f p false (freeCells (accountOf p.port 16) p.cells { s with eth := { s.eth with gv := l } })).2; s.eth.gv = p :: l ∧ intakeOn s = true ∧ (gvHeader p.payload).format = 3 ∧ (let r := freeCells (accountOf p.port 16) p.cells { s with eth := { s.eth with gv := l } }; intakeOn r = true ∧ gvFilter r p = some f ∧ f ∈ r.intake.gvJoined ∧ gvStream f p false r = (some n, t))) ∧
  (let p : GvPacket := ⟨3, 0, 5, 0, 0, 1, leBytes 32 (2 * 2 ^ 32), 0, 0⟩; let l : List GvPacket := []; let f : Nat := 15; let n : Nat := 31; let s : State := it (fun i => { i with gvJoined := [15] }) { at0 [(GV_FILT_EN 15, 1), (GV_FILT_PORT 15, 3), (GV_FILT_STREAM 15, 31), (GV_SRCIP 15, 5), (STREAM_CFG_EN 31, 1), (STREAM_STATE_STATE 31, 1)] with eth := { base.eth with gv := [p] } }; let t : State := (gvStream f p false (freeCells (accountOf p.port 16) p.cells { s with eth := { s.eth with gv := l } })).2; s.eth.gv = p :: l ∧ intakeOn s = true ∧ (gvHeader p.payload).format = 2 ∧ (let r := freeCells (accountOf p.port 16) p.cells { s with eth := { s.eth with gv := l } }; intakeOn r = true ∧ gvFilter r p = some f ∧ f ∈ r.intake.gvJoined ∧ gvStream f p false r = (some n, t))) ∧
  (let n : Nat := 31; let f : Frame := { frame0 with scan := some [0xFF, 0xD8, 0xFF, 0xC0, 0, 11, 8, 0, 1, 0, 64, 1, 1, 17, 0] }; let d : Nat × Nat × Nat := (64, 1, 1); let s : State := it (fun i => { i with closed := [f] }) (camera []); nextScan s n = some f ∧ Jpg.sof (f.scan.getD []).length ((f.scan.getD []).drop 2) = some d ∧ dimsOk s n d.1 d.2.1 = true ∧ (d.2.2 = 1 → f.fmt = 0) ∧ (d.2.2 = 3 → f.fmt = 5)) := by decide +kernel

theorem witness_SampleCommandsComplete_1 :
  (let n : Nat := 31; let f : Frame := frame0; let s : State := it (fun i => { i with closed := [f] }) (camera []); firstSeq (s.intake.closed.filter (·.stream == n)) = some f ∧ f.scan = none ∧ earlierOpen s f = false) ∧
  (let s : State := base; let w : Writer := img; let v : Nat := 0x17F; writeStatus s w.master 0x200038 = 0 ∧ bit v 8 = true ∧ s.intake.replays.length < 16) ∧
  (let r : Replay := ⟨31, 15, 7⟩; let l : List Replay := []; let e : CacheEntry := ⟨31, 0, frame0, []⟩; let s : State := it (fun i => { i with replays := [r], cache := [e] }) base; s.intake.replays = r :: l ∧ s.intake.prepTo ≤ 8 * s.mono ∧ s.intake.cache.find? (·.sid == r.sid) = some e) ∧
  (let r : Replay := ⟨31, 15, 7⟩; let l : List Replay := []; let s : State := it (fun i => { i with replays := [r] }) base; s.intake.replays = r :: l ∧ s.intake.prepTo ≤ 8 * s.mono ∧ s.intake.cache.find? (·.sid == r.sid) = none) ∧
  (let f : Frame := frame0; let l : List Frame := []; let s : State := it (fun i => { i with encoding := [f] }) base; s.intake.encoding = f :: l) := by decide +kernel

theorem witness_SampleCommandsComplete_2 :
  (let f : Frame := { frame0 with lines := [zeros 64] }; let l : List Frame := []; let s : State := it (fun i => { i with encoding := [f] }) (at0 [(CACHE_CFG_MIB, 1)]); s.intake.encoding = f :: l ∧ (encodeFrame { s with intake := { s.intake with encoding := l } } f).code.length ≤ s.rd CACHE_CFG_MIB * 2 ^ 20) ∧
  (let s : State := base; let w : Writer := img; let n : Nat := 31; let v : Nat := 0x11F3F; n < 32 ∧ writeStatus s w.master (0x209010 + 0x80 * n) = 0 ∧ bit v 16 = true) ∧
  (let b : Nat := 7; let c : Cci := ⟨7, 31, 0, [[0x20, 0, 0]], none⟩; let s : State := it (fun i => { i with cci := [c] }) base; s.intake.cci.find? (·.bus == b) = some c) ∧
  (let n : Nat := 31; let r : StatRec := ⟨0, 0, 0, 0⟩; let s : State := it (fun i => { i with stats := [(31, r)] }) base; s.intake.stats.find n = some r ∧ s.rdb (EXP_CFG_AE_EN n) = false) ∧
  (let n : Nat := 31; let r : StatRec := ⟨0, 1081344000, 12288000, 0⟩; let s : State := it (fun i => { i with stats := [(31, r)] }) (at0 [(EXP_CFG_AE_EN 31, 1), (EXPGEN 31, 0), (AE_ECUR 31, 80), (AE_TARGET_T16 31, 1760), (AE_TARGET_DB16 31, 80), (AE_ELIM_E_MIN 31, 1), (AE_ELIM_E_MAX 31, 1000)]); s.intake.stats.find n = some r ∧ s.rdb (EXP_CFG_AE_EN n) = true ∧ (let t := { s with intake := { s.intake with stats := s.intake.stats.erase n } }; let want := exposureWanted (t.rd (AE_TARGET_T16 n)) (t.rd (AE_TARGET_DB16 n)) (t.rd (AE_ECUR n)) r.sum r.pixels; qualifies t n r = true ∧ max (t.rd (AE_ELIM_E_MIN n)) ((t.rd (AE_ECUR n) + 1) / 2) ≤ want ∧ want ≤ min (t.rd (AE_ELIM_E_MAX n)) (2 * t.rd (AE_ECUR n)) ∧ want ≠ t.rd (AE_ECUR n))) := by decide +kernel

theorem witness_SampleCommandsComplete_3 :
  (let n : Nat := 31; let r : StatRec := ⟨0, 1081344000, 12288000, 0⟩; let s : State := it (fun i => { i with stats := [(31, r)] }) (at0 [(EXP_CFG_AE_EN 31, 1), (EXPGEN 31, 0), (AE_ECUR 31, 80), (AE_TARGET_T16 31, 1760), (AE_TARGET_DB16 31, 80), (AE_ELIM_E_MIN 31, 1), (AE_ELIM_E_MAX 31, 90)]); s.intake.stats.find n = some r ∧ s.rdb (EXP_CFG_AE_EN n) = true ∧ (let t := { s with intake := { s.intake with stats := s.intake.stats.erase n } }; let e := t.rd (AE_ECUR n); let want := exposureWanted (t.rd (AE_TARGET_T16 n)) (t.rd (AE_TARGET_DB16 n)) e r.sum r.pixels; let lo := max (t.rd (AE_ELIM_E_MIN n)) ((e + 1) / 2); let hi := min (t.rd (AE_ELIM_E_MAX n)) (2 * e); let new := if want < lo then lo else hi; qualifies t n r = true ∧ (want < lo ∨ hi < want) ∧ new ≠ e)) := by decide +kernel

theorem witness_MemoryCommandsComplete_1 :
  (let s : State := at0 [(MC_STATUS_STATE 5, 2)]; let c : Nat := 23; c < 24 ∧ mcRuns s (c / 4) = true ∧ c ∉ s.mc.hot) ∧
  (let s : State := atMono (10 ^ 6) (at0 [(MC_STATUS_STATE 5, 2), (MC_SHADOW_SHADOW_US 5, 1000)]); let m : Nat := 5; let c : Nat := 0; m < 6 ∧ c < 4 ∧ mcRuns s m = true ∧ (shadowNow s m c).2 ≤ 400 ∧ s.mc.shadow.get 0 (4 * m + c) ≠ (shadowNow s m c).1) ∧
  (let s : State := base; let w : Writer := img; let m : Nat := 5; let v : Nat := 1; m < 6 ∧ writeStatus s w.master (0x230044 + 0x10000 * m) = 0 ∧ bit v 0 = true) ∧
  (let s : State := { atMono (10 ^ 12) base with mc := { base.mc with retrainAt := [(5, 0)] } }; let m : Nat := 5; let t : Nat := 0; m < 6 ∧ s.mc.retrainAt.find m = some t ∧ t + twoMajors s ≤ s.mono) ∧
  (let s : State := at0 [(MC_STATUS_STATE 5, 2), (MC_CFG_GIB 0, 1)]; let m : Nat := 5; let v : Nat := 0; m < 6 ∧ mcRuns s m = true ∧ channelUnits s ≠ 0 ∧ inlineEcc s = false ∧ s.mc.patrol.get 0 m = v ∧ v + 1 < 4 * channelUnits s ∧ patrolDue s m v (4 * channelUnits s) ≤ s.mono) := by decide +kernel

theorem witness_MemoryCommandsComplete_2 :
  (let s : State := at0 [(MC_STATUS_STATE 5, 2), (MC_CFG_GIB 0, 1), (MC_CFG_IECC 0, 1)]; let m : Nat := 5; let v : Nat := 0; m < 6 ∧ mcRuns s m = true ∧ channelUnits s ≠ 0 ∧ inlineEcc s = true ∧ s.mc.patrol.get 0 m = v ∧ v + 1 < 4 * channelUnits s ∧ patrolDue s m v (4 * channelUnits s) ≤ s.mono) := by decide +kernel

theorem witness_FabricCommandsComplete_1 :
  (let s : State := base; let n : Nat := 23; let ring : Nat := 2; n < 24 ∧ ring < 3 ∧ s.rd (linkField n ring) ≠ 2) ∧
  (let p : Nat := 95; let tag : Nat := 255; let x : Piece := { init := 95, tgt := 24, oc := 2, kind := 0, tid := 0, addr := 0, len := 64, tag := 255, whole := 0, last := true, rt := false, start := 0 }; let s : State := { atMono (10 ^ 12) (at0 [(FAB_TO_CAP_VALID, 1)]) with fab := { base.fab with pieces := [x] } }; s.fab.pieces.find? (fun x => x.init == p && x.tag == tag && !x.arrived && !x.orphan) = some x ∧ x.start + s.rd (FAB_INIT_CFG_TO_US p) * 1000 ≤ s.mono ∧ s.rdb FAB_TO_CAP_VALID = true ∧ x.tgt ≠ 127) ∧
  (let s : State := { at0 [(FAB_TGT_CFG_AUTO_FENCE 95, 0)] with fab := { base.fab with notes := [95] } }; let pid : Nat := 95; let l : List Nat := []; s.fab.notes = pid :: l ∧ neverFenced pid = false ∧ s.rdb (FAB_TGT_CFG_AUTO_FENCE pid) = false) ∧
  (let s : State := base; let w : Writer := img; let k : Nat := 2; k < 3 ∧ writeStatus s w.master (0x220050 + 4 * k) = 0) ∧
  (let s : State := base; let w : Writer := img; let k : Nat := 2; k < 3 ∧ writeStatus s w.master (0x220040 + 4 * k) = 0) := by decide +kernel

theorem witness_FabricCommandsComplete_2 :
  (let s : State := base; let tgt : Nat := 95; tgt ∈ usedPids s) ∧
  (let p : Nat := 95; let tgt : Nat := 127; let oc : Nat := 3; let t : Nat := 0; let s : State := base; let l : List Nat := (freeTags s p).drop 1; freeTags s p = t :: l ∧ p ∈ usedPids s ∧ (tgt = 127 ∨ tgt ∈ usedPids s) ∧ oc < 4) := by decide +kernel

theorem witness_ProbeCommandsComplete :
  (let n : Nat := 23; n < 24) ∧
  (let s : State := atMono 1000 (at0 [(PRB_WIN_CFG_LEN_US, 1), (PRB_WIN_CFG_ALIGN, 0)]); s.rdb PRB_WIN_CFG_ALIGN = false ∧ s.rd PRB_WIN_CFG_LEN_US ≠ 0 ∧ s.rdb PRB_WIN_STAT_FROZEN = false ∧ s.mono / (s.rd PRB_WIN_CFG_LEN_US * 1000) ≠ s.prb.lastTick / (s.rd PRB_WIN_CFG_LEN_US * 1000)) ∧
  (let s : State := base; let w : Writer := img; writeStatus s w.master 0x228000 = 0) ∧
  (let s : State := atMono (2 ^ 31) base; s.mono / 2 ^ 31 % 2 ≠ s.prb.syncBit) ∧
  (let s : State := { base with prb := { base.prb with lost := [(23, 1)], fifo := [(23, List.replicate 62 0)] } }; let n : Nat := 23; s.prb.lost.get 0 n ≠ 0 ∧ (fifoAt s n).length ≤ 62) := by decide +kernel

theorem witness_QueueCommandsComplete_1 :
  (let s : State := at0 [(BOOT_STATUS_SEALED, 1), (Q_CFG_CLASS 1023, 1), (Q_ENG_ENG 1023, 1), (MC_CFG_GIB 0, 1)]; let w : Writer := img; let q : Nat := 1023; q < 1024 ∧ writeStatus s w.master (qCtlAddr q) = 0 ∧ s.rdb BOOT_STATUS_SEALED = true ∧ (s.rd (PAGE_OWN_OWNER (qCtlAddr q / 0x1000)) = 0x800 ∨ s.rd (PAGE_OWN_OWNER (qCtlAddr q / 0x1000)) = 0x801) ∧ bindError (s.answer 0 0) q false = 0) ∧
  (let s : State := at0 [(Q_STATE_STATE 1023, 1)]; let w : Writer := img; let q : Nat := 1023; q < 1024 ∧ writeStatus s w.master (qCtlAddr q) = 0 ∧ s.rdb (Q_CFG_PIN q) = false ∧ bound s q = true) ∧
  (let s : State := at0 [(Q_STATE_STATE 1023, 4)]; let w : Writer := img; let q : Nat := 1023; q < 1024 ∧ writeStatus s w.master (qCtlAddr q) = 0 ∧ s.rd (Q_STATE_STATE q) = 4 ∧ q ∉ s.drv.cqFailed) ∧
  (let s : State := at0 [(Q_STATE_STATE 1023, 2)]; let w : Writer := img; let q : Nat := 1023; let v : Nat := 16; q < 1024 ∧ writeStatus s w.master (sqDbAddr q) = 0 ∧ w.master ≠ 0x801 ∧ 0 < v ∧ v < 65536 ∧ bound s q = true ∧ backlog s q + v ≤ sqSize s q) ∧
  (let s : State := at0 [(Q_STATE_STATE 1023, 2), (Q_CQ_PTR_CQ_TAIL 1023, 16)]; let w : Writer := img; let q : Nat := 1023; let v : Nat := 16; q < 1024 ∧ writeStatus s w.master (cqDbAddr q) = 0 ∧ w.master ≠ 0x801 ∧ 0 < v ∧ v < 65536 ∧ bound s q = true ∧ (v : Int) ≤ unread s q) := by decide +kernel

theorem witness_QueueCommandsComplete_2 :
  (let s : State := at0 [(Q_STATE_STATE 1023, 2), (Q_SQ_PTR_TAIL 1023, 1)]; let q : Nat := 1023; s.rd (Q_STATE_STATE q) = 2 ∧ backlog s q ≠ 0 ∧ s.drv.heads.find q = none ∧ draining s = false ∧ unread s q + (flightsOf s q).length < cqSize s q ∧ (flightsOf s q).any (·.fetchErr) = false ∧ q ∉ s.drv.unbinding) ∧
  (let q : Nat := 1023; let f : Flight := flying 0 (cmd 0 0 []); let s : State := withFlight f (at0 [(Q_STATE_STATE 1023, 2), (MC_CFG_GIB 0, 1)]); nextCompletion s q = some f ∧ (writeCompletion q f s).drv.flights.length < s.drv.flights.length) ∧
  (let s : State := dr (fun d => { d with irqOldest := [(1023, 0)] }) (atMono 1000 (at0 [(Q_CTL_IRQ_TIME_US 1023, 1)])); let q : Nat := 1023; let t : Nat := 0; s.drv.irqOldest.find q = some t ∧ s.rd (Q_CTL_IRQ_TIME_US q) ≠ 0 ∧ t + s.rd (Q_CTL_IRQ_TIME_US q) * 1000 ≤ s.mono) := by decide +kernel

theorem witness_ControlCommandsComplete_1 :
  (let c : Bytes := cmd 0 0 []; let q : Nat := 1023; let s : State := headed 0 c []; headIs s q 0 0x00 = some c) ∧
  (let c : Bytes := cmd 0 4 [(8, 4095), (12, 1)]; let q : Nat := 1023; let s : State := headed 0 c []; headIs s q 0 0x04 = some c) ∧
  (let c : Bytes := cmd 0 6 [(8, 4095)]; let q : Nat := 1023; let s : State := headed 0 c []; headIs s q 0 0x06 = some c) ∧
  (let c : Bytes := cmd 0 5 [(8, 4095)]; let q : Nat := 1023; let s : State := headed 0 c []; headIs s q 0 0x05 = some c ∧ u64 c 16 ≤ (eventAt s (u16 c 8)).value) ∧
  (let c : Bytes := cmd 0 5 [(8, 4095), (16, 1)]; let q : Nat := 1023; let s : State := headed 0 c []; headIs s q 0 0x05 = some c ∧ (eventAt s (u16 c 8)).value < u64 c 16) := by decide +kernel

theorem witness_ControlCommandsComplete_2 :
  (let q : Nat := 1023; let f : Flight := flying 1 (cmd 0 0x05 [(12, 1), (16, 1)]); let s : State := atMono 1000 (withFlight f base); (s.drv.flights.find? fun f => f.q == q && f.wait == 1) = some f ∧ u32 f.cmd 12 ≠ 0 ∧ f.startMono + u32 f.cmd 12 * 1000 ≤ s.mono ∧ waitSatisfied s (u16 f.cmd 8) f = false) := by decide +kernel

theorem witness_RotationCommandsComplete_1 :
  (let s : State := at0 [(BOOT_STATUS_SEALED, 1), (ROT_MAJOR_MAJOR, 1)]; mayRotate s = true ∧ s.rdb MSYNC_CFG_EN = false) ∧
  (let s : State := rotState (entry 0 1) []; rotating s = true ∧ s.drv.rot.first + s.drv.rot.passed * majorNs s ≤ s.mono) ∧
  (let s : State := rotState (entry 0 1) []; let e : Nat := 0; comesUp s e = true ∧ entryKind (rotEntry s e) = 0) ∧
  (let s : State := rotState (entry (2 ^ 17) 1) []; let e : Nat := 0; comesUp s e = true ∧ entryKind (rotEntry s e) = 1 ∧ s.rd (BG_STATUS_LEVEL (entryBg (rotEntry s e))) = 0) ∧
  (let s : State := rotState (entry (2 ^ 17 + 7 * 2 ^ 19) 1) [(BG_STATUS_LEVEL 0, 1)]; let e : Nat := 0; comesUp s e = true ∧ entryKind (rotEntry s e) = 1 ∧ s.rd (BG_STATUS_LEVEL (entryBg (rotEntry s e))) ≠ 0 ∧ bit (s.rd ROT_STATUS_ARMED) (entryGroup (rotEntry s e)) = false) := by decide +kernel

theorem witness_RotationCommandsComplete_2 :
  (let s : State := dr (fun d => { d with rot := { d.rot with armed := [0] } }) (rotState (entry (2 ^ 18) 1) []); let e : Nat := 0; comesUp s e = true ∧ entryKind (rotEntry s e) = 2 ∧ e ∈ s.drv.rot.armed) ∧
  (let s : State := rotState (entry (2 ^ 17 + 2 ^ 18) 1) []; let e : Nat := 0; comesUp s e = true ∧ entryKind (rotEntry s e) = 3) ∧
  (let e : Nat := 0; let k : Claim := ⟨0, 0, 0, 1, 1023, 0, false⟩; let s : State := dr (fun d => { d with rot := { d.rot with claims := [k] } }) base; (s.drv.rot.claims.find? fun k => k.entry == e && !k.held && decide (k.ends ≤ s.mono)) = some k ∧ claimRuns s k = false) := by decide +kernel

theorem witness_ServingCommandsComplete_1 :
  (let s : State := headed 1 (cmd 1 0x09 [(16, 64)]) [(Q_ENG_ENG 1023, 1), (SRV_LIMIT_US 0, 65535), (SRV_THROTTLE_DUTY, 256)]; let c : Nat := 0; let q : Nat := 1023; freeForServing s c = true ∧ dutyAllows s = true ∧ chosen s c = some q ∧ q < 1024) ∧
  (let c : Nat := 12; let f : Flight := { flying 0 (cmd 3 1 []) with unit := 12 }; let s : State := atMono (10 ^ 9) (withFlight f base); (s.drv.flights.find? fun f => f.unit == c && !s.rdb (Q_CFG_RT f.q) && !f.late) = some f ∧ c < 13 ∧ f.startMono + ((opCheck s f.q f.cmd).getD {}).durNs < s.mono) ∧
  (let s : State := { at0 [(FLK_CFG_EN 0, 1), (FLK_CFG_ENG 0, 1), (SRV_THROTTLE_DUTY, 256), (FLK_LIST_SEG_US 0, 1)] with drv := { base.drv with seqs := [⟨0, 0, 1023, 0, 0⟩] }, dram := [(0, 2)] }; let f : Nat := 0; let c : Nat := 0; freeForServing s c = true ∧ dutyAllows s = true ∧ chosen s c = some (1024 + f) ∧ pausedOn s f c = none) ∧
  (let c : Nat := 0; let t : EngineStep := step0; let s : State := dr (fun d => { d with steps := [t] }) base; stepOn s c = some t ∧ t.status = 0 ∧ s.rd (FLK_LIST_COUNT t.flock) ≤ t.next) ∧
  (let c : Nat := 0; let t : EngineStep := { step0 with status := 6 }; let s : State := dr (fun d => { d with steps := [t] }) base; stepOn s c = some t ∧ t.status ≠ 0) := by decide +kernel

theorem witness_ServingCommandsComplete_2 :
  (let i : Nat := 0; let r : SeqRef := ⟨0, 0, 1023, 0, 0⟩; let s : State := { atMono (10 ^ 12) base with drv := { base.drv with seqs := [r] }, dram := [(0, 1)] }; s.drv.seqs.find? (·.idx == i) = some r ∧ seqState s i = 1 ∧ s.rdb (Q_CFG_DET r.q) = false ∧ r.queuedAt + s.rd (FLK_ADMIT_ADMIT_MS r.flock) * 1000000 ≤ s.mono) ∧
  (let q : Nat := 1023; let c : Bytes := cmd 1 0x48 [(8, 31), (20, 1)]; let s : State := headed 1 c [(FLK_CFG_EN 31, 1), (SRV_LIMIT_US 0, 65535)]; headIs s q 1 0x48 = some c ∧ s.drv.seqs.any (·.idx == (seqRange s (s.rd (Q_CFG_TID q))).1 + u16 c 10) = false) := by decide +kernel

theorem witness_EngineCommandsComplete_1 :
  (let q : Nat := 1023; let c : Nat := 0; let b : Bytes := cmd 1 1 [(16, 0x1000), (24, 0x2000), (32, 0x3000), (40, 1), (44, 1), (48, 1), (61, 4)]; let x : Ctx := ⟨1023, 0, 0⟩; let s : State := served 1 0 b; engineCmd s q c 1 0x01 = some (x, b)) ∧
  (let q : Nat := 1023; let c : Nat := 0; let b : Bytes := cmd 1 2 [(16, 0x1000), (24, 0x2000), (32, 0x3000), (40, 1), (42, 1), (44, 1), (46, 1), (48, 0x11), (49, 0x11), (51, 0x11), (52, 1), (59, 4)]; let x : Ctx := ⟨1023, 0, 0⟩; let s : State := served 1 0 b; engineCmd s q c 1 0x02 = some (x, b)) ∧
  (let q : Nat := 1023; let c : Nat := 0; let b : Bytes := cmd 1 3 [(16, 0x1000), (24, 0x2000), (32, 1), (36, 1), (45, 4)]; let x : Ctx := ⟨1023, 0, 0⟩; let s : State := served 1 0 b; engineCmd s q c 1 0x03 = some (x, b)) ∧
  (let q : Nat := 1023; let c : Nat := 0; let b : Bytes := cmd 1 8 [(16, 0x1000), (24, 1), (28, 64), (32, 64), (36, 64)]; let x : Ctx := ⟨1023, 0, 0⟩; let s : State := served 1 0 b; engineCmd s q c 1 0x08 = some (x, b)) ∧
  (let q : Nat := 1023; let c : Nat := 0; let b : Bytes := cmd 1 9 [(16, 64)]; let x : Ctx := ⟨1023, 0, 0⟩; let s : State := served 1 0 b; engineCmd s q c 1 0x09 = some (x, b)) := by decide +kernel

theorem witness_EngineCommandsComplete_2 :
  (let q : Nat := 1023; let c : Nat := 0; let b : Bytes := cmd 1 10 [(16, 1)]; let x : Ctx := ⟨1023, 0, 0⟩; let s : State := served 1 0 b; engineCmd s q c 1 0x0A = some (x, b)) ∧
  (let q : Nat := 1023; let c : Nat := 0; let b : Bytes := cmd 1 32 [(16, 0x1000), (24, 0), (32, 1), (36, 1), (44, 0x20), (45, 27), (60, 0)]; let x : Ctx := ⟨1023, 0, 0⟩; let s : State := served 1 0 b; engineCmd s q c 1 0x20 = some (x, b)) ∧
  (let q : Nat := 1023; let c : Nat := 0; let b : Bytes := cmd 1 33 [(16, 0x1000), (24, 0x3000), (32, 1), (36, 1), (44, 0x20), (45, 27), (60, 0)]; let x : Ctx := ⟨1023, 0, 0⟩; let s : State := served 1 0 b; engineCmd s q c 1 0x21 = some (x, b)) ∧
  (let q : Nat := 1023; let c : Nat := 0; let b : Bytes := cmd 1 34 [(16, 0x1000), (24, 0), (32, 1), (36, 1), (44, 0x20), (45, 27), (60, 0)]; let x : Ctx := ⟨1023, 0, 0⟩; let s : State := served 1 0 b; engineCmd s q c 1 0x22 = some (x, b)) ∧
  (let q : Nat := 1023; let c : Nat := 0; let b : Bytes := cmd 1 35 [(16, 0x1000), (24, 0x3000), (32, 1), (36, 1), (44, 0x20), (45, 27), (60, 0x3F800000)]; let x : Ctx := ⟨1023, 0, 0⟩; let s : State := served 1 0 b; engineCmd s q c 1 0x23 = some (x, b)) := by decide +kernel

theorem witness_EngineCommandsComplete_3 :
  (let q : Nat := 1023; let c : Nat := 0; let b : Bytes := cmd 1 36 [(16, 0x1000), (24, 0x3000), (32, 1), (36, 1), (44, 0x20), (45, 27), (60, 0x3F800000)]; let x : Ctx := ⟨1023, 0, 0⟩; let s : State := served 1 0 b; engineCmd s q c 1 0x24 = some (x, b)) ∧
  (let q : Nat := 1023; let c : Nat := 0; let b : Bytes := cmd 1 37 [(16, 0x1000), (24, 0), (32, 1), (36, 1), (44, 0x20), (45, 27), (60, 0x3F800000)]; let x : Ctx := ⟨1023, 0, 0⟩; let s : State := served 1 0 b; engineCmd s q c 1 0x25 = some (x, b)) ∧
  (let q : Nat := 1023; let c : Nat := 0; let b : Bytes := cmd 1 64 [(16, 0x1000), (24, 0x2000), (44, 1), (47, 1), (48, 1), (52, 8), (56, 0x3F800000), (60, 1)]; let x : Ctx := ⟨1023, 0, 0⟩; let s : State := served 1 0 b; engineCmd s q c 1 0x40 = some (x, b)) ∧
  (let q : Nat := 1023; let c : Nat := 0; let b : Bytes := cmd 1 65 [(16, 0x1000), (24, 0x2000), (36, 1), (39, 1)]; let x : Ctx := ⟨1023, 0, 0⟩; let s : State := served 1 0 b; engineCmd s q c 1 0x41 = some (x, b)) ∧
  (let q : Nat := 1024; let c : Nat := 0; let b : Bytes := cmd 1 0x44 [(8, 0x1000)]; let x : Ctx := ⟨1024, 0, 0⟩; let s : State := stepping step0 b; engineCmd s q c 1 0x44 = some (x, b)) := by decide +kernel

theorem witness_EngineCommandsComplete_4 :
  (let s : State := base; let e : Nat := 7; e < engines s ∧ columnReady s e = true) ∧
  (let s : State := base; let e : Nat := 7; let w : Nat := 917503; e < engines s ∧ columnReady s e = true ∧ w < 917504) := by decide +kernel

theorem witness_VectorCommandsComplete_1 :
  (let q : Nat := 1023; let c : Nat := 8; let b : Bytes := cmd 2 1 [(16, 0), (24, 0x2000), (32, 0x8000), (40, 8), (44, 8), (49, 1)]; let x : Ctx := ⟨1023, 8, 0⟩; let s : State := served 2 8 b; engineCmd s q c 2 0x01 = some (x, b)) ∧
  (let q : Nat := 1023; let c : Nat := 8; let b : Bytes := cmd 2 2 [(16, 0), (24, 0x2000), (32, 0x8000), (40, 8), (44, 8), (49, 2)]; let x : Ctx := ⟨1023, 8, 0⟩; let s : State := served 2 8 b; engineCmd s q c 2 0x02 = some (x, b)) ∧
  (let q : Nat := 1023; let c : Nat := 8; let b : Bytes := cmd 2 3 [(16, 0x1000), (24, 0x2000), (32, 0x8000), (40, 8), (44, 8), (49, 1)]; let x : Ctx := ⟨1023, 8, 0⟩; let s : State := served 2 8 b; engineCmd s q c 2 0x03 = some (x, b)) ∧
  (let q : Nat := 1023; let c : Nat := 8; let b : Bytes := cmd 2 16 [(16, 0), (24, 0x2000), (32, 0x8000), (40, 8), (44, 8), (49, 2)]; let x : Ctx := ⟨1023, 8, 0⟩; let s : State := served 2 8 b; engineCmd s q c 2 0x10 = some (x, b)) ∧
  (let q : Nat := 1023; let c : Nat := 8; let b : Bytes := cmd 2 17 [(16, 0), (24, 0x2000), (32, 0x8000), (40, 3), (44, 0), (49, 1)]; let x : Ctx := ⟨1023, 8, 0⟩; let s : State := served 2 8 b; engineCmd s q c 2 0x11 = some (x, b)) := by decide +kernel

theorem witness_VectorCommandsComplete_2 :
  (let q : Nat := 1023; let c : Nat := 8; let b : Bytes := cmd 2 18 [(16, 0), (24, 0x2000), (32, 0x8000), (40, 3), (44, 0), (49, 1)]; let x : Ctx := ⟨1023, 8, 0⟩; let s : State := served 2 8 b; engineCmd s q c 2 0x12 = some (x, b)) ∧
  (let q : Nat := 1023; let c : Nat := 8; let b : Bytes := cmd 2 32 [(16, 0), (24, 0x2000), (32, 0x8000), (40, 1), (44, 0), (49, 1)]; let x : Ctx := ⟨1023, 8, 0⟩; let s : State := served 2 8 b; engineCmd s q c 2 0x20 = some (x, b)) ∧
  (let q : Nat := 1023; let c : Nat := 8; let b : Bytes := cmd 2 33 [(16, 0), (24, 0x2000), (32, 0x8000), (40, 1), (44, 0), (49, 1)]; let x : Ctx := ⟨1023, 8, 0⟩; let s : State := served 2 8 b; engineCmd s q c 2 0x21 = some (x, b)) ∧
  (let q : Nat := 1023; let c : Nat := 8; let b : Bytes := cmd 2 34 [(16, 0), (24, 0x2000), (32, 0x8000), (40, 1), (44, 1), (49, 1)]; let x : Ctx := ⟨1023, 8, 0⟩; let s : State := served 2 8 b; engineCmd s q c 2 0x22 = some (x, b)) ∧
  (let q : Nat := 1023; let c : Nat := 8; let b : Bytes := cmd 2 48 [(16, 0), (24, 0x2000), (32, 0x8000), (40, 1), (44, 0), (49, 3)]; let x : Ctx := ⟨1023, 8, 0⟩; let s : State := served 2 8 b; engineCmd s q c 2 0x30 = some (x, b)) := by decide +kernel

theorem witness_VectorCommandsComplete_3 :
  (let q : Nat := 1023; let c : Nat := 8; let b : Bytes := cmd 2 49 [(16, 0), (24, 0x2000), (32, 0x8000), (40, 1), (44, 0), (49, 3)]; let x : Ctx := ⟨1023, 8, 0⟩; let s : State := served 2 8 b; engineCmd s q c 2 0x31 = some (x, b)) ∧
  (let q : Nat := 1023; let c : Nat := 8; let b : Bytes := cmd 2 64 [(16, 0x1000), (24, 0x2000), (32, 0x8000), (40, 1), (44, 0), (49, 1)]; let x : Ctx := ⟨1023, 8, 0⟩; let s : State := served 2 8 b; engineCmd s q c 2 0x40 = some (x, b)) ∧
  (let q : Nat := 1023; let c : Nat := 8; let b : Bytes := cmd 2 65 [(16, 0), (24, 0x2000), (32, 0x8000), (40, 1), (44, 0), (49, 1)]; let x : Ctx := ⟨1023, 8, 0⟩; let s : State := served 2 8 b; engineCmd s q c 2 0x41 = some (x, b)) ∧
  (let q : Nat := 1023; let c : Nat := 8; let b : Bytes := cmd 2 66 [(16, 0), (24, 0x2000), (32, 0), (40, 2), (44, 1), (49, 0)]; let x : Ctx := ⟨1023, 8, 0⟩; let s : State := served 2 8 b; engineCmd s q c 2 0x42 = some (x, b)) ∧
  (let s : State := base; let v : Nat := 3; let w : Nat := 131071; v < 4 ∧ columnReady s (8 + v) = true ∧ w < 131072) := by decide +kernel

theorem witness_GleanerCommandsComplete_1 :
  (let q : Nat := 1023; let b : Bytes := cmd 3 0x01 [(16, 0x1000), (24, 1), (26, 2), (28, 1), (32, 1), (36, 0)]; let x : Ctx := ⟨1023, 12, 0⟩; let s : State := served 3 12 b; engineCmd s q 12 3 0x01 = some (x, b) ∧ tablesReady s b = true) ∧
  (let q : Nat := 1023; let n : Nat := 1; let b : Bytes := cmd 3 0x01 [(16, 0x1000), (24, 1), (26, 2), (28, 1), (32, 1), (36, 65535)]; let x : Ctx := ⟨1023, 12, 0⟩; let s : State := served 3 12 b; engineCmd s q 12 3 0x01 = some (x, b) ∧ tablesReady s b = true ∧ (searchOf b).deadline ≠ 0 ∧ (searchOf b).nq = 1 ∧ n < (searchOf b).probe) ∧
  (let s : State := { base with gl := { base.gl with loading := [(2, 1)] } }; let x : Nat := 2; let k : Nat := 1; (x = 1 ∨ x = 2) ∧ s.gl.loading.find? (·.1 == x) = some (x, k) ∧ k ≠ 0) ∧
  (let s : State := { base with gl := { base.gl with loading := [(2, 0)] } }; let x : Nat := 2; s.gl.loading.contains (x, 0) = true) ∧
  (let s : State := base; let w : Writer := img; let v : Nat := 0x101; writeStatus s w.master 0x210028 = 0 ∧ bit v 8 = true ∧ s.gl.loading = [] ∧ s.gl.active ≠ 1 ∧ slotUsed ((s.answer 0 0).wr GL_LOAD_SLOT v) 1 = false ∧ ((s.answer 0 0).wr GL_LOAD_SLOT v).rd GL_LOAD_SLOT = 1) := by decide +kernel

theorem witness_GleanerCommandsComplete_2 :
  (let s : State := at0 [(slotValid 1, 1)]; let w : Writer := img; let v : Nat := 0x101; writeStatus s w.master 0x21002c = 0 ∧ bit v 8 = true ∧ bit v 9 = false ∧ s.gl.active = 0 ∧ ((s.answer 0 0).wr GL_SWAP_TGT v).rd GL_SWAP_TGT = 1 ∧ ((s.answer 0 0).wr GL_SWAP_TGT v).rdb (slotValid 1) = true) := by decide +kernel

theorem witness_SafetyCommandsComplete_1 :
  (let q : Nat := 1023; let c : Bytes := cmd 4 0x01 [(1, 0x40)]; let s : State := safeRecord (headed 4 c []); headIs s q 4 0x01 = some c) ∧
  (let q : Nat := 1023; let c : Bytes := cmd 4 0x02 []; let s : State := safeRecord (headed 4 c []); headIs s q 4 0x02 = some c) ∧
  (let s : State := base; let w : Writer := img; writeStatus s w.master 0x30008 = 0) ∧
  (let s : State := { at0 [(SF_STATUS_ARMED, 1), (SF_OUT_CFG_HALF_US, 1)] with safety := { base.safety with edgeAt := some 0 }, time := { base.time with mono := 1000 * 65536 } }; armed s = true ∧ halfPassed s = true ∧ s.safety.selfMissed = 0 ∧ s.rd DC_SELF_DIFF = 0) ∧
  (let s : State := { at0 [(SF_OUT_CFG_FB_EN, 1)] with safety := { base.safety with edgeAt := some 0 }, time := { base.time with mono := 101 * 65536 } }; s.rdb SF_OUT_CFG_FB_EN = true ∧ edgeNear s = false) := by decide +kernel

theorem witness_SafetyCommandsComplete_2 :
  (let s : State := { at0 [(SF_OUT_CFG_FB_EN, 1)] with safety := { base.safety with fbRun := 3 } }; s.rdb SF_OUT_CFG_FB_EN = true ∧ edgeNear s = false ∧ s.safety.fbRun = 3) := by decide +kernel

theorem witness_ShepherdCommandsComplete_1 :
  (let q : Nat := 1023; let i : Instance := { ref := 0, left := 1 }; let s : State := { atMono (10 ^ 12) (tasks (task 1 0) base) with shp := { base.shp with inst := [(1023, i)] } }; instAt s q = some i ∧ i.started = false ∧ i.ref + limitNs s q 8 i < s.mono ∧ 0x10 ∉ i.raised) ∧
  (let q : Nat := 1023; let i : Instance := { ref := 0, left := 1 }; let s : State := { atMono (10 ^ 12) (tasks (task 1 0) base) with shp := { base.shp with inst := [(1023, i)] } }; instAt s q = some i ∧ i.ref + limitNs s q 12 i < s.mono ∧ 0x11 ∉ i.raised) ∧
  (let q : Nat := 1023; let i : Instance := { ref := 0, left := 1, busy := 1001 }; let s : State := { atMono (10 ^ 12) (tasks (task 1 0) base) with shp := { base.shp with inst := [(1023, i)] } }; let e : Bytes := task 1 0; instAt s q = some i ∧ shepEntry s q = some e ∧ u32 e 16 ≠ 0 ∧ u32 e 16 * 1000 < busyNs s i ∧ 0x12 ∉ i.raised) ∧
  (let s : State := tasks (leBytes 2 1023 ++ [2] ++ zeros 29) (at0 [(SHP_STATUS_SUPERVISING, 1), (PAGE_OWN_OWNER 0x38, 5)]); let w : Writer := ⟨5, 1023⟩; let e : Bytes := leBytes 2 1023 ++ [2] ++ zeros 29; writeStatus s w.master 0x38010 = 0 ∧ taskOf s w.qid 1 = some e ∧ w.master < 0x400 ∧ supervising s = true ∧ u32 e 20 = 0 ∧ u8 e 5 = 0) ∧
  (let s : State := { atMono (10 ^ 12) (tasks (task 2 1) (at0 [(SHP_STATUS_SUPERVISING, 1)])) with shp := { base.shp with hbFrom := [(1023, 0)] } }; let q : Nat := 1023; let t : Nat := 0; let e : Bytes := task 2 1; s.shp.hbFrom.find q = some t ∧ taskOf s q 1 = some e ∧ supervising s = true ∧ t + u32 e 24 * 1000 < s.mono) := by decide +kernel

theorem witness_ShepherdCommandsComplete_2 :
  (let s : State := at0 [(SHP_INJ_CFG_EN, 1)]; let w : Writer := img; let v : Nat := 0x96080022; writeStatus s w.master 0x38034 = 0 ∧ bit v 18 = false ∧ injectable s v = true ∧ knownCode (bits v 0 8) = true) ∧
  (let s : State := tasks (task 1 0) (at0 [(SHP_INJ_CFG_EN, 1)]); let w : Writer := img; let v : Nat := 0x960FFF00; writeStatus s w.master 0x38034 = 0 ∧ bit v 18 = true ∧ injectable s v = true ∧ (taskOf s (bits v 8 10) 0).isSome = true ∧ bits v 8 10 ∉ s.shp.inject) := by decide +kernel

theorem witness_MaintenanceCommandsComplete_1 :
  (let c : Bytes := cmd 6 1 []; let q : Nat := 1023; let s : State := headed 6 c [(SRV_LIMIT_US 0, 65535)]; headIs s q 6 0x01 = some c ∧ mntPending s < 64) ∧
  (let c : Bytes := cmd 6 2 [(10, 7167), (12, 1)]; let q : Nat := 1023; let s : State := headed 6 c []; headIs s q 6 0x02 = some c ∧ mntPending s < 64) ∧
  (let c : Bytes := cmd 6 3 [(8, 0x50D)]; let q : Nat := 1023; let s : State := headed 6 c []; headIs s q 6 0x03 = some c ∧ mntPending s < 64) ∧
  (let q : Nat := 1023; let f : Flight := flying 4 (cmd 6 1 []); let s : State := withFlight f (atMono 80000 (at0 [(ROT_MAJOR_MAJOR, 4)])); (s.drv.flights.find? fun f => f.q == q && f.wait == 4) = some f ∧ f.startMono + 2 * majorNs s ≤ s.mono ∧ takenNow s f = false ∧ cmdForce f.cmd = false) ∧
  (let q : Nat := 1023; let f : Flight := flying 4 (cmd 6 1 [(2, 1)]); let s : State := withFlight f (atMono 80000 (at0 [(ROT_MAJOR_MAJOR, 4)])); (s.drv.flights.find? fun f => f.q == q && f.wait == 4) = some f ∧ f.startMono + 2 * majorNs s ≤ s.mono ∧ takenNow s f = false ∧ cmdForce f.cmd = true) := by decide +kernel

theorem witness_MaintenanceCommandsComplete_2 :
  (let q : Nat := 1023; let m : MaintRun := { req := 1023, claim := 4096, col := 8 }; let s : State := dr (fun d => { d with maint := [m] }) base; (s.drv.maint.find? fun m => m.req == q && m.claim == 4096 && !m.running) = some m ∧ 8 ≤ m.col ∧ columnBusy s m.col = false) ∧
  (let r : Nat := 1023; let m : MaintRun := { req := 1023, claim := 4096, col := 12, running := true }; let f : Flight := flying 5 (cmd 6 1 [(8, 12)]); let s : State := dr (fun d => { d with maint := [m], flights := [f] }) base; (s.drv.maint.find? fun m => m.req == r && m.running) = some m ∧ r < 1024 ∧ m.col < 13 ∧ (s.drv.flights.find? fun f => f.q == m.req && f.idx == m.idx) = some f ∧ m.claim = 4096) := by decide +kernel

theorem witness_MsyncCommandsComplete_1 :
  (let s : State := sync [(BOOT_STATUS_SEALED, 1), (ROT_MAJOR_MAJOR, 4)] 0 false; mayRotate s = true ∧ inGroup s = true ∧ s.msync.atPoint = false ∧ s.rd MSYNC_STATUS_STATE ≠ 6) ∧
  (let s : State := sync [(MSYNC_STATUS_STATE, 1)] 0 true; inGroup s = true ∧ leads s = true ∧ s.msync.atPoint = true ∧ s.rd MSYNC_STATUS_STATE = 1) ∧
  (let s : State := atMono 5 (sync [(MSYNC_STATUS_STATE, 2)] 15 true); let ago : Nat := 5; inGroup s = true ∧ leads s = false ∧ s.msync.atPoint = true ∧ s.rd MSYNC_STATUS_STATE = 2 ∧ s.msync.point + ago ≤ s.mono) ∧
  (let s : State := atMono (10 ^ 12) (sync [(MSYNC_CFG_ALONE, 0)] 15 true); inGroup s = true ∧ s.msync.atPoint = true ∧ s.rd MSYNC_STATUS_STATE ≤ 2 ∧ s.msync.point + s.rd MSYNC_CFG2_WAIT_MS * 1000000 ≤ s.mono ∧ s.rdb MSYNC_CFG_ALONE = false) ∧
  (let s : State := at0 [(MSYNC_STATUS_STATE, 6)]; let w : Writer := img; let v : Nat := 1; writeStatus s w.master 0x3B0024 = 0 ∧ bit v 0 = true ∧ s.rd MSYNC_STATUS_STATE = 6) := by decide +kernel

theorem witness_MsyncCommandsComplete_2 :
  (let s : State := dr (fun d => { d with rot := { d.rot with passed := 1 } }) (sync [(MSYNC_STATUS_STATE, 3), (ROT_STATUS_RUN, 1), (MSYNC_CFG2_CHECK_CYCLES, 1)] 0 false); inGroup s = true ∧ leads s = true ∧ s.rd MSYNC_STATUS_STATE = 3 ∧ rotating s = true ∧ s.rd MSYNC_CFG2_CHECK_CYCLES ≠ 0 ∧ s.drv.rot.passed ≠ 0 ∧ s.drv.rot.passed % s.rd MSYNC_CFG2_CHECK_CYCLES = 0 ∧ s.msync.marked ≠ s.drv.rot.passed) ∧
  (let s : State := sync [(MSYNC_STATUS_STATE, 4)] 15 false; inGroup s = true ∧ leads s = false ∧ s.rd MSYNC_STATUS_STATE = 4) ∧
  (let s : State := dr (fun d => { d with rot := { d.rot with passed := 2 } }) (atMono (10 ^ 12) (sync [(MSYNC_STATUS_STATE, 3), (ROT_STATUS_RUN, 1), (MSYNC_CFG2_CHECK_CYCLES, 1)] 15 false)); inGroup s = true ∧ leads s = false ∧ s.rd MSYNC_STATUS_STATE = 3 ∧ rotating s = true ∧ s.rd MSYNC_CFG2_CHECK_CYCLES = 1 ∧ 1 < s.drv.rot.passed ∧ s.msync.marked < s.drv.rot.passed - 1 ∧ s.drv.rot.first + (s.drv.rot.passed - 1) * majorNs s + majorNs s / 4 < s.mono) ∧
  (let s : State := sync [] 15 false; inGroup s = true ∧ leads s = false) := by decide +kernel

theorem witness_CanReceiveCommandsComplete_1 :
  (let s : State := at0 [(CAN_STATUS_STATE 7, 3)]; let n : Nat := 7; canJoined s n = true) ∧
  (let s : State := at0 [(CAN_STATUS_STATE 7, 2)]; let n : Nat := 7; let k : Nat := 6; canJoined s n = true ∧ k ≠ 7) ∧
  (let s : State := at0 [(OBJ_EN 2047, 1), (OBJ_OWNER 2047, 7)]; let w : Writer := img; let n : Nat := 7; let o : Nat := 2047; writeStatus s w.master (0x340400 + 0x1000 * n) = 0 ∧ (let t := setMasterIdx w.master (0x340400 + 0x1000 * n) o (s.answer 0 0); objectOk t n o 0 = true)) ∧
  (let s : State := at0 [(CAN_FIFO_STAT_LEVEL 7, 1)]; let w : Writer := img; let n : Nat := 7; writeStatus s w.master (0x340400 + 0x1000 * n) = 0 ∧ s.rd (CAN_FIFO_STAT_LEVEL n) ≠ 0) ∧
  (let q : Nat := 1023; let c : Bytes := cmd 5 0x01 [(8, 7), (10, 2047)]; let s : State := headed 5 c [(CAN_CTL_EN 7, 1), (OBJ_EN 2047, 1), (OBJ_OWNER 2047, 7), (OBJ_DIR 2047, 1)]; headIs s q 5 0x01 = some c ∧ s.rdb (OBJ_PEND (u16 c 10 % 2048)) = false) := by decide +kernel

theorem witness_CanReceiveCommandsComplete_2 :
  (let c : Bytes := cmd 5 2 [(10, 2047), (12, 512)]; let q : Nat := 1023; let s : State := headed 5 c []; headIs s q 5 0x02 = some c) := by decide +kernel

theorem witness_CanSendCommandsComplete_1 :
  (let n : Nat := 7; let r : CanReq := canReq; let s : State := { at0 [(CAN_CTL_EN 7, 1), (CAN_STATUS_STATE 7, 2)] with can := { base.can with reqs := [r] } }; canMayStart s n = true ∧ bestReq s (s.can.reqs.filter (reqReady s n)) = some r ∧ r.motor = none) ∧
  (let n : Nat := 7; let r : CanReq := canReq; let w : CanWire := ⟨2047, 5, none⟩; let s : State := { at0 [] with can := { base.can with reqs := [r], wire := [(7, w)] } }; s.can.wire.find n = some w ∧ (let u := (measureDelay n w.obj { s with can := { s.can with wire := s.can.wire.erase n } }).inc (CAN_TXOK n); let t := setErrors n (s.rd (CAN_ERRCNT_TEC n) - 1) (s.rd (CAN_ERRCNT_REC n)) u; t.can.reqs.find? (fun r => r.ctrl == n && r.obj == w.obj) = some r) ∧ r.motor = none ∧ r.rank ≠ 2) ∧
  (let n : Nat := 7; let w : CanWire := ⟨2047, 5, none⟩; let s : State := { at0 [] with can := { base.can with wire := [(7, w)] } }; s.can.wire.find n = some w) ∧
  (let o : Nat := 2047; let c : Nat := 0; let r : CanReq := { canReq with close := some 0 }; let s : State := atMono 1 ({ at0 [] with can := { base.can with reqs := [r] } }); s.can.reqs.find? (·.obj == o) = some r ∧ r.close = some c ∧ c < s.mono ∧ s.can.wire.find r.ctrl = none) ∧
  (let s : State := at0 [(CAN_STATUS_STATE 7, 4)]; let w : Writer := img; let n : Nat := 7; writeStatus s w.master (0x340000 + 0x1000 * n) = 0 ∧ s.rd (CAN_STATUS_STATE n) = 4) := by decide +kernel

theorem witness_CanSendCommandsComplete_2 :
  (let s : State := at0 [(CAN_STATUS_STATE 7, 5)]; let n : Nat := 7; s.rd (CAN_STATUS_STATE n) = 5) ∧
  (let s : State := at0 [(CAN_STATUS_STATE 7, 1), (CAN_CTL_EN 7, 1)]; let n : Nat := 7; s.rd (CAN_STATUS_STATE n) = 1 ∧ s.rdb (CAN_CTL_EN n) = true) ∧
  (let s : State := at0 [(CAN_STATUS_STATE 7, 2), (CAN_CTL_SLEEP 7, 1)]; let n : Nat := 7; s.rdb (CAN_CTL_SLEEP n) = true ∧ s.rd (CAN_STATUS_STATE n) ≠ 0 ∧ s.can.wire.find n = none) ∧
  (let s : State := at0 [(CAN_STATUS_STATE 7, 6), (CAN_CTL_AUTOWAKE 7, 1)]; let n : Nat := 7; s.rd (CAN_STATUS_STATE n) = 6 ∧ s.rdb (CAN_CTL_AUTOWAKE n) = true) := by decide +kernel

theorem witness_JointCommandsComplete_1 :
  (let s : State := at0 [(JSP_CFG_MODE 7, 2)]; let n : Nat := 7; s.rdb (JSP_CFG_TRIG_TOUT n) = false ∧ s.rd (JSP_CFG_MODE n) ≠ 0 ∧ jointRuns s = true ∧ (jspAt s n).frame = none ∧ (jspAt s n).busyUntil ≤ s.mono) ∧
  (let n : Nat := 7; let raw : Nat := 5; let f : Nat × Nat := (1, 2); let s : State := { at0 [(JSP_CFG_MODE 7, 2), (JSP_CFG_NBITS 7, 24)] with joint := { base.joint with ports := [(7, { frame := some f })] } }; jointRuns s = true ∧ (jspAt s n).frame = some f ∧ s.rd (JSP_CFG_MODE n) ≠ 1 ∧ (let r := raw % 2 ^ s.rd (JSP_CFG_NBITS n); jspOutcome s n true r = 0)) ∧
  (let s : State := at0 [(JSP_STATUS_VALID 7, 1)]; let n : Nat := 7; s.rdb (JSP_STATUS_VALID n) = true ∧ jspFresh s n = false) ∧
  (let s : State := at0 [(QEI_CFG_EN 3, 1)]; let k : Nat := 3; s.rdb (QEI_CFG_EN k) = true ∧ jointRuns s = true ∧ s.rdb (QEI_CFG_DIR k) = false) ∧
  (let s : State := at0 [(QEI_CFG_EN 3, 1)]; let k : Nat := 3; s.rdb (QEI_CFG_EN k) = true ∧ jointRuns s = true ∧ s.rdb (QEI_CFG_DIR k) = false) := by decide +kernel

theorem witness_JointCommandsComplete_2 :
  (let s : State := at0 [(QEI_CFG_EN 3, 1)]; let k : Nat := 3; s.rdb (QEI_CFG_EN k) = true ∧ jointRuns s = true) ∧
  (let s : State := at0 [(QEI_CFG_EN 3, 1)]; let w : Writer := img; let k : Nat := 3; writeStatus s w.master (0x361008 + 0x40 * k) = 0) ∧
  (let s : State := at0 [(QEI_CFG_EN 3, 1)]; let k : Nat := 3; s.rdb (QEI_CFG_EN k) = true ∧ jointRuns s = true) ∧
  (let s : State := { at0 [(SF_STATUS_ARMED, 1), (MO_CFG_OVR_EN 31, 1)] with img := { base.img with tmpl := leBytes 4 1 ++ zeros 12 ++ [0, 0, 31, 3] ++ zeros 124 } }; let w : Writer := img; let m : Nat := 31; let e : Bytes := [0, 0, 31, 3] ++ zeros 124; writeStatus s w.master (0x362004 + 0x40 * m) = 0 ∧ ovrTemplate (s.answer 0 0) m = some e ∧ armed s = true ∧ s.rdb (MO_CFG_OVR_EN m) = true ∧ s.rdb (MO_STAT_BOOKED m) = false ∧ guardBlocks (s.answer 0 0) m = false) := by decide +kernel

theorem witness_EthernetFrameCommandsComplete_1 :
  (let s : State := at0 [(ETH_STATUS_STATE 3, 2), (ETH_CFG_PROMISC 3, 1), (ETH_CFG_DEFQ 3, 7)]; let n : Nat := 3; ethUp s n = true) ∧
  (let s : State := at0 [(ETH_STATUS_STATE 3, 2), (ETH_CFG_PROMISC 3, 1), (ETH_CFG_DEFQ 3, 7)]; let n : Nat := 3; let q : Nat := 7; let b : Bytes := zeros 60; ethUp s n = true ∧ 60 ≤ b.length ∧ b.length + 4 ≤ s.rd (ETH_CFG_MAXFRAME n) ∧ (let t := (s.inc (RX_FRAMES n)).inc (RX_BYTES n) (b.length + 4); isPause b = false ∧ passesFilter t n b = true ∧ rxClass t n b = .queue q)) ∧
  (let s : State := base; let w : Writer := img; let n : Nat := 3; let q : Nat := 7; writeStatus s w.master (0x301018 + 0x10000 * n + 0x20 * q) = 0) ∧
  (let q : Nat := 1023; let c : Bytes := cmd 5 0x10 [(8, 3), (9, 7), (12, 60)]; let s : State := headed 5 c [(ETH_CFG_MODE 3, 1), (TXQ_CFG_EN 3 7, 1), (PB_ACCT_MIN 0 58, 100)]; headIs s q 5 0x10 = some c ∧ placeable s (accountOf (u8 c 8 % 4) (u8 c 9 % 8)) (cellsOf (u16 c 12)) = true) ∧
  (let n : Nat := 3; let a : Nat := 0; let f : EthFrame := ethFrame; let s : State := { at0 [(ETH_STATUS_STATE 3, 2)] with eth := { base.eth with frames := [f] } }; ethUp s n = true ∧ s.power.resetNow = none ∧ s.rd LIV_STATUS_STATE ≠ 2 ∧ bestFrame (s.eth.frames.filter (frameReady s n (s.mono - a))) = some f ∧ f.motor = none ∧ f.tsreq = false) := by decide +kernel

theorem witness_EthernetFrameCommandsComplete_2 :
  (let h : Nat := 1; let c : Nat := 0; let f : EthFrame := { ethFrame with close := some 0 }; let s : State := { atMono 1 base with eth := { base.eth with frames := [f] } }; s.eth.frames.find? (·.handle == h) = some f ∧ f.close = some c ∧ c < s.mono) := by decide +kernel

theorem witness_EthernetLinkCommandsComplete :
  (let s : State := atMono (10 ^ 12) (at0 [(ETH_CFG_MODE 3, 1)]); let n : Nat := 3; s.rd (ETH_STATUS_STATE n) = 0 ∧ s.rd (ETH_CFG_MODE n) ≠ 0 ∧ s.eth.since.get 0 n + backoff s n ≤ s.mono ∧ mayTrain s = true) ∧
  (let s : State := atMono 500000000 (at0 [(ETH_STATUS_STATE 3, 1)]); let n : Nat := 3; s.rd (ETH_STATUS_STATE n) = 1 ∧ s.mono ≤ trainEnd s n ∧ mayTrain s = true) ∧
  (let s : State := atMono 500000000 (at0 [(ETH_STATUS_STATE 3, 1)]); let n : Nat := 3; s.rd (ETH_STATUS_STATE n) = 1 ∧ trainEnd s n ≤ s.mono) ∧
  (let s : State := at0 [(ETH_STATUS_STATE 3, 2)]; let n : Nat := 3; s.rd (ETH_STATUS_STATE n) = 2) ∧
  (let s : State := at0 [(ETH_STATUS_STATE 3, 3)]; let w : Writer := img; let n : Nat := 3; writeStatus s w.master (0x300004 + 0x10000 * n) = 0 ∧ s.rd (ETH_STATUS_STATE n) = 3) := by decide +kernel

theorem witness_HostCommandsComplete_1 :
  (let s : State := { at0 [(HL_LINK_STATE, 2), (HL_DBEN 31, 0xFFFFFFFF)] with straps := { base.straps with hostlink := true } }; let q : Nat := 1023; q < 1024 ∧ hostReaches s = true ∧ asleep s = false ∧ bit (s.rd (HL_DBEN (q / 32))) (q % 32) = true ∧ draining s = false) ∧
  (let s : State := { at0 [(HL_LINK_STATE, 2), (HL_DBEN 31, 0xFFFFFFFF)] with straps := { base.straps with hostlink := true } }; let q : Nat := 1023; q < 1024 ∧ hostReaches s = true ∧ asleep s = false ∧ bit (s.rd (HL_DBEN (q / 32))) (q % 32) = true ∧ draining s = false) ∧
  (let s : State := { at0 [(HL_LINK_STATE, 2), (HL_DBEN 31, 0xFFFFFFFF)] with straps := { base.straps with hostlink := true } }; let q : Nat := 1023; q < 1024 ∧ hostReaches s = true ∧ asleep s = false ∧ bit (s.rd (HL_DBEN (q / 32))) (q % 32) = true) ∧
  (let s : State := { at0 [(HL_LINK_STATE, 2), (HL_DBEN 31, 0xFFFFFFFF)] with straps := { base.straps with hostlink := true } }; let a : Nat := 2 ^ 34 - 1; let n : Nat := 1; let b : Bytes := [7]; 0 < n ∧ n ≤ 4096 ∧ a + n ≤ 2 ^ 34 ∧ b.length = n ∧ hostReaches s = true ∧ asleep s = false) ∧
  (let s : State := { at0 [(HL_LINK_STATE, 2), (HL_CFG_T0_EN, 1), (HL_AP_HI_EN 63, 1), (HL_AP_HI_R 63, 1), (HL_AP_LO_BASE 63, 0), (MC_CFG_GIB 0, 1)] with straps := { base.straps with hostlink := true } }; let a : Nat := 0x400000000 - 4; let n : Nat := 4; 0 < n ∧ n ≤ 4096 ∧ a + n ≤ 2 ^ 34 ∧ hostReaches s = true ∧ asleep s = false ∧ ((apertureParts s a n).foldl apertureRead ((0, []), s)).1.1 = 0) := by decide +kernel

theorem witness_HostCommandsComplete_2 :
  (let s : State := { at0 [(HL_LINK_STATE, 2), (HL_DBEN 31, 0xFFFFFFFF)] with straps := { base.straps with hostlink := true } }; let v : Nat := 1023; hostReaches s = true ∧ asleep s = false ∧ v < 1024) ∧
  (let s : State := { at0 [(HL_LINK_STATE, 2), (HL_DBEN 31, 0xFFFFFFFF)] with straps := { base.straps with hostlink := true } }; s.straps.hostlink = true ∧ linkUp s = true) ∧
  (let s : State := { base with straps := { base.straps with hostlink := true } }; s.straps.hostlink = true ∧ s.railsOff = false ∧ s.rd LIV_STATUS_STATE = 0 ∧ s.rd HL_LINK_STATE = 0 ∧ s.hl.perst = false) := by decide +kernel

theorem witness_StewardCommandsComplete :
  (let s : State := base; s.railsOff = false) ∧
  (let s : State := at0 [(ST_POLICY 0, 0x80007FFF), (ST_POLICY 1, 0x17FFF), (ST_POLICY 3, 0xFFFF0000), (ST_POLICY 4, 0xFFFFFFFF), (ST_POLICY 5, 0xFFFFFFFF), (ST_POLICY 6, 0xFFFF)]; let l : List Nat := ((regulators s).foldl marginStep ([], decideNow s)).1; let u : State := ((regulators s).foldl marginStep ([], decideNow s)).2; s.railsOff = false ∧ mayDecide s = true ∧ (regulators s).foldl marginStep ([], decideNow s) = (l, u) ∧ (l.any fun r => u.stw.lowAtFloor.contains r) = false ∧ isHot { u with stw := { u.stw with lowAtFloor := l } } = false ∧ isCool { u with stw := { u.stw with lowAtFloor := l } } = false ∧ ((List.range 24).filter fun i => !validT u i).length < 2 ∧ ((List.range 24).any fun i => validT u i && decide (signed 16 (u16 (policy s) 4) ≤ tempOf u i)) = false) ∧
  (let s : State := base; let n : Nat := 23; n < 24 ∧ s.power.penMain = true ∧ s.rdb TM_TRIP_TRIPPED = false) ∧
  (let s : State := pw (fun p => { p with wait := 3 }) base; s.power.wait = 3) := by decide +kernel

theorem witness_LogCommandsComplete_1 :
  (let s : State := at0 [(MBX_STAT_BUSY 3, 1), (MBX_REQ 3 0, 1)]; let k : Nat := 3; mbxNext s = some k ∧ u8 (mbxReq s k) 0 = 1) ∧
  (let s : State := logged.wrs [(MBX_STAT_BUSY 3, 1), (MBX_REQ 3 0, 2), (MBX_REQ 3 1, 5)]; let k : Nat := 3; let r : Bytes := (findRecord s (u32 (mbxReq s k) 4)).getD []; mbxNext s = some k ∧ u8 (mbxReq s k) 0 = 2 ∧ findRecord s (u32 (mbxReq s k) 4) = some r) ∧
  (let s : State := at0 [(MBX_STAT_BUSY 3, 1), (MBX_REQ 3 0, 2)]; let k : Nat := 3; mbxNext s = some k ∧ u8 (mbxReq s k) 0 = 2 ∧ findRecord s (u32 (mbxReq s k) 4) = none) ∧
  (let s : State := at0 [(MBX_STAT_BUSY 3, 1), (MBX_REQ 3 0, 3)]; let k : Nat := 3; mbxNext s = some k ∧ u8 (mbxReq s k) 0 = 3) ∧
  (let s : State := at0 [(MBX_STAT_BUSY 3, 1), (MBX_REQ 3 0, 4), (MBX_REQ 3 1, 256)]; let k : Nat := 3; mbxNext s = some k ∧ u8 (mbxReq s k) 0 = 4 ∧ s.rd (MBX_STAT_MASTER k) = 0 ∧ u16 (mbxReq s k) 4 ≤ 256) := by decide +kernel

theorem witness_LogCommandsComplete_2 :
  (let s : State := at0 [(MBX_STAT_BUSY 3, 1), (MBX_REQ 3 0, 5)]; let k : Nat := 3; mbxNext s = some k ∧ u8 (mbxReq s k) 0 = 5) ∧
  (let s : State := base; s.power.vaon = true) ∧
  (let s : State := { base with evlog := { base.evlog with region := zeros 64 } }; logOpen s = true ∧ s.evlog.batch = [] ∧ s.rd PWR_STATE_STATE ≠ 6 ∧ s.rd LIV_STATUS_STATE = 0) ∧
  (let s : State := { base with evlog := { base.evlog with batch := [zeros 64] } }; s.evlog.batch ≠ [] ∧ s.railsOff = false) ∧
  (let s : State := { base with evlog := { base.evlog with batch := [zeros 64] } }; s.evlog.batch ≠ [] ∧ s.railsOff = false) := by decide +kernel

theorem witness_LogCommandsComplete_3 :
  (let s : State := { base with evlog := { base.evlog with erasing := true } }; s.evlog.erasing = true ∧ s.railsOff = false) ∧
  (let s : State := { base with evlog := { base.evlog with erasing := true } }; s.evlog.erasing = true ∧ s.railsOff = false) := by decide +kernel

theorem witness_SecurityCommandsComplete_1 :
  (let s : State := bt (fun b => { b with confirmed := true }) (at0 [(BOOT_STATUS_SEALED, 1)]); let w : Writer := img; let v : Nat := 0x5E0103; writeStatus s w.master 0x390014 = 0 ∧ bit v 8 = true ∧ bits v 16 8 = 0x5E ∧ s.rdb BOOT_STATUS_SEALED = true ∧ s.boot.confirmed = true ∧ bits v 0 2 ≠ headerKeysel (s.answer 0 0)) ∧
  (let o : OtpProg := ⟨0, 3, none⟩; let l : List OtpProg := []; let s : State := { base with secu := { base.secu with running := true, progs := [o] } }; s.secu.running = true ∧ s.secu.progs = o :: l) ∧
  (let s : State := base; s.railsOff = false ∧ s.rdb SEC_DBG_REFUSING = false) ∧
  (let s : State := base; s.railsOff = false) ∧
  (let s : State := at0 [(SEC_DBG_REFUSING, 1)]; s.rdb SEC_DBG_REFUSING = true ∧ s.secu.refuseUntil ≤ s.mono) := by decide +kernel

theorem witness_SecurityCommandsComplete_2 :
  (let s : State := base; let w : Writer := img; writeStatus s w.master 0x390020 = 0) := by decide +kernel

/-! ### Witnesses of the statements about the machine as a whole -/

/-- The reset state, sealed. -/
def sealed0 : State := at0 [(BOOT_STATUS_SEALED, 1)]
/-- Sealed, with the page of an address granted to the host. -/
def hosted (a : Nat) : State := at0 [(BOOT_STATUS_SEALED, 1), (PAGE_OWN_HOST (a / 0x1000), 1)]
def tenant : Sys2Proof.Writer := ⟨5, 40⟩

theorem witness_StepRunsTheFrontCommand : base.pending = [] := by decide +kernel

theorem witness_EveryStepUsesUpOneCommand :
    ∃ t, step { base with pending := [.sealBoot, .vaonLoss] } = .next t := ⟨_, rfl⟩

theorem witness_EveryStepKeepsOtpAndFuses : ∃ t, step base = .next t := ⟨_, rfl⟩

theorem witness_TimekeeperAdvancesExactly :
    islandRuns base 2 = true ∧ base.power.resetNow = none ∧ base.time.acc < 5000000000000 := by decide +kernel

/-- GLB_SCRATCH_S has an RW field alone; 0x350004 RWL, RW and RO fields; 0x13000 W1C fields. -/
theorem witness_AccessCodesOnAWrite :
    (plainRegister 0x38 ∧ inert base 0x38 = false ∧ writeStatus base img.master 0x38 = 0 ∧ (∃ f ∈ fieldsAt 0x38, f.acc = .RW ∧ hkFlag f = none)) ∧
    (plainRegister 0x350004 ∧ inert base 0x350004 = false ∧ writeStatus base 0x800 0x350004 = 0 ∧ base.rdb BOOT_STATUS_SEALED = false ∧
      (∃ f ∈ fieldsAt 0x350004, f.acc = .RWL ∧ hkFlag f = none) ∧ (∃ f ∈ fieldsAt 0x350004, f.acc = .RO ∨ f.acc = .RC)) ∧
    (inert (hosted 0x350004) 0x350004 = false ∧ writeStatus (hosted 0x350004) 0x801 0x350004 = 0 ∧ (hosted 0x350004).rdb BOOT_STATUS_SEALED = true ∧ (0x801 : Nat) ≠ 0x800) ∧
    (plainRegister 0x13000 ∧ inert (hosted 0x13000) 0x13000 = false ∧ writeStatus (hosted 0x13000) 0x801 0x13000 = 0 ∧
      (∃ f ∈ fieldsAt 0x13000, f.acc = .W1C ∧ hkFlag f = none ∧ bits (0xFFFFFFFF % 2 ^ 32) f.lsb f.width ≠ 0)) := by unfold plainRegister; decide +kernel

theorem witness_SameCycleWritesKeepTheOrderOfMasters :
    plainRegister 0x38 ∧ inert (hosted 0x38) 0x38 = false ∧ writeStatus (hosted 0x38) 0x801 0x38 = 0 ∧ writeStatus (hosted 0x38) 0x800 0x38 = 0 ∧ masterRank ⟨0x801, 0⟩ < masterRank ⟨0x800, 0⟩ ∧
    (∃ f ∈ fieldsAt 0x38, f.acc = .RW ∧ hkFlag f = none) := by unfold plainRegister; decide +kernel

theorem witness_ForbiddenAccessesAreDenied :
    plainRegister 0x38 ∧ islandStatus sealed0 5 0x38 true = none ∧ islandStatus sealed0 0x800 0x38 true = none ∧
    isHost 5 = false ∧ hostAsleep sealed0 5 = false ∧ mayWrite sealed0 5 (0x38 / 0x1000) = false ∧
    0x10000 % 4 = 0 ∧ islandStatus sealed0 5 0x10000 false = none ∧ islandStatus sealed0 0x800 0x10000 true = none ∧
    mayRead sealed0 5 (0x10000 / 0x1000) = false ∧ sealed0.evlog.queue.length < 256 := by unfold plainRegister; decide +kernel

/-- A field of each class, an HK field with its flag set, and a read-write field of class HV. -/
theorem witness_CollisionsFollowTheClass :
    BOOT_STATUS_FALLBACK.col = .HS ∧ GLB_CTL_SYSRST.col = .HC ∧ AON_ALARM_CTL_EN.col = .HK ∧ GLB_ERRCNT_OWNV.col = .CT ∧
    BOOT_STATUS_PHASE.col = .HV ∧ hkFlag GLB_CTL_KEY = none ∧
    hkFlag AON_ALARM_CTL_EN = some AON_ALARM_CTL_FIRED ∧ (at0 [(AON_ALARM_CTL_FIRED, 1)]).rdb AON_ALARM_CTL_FIRED = true ∧
    CAL_OFFSET_SEC.acc = .RW ∧ CAL_OFFSET_SEC.col = .HV := by decide +kernel

/-- A tenant that owns no page reads every RC register and both FIFOs with an error. -/
theorem witness_RefusedReadsClearNothing :
    readStatus base tenant.master (MC_LAT_MAX 5).addr ≠ 0 ∧ readStatus base tenant.master (MC_LAT_MAX 0).addr ≠ 0 ∧
    readStatus base tenant.master (FU_ERRMAX 7).addr ≠ 0 ∧ readStatus base tenant.master (ATT_SELMAX 7).addr ≠ 0 ∧
    readStatus base tenant.master GL_LAT_MAX.addr ≠ 0 ∧ readStatus base tenant.master (SHP_TASK_MAXEND 1023).addr ≠ 0 ∧
    readStatus base tenant.master MSYNC_SKEW_MAX.addr ≠ 0 ∧ readStatus base tenant.master (TXTS_NS 3).addr ≠ 0 ∧
    readStatus base tenant.master (TCAP_NS 15).addr ≠ 0 := by decide +kernel

/-- A field of classes A, W and S. -/
theorem witness_ResetsClearByClass :
    (fieldOfKey CAL_OFFSET_SEC.key = some CAL_OFFSET_SEC ∧ CAL_OFFSET_SEC.keep = .A) ∧
    (fieldOfKey GLB_SCRATCH_W_DATA.key = some GLB_SCRATCH_W_DATA ∧ GLB_SCRATCH_W_DATA.keep = .W) ∧
    (fieldOfKey BOOT_STATUS_PHASE.key = some BOOT_STATUS_PHASE ∧ BOOT_STATUS_PHASE.keep = .S) := by decide +kernel

/-- A window of tenant 5 over the MiB 16, readable and writable. -/
def windowState : State :=
  { at0 [(MC_CFG_GIB 0, 1)] with
    img := { base.img with tenant := leBytes 4 1 ++ zeros 12 ++ (leBytes 8 0x1000000 ++ leBytes 4 1 ++ leBytes 2 5 ++ [3, 0]) ++ zeros 48 } }

theorem witness_TenantsStayInTheirWindows :
    (5 : Nat) ≠ 0 ∧ permitted windowState 5 0x1000000 64 true = true ∧ permitted windowState 5 0x10FFFC0 64 false = true ∧
    permitted windowState 5 0x10FFFC0 65 false = false := by decide +kernel

/-- A write that is answered OK and one that is answered DENIED, and a read answered OK. -/
theorem witness_MemoryHoldsWhatIsWritten :
    (memWrite windowState 89 5 0x1000000 [1, 2, 3]).1 = 0 ∧ 0xFFFFFC % 256 + ([1, 2] : Bytes).length ≤ 256 ∧ (memWrite windowState 89 5 0xFFFFFC [1, 2]).1 ≠ 0 ∧
    (memRead windowState 5 0x10FFFFF 1).1 = 0 ∧ memWf 0 windowState.dram = true ∧ (0 : Nat) < ([1, 2, 3] : Bytes).length := by decide +kernel

theorem witness_ChannelsPartitionMemory : (23 : Nat) < 24 ∧ unitOf 23 7 = unitOf 23 7 := by decide +kernel

/-- The last queue, bound with a ring of 16: a sum that fits and fills the ring, one that does not, and the queue unbound. -/
theorem witness_DoorbellWritesAddTogether :
    (let s := at0 [(Q_STATE_STATE 1023, 1)]; let l : List (Sys2Proof.Writer × Nat) := [(img, 15), (img, 1)];
      (∀ e ∈ l, writeStatus s e.1.master (sqDbAddr 1023) = 0 ∧ (e.1.master ≠ 0x801 ∨ draining s = false)) ∧ bound s 1023 = true ∧
      0 < (l.map fun e => e.2 % 65536).sum ∧ (backlog s 1023 + (l.map fun e => e.2 % 65536).sum) % 65536 ≤ sqSize s 1023) ∧
    (let s := at0 [(Q_STATE_STATE 1023, 1)]; let l : List (Sys2Proof.Writer × Nat) := [(img, 16), (img, 1)];
      (∀ e ∈ l, writeStatus s e.1.master (sqDbAddr 1023) = 0 ∧ (e.1.master ≠ 0x801 ∨ draining s = false)) ∧ bound s 1023 = true ∧
      sqSize s 1023 < (backlog s 1023 + (l.map fun e => e.2 % 65536).sum) % 65536 ∧ 0 < (l.map fun e => e.2 % 65536).sum) ∧
    (let s := base; let l : List (Sys2Proof.Writer × Nat) := [(img, 1)];
      (∀ e ∈ l, writeStatus s e.1.master (sqDbAddr 1023) = 0 ∧ (e.1.master ≠ 0x801 ∨ draining s = false)) ∧ bound s 1023 = false) := by decide +kernel

theorem witness_StatusCodesHaveAnOrder : ([0x00, 0x01, 0x0B] : List Nat) ≠ [] ∧
    ∀ c ∈ ([0x00, 0x01, 0x0B] : List Nat), c ∈ [0x0B, 0x06, 0x05, 0x04, 0x0A, 0x07, 0x0C, 0x03, 0x08, 0x02, 0x09, 0x01, 0x00] := by decide +kernel

/-- A ledger with every field at its top; two ledgers with SCANNED of the same PROBED, the first the smaller. -/
theorem witness_LedgersEncodeAndMerge :
    (let l : Ledger := { stages := 127, kvErr := 65535, selMass := 65535, jlsErr := 7, pwlErr := 65535, pqErr := 65535, scanned := 65535, probed := 65535 };
      l.stages < 2 ^ 7 ∧ l.kvErr < 2 ^ 16 ∧ l.selMass < 2 ^ 16 ∧ l.jlsErr < 2 ^ 3 ∧ l.pwlErr < 2 ^ 16 ∧ l.pqErr < 2 ^ 16 ∧
        l.scanned < 2 ^ 16 ∧ l.probed < 2 ^ 16) ∧
    (let a : Ledger := { stages := 64, scanned := 1, probed := 2 }; let b : Ledger := { stages := 64, scanned := 2, probed := 2 };
      bit a.stages 6 = true ∧ bit b.stages 6 = true ∧ a.scanned * b.probed < b.scanned * a.probed) := by decide +kernel

theorem witness_CalendarIsProlepticGregorian :
    (2000 ≤ 2396 ∧ 2396 < 2400 ∧ isLeap 2396 = true) ∧ (2000 ≤ 2399 ∧ 2399 < 2400 ∧ isLeap 2399 = false) := by decide +kernel

def event0 : EventRec := ⟨0xFFFF, 0, 0, 0, 0, []⟩

/-- The queue with one place left, full, and full with a fold begun. -/
theorem witness_EventQueueHolds256 :
    (let n := 255; n < 256) ∧
    ({ base with evlog := { base.evlog with queue := List.replicate 255 event0 } } : State).evlog.queue.length < 256 ∧
    256 ≤ ({ base with evlog := { base.evlog with queue := List.replicate 256 event0 } } : State).evlog.queue.length ∧
    base.rdb EVQ_STAT_FOLDING = false ∧ (at0 [(EVQ_STAT_FOLDING, 1)]).rdb EVQ_STAT_FOLDING = true ∧ base.power.vaon = true ∧ 0xFFFF < 2 ^ 16 := by
  decide +kernel

theorem witness_ChoicesAreCounted :
    1023 < 1024 ∧ 8 < 9 ∧ bound (at0 [(Q_STATE_STATE 1023, 1)]) 1023 = true ∧ bound base 1023 = false ∧
    (Q_ND_COUNT 1023).key ∉ [DET_ND_TOTAL.key, (DET_KIND 8).key, DET_ND_CAP_QID.key, DET_ND_CAP_KIND.key, DET_ND_CAP_VALID.key, DET_ND_CAP_T.key] := by
  decide +kernel

/-- MSI-X disabled, enabled with vector 5 masked, enabled with vector 5 clear. -/
theorem witness_RaisedVectorsPendOrGo :
    base.hl.msixEnable = false ∧
    (let s : State := { base with hl := { base.hl with msixEnable := true, funcMask := true } };
      s.hl.msixEnable = true ∧ (s.hl.funcMask = true ∨ (s.hl.table.get {} 5).mask = true)) ∧
    (let s : State := { base with hl := { base.hl with msixEnable := true, funcMask := false, table := [(5, { mask := false })] } };
      s.hl.msixEnable = true ∧ s.hl.funcMask = false ∧ (s.hl.table.get {} 5).mask = false) := by decide +kernel

theorem witness_FillStoresItsPattern :
    (let s := served 1 0 (cmd 1 0x09 [(8, 0), (16, 64)]);
     (engineCmd s 1023 0 1 0x09).any fun (x, b) => decide ((opdOf (u64 b 8)).loc = false ∧ (opdOf (u64 b 8)).named = false ∧ taskOf s 1023 0 = none ∧
        (memWrite s (columnPid s x.col) x.tid (opdOf (u64 b 8)).addr (List.replicate (u64 b 16 / 4) (leBytes 4 (u32 b 24))).flatten).1 = 0)) := by decide +kernel

/-! ### Steps of the spec's worked examples -/

/-- The state a command leaves. -/
def go (i : Instr) (s : State) : State := after (exec i s) s
/-- What IMAGE reads at an address. -/
def word (a : Nat) (s : State) : Nat := (go (.pairLoRead img a) s).bus.data
/-- Sealed, with pages 0 and 0x380 owned as the two OWN entries of 3.10 say. -/
def owned : State :=
  at0 ([(BOOT_STATUS_SEALED, 1)] ++ ([0, 0x380].flatMap fun p => [(PAGE_OWN_HOST p, 1), (PAGE_OWN_STEWARD p, 1)]) ++
    [(PAGE_OWN_CMDL0 0, 1), (PAGE_OWN_SAFETY 0x380, 1)])

/-- 3.10, step 1: the words of the two OWN entries. -/
theorem test_own_words : word 0x8000 owned = 0x7800 ∧ word 0x8E00 owned = 0xD800 := by decide +kernel

/-- 3.10, step 2: four writes of GLB_SCRATCH_S in one cycle; the tenant's is denied, the Steward's stands. -/
theorem test_same_cycle_writes :
    (let t := go (.registerWrite 0x38 [⟨⟨0x802, 0⟩, 4, 0x33330000⟩, ⟨⟨0x801, 0⟩, 4, 0x11110000⟩, ⟨⟨0, 3⟩, 4, 0x22220000⟩,
        ⟨⟨17, 40⟩, 4, 0x44440000⟩] [] none) owned
     (word 0x38 t, word 0x28 t, word 0x2C t, t.rd GLB_ERRCNT_OWNV)) = (0x33330000, 0x38, 0x80028011, 1) := by decide +kernel

/-- 3.10, step 3: a write of 0 to NVA_RETRY meets a hardware increment. -/
theorem test_counter_write_meets_increment :
    word 0x380038 (go (.registerWrite 0x380038 [⟨⟨0x801, 0⟩, 4, 5⟩, ⟨⟨0x802, 0⟩, 4, 0⟩] [⟨0, 1⟩] none)
      (owned.wrs ((fieldsAt 0x380038).map fun f => (f, 7)))) = 1 := by decide +kernel

/-- 4.10: a gate that counts 25,014 is 14 counts fast, out of window, and loses the reference. -/
theorem test_refclk_gate :
    (let t := go (.refclkGateEnd 25014 false) (at0 [(CLK_STATUS_REFMON, 1)])
     (t.rd CLK_STATUS_REFMON, t.rd REFMON_DEV_COUNT_DELTA, t.rd CLK_CAUSE_RATE)) = (2, 0xE, 1) := by decide +kernel

/-- 5.13: CAN1's wake frame ends FOLD with WAKE# asserted; then the host's PERST# deassertion is latched after it. -/
def folded : State :=
  { at0 [(PWR_STATE_STATE, 4), (WAKE_EN_EN, 0xFF7), (PWR_CFG_HOSTWAKE, 1), (HL_LINK_STATE, 5)] with
    hl := { base.hl with l2 := true, perst := true }, snap := { present := true, commit := true, good := true }, power := { base.power with penMain := false, pgMain := false } }
theorem test_wake_from_fold :
    (let t := go (.wakeLatch [5]) folded
     let u := go (.wakeLatch [6]) (go (.wakeLatch [2]) t)
     (t.rd PWR_STATE_STATE, t.power.penMain, t.power.wakePin, word 0x12034 t, u.power.wakePin, word 0x12034 u, word 0x12038 u)) =
      (5, true, true, 0x25020, false, 0x25024, 0x40) := by decide +kernel

/-- 7.12: at SEC 1,814,400,036 the view is 23:59:59, in the leap second 23:59:60, and after it 2027-07-01 00:00:00 with offset 38. -/
def leaping (sec : Nat) : State :=
  { at0 [(CAL_OFFSET_SEC, 37), (CAL_LEAP_DAYS, 0x273A), (CAL_LEAP_PENDING, 1)] with
    time := { base.time with dev := sec * 1000000000 * 65536 } }
theorem test_leap_schedule :
    word 0x2080C (go (.leapSchedule img 0x0004273A) { leaping 1813000000 with regs := (at0 [(CAL_OFFSET_SEC, 37)]).regs }) = 0x0004273A := by
  decide +kernel
theorem test_leap_second_view :
    (word 0x20800 (leaping 1814400037), word 0x20804 (leaping 1814400037)) = (0x07E607EB, 0x5ABC3B17) := by decide +kernel
theorem test_leap_second_end :
    (let t := go .leapSecond (leaping 1814400038)
     (word 0x20800 t, word 0x2080C t, t.rd CAL_OFFSET_SEC)) = (0x081707EB, 0x0000273A, 38) := by decide +kernel

/-- 7.12: 2100 has no 29 February: the SET is rejected whole. -/
theorem test_cal_set_rejects :
    (let t := go (.calSet img 1) ((leaping 1814400000).wrs [(CAL_SET_DATE_YEAR, 2100), (CAL_SET_DATE_MONTH, 2), (CAL_SET_DATE_DAY, 29)])
     (t.rd CAL_STATUS_INVALID, t.devNs)) = (1, 1814400000000000000) := by decide +kernel

/-- 8.13, step 4, and 9.11, steps 1 and 2: the prepared value, the sentinel pattern and its prepared value, the new exposure. -/
theorem test_prepared_values :
    bilinearAt 0 4096 1024 = (1, 128, 2) ∧ blend 100 101 104 107 128 128 = 103 ∧ s1Value 1000 2 1 = 29 ∧ s1Value 1000 2 2 = 66 ∧
    blend 29 66 29 66 128 0 = 48 ∧ exposureWanted 1760 80 80 1081344000 12288000 = 100 := by decide +kernel

/-- 10.12: A lies on channel 2, and tenant 17's read-only window refuses the write. -/
theorem test_window_violation :
    (let s : State := { at0 [(MC_CFG_GIB 0, 8), (MC_CFG_IECC 0, 1)] with
       img := { base.img with tenant := leBytes 4 1 ++ zeros 12 ++ (leBytes 8 0x1200000000 ++ leBytes 4 1024 ++ leBytes 2 17 ++ [1, 0]) ++ zeros 48 } }
     let r := mcWrite 89 17 0x1234567A40 (zeros 64) [] s
     (visible s, channelOf 0x1234567A40, r.1, r.2.rd (MC_WINV_WINV 0), word (MC_WINV_INFO_TID 0).addr r.2, word (MC_WINV_ADDR_LO 0).addr r.2)) =
      (193273528320, 2, 0x07, 1, 0x80000411, 0x34567A40) := by decide +kernel

/-- 11.13: the second TONOTE fences MC3. -/
theorem test_fence_on_timeouts :
    (let s := at0 [(FAB_TGT_CFG_AUTO_FENCE 60, 1), (FAB_TGT_CFG_TO_FENCE 60, 2), (FAB_TGT_STAT_CONSEC 60, 1)]
     let t := go .tonote { s with fab := { s.fab with notes := [60] } }
     (t.rd (FAB_FENCE 1), word FAB_FENCE_LAST_PID.addr t)) = (0x10000000, 0x13C) := by decide +kernel

/-- 11.13: read a's timer expires after 20 µs: FAB_TO_CAP, FAB_TIMEOUTS and the note to its target. -/
theorem test_fabric_timeout :
    (let s := at0 [(FAB_INIT_CFG_TO_US 76, 20)]
     let z : Piece := { init := 76, tgt := 60, oc := 0, kind := 0, tid := 0, addr := 0xC00, len := 256, tag := 0x10, whole := 0, last := true, rt := true, data := [], start := 0, stage := 1 }
     let t := go (.fabricTimeout 76 0x10) (atMono 20000 { s with fab := { s.fab with pieces := [z] } })
     (t.rd FAB_TIMEOUTS, word FAB_TO_CAP_IPID.addr t, t.fab.notes)) = (1, 0x80083C4C, [60]) := by decide +kernel

/-- 11.13, step 1: requests from N19 to N15 run on CCW, responses on CW; a tie at 12 hops goes by the node's parity. -/
theorem test_ring_direction :
    [clockwise 19 15, clockwise 15 19, clockwise 2 14, clockwise 3 15] = [false, true, true, false] := by decide +kernel

/-- R90: a read of GLB_SCRATCH_S in the cycle of a write of it returns the old value, and the write stands. -/
theorem test_read_at_cycle_start :
    (let t := go (.pairLoRead img 0x38 4 [⟨img, 4, 7⟩]) (at0 [(GLB_SCRATCH_S_DATA, 5)])
     (t.bus.data, t.rd GLB_SCRATCH_S_DATA)) = (5, 7) := by decide +kernel

/-- R161: the voltage steps of the two tables. -/
theorem test_volt_points :
    ([29, 30, 37, 38, 44, 45].map (voltPoint 0x17), [29, 30, 39, 40].map (voltPoint 6)) =
      ([620, 680, 680, 750, 750, 820], [620, 700, 700, 750]) := by decide +kernel

/-- 13.14, step 1: the binding of queue 40 takes DET from DET_DEFAULT. -/
def quotaState : State :=
  let l := [(BOOT_STATUS_SEALED, 1), (MC_CFG_GIB 0, 8), (MC_CFG_IECC 0, 1), (Q_CFG_CLASS 40, 1), (Q_CFG_PRIO 40, 2), (Q_CFG_ERRIRQ 40, 1), (Q_CFG_TID 40, 17),
    (Q_CFG_SQ_SZ 40, 4), (Q_CFG_CQ_SZ 40, 4), (Q_ENG_ENG 40, 255), (Q_SQ_BASE 40, 0x1240000), (Q_CQ_BASE 40, 0x1240010)]
  let z := leBytes 2 17 ++ leBytes 2 4 ++ leBytes 2 0x400 ++ leBytes 2 16 ++ zeros 4 ++ [3, 0] ++ leBytes 2 8
  let w := leBytes 8 0x1240000000 ++ leBytes 4 256 ++ leBytes 2 17 ++ [3, 0]
  { at0 l with img := { base.img with detDefault := true, tenant := leBytes 4 1 ++ leBytes 4 1 ++ zeros 8 ++ w ++ z ++ zeros 64 } }
theorem test_bind :
    (let t := go (.bind img 40) quotaState
     (t.rd (Q_STATE_STATE 40), t.rd (Q_STATE_BIND_ERR 40), word (Q_CFG_CLASS 40).addr t)) = (1, 0, 0x11148411) := by decide +kernel

/-- 13.14, step 4: the merged ledger's bytes. -/
theorem test_ledger_bytes :
    leBytes 16 (({ stages := 0x60, pqErr := 0x3E80, scanned := 0x28, probed := 0x40 } : Ledger).merge { stages := 0x10, pwlErr := 0x3A00 }).toNat =
      [0x70, 0, 0, 0, 0, 0, 0, 0x3A, 0x80, 0x3E, 0x28, 0, 0x40, 0, 0, 0] := by decide +kernel

/-- 15.13, step 3: a tie rounds away from zero, and an upper clamp. -/
theorem test_requantise :
    outInt ⟨0, 10, 0x80, 0x7F⟩ (leBytes 4 952 ++ leBytes 4 0x50000000 ++ [40, 1] ++ zeros 6) (-3000) = 7 ∧
    outInt ⟨0, 10, 0x80, 0x7F⟩ (leBytes 4 0 ++ leBytes 4 0x50000000 ++ [40, 1] ++ zeros 6) 400000 = 127 := by decide +kernel

/-- 16.14: four evaluations, one saturation, the bound 0x3B2B, and +0 for -Inf. -/
theorem test_softmax_row :
    (let r := softRow false 0x3F800000 [0x40000000, 0x3F800000, 0, 0xFF800000]
     (r.2.1, r.1.getD 3 1)) = ({ pwl := 4, shr := 0, sat := 1, did := true, err := 0x3B2B }, 0) := by decide +kernel

/-- 17.14, step 1: the scale and the nibbles of a KV4 block. -/
theorem test_kv4_block : packBlock 2 [.fin false 13 (-4), .fin true 77 (-8), .fin false 1 (-4)] = (0x3DEE, [7, -3, 1]) := by decide +kernel

/-- 18.9: area_0 is 120,000 and area_1 (0.5°) is larger; at k = 0 the box has L 400, W 300, centre (300, 0), H 251.5 and 7 points. -/
def boxPoints : List Pt :=
  let p := fun (x y z : Nat) => leBytes 4 x ++ leBytes 4 y ++ leBytes 4 z ++ zeros 4
  usedPoints 8 0 0x41A00000 (p 0x42C80000 0xC3160000 0x437A0000 ++ p 0x43FA0000 0xC3160000 0x437A0000 ++ p 0x43FA0000 0x43160000 0x43798000 ++
    p 0x42C80000 0x43160000 0x437B8000 ++ p 0x43960000 0 0x444B0000 ++ p 0x43960000 0x42200000 0x437A0000 ++ p 0x42C80000 0 0x42F00000 ++ zeros 16)
theorem test_box_sweep :
    (sweepAt boxPoints (axisAt 0).1 (axisAt 0).2).area = 0x47EA6000 ∧
    flt 0x47EA6000 (sweepAt boxPoints (axisAt 2).1 (axisAt 2).2).area = true := by decide +kernel
theorem test_box_record :
    (boxRecord boxPoints (sweepAt boxPoints 0x3F800000 0) 0x3F800000 0 0x43C80000 0x43960000 0 1 0) =
      ([0x43960000, 0, 0x3F800000, 0, 0x43C80000, 0x43960000, 0x437B8000], 7, 0) := by decide +kernel

/-- 19.11, step 3: the bounds of the two results. -/
theorem test_pq_bounds : pqBound 0x3E800000 0x3F000000 0x3CC0 = 0x3CC5 ∧ pqBound 0x3F100000 0x3F000000 0x3CC0 = 0x3D13 := by decide +kernel

/-- 21.13, step 4: FORCED of queue 15 at its default level. -/
theorem test_forced_fault : word SF_FLT_LAST_CODE.addr (go (.faultReport [(0x19, 15)]) base) = 0x8000F219 := by decide +kernel

/-- 22.11, step 4: the capture of a choice of kind 7 on queue 12. -/
theorem test_choice_capture : word DET_ND_CAP_QID.addr (nondet 12 7 base) = 0x8000700C := by decide +kernel

/-- 24.8, step 1: even parity holds, and the Gray code reads 6,948. -/
theorem test_joint_frame :
    (let s := at0 [(JSP_CFG_MODE 0, 1), (JSP_CFG_NBITS 0, 14), (JSP_CFG_GRAY 0, 1), (JSP_CFG_CHK 0, 1), (JSP_FIELD_POS_LSB 0, 1), (JSP_FIELD_POS_W 0, 13)]
     let t := go (.jspFrameEnd 0 true (2 * 0x16B6)) (setJsp s 0 { jspAt s 0 with frame := some (0, 0) })
     (jspOutcome s 0 true (2 * 0x16B6), t.rd (JSP_POS_LO 0))) = (0, 6948) := by decide +kernel

/-- 28.9, step 1: the counter reads the highest valid entry, and an entry cut short is used. -/
theorem test_rollback_counter :
    (let s : State := { base with otp := writeMem [] 0 0x200 ([0x20, 0x25, 0x29].flatMap (fun v => leBytes 8 v ++ leBytes 8 (2 ^ 64 - 1 - v)) ++ leBytes 8 0x29) }
     ((List.range 5).map (arbValid s), (List.range 5).map (arbUsedAt s), arbV s 2)) =
      ([true, true, true, false, false], [true, true, true, true, false], 0x29) := by decide +kernel

/-- 29.14, step 2: the sampled straps. -/
theorem test_straps : word 8 (go (.coldReset 0 0 true false) (pw (fun p => { p with wait := 6 }) base)) = 0x40 := by decide +kernel

/-- R49: the check value of CRC-32. -/
theorem test_crc : crc32 [0x31, 0x32, 0x33, 0x34, 0x35, 0x36, 0x37, 0x38, 0x39] = 0xCBF43926 := by decide +kernel

/-! ### Ill-formed commands: one for each check, which the check refuses -/

def w : Sys2Proof.Writer := ⟨0x801, 0⟩
def f : CanFrame := ⟨0, false, false, false, false, false, 0, [], 0⟩

def packet : Packet := ⟨0, 0, false, 0, 0, 0, 0, 0, 0, 0, 0, false, 0⟩

theorem test_illFormed_1 : (([
    .coldReset (4) 0 false false, .coldReset 0 (16) false false, .resetRelease (4) 0 false false, .resetRelease 0 (16) false false, .flashReadTimeout (2 ^ 32),
    .sysReset ⟨1024, 0⟩ 0, .sysReset w (2 ^ 32), .islReset ⟨1024, 0⟩ 0, .islReset w (2 ^ 32), .lnkReset (4), .hostgo ⟨1024, 0⟩ false,
    .confirm ⟨1024, 0⟩, .retry ⟨1024, 0⟩, .extpGo ⟨1024, 0⟩ 0, .extpGo w (2 ^ 32), .registerWrite (2 ^ 25) [] [] none, .registerWrite 0 [⟨w, 0, 0⟩] [] none, .registerWrite 0 [] [] (some 4),
    .pairLoRead ⟨1024, 0⟩ 0, .pairLoRead w (2 ^ 25), .pairLoRead w 0 9, .pairLoRead w 0 4 [⟨w, 0, 0⟩], .islandClockFault (78), .dvfsSwitch (78), .runRequest ⟨1024, 0⟩, .dozeRequest ⟨1024, 0⟩,
    .foldRequest ⟨1024, 0⟩, .offRequest ⟨1024, 0⟩, .wakeLatch [32], .streamIdleRelease (32), .canPeerAgeout (8) 0 false,
    .canPeerAgeout 0 (2 ^ 29) false, .ptpForeignAgeout (4) 0, .pdelayNeighbourLoss (4), .timeStep ⟨1024, 0⟩, .ptpSync (4) 0 0 0,
    .ptpAnnounce (4) ann, .ptpPdelayResp (4) 0 0 0, .txtsNsRead ⟨1024, 0⟩ 0, .txtsNsRead w (4), .tkTimeRead ⟨1024, 0⟩, .toutArm ⟨1024, 0⟩ 0 0,
    .toutArm w (16) 0, .toutArm w 0 (2 ^ 32), .toutEdge (16), .tcapEdge (16) false 0, .tcapNsRead ⟨1024, 0⟩ 0, .tcapNsRead w (16),
    .launchGridArm ⟨1024, 0⟩ 0 0, .launchGridArm w (8) 0, .launchGridArm w 0 (2 ^ 32), .leapSchedule ⟨1024, 0⟩ 0, .leapSchedule w (2 ^ 32),
    .calSet ⟨1024, 0⟩ 0] : List Instr).all fun i => !i.wf) = true := by decide +kernel

theorem test_illFormed_2 : (([
    .calSet w (2 ^ 32), .calDateRead ⟨1024, 0⟩, .frameStart 16 0 0 0, .frameStart 0 16 0 0, .frameStart 0 0 65536 0, .frameStart 0 0 0 3, .frameStart 0 0 0 0 true [⟨16, 0, 0, 0, false⟩],
    .linePacket (16) 0 0 0 false [], .linePacket 0 (16) 0 0 false [], .linePacket 0 0 (64) 0 false [], .linePacket 0 0 0 (3) false [],
    .frameEnd (16) 0 0 false false, .frameEnd 0 (16) 0 false false, .frameEnd 0 0 (3) false false, .lineTimeout (16) 0, .lineTimeout 0 (16),
    .clockLaneLoss (16), .gvspBlockTimeout (32), .jpegDecodeDone (32) false false, .sampleReady [32], .sampleStale (32), .replayGo ⟨1024, 0⟩ 0,
    .replayGo w (2 ^ 32), .cciGo ⟨1024, 0⟩ 0 0, .cciGo w (32) 0, .cciGo w 0 (2 ^ 32), .cciCommit (8) [] [], .autoExposure (32),
    .mcRead (96) 0 0 0 0 false [] [], .mcRead 0 (16) 0 0 0 false [] [], .mcRead 0 0 (1024) 0 0 false [] [], .mcRead 0 0 0 (2 ^ 64) 0 false [] [],
    .mcRead 0 0 0 0 (2 ^ 32 + 1) false [] [], .mcWrite (96) 0 0 0 [] false [] [], .mcWrite 0 (16) 0 0 [] false [] [],
    .mcWrite 0 0 (1024) 0 [] false [] [], .mcWrite 0 0 0 (2 ^ 64) [] false [] [], .refresh (24) false, .refreshShadow (6) 0 false, .refreshShadow 0 0 false (4),
    .mcRetrainReq ⟨1024, 0⟩ 0 0, .mcRetrainReq w (6) 0, .mcRetrainReq w 0 (2 ^ 32), .retrainTimeout (6), .patrolScrub (6) 0, .patrolScrub 0 (5),
    .linkReplay (24) 0 false, .linkReplay 0 (3) false, .fabricTimeout (96) 0, .fabricTimeout 0 (256), .fenceSet ⟨1024, 0⟩ 0 0, .fenceSet w (3) 0] : List Instr).all fun i => !i.wf) = true := by decide +kernel

theorem test_illFormed_3 : (([
    .fenceSet w 0 (2 ^ 32), .fenceLift ⟨1024, 0⟩ 0 0, .fenceLift w (3) 0, .fenceLift w 0 (2 ^ 32), .fabricResponse (96) 0 0 false,
    .fabricResponse 0 (256) 0 false, .fabricResponse 0 0 (96) false, .syncRequest (96) 0 0 4, .syncRequest 0 (128) 0 4, .syncRequest 0 0 (4) 4, .syncRequest 0 0 0 (16),
    .probeObserve (24) 0 [], .probeObserve 0 0 [{ packet with point := 4 }], .prbClear ⟨1024, 0⟩ false, .traceLoss (24), .bind ⟨1024, 0⟩ 0,
    .bind w 1024, .unbind ⟨1024, 0⟩ 0, .unbind w 1024, .resume ⟨1024, 0⟩ 0, .resume w 1024, .sqDb 1024 [], .sqDb 0 [(⟨1024, 0⟩, 0)],
    .sqDb 0 [(w, 2 ^ 32)], .cqDb 1024 [], .cqDb 0 [(⟨1024, 0⟩, 0)], .cqDb 0 [(w, 2 ^ 32)], .fetchError 1024, .commandComplete 1024, .irqTimer 1024,
    .nop 1024, .regwr 1024, .regrd 1024, .regpoll 1024, .regpollTimeout 1024, .signalEvent 1024, .waitEvent 1024, .waitTimeout 1024, .evset 1024,
    .majorBoundary (4), .fixedClaimStart (4096), .headFire (4096), .chainClaimStart (4096), .maintClaimStart (4096), .claimEnd (4096),
    .servingDispatch (14), .servingOverrun (14), .flockStepStart (32) 0, .flockStepStart 0 (14), .flockStepEnd (14), .maintExpiry 1024] : List Instr).all fun i => !i.wf) = true := by decide +kernel

theorem test_illFormed_4 : (([
    .forcedRun 1024, .gemm 0 14, .gemm 1056 0, .conv 0 14, .conv 1056 0, .req 0 14, .req 1056 0, .copy 0 14, .copy 1056 0, .fill 0 14, .fill 1056 0,
    .sigchk 0 14, .sigchk 1056 0, .pastureScrub (8) [] false, .act 0 14, .act 1056 0, .glu 0 14, .glu 1056 0, .rowstat 0 14, .rowstat 1056 0,
    .lnorm 0 14, .lnorm 1056 0, .rmsnorm 0 14, .rmsnorm 1056 0, .softmax 0 14, .softmax 1056 0, .attn 0 14, .attn 1056 0, .kvappend 0 14,
    .kvappend 1056 0, .kvtok 0 14, .kvtok 1056 0, .flockreq 1024, .vresize 0 14, .vresize 1056 0, .vfilt 0 14, .vfilt 1056 0, .vstereo 0 14,
    .vstereo 1056 0, .vpcloud 0 14, .vpcloud 1056 0, .vboxfit 0 14, .vboxfit 1056 0, .vboxpca 0 14, .vboxpca 1056 0, .vnms 0 14, .vnms 1056 0,
    .vsort 0 14, .vsort 1056 0, .vtopk 0 14] : List Instr).all fun i => !i.wf) = true := by decide +kernel

theorem test_illFormed_5 : (([
    .vtopk 1056 0, .vargmax 0 14, .vargmax 1056 0, .vik 0 14, .vik 1056 0, .vjerk 0 14, .vjerk 1056 0, .vmatmul 0 14, .vmatmul 1056 0, .vact 0 14,
    .vact 1056 0, .clusterScrub (4) [] false, .indexCheck (3), .glLoad ⟨1024, 0⟩ 0, .glLoad w (2 ^ 32), .glSwap ⟨1024, 0⟩ 0, .glSwap w (2 ^ 32),
    .gsearch 1024, .gsearchDeadline 1024 [], .dcompare 1024, .dsafe 1024, .faultReport [(256, 0)], .sfFltClr ⟨1024, 0⟩ 0 0, .startLate 1024,
    .endLate 1024, .budget 1024, .heartbeat ⟨1024, 0⟩ 0, .heartbeat w (2 ^ 32), .hbLate 1024, .lbist 1024, .mbist 1024, .retrain 1024,
    .injectRaise ⟨1024, 0⟩ 0, .injectRaise w (2 ^ 32), .injectTask ⟨1024, 0⟩ 0, .injectTask w (2 ^ 32), .msyncRetry ⟨1024, 0⟩ 0,
    .msyncRetry w (2 ^ 32), .canReceive (8) f, .canReceive 0 { f with id := 2 ^ 29 }, .canShadowGo ⟨1024, 0⟩ 0 0, .canShadowGo w (8) 0,
    .canShadowGo w 0 (2048), .canShadowPop ⟨1024, 0⟩ 0, .canShadowPop w (8), .cantx 1024, .canrd 1024, .canTxAttempt (8), .canTxDone (8),
    .canTxError (8) false 0] : List Instr).all fun i => !i.wf) = true := by decide +kernel

theorem test_illFormed_6 : (([
    .canTxError 0 false (8), .canTxWindowClose (2048), .canRecover ⟨1024, 0⟩ 0, .canRecover w (8), .canRecoveryDone (8), .canIntegrated (8),
    .canSleep (8), .canAutowake (8), .canWakeDominant (8), .canWakeFrame (8) none, .canWakeFrame 0 (some { f with dlc := 16 }), .jspFrameStart (8),
    .jspFrameEnd (8) false 0, .jspStale (8), .qeiCountChange (4) false false, .qeiSnap ⟨1024, 0⟩ 0, .qeiSnap w (4), .qeiIndex (4),
    .moOvrGo ⟨1024, 0⟩ 0, .moOvrGo w (32), .ethReceive (4) [] false 0, .rxqDb ⟨1024, 0⟩ 0 0 0, .rxqDb w (4) 0 0, .rxqDb w 0 (8) 0,
    .rxqDb w 0 0 (2 ^ 32), .ethtx 1024, .ethTxDone (4) 0, .linkTrainStart (4), .linkUp (4), .linkTrainTimeout (4), .linkDown (4) 0, .linkDown 0 (8),
    .ethRestart ⟨1024, 0⟩ 0, .ethRestart w (4), .hostDoorbell (2048) 0 0 false, .hostDoorbell 0 (4096) 0 false, .hostDoorbell 0 0 (2 ^ 32) false,
    .hostAperture 0 (4096 + 1) false [], .msixUnmask (1024) 0 0 false false false, .flashUpdate ⟨1024, 0⟩ 0, .flashUpdate w (2 ^ 32),
    .sensorUpdate [(0, 32, 0, false)], .thermalTrip (24), .telem (4), .logread (4), .loginfo (4), .capduty (4), .postUser (4),
    .eventPost (65536) 0 [], .eventPost 0 (256) []] : List Instr).all fun i => !i.wf) = true := by decide +kernel

theorem test_illFormed_7 : (([
    .eventPost 0 0 (List.replicate 9 0), .secRevoke ⟨1024, 0⟩ 0, .secRevoke w (2 ^ 32), .debugResponse (256) 0 0 [], .debugResponse 0 (256) 0 [],
    .debugResponse 0 0 (65536) [], .debugEnd ⟨1024, 0⟩, .mcLatMaxRead ⟨1024, 0⟩ 0, .mcLatMaxRead w (6), .fuErrmaxRead ⟨1024, 0⟩ 0,
    .fuErrmaxRead w (8), .attSelmaxRead ⟨1024, 0⟩ 0, .attSelmaxRead w (8), .glLatMaxRead ⟨1024, 0⟩, .shpTaskMaxendRead ⟨1024, 0⟩ 0,
    .shpTaskMaxendRead w 1024, .msyncSkewMaxRead ⟨1024, 0⟩, .canRxError (8) 0 false, .canRxError 0 (8) false, .reloadVerifyDone (3),
    .pcieLinkTrained (5) 0, .pcieLinkTrained 0 (5), .ptpMessageInterval (4) 0 0, .ptpMessageInterval 0 (9) 0, .tmCpmRead ⟨1024, 0⟩ 0,
    .tmCpmRead w (16), .registerWrite 0 [⟨⟨0x804, 0⟩, 4, 0⟩] [] none, .registerWrite 0 [⟨⟨0, 1024⟩, 4, 0⟩] [] none, .registerWrite 0 [⟨w, 9, 0⟩] [] none,
    .registerWrite 0 [⟨w, 8, 2 ^ 64⟩] [] none, .canReceive 0 { f with dlc := 16 }, .canReceive 0 { f with data := List.replicate 65 0 },
    .probeObserve 0 0 [{ packet with typ := 16 }], .probeObserve 0 0 [{ packet with spid := 128 }], .probeObserve 0 0 [{ packet with dpid := 128 }],
    .confirm ⟨0x7FF, 0⟩] : List Instr).all fun i => !i.wf) = true := by decide +kernel

theorem test_illFormed_frame : (Instr.ethReceive 0 (List.replicate 65536 0) false 0).wf = false := by
  simp only [Instr.wf, List.length_replicate]; decide

/-- Well-formed ones, at the ends of the ranges. -/
theorem test_wellFormed : (([.coldReset 3 15 true true, .sysReset w (2 ^ 32 - 1), .registerWrite 0x1FFFFFC [⟨w, 8, 2 ^ 64 - 1⟩] [] (some 5), .frameStart 15 15 0xFFFF 2,
    .canReceive 7 { f with id := 2 ^ 29 - 1, xtd := true, dlc := 15 }, .nop 1023, .gemm 1055 13, .confirm ⟨0x803, 0⟩] : List Instr).all fun i => i.wf) = true := by
  decide +kernel

end Sys2Proof.Tests
end

section
/-! PROOFS. A refused read of a register: what it records, and that it changes nothing else a reader could have cleared (R11). -/

namespace Sys2Proof.Machine.Proofs
open Sys2Proof Sys2Proof.Machine Sys2Proof.Machine.Reg Sys2Proof.Machine.Laws

/-! ### The registers that record a refusal -/

/-- The field lies in a register that records what became of an access: the first registers of the global block (R107), the fabric's own (R334,
R339), the host link's errors (R720) and the event queue's (R746). -/
abbrev RecordField (f : Machine.Field) : Prop :=
  f.key / 32 < 0x100 ∨ (0x220000 ≤ f.key / 32 ∧ f.key / 32 < 0x230000) ∨ (0x370000 ≤ f.key / 32 ∧ f.key / 32 < 0x370100) ∨
    (0x381000 ≤ f.key / 32 ∧ f.key / 32 < 0x382000)

/-- Nothing but records of an access tells `t` from `s`, in the register fields and in the Timekeeper's FIFOs. -/
structure OnlyRecords (s t : State) : Prop where
  tk : t.tk = s.tk
  rd : ∀ g, ¬ RecordField g → t.rd g = s.rd g

namespace OnlyRecords

variable {s t u : State}

theorem of_eq (htk : t.tk = s.tk) (hregs : t.regs = s.regs) : OnlyRecords s t :=
  ⟨htk, fun g _ => congrArg (RegStore.rd · g) hregs⟩

theorem refl (s : State) : OnlyRecords s s := of_eq rfl rfl

theorem trans (h : OnlyRecords s t) (k : OnlyRecords t u) : OnlyRecords s u :=
  ⟨k.tk.trans h.tk, fun g hg => (k.rd g hg).trans (h.rd g hg)⟩

theorem ite {c : Prop} [Decidable c] (ht : c → OnlyRecords s t) (hu : ¬ c → OnlyRecords s u) : OnlyRecords s (if c then t else u) := by
  split
  · exact ht ‹_›
  · exact hu ‹_›

theorem wr (h : OnlyRecords s t) {f : Machine.Field} (hf : RecordField f) (v : Nat) : OnlyRecords s (t.wr f v) :=
  h.trans ⟨rfl, fun _ hg => rd_wr_ne t v fun e => hg (by rw [RecordField, e]; exact hf)⟩

theorem inc (h : OnlyRecords s t) {f : Machine.Field} (hf : RecordField f) : OnlyRecords s (t.inc f) := h.wr hf _

theorem set (h : OnlyRecords s t) {f : Machine.Field} (hf : RecordField f) : OnlyRecords s (t.set f) := h.wr hf _

theorem wrs (h : OnlyRecords s t) {l : List (Machine.Field × Nat)} (hl : ∀ e ∈ l, RecordField e.1) : OnlyRecords s (t.wrs l) := by
  induction l generalizing t with
  | nil => exact h
  | cons e l ih =>
    exact ih (h.wr (hl e List.mem_cons_self) e.2) fun x hx => hl x (List.mem_cons_of_mem _ hx)

theorem foldl {α : Type} {l : List α} {g : State → α → State} (hg : ∀ t, ∀ x ∈ l, OnlyRecords t (g t x)) (h : OnlyRecords s t) :
    OnlyRecords s (l.foldl g t) := by
  induction l generalizing t with
  | nil => exact h
  | cons x l ih =>
    exact ih (fun t y hy => hg t y (List.mem_cons_of_mem _ hy)) (h.trans (hg t x List.mem_cons_self))

end OnlyRecords

/-! ### What each record of a refusal writes -/

/-- An event that reaches the AON island is queued or folded in its source's counter (R746, R747). -/
theorem onlyRecords_pushEvent (s : State) (e : EventRec) (he : RecordField (EVQ_FOLD (e.code / 4096))) : OnlyRecords s (pushEvent s e) := by
  have stamped (b : Bool) (x y : EventLog) :
      OnlyRecords s { (if b then s else { s with evlog := x } : State) with evlog := y } := by
    cases b <;> exact .of_eq rfl rfl
  simp only [pushEvent]
  refine .ite (fun _ => ?_) (fun _ => ?_)
  · refine .wr ?queued (by decide) _
    case queued => exact .of_eq rfl rfl
  · exact .inc (.set (stamped _ _ _) (by decide)) he

theorem onlyRecords_post (code src : Nat) (args : List Nat) (s : State) (h : RecordField (EVQ_FOLD (code / 4096))) :
    OnlyRecords s (post code src args s) :=
  onlyRecords_pushEvent s _ h

/-- An ownership violation is counted, captured and posted (R107). -/
theorem onlyRecords_ownViol (w : Writer) (a : Nat) (read : Bool) (s : State) : OnlyRecords s (ownViol w a read s) := by
  have counted : OnlyRecords s (s.inc GLB_ERRCNT_OWNV) := .inc (.refl s) (by decide)
  simp only [ownViol]
  refine .trans (.ite (fun _ => counted) fun _ => ?captured) (onlyRecords_post _ _ _ _ (by decide))
  case captured =>
    exact ((((counted.wr (by decide) _).wr (by decide) _).wr (by decide) _).wr (by decide) _).set (by decide)

/-- A host access that failed is counted, and captured where it is a read (R720). -/
theorem onlyRecords_hostError (code bar off : Nat) (write : Bool) (s : State) : OnlyRecords s (hostError code bar off write s) := by
  have counted : OnlyRecords s (if code = 0x07 then s.inc HL_ERR_DENY else if code = 0x0C then s else s.inc HL_ERR_CA) :=
    .ite (fun _ => .inc (.refl s) (by decide)) fun _ => .ite (fun _ => .refl s) fun _ => .inc (.refl s) (by decide)
  simp only [hostError]
  refine .ite (fun _ => counted) fun _ => counted.wrs ?_
  simp only [List.forall_mem_cons]
  exact ⟨by decide, by decide, by decide, by decide, by decide, by simp⟩

/-! ### The tag slot that a timeout keeps (R334) -/

theorem physNode_le (p : Nat) : physNode p ≤ 17 := by
  unfold physNode
  rw [List.getD_eq_getElem?_getD]
  match p with
  | 0 | 1 | 2 | 3 | 4 | 5 | 6 | 7 => decide
  | n + 8 => simp

/-- The PIDs in use have 7 bits (R313). -/
theorem lt_128_of_mem_usedPids {s : State} {p : Nat} (h : p ∈ usedPids s) : p < 128 := by
  rw [usedPids, List.append_assoc, List.mem_append, List.mem_append, List.mem_map] at h
  rcases h with h | ⟨n, _, rfl⟩ | h
  · exact (by decide : ∀ p ∈ [0, 4, 8, 12], p < 128) p h
  · have := physNode_le (s.fuse.physical.getD n 0)
    rw [enginePid]; omega
  · revert p; decide

theorem portOf_lt_128 (w : Writer) : portOf w < 128 := by
  unfold portOf
  split
  · decide
  · split
    · decide
    · split <;> decide

/-- The fabric's fields of a PID are records. -/
theorem recordField_pid {p : Nat} (hp : p < 128) :
    RecordField (FAB_INIT_TOCNT p) ∧ RecordField (FAB_INIT_STAT_TAGS p) ∧ RecordField (FAB_INIT_STAT_QUAR p) ∧
      RecordField (FAB_TGT_STAT_FWD p) := by
  simp only [RecordField, Field.key, FAB_INIT_TOCNT, FAB_INIT_STAT_TAGS, FAB_INIT_STAT_QUAR, FAB_TGT_STAT_FWD]
  omega

theorem onlyRecords_setPieces (l : List Piece) (s : State) : OnlyRecords s (setPieces l s) := by
  refine .foldl (fun t p hp => ?_) (.of_eq rfl rfl)
  obtain ⟨-, htags, hquar, hfwd⟩ := recordField_pid (lt_128_of_mem_usedPids hp)
  exact (OnlyRecords.refl t).wrs (by simp only [List.forall_mem_cons]; exact ⟨htags, hquar, hfwd, by simp⟩)

theorem onlyRecords_noteTimeout {p : Nat} (hp : p < 128) (tgt tag addr : Nat) (sv : Bool) (s : State) :
    OnlyRecords s (noteTimeout p tgt tag addr sv s) := by
  have counted : OnlyRecords s ((s.inc FAB_TIMEOUTS).inc (FAB_INIT_TOCNT p)) :=
    .inc (.inc (.refl s) (by decide)) (recordField_pid hp).1
  simp only [noteTimeout]
  refine .trans (.ite (fun _ => counted) fun _ => counted.wrs ?captured) (.of_eq rfl rfl)
  case captured =>
    simp only [List.forall_mem_cons]
    exact ⟨by decide, by decide, by decide, by decide, by decide, by decide, by decide, by simp⟩

theorem onlyRecords_portTimeout {z : Piece} (hz : z.init < 128) (sv : Bool) (s : State) : OnlyRecords s (portTimeout z sv s) := by
  simp only [portTimeout]
  split
  · exact .refl s
  · refine .trans (.trans ?numbered (onlyRecords_noteTimeout hz ..)) (onlyRecords_setPieces _ _)
    case numbered => exact .of_eq rfl rfl

theorem onlyRecords_registerTimeout (w : Writer) (a kind : Nat) (s : State) : OnlyRecords s (registerTimeout w a kind s) := by
  unfold registerTimeout
  split
  · exact onlyRecords_portTimeout (portOf_lt_128 w) true s
  · exact .refl s

/-! ### Refused reads -/

/-- A read that is not performed leaves records, and an answer (R93, R334, R339). -/
theorem onlyRecords_readRefused (w : Writer) (a c : Nat) (s : State) : OnlyRecords s (readRefused w a c s) := by
  have denied : OnlyRecords s (if c = 0x07 ∧ isViolation s w.master a then ownViol w a true s else s) :=
    .ite (fun _ => onlyRecords_ownViol w a true s) fun _ => .refl s
  have fencedOff (t : State) : OnlyRecords t (if c = 0x05 then t.inc FAB_FENCE_RFEN else t) :=
    .ite (fun _ => (OnlyRecords.refl t).inc (by decide)) fun _ => .refl t
  have timedOut (t : State) : OnlyRecords t (if c = 0x04 then registerTimeout w a 0 t else t) :=
    .ite (fun _ => onlyRecords_registerTimeout w a 0 t) fun _ => .refl t
  exact ((denied.trans (fencedOff _)).trans (timedOut _)).trans (.of_eq rfl rfl)

theorem onlyRecords_hostRead (w : Writer) (a : Nat) (s : State) : OnlyRecords s (hostRead w a s) :=
  .ite (fun _ => onlyRecords_hostError ..) fun _ => .refl s

/-- A refused read with an effect of its own does not perform it (R11). -/
theorem onlyRecords_guardedRead_of_refused {s : State} {w : Writer} {a : Nat} (h : readStatus s w.master a ≠ 0) (d : Nat) (f : State → State) :
    OnlyRecords s (guardedRead w a d f s) := by
  rw [guardedRead, if_pos h]
  exact (onlyRecords_readRefused w a _ s).trans (onlyRecords_hostRead w a _)

/-- A refused plain read of a register, of 4 bytes, does nothing but record it. -/
theorem onlyRecords_pairLoRead_of_refused {s : State} {w : Writer} {a : Nat} (ha : a % 4 = 0) (h : readStatus s w.master a ≠ 0) :
    ∃ t, exec (.pairLoRead w a 4 []) s = .next t ∧ OnlyRecords s t := by
  have refused : readAccess w 4 a s = readRefused w a (readStatus s w.master a) s := by simp [readAccess, goodWidth, readReg, ha, h]
  refine ⟨hostRead w a (readAccess w 4 a s), rfl, ?_⟩
  rw [refused]
  exact (onlyRecords_readRefused w a _ s).trans (onlyRecords_hostRead w a _)

/-! ### The registers that a read clears -/

/-- The RC fields of the device that hold a maximum. -/
inductive RcMaximum : Machine.Field → Prop
  | mcLat {m : Nat} (hm : m < 6) : RcMaximum (MC_LAT_MAX m)
  | fuErr {e : Nat} (he : e < 8) : RcMaximum (FU_ERRMAX e)
  | attSel {e : Nat} (he : e < 8) : RcMaximum (ATT_SELMAX e)
  | glLat : RcMaximum GL_LAT_MAX
  | taskEnd {q : Nat} (hq : q < 1024) : RcMaximum (SHP_TASK_MAXEND q)
  | skew : RcMaximum MSYNC_SKEW_MAX

/-- The RC fields that hold a maximum lie at word addresses outside the records. -/
theorem RcMaximum.aligned_not_record {f : Machine.Field} (h : RcMaximum f) : f.addr % 4 = 0 ∧ ¬ RecordField f := by
  cases h with
  | mcLat => simp only [RecordField, Field.key, MC_LAT_MAX]; omega
  | fuErr => simp only [RecordField, Field.key, FU_ERRMAX]; omega
  | attSel => simp only [RecordField, Field.key, ATT_SELMAX]; omega
  | glLat => decide
  | taskEnd => simp only [RecordField, Field.key, SHP_TASK_MAXEND]; omega
  | skew => decide

/-- The obligation's list of RC fields names the maxima. -/
theorem rcMaximum_of_listed {f : Machine.Field}
    (h : (∃ m, m < 6 ∧ f = MC_LAT_MAX m) ∨ (∃ e, e < 8 ∧ (f = FU_ERRMAX e ∨ f = ATT_SELMAX e)) ∨ f = GL_LAT_MAX ∨
      (∃ q, q < 1024 ∧ f = SHP_TASK_MAXEND q) ∨ f = MSYNC_SKEW_MAX) : RcMaximum f := by
  rcases h with ⟨m, hm, rfl⟩ | ⟨e, he, rfl | rfl⟩ | rfl | ⟨q, hq, rfl⟩ | rfl
  · exact .mcLat hm
  · exact .fuErr he
  · exact .attSel he
  · exact .glLat
  · exact .taskEnd hq
  · exact .skew

/-- The registers of the time-stamp FIFOs lie at word addresses. -/
theorem stampFifo_aligned {f : Machine.Field} (h : (∃ n, n < 4 ∧ f = TXTS_NS n) ∨ (∃ n, n < 16 ∧ f = TCAP_NS n)) : f.addr % 4 = 0 := by
  rcases h with ⟨n, -, rfl⟩ | ⟨n, -, rfl⟩
  · simp only [TXTS_NS]; omega
  · simp only [TCAP_NS]; omega

/-- A refused read does not clear the field by its own command (R11). -/
theorem rd_readClear_of_refused {s : State} {w : Writer} {f : Machine.Field} (hf : RcMaximum f) (h : readStatus s w.master f.addr ≠ 0) :
    (readClear w f s).rd f = s.rd f :=
  (onlyRecords_guardedRead_of_refused h _ _).rd f hf.aligned_not_record.2

theorem exec_mcLatMaxRead (s : State) (w : Writer) {m : Nat} (hm : m < 6) :
    exec (.mcLatMaxRead w m) s = .next (readClear w (MC_LAT_MAX m) s) :=
  congrArg Host.Outcome.next (if_neg (Nat.not_le.2 hm))

theorem exec_fuErrmaxRead (s : State) (w : Writer) {e : Nat} (he : e < 8) :
    exec (.fuErrmaxRead w e) s = .next (readClear w (FU_ERRMAX e) s) :=
  congrArg (fun k => Host.Outcome.next (readClear w (FU_ERRMAX k) s)) (Nat.mod_eq_of_lt he)

theorem exec_attSelmaxRead (s : State) (w : Writer) {e : Nat} (he : e < 8) :
    exec (.attSelmaxRead w e) s = .next (readClear w (ATT_SELMAX e) s) :=
  congrArg (fun k => Host.Outcome.next (readClear w (ATT_SELMAX k) s)) (Nat.mod_eq_of_lt he)

theorem exec_shpTaskMaxendRead (s : State) (w : Writer) {q : Nat} (hq : q < 1024) :
    exec (.shpTaskMaxendRead w q) s = .next (readClear w (SHP_TASK_MAXEND q) s) :=
  congrArg Host.Outcome.next (if_neg (Nat.not_le.2 hq))

/-- Settles O47: a refused read changes records alone, and no RC field and no time-stamp FIFO is one. -/
theorem refusedReadsClearNothing : Obligations.RefusedReadsClearNothing := by
  refine ⟨?plainMaximum, ?plainStamp, ?txts, ?tcap, ?mcLat, ?fuErr, ?attSel, ?glLat, ?taskMax, ?skewMax⟩
  case plainMaximum =>
    intro s w f hf h
    have hf := rcMaximum_of_listed hf
    obtain ⟨aligned, notRecord⟩ := hf.aligned_not_record
    obtain ⟨t, run, only⟩ := onlyRecords_pairLoRead_of_refused aligned h
    exact ⟨t, run, only.rd f notRecord⟩
  case plainStamp =>
    intro s w f hf h
    obtain ⟨t, run, only⟩ := onlyRecords_pairLoRead_of_refused (stampFifo_aligned hf) h
    exact ⟨t, run, only.tk⟩
  case txts => exact fun s w n _ h => ⟨_, rfl, (onlyRecords_guardedRead_of_refused h _ _).tk⟩
  case tcap => exact fun s w n _ h => ⟨_, rfl, (onlyRecords_guardedRead_of_refused h _ _).tk⟩
  case mcLat => exact fun s w m hm h => ⟨_, exec_mcLatMaxRead s w hm, rd_readClear_of_refused (.mcLat hm) h⟩
  case fuErr => exact fun s w e he h => ⟨_, exec_fuErrmaxRead s w he, rd_readClear_of_refused (.fuErr he) h⟩
  case attSel => exact fun s w e he h => ⟨_, exec_attSelmaxRead s w he, rd_readClear_of_refused (.attSel he) h⟩
  case glLat => exact fun s w h => ⟨_, rfl, rd_readClear_of_refused .glLat h⟩
  case taskMax => exact fun s w q hq h => ⟨_, exec_shpTaskMaxendRead s w hq, rd_readClear_of_refused (.taskEnd hq) h⟩
  case skewMax => exact fun s w h => ⟨_, rfl, rd_readClear_of_refused .skew h⟩

end Sys2Proof.Machine.Proofs
end

section
/-! PROOFS. The calendar of the Timekeeper (R214): the day number of a date and the date of a day are inverse on 2000 to 2399, and the day
after the last of a month is the first of the next. -/

namespace Sys2Proof.Machine.Proofs
open Sys2Proof Sys2Proof.Machine

/-! ### Years -/

/-- The rule of the leap years. -/
theorem isLeap_iff (y : Nat) : isLeap y = true ↔ 4 ∣ y ∧ (¬ 100 ∣ y ∨ 400 ∣ y) := by
  simp [isLeap, Nat.dvd_iff_mod_eq_zero]

/-- The calendar counts its years from 2000, a multiple of 400. -/
theorem isLeap_2000_add_iff (k : Nat) : isLeap (2000 + k) = true ↔ 4 ∣ k ∧ (¬ 100 ∣ k ∨ 400 ∣ k) := by
  rw [isLeap_iff]; omega

/-- The days before a year, each quotient counting the multiples of its divisor below `k`: no case for the first year and no subtraction. -/
theorem daysBeforeYear_add_centuries (k : Nat) :
    daysBeforeYear k + (k + 99) / 100 = 365 * k + (k + 3) / 4 + (k + 399) / 400 := by
  cases k with
  | zero => rfl
  | succ k => simp only [daysBeforeYear, Nat.add_sub_cancel, Nat.succ_ne_zero, if_false]; omega

/-- One more multiple of `n + 1` lies below `k + 1` than below `k` exactly when `k` is one. -/
theorem multiplesBelow_succ (n k : Nat) : (k + 1 + n) / (n + 1) = (k + n) / (n + 1) + if n + 1 ∣ k then 1 else 0 := by
  rw [Nat.add_right_comm, Nat.succ_div]
  simp only [Nat.add_assoc, Nat.dvd_add_left (Nat.dvd_refl (n + 1))]

/-- A year has 365 days and a leap year one more. -/
theorem daysBeforeYear_succ (k : Nat) : daysBeforeYear (k + 1) = daysBeforeYear k + if isLeap (2000 + k) then 366 else 365 := by
  have here := daysBeforeYear_add_centuries k
  have next := daysBeforeYear_add_centuries (k + 1)
  simp only [multiplesBelow_succ 3 k, multiplesBelow_succ 99 k, multiplesBelow_succ 399 k, Nat.reduceAdd] at next
  simp only [isLeap_2000_add_iff]
  by_cases four : 4 ∣ k
  · by_cases century : 100 ∣ k
    · by_cases era : 400 ∣ k
      · simp only [four, century, era, if_true, not_true, or_true, and_true] at next ⊢; omega
      · simp only [four, century, era, if_true, if_false, not_true, or_false, and_false] at next ⊢; omega
    · have era : ¬ 400 ∣ k := mt (Nat.dvd_trans ⟨4, rfl⟩) century
      simp only [four, century, era, if_true, if_false, not_false_eq_true, or_false, and_true] at next ⊢; omega
  · have century : ¬ 100 ∣ k := mt (Nat.dvd_trans ⟨25, rfl⟩) four
    have era : ¬ 400 ∣ k := mt (Nat.dvd_trans ⟨100, rfl⟩) four
    simp only [four, century, era, if_false, false_and] at next ⊢; omega

/-- The quotient by 366 falls short of the year by at most the two years that `yearOfDay` tries after it. -/
theorem yearOfDay_eq {k d : Nat} (hk : k < 400) (first : daysBeforeYear k ≤ d) (last : d < daysBeforeYear (k + 1)) : yearOfDay d = k := by
  have here := daysBeforeYear_add_centuries k
  have next := daysBeforeYear_add_centuries (k + 1)
  obtain quotient | quotient | quotient : d / 366 = k ∨ d / 366 + 1 = k ∨ d / 366 + 2 = k := by omega
  · simp [yearOfDay, quotient, last]
  · subst quotient; simp [yearOfDay, first, last]
  · subst quotient
    have step := daysBeforeYear_succ (d / 366 + 1)
    have before : ¬ d < daysBeforeYear (d / 366 + 1) := by omega
    simp [yearOfDay, first, before]

/-! ### Months -/

theorem range_filter_lt {n k : Nat} (h : k ≤ n) : ((List.range n).filter fun i => decide (i < k)) = List.range k := by
  obtain ⟨j, rfl⟩ := Nat.exists_eq_add_of_le h
  have below : ((List.range k).filter fun i => decide (i < k)) = List.range k := List.filter_eq_self.2 (by simp)
  have above : (((List.range j).map (k + ·)).filter fun i => decide (i < k)) = [] := List.filter_eq_nil_iff.2 (by simp)
  rw [List.range_add, List.filter_append, below, above, List.append_nil]

theorem daysBeforeMonth_eq_foldl (y : Nat) {m : Nat} (hm : m ≤ 12) :
    daysBeforeMonth y (m + 1) = (List.range m).foldl (fun a i => a + monthDays y (i + 1)) 0 := by
  simp only [daysBeforeMonth, Nat.add_lt_add_iff_right, range_filter_lt hm]

theorem daysBeforeMonth_one (y : Nat) : daysBeforeMonth y 1 = 0 := daysBeforeMonth_eq_foldl y (Nat.zero_le 12)

theorem daysBeforeMonth_succ (y : Nat) {m : Nat} (hm : 1 ≤ m) (hm' : m ≤ 12) : daysBeforeMonth y (m + 1) = daysBeforeMonth y m + monthDays y m := by
  obtain ⟨n, rfl⟩ := Nat.exists_eq_add_of_le' hm
  rw [daysBeforeMonth_eq_foldl y hm', daysBeforeMonth_eq_foldl y (Nat.le_of_succ_le hm'), List.range_succ, List.foldl_append]
  rfl

theorem daysBeforeMonth_mono (y : Nat) {m n : Nat} (h : m ≤ n) (hn : n ≤ 12) : daysBeforeMonth y (m + 1) ≤ daysBeforeMonth y (n + 1) := by
  induction h with
  | refl => exact Nat.le_refl _
  | step _ ih =>
    rw [daysBeforeMonth_succ y (Nat.succ_pos _) hn]
    exact Nat.le_add_right_of_le (ih (Nat.le_of_succ_le hn))

/-- The twelve months make up the year. -/
theorem daysBeforeMonth_thirteen (y : Nat) : daysBeforeMonth y 13 = if isLeap y then 366 else 365 := by
  rw [daysBeforeMonth_eq_foldl y (Nat.le_refl 12)]
  cases leap : isLeap y <;> simp [List.range_succ, monthDays, leap]

/-- The months that have begun by a day of month `m` are the first `m`. -/
theorem monthsBegun_eq {y m o : Nat} (hm : 1 ≤ m) (hm' : m ≤ 12) (first : daysBeforeMonth y m ≤ o) (last : o < daysBeforeMonth y (m + 1)) :
    ((List.range 12).filter fun i => decide (daysBeforeMonth y (i + 1) ≤ o)).length = m := by
  obtain ⟨n, rfl⟩ := Nat.exists_eq_add_of_le' hm
  have begun : ∀ i ∈ List.range 12, decide (daysBeforeMonth y (i + 1) ≤ o) = decide (i < n + 1) := by
    intro i hi
    rw [decide_eq_decide]
    constructor
    · intro h
      refine Nat.lt_of_not_le fun later => ?_
      have := daysBeforeMonth_mono y later (Nat.le_of_lt (List.mem_range.1 hi))
      omega
    · exact fun h => Nat.le_trans (daysBeforeMonth_mono y (Nat.le_of_lt_succ h) (Nat.le_of_succ_le hm')) first
  rw [List.filter_congr begun, range_filter_lt hm', List.length_range]

/-! ### Dates -/

/-- A date of the calendar: 2000-01-01 to 2399-12-31. -/
structure IsDate (y m d : Nat) : Prop where
  year : 2000 ≤ y ∧ y < 2400
  month : 1 ≤ m ∧ m ≤ 12
  day : 1 ≤ d ∧ d ≤ monthDays y m

/-- The day number of a date leads back to the date. -/
theorem dateOfDay_dayOfDate {y m d : Nat} (h : IsDate y m d) : dateOfDay (dayOfDate y m d) = ⟨y, m, d⟩ := by
  obtain ⟨⟨year, year'⟩, ⟨month, month'⟩, day, day'⟩ := h
  obtain ⟨k, rfl⟩ := Nat.exists_eq_add_of_le year
  obtain ⟨o, number, offset⟩ : ∃ o, dayOfDate (2000 + k) m d = daysBeforeYear k + o ∧ o + 1 = daysBeforeMonth (2000 + k) m + d :=
    ⟨daysBeforeMonth (2000 + k) m + d - 1, by rw [dayOfDate, Nat.add_sub_cancel_left]; omega, by omega⟩
  have monthEnd := daysBeforeMonth_succ (2000 + k) month month'
  have yearEnd : daysBeforeYear (k + 1) = daysBeforeYear k + daysBeforeMonth (2000 + k) 13 := by
    rw [daysBeforeYear_succ, daysBeforeMonth_thirteen]
  have monthInYear : daysBeforeMonth (2000 + k) (m + 1) ≤ daysBeforeMonth (2000 + k) 13 :=
    daysBeforeMonth_mono (2000 + k) month' (Nat.le_refl 12)
  have yearOf : yearOfDay (daysBeforeYear k + o) = k := yearOfDay_eq (by omega) (by omega) (by omega)
  have monthOf := monthsBegun_eq (y := 2000 + k) (o := o) month month' (by omega) (by omega)
  rw [number]
  simp only [dateOfDay, yearOf, Nat.add_sub_cancel_left, monthOf, Date.mk.injEq, true_and]
  omega

/-- The day after the last of a month is the first of the next month. -/
theorem dayOfDate_monthEnd {y m : Nat} (hm : 1 ≤ m) (hm' : m ≤ 12) (days : 1 ≤ monthDays y m) :
    dayOfDate y m (monthDays y m) + 1 = dayOfDate y (m + 1) 1 := by
  have := daysBeforeMonth_succ y hm hm'
  simp only [dayOfDate]; omega

/-- The day after 31 December is 1 January. -/
theorem dayOfDate_yearEnd {y : Nat} (hy : 2000 ≤ y) : dayOfDate y 12 31 + 1 = dayOfDate (y + 1) 1 1 := by
  obtain ⟨k, rfl⟩ := Nat.exists_eq_add_of_le hy
  have december : daysBeforeMonth (2000 + k) 13 = daysBeforeMonth (2000 + k) 12 + 31 := daysBeforeMonth_succ _ (by decide) (by decide)
  have months := daysBeforeMonth_thirteen (2000 + k)
  have years := daysBeforeYear_succ k
  simp only [dayOfDate, daysBeforeMonth_one, Nat.add_assoc 2000, Nat.add_sub_cancel_left]; omega

theorem february_steps_to_march {y d : Nat} (hy : 2000 ≤ y) (hy' : y < 2400) (february : monthDays y 2 = d) (days : 1 ≤ d) :
    dayOfDate y 2 d + 1 = dayOfDate y 3 1 ∧ dateOfDay (dayOfDate y 2 d) = ⟨y, 2, d⟩ ∧ dateOfDay (dayOfDate y 2 d + 1) = ⟨y, 3, 1⟩ := by
  subst february
  have step : dayOfDate y 2 (monthDays y 2) + 1 = dayOfDate y 3 1 := dayOfDate_monthEnd (by decide) (by decide) days
  have march : monthDays y 3 = 31 := rfl
  refine ⟨step, dateOfDay_dayOfDate ⟨⟨hy, hy'⟩, by decide, days, Nat.le_refl _⟩, ?_⟩
  rw [step, dateOfDay_dayOfDate ⟨⟨hy, hy'⟩, by decide, by omega⟩]

/-- Settles O56: the day numbers of the dates from 2000 to 2399 follow each other, and each leads back to its date. -/
theorem calendarIsProlepticGregorian : Obligations.CalendarIsProlepticGregorian := by
  refine ⟨isLeap_iff, by decide, ?leapFebruary, ?february, ?lastOfCentury, ?newCentury⟩
  case leapFebruary =>
    intro y hy hy' leap
    exact february_steps_to_march hy hy' (by simp [monthDays, leap]) (by decide)
  case february =>
    intro y hy hy' leap
    exact february_steps_to_march hy hy' (by simp [monthDays, leap]) (by decide)
  case lastOfCentury => exact dateOfDay_dayOfDate ⟨by decide, by decide, by decide⟩
  case newCentury =>
    rw [dayOfDate_yearEnd (by decide)]
    exact dateOfDay_dayOfDate ⟨by decide, by decide, by decide⟩

end Sys2Proof.Machine.Proofs
end

section
/-! PROOFS. What a timing-dependent choice counts (R634, R635). For the queues the device has, 0 to 1023, the counts are those of the rules. The
obligation's clause on unbound queues ranges over every number, and fails at one that names no queue. -/

namespace Sys2Proof.Machine.Proofs
open Sys2Proof Sys2Proof.Machine Sys2Proof.Machine.Reg Sys2Proof.Machine.Laws

/-! ### Saturating counters -/

theorem rd_inc_self (s : State) (f : Machine.Field) (n : Nat) : (s.inc f n).rd f = satAdd f.width (s.rd f) n % 2 ^ f.width :=
  rd_wr_self s f _

theorem rd_inc_ne (s : State) {f g : Machine.Field} (n : Nat) (h : g.key ≠ f.key) : (s.inc f n).rd g = s.rd g :=
  rd_wr_ne s _ h

/-! ### The device's part of a choice -/

/-- The counts that every choice advances, bound or not. -/
def countKind (k : Nat) (s : State) : State := (s.inc DET_ND_TOTAL).inc (DET_KIND k)

/-- The first choice after VALID was cleared is captured. -/
def captureChoice (q k : Nat) (s : State) : State :=
  if s.rdb DET_ND_CAP_VALID then s
  else s.wrs [(DET_ND_CAP_QID, q), (DET_ND_CAP_KIND, k), (DET_ND_CAP_VALID, 1), (DET_ND_CAP_T, s.mono)]

/-- What a choice does in the device's own registers. -/
def devicePart (q k : Nat) (s : State) : State := captureChoice q k (countKind k s)

/-- Where the capture stands. -/
def captureKeys : List Nat := [DET_ND_CAP_QID.key, DET_ND_CAP_KIND.key, DET_ND_CAP_VALID.key, DET_ND_CAP_T.key]

/-- Where the device's part of a choice of a kind stands: the two counts and the capture. -/
def choiceKeys (k : Nat) : List Nat := DET_ND_TOTAL.key :: (DET_KIND k).key :: captureKeys

/-- Whatever lies below the device's counts is none of them. -/
theorem not_mem_choiceKeys_of_lt (k : Nat) {n : Nat} (h : n < DET_ND_TOTAL.key) : n ∉ choiceKeys k := by
  simp only [Field.key, DET_ND_TOTAL] at h
  simp only [choiceKeys, captureKeys, List.mem_cons, List.not_mem_nil, or_false, Field.key, DET_ND_TOTAL, DET_KIND, DET_ND_CAP_QID,
    DET_ND_CAP_KIND, DET_ND_CAP_VALID, DET_ND_CAP_T]
  omega

/-- A choice is the device's part, and the queue's own count where the queue is bound after it. -/
theorem nondet_eq (q k : Nat) (s : State) : nondet q k s =
    if bound (devicePart q k s) q then (devicePart q k s).inc (Q_ND_COUNT q) else devicePart q k s := rfl

theorem rd_captureChoice_ne (q k : Nat) (s : State) {g : Machine.Field} (h : g.key ∉ captureKeys) :
    (captureChoice q k s).rd g = s.rd g := by
  unfold captureChoice
  split
  · rfl
  · exact rd_wrs_ne s _ (by simpa [captureKeys] using h)

/-- The device's part leaves every field but its own counts and the capture. -/
theorem rd_devicePart_ne (q k : Nat) (s : State) {g : Machine.Field} (h : g.key ∉ choiceKeys k) :
    (devicePart q k s).rd g = s.rd g := by
  rw [choiceKeys, List.mem_cons, List.mem_cons, not_or, not_or] at h
  obtain ⟨total, kind, capture⟩ := h
  rw [devicePart, rd_captureChoice_ne q k _ capture, countKind, rd_inc_ne _ 1 kind, rd_inc_ne _ 1 total]

theorem rd_devicePart_total (q k : Nat) (s : State) :
    (devicePart q k s).rd DET_ND_TOTAL = satAdd 32 (s.rd DET_ND_TOTAL) 1 % 2 ^ 32 := by
  have kind : DET_ND_TOTAL.key ≠ (DET_KIND k).key := by simp only [Field.key, DET_ND_TOTAL, DET_KIND]; omega
  rw [devicePart, rd_captureChoice_ne q k _ (by decide), countKind, rd_inc_ne _ 1 kind, rd_inc_self]
  rfl

theorem rd_devicePart_kind (q k : Nat) (s : State) :
    (devicePart q k s).rd (DET_KIND k) = satAdd 32 (s.rd (DET_KIND k)) 1 % 2 ^ 32 := by
  have total : (DET_KIND k).key ≠ DET_ND_TOTAL.key := by simp only [Field.key, DET_ND_TOTAL, DET_KIND]; omega
  have capture : (DET_KIND k).key ∉ captureKeys := by
    simp only [captureKeys, List.mem_cons, List.not_mem_nil, or_false, Field.key, DET_KIND, DET_ND_CAP_QID, DET_ND_CAP_KIND,
      DET_ND_CAP_VALID, DET_ND_CAP_T]
    omega
  rw [devicePart, rd_captureChoice_ne q k _ capture, countKind, rd_inc_self, rd_inc_ne _ 1 total]
  rfl

/-! ### The queues of the device -/

section
variable {q : Nat} (k : Nat) (s : State) (hq : q < 1024)
include hq

theorem rd_devicePart_state : (devicePart q k s).rd (Q_STATE_STATE q) = s.rd (Q_STATE_STATE q) :=
  rd_devicePart_ne q k s (not_mem_choiceKeys_of_lt k (by simp only [Field.key, Q_STATE_STATE, DET_ND_TOTAL]; omega))

theorem rd_devicePart_count : (devicePart q k s).rd (Q_ND_COUNT q) = s.rd (Q_ND_COUNT q) :=
  rd_devicePart_ne q k s (not_mem_choiceKeys_of_lt k (by simp only [Field.key, Q_ND_COUNT, DET_ND_TOTAL]; omega))

theorem bound_devicePart : bound (devicePart q k s) q = bound s q := by
  rw [bound, rd_devicePart_state k s hq, bound]

theorem nondet_of_bound (h : bound s q = true) : nondet q k s = (devicePart q k s).inc (Q_ND_COUNT q) := by
  rw [nondet_eq, bound_devicePart k s hq, if_pos h]

theorem nondet_of_unbound (h : bound s q = false) : nondet q k s = devicePart q k s := by
  rw [nondet_eq, bound_devicePart k s hq, h]
  rfl

/-- R634: a choice advances the total and the count of its kind, whether the queue is bound or not. -/
theorem nondet_counts_in_device : (nondet q k s).rd DET_ND_TOTAL = satAdd 32 (s.rd DET_ND_TOTAL) 1 % 2 ^ 32 ∧
    (nondet q k s).rd (DET_KIND k) = satAdd 32 (s.rd (DET_KIND k)) 1 % 2 ^ 32 := by
  cases h : bound s q with
  | false =>
    rw [nondet_of_unbound k s hq h]
    exact ⟨rd_devicePart_total q k s, rd_devicePart_kind q k s⟩
  | true =>
    have total : DET_ND_TOTAL.key ≠ (Q_ND_COUNT q).key := by simp only [Field.key, DET_ND_TOTAL, Q_ND_COUNT]; omega
    have kind : (DET_KIND k).key ≠ (Q_ND_COUNT q).key := by simp only [Field.key, DET_KIND, Q_ND_COUNT]; omega
    rw [nondet_of_bound k s hq h, rd_inc_ne _ 1 total, rd_inc_ne _ 1 kind]
    exact ⟨rd_devicePart_total q k s, rd_devicePart_kind q k s⟩

/-- R634: a choice on a bound queue advances the queue's own count. -/
theorem nondet_counts_in_queue (h : bound s q = true) :
    (nondet q k s).rd (Q_ND_COUNT q) = satAdd 32 (s.rd (Q_ND_COUNT q)) 1 % 2 ^ 32 := by
  rw [nondet_of_bound k s hq h, rd_inc_self, rd_devicePart_count k s hq]
  rfl

/-- R635 for the queues of the device: the clause that `not_choicesAreCounted` refutes holds with the bound `q < 1024` that it leaves out. -/
theorem rd_nondet_of_unbound (h : bound s q = false) {f : Machine.Field} (hf : f.key ∉ choiceKeys k) :
    (nondet q k s).rd f = s.rd f := by
  rw [nondet_of_unbound k s hq h, rd_devicePart_ne q k s hf]

end

/-! ### A number that names no queue -/

/-- The number whose STATE field, by the arithmetic of the queues' registers, would lie where the count of kind 2 lies. -/
def strayQueue : Nat := 112256

theorem strayQueue_state_key : (Q_STATE_STATE strayQueue).key = (DET_KIND 2).key := by decide

/-- From reset the stray number is unbound; its choice of kind 2 makes the shared word 1, and the queue then counts as bound. -/
theorem nondet_strayQueue_counts : bound State.reset strayQueue = false ∧ State.reset.rd (Q_ND_COUNT strayQueue) = 0 ∧
    (nondet strayQueue 2 State.reset).rd (Q_ND_COUNT strayQueue) = 1 := by decide

/-- Refutes O58: its last clause does not bound the queue by 1024. At queue 112256, which the device does not have, the STATE field has the address of
DET_KIND[2], so that a choice of kind 2 on the reset state binds the queue by its own count and advances Q_ND as well. Of the device's 1024 queues all
three clauses hold (`nondet_counts_in_device`, `nondet_counts_in_queue`, `rd_nondet_of_unbound`). -/
theorem not_choicesAreCounted : ¬ Obligations.ChoicesAreCounted := by
  rintro ⟨-, -, unbound⟩
  obtain ⟨notBound, before, after⟩ := nondet_strayQueue_counts
  have unchanged := unbound State.reset strayQueue 2 (Q_ND_COUNT strayQueue) notBound (by decide)
  rw [before, after] at unchanged
  exact absurd unchanged (by decide)

end Sys2Proof.Machine.Proofs
end

section
/-! PROOFS. What every step keeps: the waiting commands, the fuses, and the OTP bits once programmed (R753). -/

namespace Sys2Proof.Machine.Proofs
open Sys2Proof Sys2Proof.Machine Sys2Proof.Machine.Laws Sys2Proof.Safety

/-! ### Raising OTP bits -/

/-- Nothing of the fixed part but OTP bits tells `t` from `s`, and those are only raised. -/
structure OnlyRaisesOtp (s t : State) : Prop where
  pending : t.pending = s.pending
  fuse : partStands s t
  otp : otpRises s t

namespace OnlyRaisesOtp

variable {s t u : State}

theorem of_fixed (h : t.fixed = s.fixed) : OnlyRaisesOtp s t := by
  obtain ⟨pending, fuse, otp⟩ : t.pending = s.pending ∧ t.fuse = s.fuse ∧ t.otp = s.otp := by
    simpa only [State.fixed, Fixed.mk.injEq] using h
  exact ⟨pending, fuse, fun a => by rw [otp, BitVec.and_self]⟩

theorem trans (h : OnlyRaisesOtp s t) (k : OnlyRaisesOtp t u) : OnlyRaisesOtp s u where
  pending := k.pending.trans h.pending
  fuse := Eq.trans k.fuse h.fuse
  otp a := by rw [← h.otp a, BitVec.and_assoc, k.otp a]

/-- A part burned with `m` and `f` is so after OTP bits are raised. -/
theorem keeps_burned (h : OnlyRaisesOtp s t) {m : Nat → Byte} {f : Fuse} (hb : burned m f s) : burned m f t := by
  obtain ⟨programmed, fused⟩ := hb
  refine ⟨fun a => ?_, Eq.trans h.fuse fused⟩
  calc t.otp.get 0 a &&& m a = t.otp.get 0 a &&& (s.otp.get 0 a &&& m a) := by rw [programmed a]
    _ = s.otp.get 0 a &&& t.otp.get 0 a &&& m a := by rw [← BitVec.and_assoc, BitVec.and_comm (t.otp.get 0 a)]
    _ = m a := by rw [h.otp a, programmed a]

end OnlyRaisesOtp

theorem onlyRaisesOtp_progOtp (a : Nat) (b : Bytes) (s : State) : OnlyRaisesOtp s (progOtp a b s) :=
  ⟨rfl, rfl, otpRises_progOtp a b s⟩

/-- The end of an OTP program, of whichever kind, raises the bits that it programs. -/
theorem onlyRaisesOtp_performOtp (o : OtpProg) (s : State) : OnlyRaisesOtp s (performOtp o s) := by
  have confirmed (t : State) (h : OnlyRaisesOtp s t) :
      OnlyRaisesOtp s (match o.then_ with | some p => programConfirm p t | none => t) := by
    cases o.then_ with
    | none => exact h
    | some p => exact h.trans (.of_fixed (fixed_programConfirm p t))
  refine confirmed _ ?_
  split
  case isTrue => exact (onlyRaisesOtp_progOtp _ _ s).trans (.of_fixed (fixed_post _ _ _ _))
  case isFalse =>
    split
    case isTrue =>
      split
      · exact onlyRaisesOtp_progOtp _ _ s
      · exact .of_fixed rfl
    case isFalse =>
      split
      · exact onlyRaisesOtp_progOtp _ _ s
      · exact .of_fixed rfl

theorem onlyRaisesOtp_otpProgramDone {s t : State} (h : exec .otpProgramDone s = .next t) : OnlyRaisesOtp s t := by
  cases h
  split
  case h_1 o l _ _ =>
    exact ((OnlyRaisesOtp.of_fixed (fixed_secu s _)).trans (onlyRaisesOtp_performOtp o _)).trans (.of_fixed (fixed_startOtp _))
  case h_2 => exact .of_fixed rfl

/-! ### Every command and every step -/

/-- Every command leaves the waiting commands and the fuses, and raises OTP bits at most. -/
theorem onlyRaisesOtp_exec {c : Instr} {s t : State} (h : exec c s = .next t) : OnlyRaisesOtp s t := by
  by_cases hc : c = .otpProgramDone
  · subst hc; exact onlyRaisesOtp_otpProgramDone h
  · exact .of_fixed (exec_fixed c s t hc h)

theorem step_of_nil {s : State} (h : s.pending = []) : step s = .next (idle s) := by rw [step, h]

theorem step_of_cons {s : State} {c : Instr} {l : List Instr} (h : s.pending = c :: l) : step s = exec c { s with pending := l } := by
  rw [step, h]

/-- A step is what it does to the state without the command in front of its queue. -/
theorem onlyRaisesOtp_step {s t : State} (h : step s = .next t) : OnlyRaisesOtp { s with pending := s.pending.tail } t := by
  cases queue : s.pending with
  | nil =>
    rw [step_of_nil queue] at h
    cases h
    refine .of_fixed ((fixed_idle s).trans ?_)
    rw [State.fixed, queue]; rfl
  | cons c l => exact onlyRaisesOtp_exec ((step_of_cons queue).symm.trans h)

/-- Settles O38: no command touches the queue, so that a step only takes the front of it. -/
theorem everyStepUsesUpOneCommand : Obligations.EveryStepUsesUpOneCommand :=
  fun _ _ h => (onlyRaisesOtp_step h).pending

/-- Settles O39: the end of an OTP program alone changes the OTP, and it only raises bits. -/
theorem everyStepKeepsOtpAndFuses : Obligations.EveryStepKeepsOtpAndFuses :=
  fun _ _ _ _ burned h => (onlyRaisesOtp_step h).keeps_burned burned

/-- Settles O37, by the two cases of the queue. -/
theorem stepRunsTheFrontCommand : Obligations.StepRunsTheFrontCommand :=
  ⟨fun _ _ => step_of_cons rfl, fun _ => step_of_nil⟩

end Sys2Proof.Machine.Proofs
end

section
/-! PROOFS. How far the Timekeeper runs (R179, R183): device time and MONO advance together, and what a cycle leaves of the next unit is
held, so that nothing is lost in the long run. -/

namespace Sys2Proof.Machine.Proofs
open Sys2Proof Sys2Proof.Machine Sys2Proof.Machine.Reg

/-- The advance of one cycle, in units of `acc`: 0.8 ns times 1 + TK_RATE · 10^-12. -/
def cycleAdvance (s : State) : Int := 262144 * (1000000000000 + signed 32 (s.rd TK_RATE_PPT))

/-- TK_RATE is far above -10^12, so that time never runs backwards. -/
theorem cycleAdvance_nonneg (s : State) : 0 ≤ cycleAdvance s := by
  unfold cycleAdvance signed
  split <;> omega

/-- The Timekeeper's island runs and no reset is under way, with less than one FRAC unit held. -/
structure TimeRuns (s : State) : Prop where
  island : islandRuns s 2 = true
  noReset : s.power.resetNow = none
  held : s.time.acc < 5000000000000

theorem timeTick_of_runs {s : State} (h : TimeRuns s) :
    timeTick s = { s with time := { s.time with
      dev := s.time.dev + (s.time.acc + (cycleAdvance s).toNat) / 5000000000000
      mono := s.time.mono + (s.time.acc + (cycleAdvance s).toNat) / 5000000000000
      acc := (s.time.acc + (cycleAdvance s).toNat) % 5000000000000 } } := by
  simp [timeTick, h.island, h.noReset, cycleAdvance]

theorem timeRuns_timeTick {s : State} (h : TimeRuns s) : TimeRuns (timeTick s) := by
  rw [timeTick_of_runs h]
  exact ⟨h.island, h.noReset, Nat.mod_lt _ (by decide)⟩

theorem cycleAdvance_timeTick {s : State} (h : TimeRuns s) : cycleAdvance (timeTick s) = cycleAdvance s := by
  rw [timeTick_of_runs h]; rfl

/-- All that has run, in units of `acc`: the device time and the part of the next unit. -/
def timeRun (s : State) : Int := 5000000000000 * s.time.dev + s.time.acc

theorem timeRun_timeTick {s : State} (h : TimeRuns s) : timeRun (timeTick s) = timeRun s + cycleAdvance s := by
  have forward := cycleAdvance_nonneg s
  rw [timeTick_of_runs h]
  simp only [timeRun]
  omega

/-- A cycle advances MONO by as much as device time. -/
theorem mono_timeTick {s : State} (h : TimeRuns s) :
    (timeTick s).time.mono + s.time.dev = (timeTick s).time.dev + s.time.mono := by
  rw [timeTick_of_runs h]
  simp only
  omega

theorem repeat_timeTick {s : State} (h : TimeRuns s) (n : Nat) :
    TimeRuns (Nat.repeat timeTick n s) ∧ cycleAdvance (Nat.repeat timeTick n s) = cycleAdvance s ∧
      timeRun (Nat.repeat timeTick n s) = timeRun s + n * cycleAdvance s ∧
      (Nat.repeat timeTick n s).time.mono + s.time.dev = (Nat.repeat timeTick n s).time.dev + s.time.mono := by
  induction n with
  | zero => exact ⟨h, rfl, by simp [Nat.repeat], Nat.add_comm ..⟩
  | succ n ih =>
    obtain ⟨runs, rate, run, mono⟩ := ih
    refine ⟨timeRuns_timeTick runs, (cycleAdvance_timeTick runs).trans rate, ?_, ?_⟩
    · rw [Nat.repeat, timeRun_timeTick runs, run, rate]; push_cast; ring
    · have step := mono_timeTick runs
      rw [Nat.repeat]; omega

/-- Seconds and nanoseconds make up the device time (R179). -/
theorem devNs_eq_sec_ns (s : State) :
    s.ns ≤ 999999999 ∧ s.sec < 2 ^ 48 ∧ s.devNs % (2 ^ 48 * 1000000000) = s.sec * 1000000000 + s.ns := by
  simp only [State.ns, State.sec]
  omega

/-- Settles O42, by induction on the cycles: each advances the exact time by the same amount. -/
theorem timekeeperAdvancesExactly : Obligations.TimekeeperAdvancesExactly := by
  refine ⟨fun s n island noReset held => ?_, devNs_eq_sec_ns⟩
  obtain ⟨runs, -, run, mono⟩ := repeat_timeTick ⟨island, noReset, held⟩ n
  exact ⟨runs.held, run, mono⟩

end Sys2Proof.Machine.Proofs
end

section
/-! PROOFS. Status codes: one code reported for several (R21). -/

namespace Sys2Proof.Machine.Proofs
open Sys2Proof Sys2Proof.Machine

/-- The status codes in the order in which they are reported (R21): FAULT first, OK last. -/
def reportOrder : List Nat := [0x0B, 0x06, 0x05, 0x04, 0x0A, 0x07, 0x0C, 0x03, 0x08, 0x02, 0x09, 0x01, 0x00]

/-- The rank of a code is its place in the order. -/
theorem reportOrder_statusRank : ∀ c ∈ reportOrder, reportOrder[statusRank c]? = some c := by decide

theorem statusRank_reportOrder : ∀ j (h : j < reportOrder.length), statusRank reportOrder[j] = j := by decide

theorem worse_eq_or (a b : Nat) : worse a b = a ∨ worse a b = b := by
  unfold worse; split
  · exact .inr rfl
  · exact .inl rfl

theorem statusRank_worse_le (a b : Nat) : statusRank (worse a b) ≤ statusRank a ∧ statusRank (worse a b) ≤ statusRank b := by
  unfold worse; split <;> omega

/-- The worst of several codes is one of them, and none comes before it. -/
theorem foldl_worse_spec (l : List Nat) (c : Nat) : l.foldl worse c ∈ c :: l ∧ ∀ d ∈ c :: l, statusRank (l.foldl worse c) ≤ statusRank d := by
  induction l generalizing c with
  | nil => simp
  | cons e l ih =>
    obtain ⟨mem, least⟩ := ih (worse c e)
    obtain ⟨leC, leE⟩ := statusRank_worse_le c e
    have here := least _ List.mem_cons_self
    constructor
    · rcases List.mem_cons.1 mem with same | mem
      · rw [List.foldl_cons, same]
        rcases worse_eq_or c e with h | h <;> simp [h]
      · exact List.mem_cons_of_mem _ (List.mem_cons_of_mem _ mem)
    · simp only [List.forall_mem_cons, List.foldl_cons]
      exact ⟨here.trans leC, here.trans leE, fun d hd => least d (List.mem_cons_of_mem _ hd)⟩

/-- OK comes last, so that the worst of some codes is one of these codes. -/
theorem worstOf_mem {l : List Nat} (ne : l ≠ []) (codes : ∀ c ∈ l, c ∈ reportOrder) : worstOf l ∈ l := by
  obtain ⟨mem, least⟩ := foldl_worse_spec l 0
  rcases List.mem_cons.1 mem with ok | mem
  · obtain ⟨c, hc⟩ := List.exists_mem_of_ne_nil l ne
    have last := least c (List.mem_cons_of_mem _ hc)
    rw [ok] at last
    have isOk : c = 0 := (by decide : ∀ c ∈ reportOrder, statusRank 0 ≤ statusRank c → c = 0) c (codes c hc) last
    rw [worstOf, ok]; exact isOk ▸ hc
  · exact mem

/-- Settles O53: the worst code is the first of the order that is among the codes, since the rank of a code is its place there. -/
theorem statusCodesHaveAnOrder : Obligations.StatusCodesHaveAnOrder := by
  intro l ne codes
  have mem := worstOf_mem ne codes
  obtain ⟨inOrder, place⟩ := List.getElem?_eq_some_iff.1 (reportOrder_statusRank _ (codes _ mem))
  refine List.find?_eq_some_iff_getElem.2 ⟨by simpa using mem, statusRank (worstOf l), inOrder, place, fun j hj => ?_⟩
  have before : j < reportOrder.length := hj.trans inOrder
  rw [Bool.not_eq_true', ← Bool.not_eq_true, List.contains_iff_mem]
  intro earlier
  have least := (foldl_worse_spec l 0).2 _ (List.mem_cons_of_mem _ earlier)
  have rank := statusRank_reportOrder j before
  simp only [reportOrder] at rank
  rw [rank] at least
  exact absurd hj (Nat.not_lt.2 least)

end Sys2Proof.Machine.Proofs
end

section
/-! PROOFS. A FILL whose start is late (R459, R602): the Shepherd's reaction to the late start ends a pending decision, whose outcome record is written
to device memory. -/

namespace Sys2Proof.Machine.Proofs
open Sys2Proof Sys2Proof.Machine Sys2Proof.Machine.Reg

/-- A FILL of 64 bytes of zeros at address 0. -/
def fillCommand : Bytes := leBytes 64 (0x09 + 256 * 1 + 64 * 256 ^ 16)

/-- A decision that waits for its outcome record at 0x1000. -/
def waitingDecision : Decision :=
  { q := 1022, idx := 0, stream := 0, act := 0, lane := 0, pseq := 0, dst := 0x1000, launchTs := 0, releaseTs := 0, waiting := [] }

/-- Queue 1023 is a supervised task that has an open instance; its START limit is 0, its LEVEL 1, and 1 ns has passed since the instance opened. The
FILL at its head may start on column 0. -/
def lateFill : State :=
  let s := State.reset.wrs [(Q_STATE_STATE 1023, 2), (Q_CFG_CLASS 1023, 1), (MC_CFG_GIB 0, 1), (Q_ENG_ENG 1023, 1), (COL_STATE_STATE 0, 1),
    (COL_STATE_QID 0, 1023), (SRV_LIMIT_US 0, 65535), (SHP_STATUS_SUPERVISING, 1)]
  { s with
    time := { s.time with mono := 65536 }
    drv := { s.drv with heads := [(1023, ⟨fillCommand⟩)] }
    img := { s.img with shep := leBytes 4 1 ++ zeros 12 ++ (leBytes 2 1023 ++ [1, 1, 0xF] ++ zeros 27) }
    shp := { s.shp with inst := [(1023, { ref := 0, left := 1 })] }
    safety := { s.safety with pending := [waitingDecision] } }

theorem engineCmd_lateFill : engineCmd lateFill 1023 0 1 0x09 = some (⟨1023, 0, 0⟩, fillCommand) := by decide +kernel

theorem instAt_lateFill : instAt lateFill 1023 ≠ none := by decide

/-- The FILL itself names device memory, and its tenant may write its range. -/
theorem fillCommand_writes_memory :
    (opdOf (u64 fillCommand 8)).loc = false ∧ (opdOf (u64 fillCommand 8)).named = false ∧ (opdOf (u64 fillCommand 8)).addr = 0 ∧
      (memWrite lateFill (columnPid lateFill 0) 0 (opdOf (u64 fillCommand 8)).addr
        (List.replicate (u64 fillCommand 16 / 4) (leBytes 4 (u32 fillCommand 24))).flatten).1 = 0 := by decide +kernel

theorem fillCommand_length : (List.replicate (u64 fillCommand 16 / 4) (leBytes 4 (u32 fillCommand 24))).flatten.length = 64 := by decide +kernel

/-- The first byte of the decision's outcome record, 0x0D, where there was nothing. -/
theorem lateFill_writes_outcome : lateFill.dram.get 0 0x1000 = 0 ∧ (runFill ⟨1023, 0, 0⟩ fillCommand lateFill).dram.get 0 0x1000 = 0x0D := by
  decide +kernel

theorem exec_fill_of_engineCmd {s : State} {q c : Nat} {x : Ctx} {b : Bytes} (h : engineCmd s q c 1 0x09 = some (x, b)) :
    exec (.fill q c) s = .next (runFill x b s) := by
  simp only [exec, execFill, h]

/-- Refutes O60: its hypothesis excludes the violation of a start without an instance (R604) alone. The start of a late instance is one too (START_LATE, R602);
its reaction ends the pending decision, and the outcome record goes to device memory outside the FILL's range. -/
theorem not_fillStoresItsPattern : ¬ Obligations.FillStoresItsPattern := by
  intro h
  obtain ⟨loc, named, addr, ok⟩ := fillCommand_writes_memory
  obtain ⟨t, run, -, -, outside⟩ := h lateFill 1023 0 ⟨1023, 0, 0⟩ fillCommand (by decide) engineCmd_lateFill loc named (.inr (.inr instAt_lateFill)) ok
  obtain ⟨before, after⟩ := lateFill_writes_outcome
  have unchanged := outside 0x1000 (.inr (by rw [addr, fillCommand_length]; decide))
  rw [exec_fill_of_engineCmd engineCmd_lateFill] at run
  cases run
  rw [before, after] at unchanged
  exact absurd unchanged (by decide)

end Sys2Proof.Machine.Proofs
end

section
/-! PROOFS. Device memory: where an address lies (R288), which accesses a window permits (R303), and what a write and a read of a range do to its
bytes, whole or in pieces (R294, R304, R317). -/

namespace Sys2Proof.Machine.Proofs
open Sys2Proof Sys2Proof.Machine Sys2Proof.Machine.Reg Sys2Proof.Machine.Laws

/-! ### The address map -/

/-- A unit is recovered from its channel and the unit's number in the channel. -/
theorem unitOf_channelOf (u : Nat) : unitOf (channelOf (u * 64)) (u / 96 * 4 + u % 4) = u := by
  simp only [unitOf, channelOf]; omega

/-- Settles O51: the channel is the block's number mod 24, and the rest of the number is the offset's. -/
theorem channelsPartitionMemory : Obligations.ChannelsPartitionMemory := by
  refine ⟨?channel, ?once, fun u => ⟨_, unitOf_channelOf u⟩, ?offset⟩
  case channel => intro c v hc; simp only [unitOf, channelOf]; omega
  case once => intro c v w _ h; simp only [unitOf] at h; omega
  case offset => intro a; simp only [channelOffset, channelOf]; omega

/-! ### Windows -/

/-- Tenant 0 reaches what is below V. -/
theorem permitted_zero_iff (s : State) (a n : Nat) (w : Bool) : permitted s 0 a n w = true ↔ a + n ≤ visible s := by
  by_cases h : visible s < a + n
  · simp [permitted, h]
  · simp [permitted, h, Nat.le_of_not_lt h]

/-- Every other tenant needs one window of its own that grants the direction and holds the whole range. -/
theorem exists_window_of_permitted {s : State} {t a n : Nat} {w : Bool} (ht : t ≠ 0) (h : permitted s t a n w = true) :
    ∃ e ∈ windows s, bits (u16 e 12) 0 10 = t ∧ bit (u8 e 14) (if w then 1 else 0) = true ∧
      u64 e 0 ≤ a ∧ a + n ≤ u64 e 0 + u32 e 8 * 2 ^ 20 := by
  have below : ¬ visible s < a + n := fun above => by simp [permitted, above] at h
  simpa [permitted, below, ht, and_assoc] using h

/-- Settles O49: the whole range lies in the window that permits it, and each byte with it. -/
theorem tenantsStayInTheirWindows : Obligations.TenantsStayInTheirWindows := by
  refine ⟨fun s t a n w ht h => ?_, permitted_zero_iff⟩
  obtain ⟨e, mem, tenant, grant, first, last⟩ := exists_window_of_permitted ht h
  exact ⟨e, mem, tenant, grant, fun b hb hb' => ⟨first.trans hb, Nat.lt_of_lt_of_le hb' last⟩⟩

/-! ### What a controller does to the memory -/

@[simp] theorem pushEvent_dram (s : State) (e : EventRec) : (pushEvent s e).dram = s.dram := by
  simp only [pushEvent]
  split
  · rfl
  · split <;> rfl

@[simp] theorem post_dram (code src : Nat) (args : List Nat) (s : State) : (post code src args s).dram = s.dram := pushEvent_dram s _

@[simp] theorem captureUnc_dram (u kind pid : Nat) (s : State) : (captureUnc u kind pid s).dram = s.dram := by
  simp only [captureUnc]; split <;> simp

@[simp] theorem meetUnit_dram (pid u : Nat) (s : State) : (meetUnit pid u s).dram = s.dram := by
  simp only [meetUnit]
  split
  · rfl
  · split
    · rfl
    · split <;> simp

@[simp] theorem meetUnits_dram (pid a n : Nat) (p : Nat → Bool) (s : State) : (meetUnits pid a n p s).dram = s.dram :=
  foldl_keep State.dram _ _ (fun t u => meetUnit_dram pid u t) s

@[simp] theorem noteForbidden_dram (t a n : Nat) (w : Bool) (s : State) : (noteForbidden t a n w s).dram = s.dram := by
  simp only [noteForbidden, windowViolation]
  split
  · rfl
  · split <;> simp

@[simp] theorem setPieces_dram (l : List Piece) (s : State) : (setPieces l s).dram = s.dram :=
  foldl_keep State.dram _ _ (fun t _ => wrs_dram t _) _

@[simp] theorem noteTimeout_dram (p tgt tag addr : Nat) (sv : Bool) (s : State) : (noteTimeout p tgt tag addr sv s).dram = s.dram := by
  simp only [noteTimeout]; split <;> simp

@[simp] theorem portTimeout_dram (z : Piece) (sv : Bool) (s : State) : (portTimeout z sv s).dram = s.dram := by
  simp only [portTimeout]; split <;> simp

/-- A controller refuses a write and leaves the memory, or stores the bytes. -/
theorem ctlWrite_cases (pid t a : Nat) (b : Bytes) (s : State) :
    ((ctlWrite pid t a b s).1 = 0x07 ∧ (ctlWrite pid t a b s).2.dram = s.dram) ∨
      ((ctlWrite pid t a b s).1 = 0 ∧ (ctlWrite pid t a b s).2.dram = writeMem s.dram 0 a b) := by
  simp only [ctlWrite]
  split
  · exact .inl ⟨rfl, noteForbidden_dram ..⟩
  · split
    · exact .inl ⟨rfl, rfl⟩
    · refine .inr ⟨rfl, ?_⟩
      change writeMem (meetUnits pid a b.length _ s).dram 0 a b = _
      rw [meetUnits_dram]

/-- The error codes that the memory's pieces carry: TIMEOUT, FENCED, ECC, DENIED. -/
def memoryErrors : List Nat := [0x04, 0x05, 0x06, 0x07]

/-- So does a piece of a write, whether its controller, the fence or the port answers; its code worsens the whole's. -/
theorem pieceWrite_cases (pid t base : Nat) (b : Bytes) (r : Nat × State) (e : Nat × Nat) :
    ∃ c, (pieceWrite pid t base b r e).1 = worse r.1 c ∧
      ((c ∈ memoryErrors ∧ (pieceWrite pid t base b r e).2.dram = r.2.dram) ∨
        (c = 0 ∧ (pieceWrite pid t base b r e).2.dram = writeMem r.2.dram 0 e.1 (slice b (e.1 - base) e.2))) := by
  simp only [pieceWrite]
  split
  · exact ⟨0x05, rfl, .inl ⟨by decide, rfl⟩⟩
  · split
    · exact ⟨0x04, rfl, .inl ⟨by decide, portTimeout_dram ..⟩⟩
    · refine ⟨_, rfl, ?_⟩
      rcases ctlWrite_cases pid t e.1 (slice b (e.1 - base) e.2) r.2 with ⟨code, same⟩ | stored
      · exact .inl ⟨by rw [code]; decide, same⟩
      · exact .inr stored

/-- OK ranks last. -/
theorem statusRank_le (c : Nat) : statusRank c ≤ statusRank 0 := by
  change statusRank c ≤ 12
  simp only [statusRank, List.lookup]
  repeat' split
  all_goals simp

theorem worse_zero_right (c : Nat) : worse c 0 = c := if_neg (Nat.not_lt.2 (statusRank_le c))

/-- An error code of a memory access stays: a whole that ends OK has no piece that ends otherwise. -/
theorem eq_zero_of_worse {c d : Nat} (hd : d ∈ 0 :: memoryErrors) (h : worse c d = 0) : d = 0 ∧ c = 0 := by
  have rank : d = 0 ∨ statusRank d < 12 := (by decide : ∀ d ∈ 0 :: memoryErrors, d = 0 ∨ statusRank d < 12) d hd
  rcases rank with rfl | rank
  · exact ⟨rfl, (worse_zero_right c).symm.trans h⟩
  · unfold worse at h
    split at h
    · subst h; exact absurd rank (by decide)
    · subst h; exact absurd rank (by assumption)

/-! ### The pieces of a range -/

/-- A piece lies in the range at `a` of `n` bytes. -/
def Within (a n : Nat) (e : Nat × Nat) : Prop := a ≤ e.1 ∧ e.1 + e.2 ≤ a + n

/-- An address lies in a piece. -/
def Covers (e : Nat × Nat) (x : Nat) : Prop := e.1 ≤ x ∧ x < e.1 + e.2

theorem splitBlocks_within {a n : Nat} {e : Nat × Nat} (he : e ∈ splitBlocks a n) : Within a n e := by
  simp only [splitBlocks, List.mem_map, List.mem_range] at he
  obtain ⟨i, hi, rfl⟩ := he
  simp only [Within]
  omega

/-- Every address of the range lies in a piece: that of its block. -/
theorem splitBlocks_covers {a n x : Nat} (h : a ≤ x) (h' : x < a + n) : ∃ e ∈ splitBlocks a n, Covers e x := by
  refine ⟨_, List.mem_map.2 ⟨x / 256 - a / 256, List.mem_range.2 (by omega), rfl⟩, ?_⟩
  simp only [Covers]
  omega

/-- A range inside one block is one piece at most. -/
theorem splitBlocks_of_one_block {a n : Nat} (h : a % 256 + n ≤ 256) : splitBlocks a n = [] ∨ ∃ e, splitBlocks a n = [e] := by
  have few : (splitBlocks a n).length ≤ 1 := by simp only [splitBlocks, List.length_map, List.length_range]; omega
  match hl : splitBlocks a n, few with
  | [], _ => exact .inl rfl
  | [e], _ => exact .inr ⟨e, rfl⟩

/-! ### Writes in pieces -/

theorem get_write_slice {m : Sparse Byte} {a x : Nat} {b : Bytes} {e : Nat × Nat} (he : Within a b.length e) :
    (writeMem m 0 e.1 (slice b (e.1 - a) e.2)).get 0 x =
      if e.1 ≤ x ∧ x < e.1 + e.2 then b.getD (x - a) 0 else m.get 0 x := by
  obtain ⟨first, last⟩ := he
  have length : (slice b (e.1 - a) e.2).length = e.2 := by simp only [slice, List.length_take, List.length_drop]; omega
  split
  · rename_i inside
    obtain ⟨i, rfl⟩ := Nat.exists_eq_add_of_le inside.1
    rw [get_writeMem_in _ _ _ _ _ (by omega)]
    simp only [slice, List.getElem_take, List.getElem_drop]
    rw [List.getD_eq_getElem _ _ (by omega)]
    congr 1
    omega
  · exact get_writeMem_out _ _ _ _ _ (by omega)

/-- What a request left of a memory: it changed no address but those of its pieces, and there put the request's own bytes; where it ended OK it put
all of them. -/
structure Stored (a : Nat) (b : Bytes) (l : List (Nat × Nat)) (m : Sparse Byte) (r : Nat × State) : Prop where
  own : ∀ x, r.2.dram.get 0 x = m.get 0 x ∨ ((∃ e ∈ l, Covers e x) ∧ r.2.dram.get 0 x = b.getD (x - a) 0)
  all : r.1 = 0 → ∀ e ∈ l, ∀ x, Covers e x → r.2.dram.get 0 x = b.getD (x - a) 0
  wf : memWf 0 m = true → memWf 0 r.2.dram = true

theorem stored_foldl (pid t a : Nat) (b : Bytes) (l : List (Nat × Nat)) (hl : ∀ e ∈ l, Within a b.length e) (r : Nat × State) :
    Stored a b l r.2.dram (l.foldl (pieceWrite pid t a b) r) ∧ ((l.foldl (pieceWrite pid t a b) r).1 = 0 → r.1 = 0) := by
  induction l generalizing r with
  | nil => exact ⟨⟨fun _ => .inl rfl, fun _ _ he => absurd he List.not_mem_nil, id⟩, id⟩
  | cons e l ih =>
    obtain ⟨he, hl⟩ := List.forall_mem_cons.1 hl
    obtain ⟨c, code, effect⟩ := pieceWrite_cases pid t a b r e
    obtain ⟨rest, okBefore⟩ := ih hl (pieceWrite pid t a b r e)
    rw [List.foldl_cons]
    rcases effect with ⟨refused, same⟩ | ⟨rfl, wrote⟩
    · have failed : (l.foldl (pieceWrite pid t a b) (pieceWrite pid t a b r e)).1 ≠ 0 := fun ok =>
        (by decide : (0 : Nat) ∉ memoryErrors) ((eq_zero_of_worse (List.mem_cons_of_mem _ refused) (code.symm.trans (okBefore ok))).1 ▸ refused)
      refine ⟨⟨fun x => ?_, fun ok => absurd ok failed, fun w => rest.wf (same ▸ w)⟩, fun ok => absurd ok failed⟩
      rcases rest.own x with old | ⟨⟨f, hf, cov⟩, new⟩
      · exact .inl (old.trans (by rw [same]))
      · exact .inr ⟨⟨f, List.mem_cons_of_mem _ hf, cov⟩, new⟩
    · have bytes := fun x => get_write_slice (m := r.2.dram) (x := x) he
      refine ⟨⟨fun x => ?_, fun ok => ?_, fun w => rest.wf (wrote ▸ memWf_writeMem _ _ _ _ w)⟩, fun ok => ?_⟩
      · rcases rest.own x with old | ⟨⟨f, hf, cov⟩, new⟩
        · rw [wrote, bytes x] at old
          split at old
          · rename_i cov
            exact .inr ⟨⟨e, List.mem_cons_self, cov⟩, old⟩
          · exact .inl old
        · exact .inr ⟨⟨f, List.mem_cons_of_mem _ hf, cov⟩, new⟩
      · refine List.forall_mem_cons.2 ⟨fun x cov => ?_, rest.all ok⟩
        rcases rest.own x with old | ⟨-, new⟩
        · rw [old, wrote, bytes x]; exact if_pos cov
        · exact new
      · rw [← worse_zero_right r.1, ← code]; exact okBefore ok

/-- A write of a range, in whichever way it goes. -/
theorem stored_memWrite (s : State) (pid t a : Nat) (b : Bytes) : Stored a b (splitBlocks a b.length) s.dram (memWrite s pid t a b) := by
  simp only [memWrite]
  split
  · have whole : Within a b.length (a, b.length) := ⟨Nat.le_refl _, Nat.le_refl _⟩
    have bytes := fun x => get_write_slice (m := s.dram) (x := x) whole
    simp only [slice, Nat.sub_self, List.drop_zero, List.take_length] at bytes
    rcases ctlWrite_cases pid t a b s with ⟨code, same⟩ | ⟨-, wrote⟩
    · exact ⟨fun x => .inl (by rw [same]), fun ok => absurd (code.symm.trans ok) (by decide), fun w => same ▸ w⟩
    · refine ⟨fun x => ?_, fun _ e he x cov => ?_, fun w => wrote ▸ memWf_writeMem _ _ _ _ w⟩
      · rw [wrote, bytes x]
        split
        · rename_i cov
          exact .inr ⟨splitBlocks_covers cov.1 cov.2, rfl⟩
        · exact .inl rfl
      · obtain ⟨first, last⟩ := splitBlocks_within he
        obtain ⟨low, high⟩ := cov
        rw [wrote, bytes x, if_pos ⟨first.trans low, Nat.lt_of_lt_of_le high last⟩]
  · exact (stored_foldl pid t a b _ (fun _ => splitBlocks_within) (0, s)).1

/-- A write answered OK is read back whole. -/
theorem ld_memWrite_of_ok {s : State} {pid t a : Nat} {b : Bytes} (ok : (memWrite s pid t a b).1 = 0) : (memWrite s pid t a b).2.ld a b.length = b := by
  refine List.ext_getElem (by simp [State.ld, readMem]) fun i hi hi' => ?_
  obtain ⟨e, he, cov⟩ := splitBlocks_covers (a := a) (n := b.length) (x := a + i) (by omega) (by omega)
  have byte := (stored_memWrite s pid t a b).all ok e he _ cov
  simp only [State.ld, readMem, List.getElem_map, List.getElem_range, byte, Nat.add_sub_cancel_left]
  exact List.getD_eq_getElem _ _ hi'

/-- A write changes no byte outside its range. -/
theorem get_memWrite_out (s : State) (pid t a x : Nat) (b : Bytes) (h : x < a ∨ a + b.length ≤ x) :
    (memWrite s pid t a b).2.dram.get 0 x = s.dram.get 0 x := by
  rcases (stored_memWrite s pid t a b).own x with old | ⟨⟨e, he, low, high⟩, -⟩
  · exact old
  · have := splitBlocks_within he
    simp only [Within] at this
    omega

/-- A write of one block is one piece: an error stores nothing. -/
theorem memWrite_dram_of_one_block {s : State} {pid t a : Nat} {b : Bytes} (one : a % 256 + b.length ≤ 256) (failed : (memWrite s pid t a b).1 ≠ 0) :
    (memWrite s pid t a b).2.dram = s.dram := by
  revert failed
  simp only [memWrite]
  split
  · rcases ctlWrite_cases pid t a b s with ⟨-, same⟩ | ⟨ok, -⟩
    · exact fun _ => same
    · exact fun failed => absurd ok failed
  · rcases splitBlocks_of_one_block one with none | ⟨e, single⟩
    · simp [none]
    · rw [single]
      obtain ⟨c, code, ⟨-, same⟩ | ⟨rfl, -⟩⟩ := pieceWrite_cases pid t a b (0, s) e
      · exact fun _ => same
      · exact fun failed => absurd code failed

/-! ### Reads in pieces -/

theorem ld_add (s : State) (a m n : Nat) : s.ld a (m + n) = s.ld a m ++ s.ld (a + m) n := by
  simp [State.ld, readMem, List.range_add, Nat.add_assoc, Function.comp_def]

/-- The bytes of a range are those of its pieces, one after the other. -/
theorem ld_splitBlocks (s : State) (a n : Nat) : ((splitBlocks a n).map fun e => s.ld e.1 e.2).flatten = s.ld a n := by
  have first (k : Nat) (hk : k ≤ (a % 256 + n + 255) / 256) :
      (((List.range k).map fun i => (max a ((a / 256 + i) * 256), min (a + n) ((a / 256 + i + 1) * 256) - max a ((a / 256 + i) * 256))).map
        fun e => s.ld e.1 e.2).flatten = s.ld a (min (a + n) ((a / 256 + k) * 256) - a) := by
    induction k with
    | zero =>
      have none : min (a + n) ((a / 256 + 0) * 256) - a = 0 := by omega
      rw [none]; rfl
    | succ k ih =>
      rw [List.range_succ, List.map_append, List.map_append, List.flatten_append, ih (by omega)]
      have next : min (a + n) ((a / 256 + (k + 1)) * 256) - a = (min (a + n) ((a / 256 + k) * 256) - a) +
          (min (a + n) ((a / 256 + k + 1) * 256) - max a ((a / 256 + k) * 256)) := by omega
      have start : max a ((a / 256 + k) * 256) = a + (min (a + n) ((a / 256 + k) * 256) - a) := by omega
      rw [next, ld_add, ← start]
      simp
  have whole := first _ (Nat.le_refl _)
  have length : min (a + n) ((a / 256 + (a % 256 + n + 255) / 256) * 256) - a = n := by omega
  rw [length] at whole
  exact whole

/-- A controller's read answered OK returns the bytes. -/
theorem ctlRead_of_ok {s : State} {t a n : Nat} (ok : (ctlRead s t a n).1 = 0) : (ctlRead s t a n).2 = s.ld a n := by
  revert ok
  simp only [ctlRead]
  split
  · exact fun ok => absurd ok (Nat.succ_ne_zero _)
  · exact fun _ => rfl

theorem pieceRead_of_ok {s : State} {t : Nat} {e : Nat × Nat} (ok : (pieceRead s t e).1 = 0) : (pieceRead s t e).2 = s.ld e.1 e.2 := by
  revert ok
  simp only [pieceRead]
  split
  · exact fun ok => absurd ok (Nat.succ_ne_zero _)
  · split
    · exact fun ok => absurd ok (Nat.succ_ne_zero _)
    · exact ctlRead_of_ok

/-- The code of a piece is OK or an error that the whole keeps. -/
theorem pieceRead_status (s : State) (t : Nat) (e : Nat × Nat) : (pieceRead s t e).1 ∈ 0 :: memoryErrors := by
  simp only [pieceRead, ctlRead]
  repeat' split
  all_goals simp [memoryErrors]

theorem foldl_worse_reads {l : List (Nat × Bytes)} (codes : ∀ r ∈ l, r.1 ∈ 0 :: memoryErrors) {c : Nat}
    (ok : l.foldl (fun c r => worse c r.1) c = 0) : c = 0 ∧ ∀ r ∈ l, r.1 = 0 := by
  induction l generalizing c with
  | nil => exact ⟨ok, by simp⟩
  | cons r l ih =>
    obtain ⟨code, codes⟩ := List.forall_mem_cons.1 codes
    obtain ⟨here, rest⟩ := ih codes ok
    obtain ⟨zero, before⟩ := eq_zero_of_worse code here
    exact ⟨before, List.forall_mem_cons.2 ⟨zero, rest⟩⟩

/-- A read answered OK returns the bytes of its range, whole or in pieces. -/
theorem memRead_of_ok {s : State} {t a n : Nat} (ok : (memRead s t a n).1 = 0) : (memRead s t a n).2 = s.ld a n := by
  revert ok
  simp only [memRead]
  split
  · exact ctlRead_of_ok
  · intro ok
    have codes : ∀ r ∈ (splitBlocks a n).map (pieceRead s t), r.1 ∈ 0 :: memoryErrors :=
      List.forall_mem_map.2 fun e _ => pieceRead_status s t e
    have pieces := List.forall_mem_map.1 (foldl_worse_reads codes ok).2
    rw [List.map_map, ← ld_splitBlocks]
    exact congrArg List.flatten (List.map_congr_left fun e he => pieceRead_of_ok (pieces e he))

/-- Settles O50: each clause is one of the rules of a write, whole or in pieces, or of a read. -/
theorem memoryHoldsWhatIsWritten : Obligations.MemoryHoldsWhatIsWritten := by
  refine ⟨fun _ _ _ _ _ => ld_memWrite_of_ok, get_memWrite_out, fun _ _ _ _ _ => memWrite_dram_of_one_block, ?own,
    fun s p t a b => (stored_memWrite s p t a b).wf, fun _ _ _ _ => memRead_of_ok⟩
  case own =>
    intro s p t a i b _
    rcases (stored_memWrite s p t a b).own (a + i) with old | ⟨-, new⟩
    · exact .inl old
    · rw [Nat.add_sub_cancel_left] at new
      exact .inr new

end Sys2Proof.Machine.Proofs
end

section
/-! PROOFS. The writes of one cycle at a register (R10, R17, R93, R98): where the fields of the register table lie, what becomes of each field of a
plain register, and what a refused access leaves. -/

namespace Sys2Proof.Machine.Proofs
open Sys2Proof Sys2Proof.Machine Sys2Proof.Machine.Reg Sys2Proof.Machine.Laws Sys2Proof.Safety

/-! ### The register table (R84) -/

/-- The address of a register of an array, by its indices. -/
def place : List (Nat × Nat) → List Nat → Nat → Nat
  | (stride, _) :: ds, i :: ix, base => place ds ix (base + stride * i)
  | _, _, base => base

set_option maxRecDepth 100000 in
/-- Every field of the table is written down at its register's place, inside a word. -/
theorem allGroups_placed : allGroups.map (fun g i j k => (g.fields i j k).map fun f => (f.addr, decide (f.lsb < 32))) =
    allGroups.map fun g i j k => (g.fields i j k).map fun _ => (place g.dims [i, j, k] g.base, true) := rfl

theorem allGroups_dims : ∀ g ∈ allGroups, g.dims.length ≤ 2 := by decide +kernel

/-- The indices of an offset lead back to it. -/
theorem place_splitIndex {ds : List (Nat × Nat)} {off : Nat} {ix : List Nat} (few : ds.length ≤ 2) (h : splitIndex ds off = some ix) (base : Nat) :
    place ds [ix.getD 0 0, ix.getD 1 0, ix.getD 2 0] base = base + off := by
  match ds, few with
  | [], _ =>
    obtain rfl : off = 0 := by by_contra ne; simp [splitIndex, ne] at h
    rfl
  | [(s, c)], _ =>
    simp only [splitIndex, Option.map_if, Option.ite_none_right_eq_some, Option.some.injEq] at h
    obtain ⟨-, last, rfl⟩ := h
    have whole := Nat.div_add_mod off s
    simp only [place, List.getD_cons_zero]
    omega
  | [(s, c), (s', c')], _ =>
    simp only [splitIndex, Option.map_if, Option.ite_none_right_eq_some, apply_ite (Option.map (off / s :: ·)), Option.map_none] at h
    obtain ⟨-, -, last, pair⟩ := h
    obtain rfl := Option.some.inj pair
    have whole := Nat.div_add_mod off s
    have part := Nat.div_add_mod (off % s) s'
    simp only [place, List.getD_cons_zero, List.getD_cons_succ]
    omega

/-- A field of the register at an address has that address. -/
theorem field_of_fieldsAt {a : Nat} {f : Machine.Field} (h : f ∈ fieldsAt a) : f.addr = a ∧ f.lsb < 32 := by
  cases found : allGroups.findSome? (·.at? a) with
  | none => simp [fieldsAt, found] at h
  | some l =>
    obtain ⟨g, mem, here⟩ := List.exists_of_findSome?_eq_some found
    rw [fieldsAt, found, Option.getD_some] at h
    simp only [Group.at?, Option.ite_none_left_eq_some, Option.map_eq_some_iff] at here
    obtain ⟨base, ix, indices, rfl⟩ := here
    have placed := congrFun (congrFun (congrFun (List.map_inj_left.1 allGroups_placed g mem) (ix.getD 0 0)) (ix.getD 1 0)) (ix.getD 2 0)
    have pair := List.map_inj_left.1 placed f h
    rw [place_splitIndex (allGroups_dims g mem) indices] at pair
    simp only [Prod.mk.injEq, decide_eq_true_eq] at pair
    omega

/-- A field whose key another field has lies in that field's register. -/
theorem addr_of_key_eq {a : Nat} {f g : Machine.Field} (hf : f ∈ fieldsAt a) (hg : g.lsb < 32) (h : f.key = g.key) : a = g.addr := by
  obtain ⟨addr, lsb⟩ := field_of_fieldsAt hf
  simp only [Field.key] at h
  omega

/-! ### One field -/

/-- What a write makes of a field whose enable a fault flag may hold at 0 (R104). -/
def heldEnable (s : State) (f : Machine.Field) (v : Nat) : Nat :=
  match hkFlag f with
  | some g => if s.rdb g then 0 else v
  | none => v

theorem applyField_noHw (a : Nat) (ws : List (Writer × Nat)) (s : State) (f : Machine.Field) :
    applyField a ws [] s f = match softValue s f ws with | some v => s.wr f (heldEnable s f v) | none => s := by
  cases h : softValue s f ws <;> simp only [applyField, settleField, h, List.find?_nil, Option.map_none] <;> rfl

/-- What the writes make of a field depends on the field and the seal alone. -/
theorem softValue_congr {s u : State} {f : Machine.Field} (own : u.rd f = s.rd f) (sealing : u.rdb BOOT_STATUS_SEALED = s.rdb BOOT_STATUS_SEALED)
    (ws : List (Writer × Nat)) : softValue u f ws = softValue s f ws := by
  unfold softValue unlocked
  rw [own, sealing]

theorem rd_applyField_ne (a : Nat) (ws : List (Writer × Nat)) (s : State) {f g : Machine.Field} (h : g.key ≠ f.key) :
    (applyField a ws [] s f).rd g = s.rd g := by
  rw [applyField_noHw]
  split
  · exact rd_wr_ne s _ h
  · rfl

/-- Among fields of different keys, none of them the seal, a field meets its own step with the value of the start of the cycle, and no later
step changes it. -/
theorem rd_foldl_applyField (a : Nat) (ws : List (Writer × Nat)) {l : List Machine.Field} (apart : l.Pairwise fun f g => f.key ≠ g.key)
    (noSeal : ∀ f ∈ l, f.key ≠ BOOT_STATUS_SEALED.key) {f : Machine.Field} (hf : f ∈ l) (s : State) :
    ∃ u : State, u.rd f = s.rd f ∧ u.rdb BOOT_STATUS_SEALED = s.rdb BOOT_STATUS_SEALED ∧
      (l.foldl (applyField a ws []) s).rd f = (applyField a ws [] u f).rd f := by
  induction l generalizing s with
  | nil => exact absurd hf List.not_mem_nil
  | cons e l ih =>
    obtain ⟨first, apart⟩ := List.pairwise_cons.1 apart
    obtain ⟨sealing, noSeal⟩ := List.forall_mem_cons.1 noSeal
    rcases List.mem_cons.1 hf with rfl | hf
    · refine ⟨s, rfl, rfl, ?_⟩
      rw [List.foldl_cons]
      have later (l : List Machine.Field) (hl : ∀ g ∈ l, f.key ≠ g.key) (t : State) : (l.foldl (applyField a ws []) t).rd f = t.rd f := by
        induction l generalizing t with
        | nil => rfl
        | cons g l ih =>
          rw [List.foldl_cons, ih fun x hx => hl x (List.mem_cons_of_mem _ hx), rd_applyField_ne _ _ _ (hl g List.mem_cons_self)]
      exact later l first _
    · obtain ⟨u, own, sealed, same⟩ := ih apart noSeal hf (applyField a ws [] s e)
      refine ⟨u, own.trans (rd_applyField_ne _ _ _ (first f hf).symm), sealed.trans ?_, same⟩
      rw [rdb_eq, rdb_eq, rd_applyField_ne _ _ _ sealing.symm]

section
variable {a : Nat} (plain : plainRegister a) (ws : List (Writer × Nat)) (s : State) {f : Machine.Field} (hf : f ∈ fieldsAt a)
include plain hf

/-- A field that no write sets keeps its value. -/
theorem rd_applyCycle_of_none (h : softValue s f ws = none) : (applyCycle a ws [] s).rd f = s.rd f := by
  obtain ⟨-, -, -, -, -, -, -, apart, noSeal⟩ := plain
  obtain ⟨u, own, sealing, same⟩ := rd_foldl_applyField a ws apart noSeal hf s
  rw [applyCycle, same, applyField_noHw, softValue_congr own sealing, h, own]

/-- A field that a write sets takes the value, cut to its width. -/
theorem rd_applyCycle_of_some {v : Nat} (h : softValue s f ws = some v) (noFlag : hkFlag f = none) :
    (applyCycle a ws [] s).rd f = v % 2 ^ f.width := by
  obtain ⟨-, -, -, -, -, -, -, apart, noSeal⟩ := plain
  obtain ⟨u, own, sealing, same⟩ := rd_foldl_applyField a ws apart noSeal hf s
  rw [applyCycle, same, applyField_noHw, softValue_congr own sealing, h]
  simp only [heldEnable, noFlag]
  exact rd_wr_self u f v

end

/-- With no write and no hardware update nothing changes. -/
theorem applyCycle_nil (a : Nat) (s : State) : applyCycle a [] [] s = s := by
  have still (f : Machine.Field) : applyField a [] [] s f = s := by
    rw [applyField_noHw]
    cases h : f.acc <;> simp [softValue, h]
  unfold applyCycle
  induction fieldsAt a with
  | nil => rfl
  | cons f l ih => rw [List.foldl_cons, still, ih]

/-- Settles O46: the table of R17, case by case. -/
theorem collisionsFollowTheClass : Obligations.CollisionsFollowTheClass := by
  intro s f v h
  refine ⟨?hs, ?hc, ?hk, ?ct, ?hv, ?free, ?flag, ?count, ?discard⟩
  case hs => intro col; simp [settleField, col]
  case hc => intro col; simp [settleField, col]
  case hk => intro col; simp [settleField, col]
  case ct => intro col; simp [settleField, col]
  case hv => intro col; simp [settleField, col]
  case free => intro none; simp [settleField, none]
  case flag => intro g some on; simp [settleField, some, on]
  case count => intro col; simp [settleField, col]
  case discard =>
    intro a w acc col
    simp [applyField, softValue, settleField, acc, col]

/-! ### What a violation records (R107) -/

/-- The fields that the record of a violation may write. -/
def violationFields : List Machine.Field :=
  [GLB_ERRCNT_OWNV, GLB_OWNV_ADDR_ADDR, GLB_OWNV_ADDR_READ, GLB_OWNV_INFO_MASTER, GLB_OWNV_INFO_QID, GLB_OWNV_INFO_VALID, EVQ_STAT_QUEUED,
    EVQ_STAT_FOLDING, EVQ_FOLD 5]

/-- The capture of the first violation after VALID was cleared. -/
def captureViolation (w : Writer) (a : Nat) (read : Bool) (s : State) : State :=
  if s.rdb GLB_OWNV_INFO_VALID then s
  else (((((s.wr GLB_OWNV_ADDR_ADDR a).wr GLB_OWNV_ADDR_READ (ofBool read)).wr GLB_OWNV_INFO_MASTER w.master).wr
    GLB_OWNV_INFO_QID w.qid).set GLB_OWNV_INFO_VALID)

theorem ownViol_eq (w : Writer) (a : Nat) (read : Bool) (s : State) : ownViol w a read s =
    post 0x5001 0x01 [a, w.master % 2 ^ 12 + 2 ^ 12 * w.qid, ofBool read] (captureViolation w a read (s.inc GLB_ERRCNT_OWNV)) := rfl

/-- What the record of a violation leaves of the registers and the memory. -/
theorem rd_captureViolation_ne (w : Writer) (a : Nat) (read : Bool) (s : State) {g : Machine.Field}
    (h : ∀ f ∈ [GLB_OWNV_ADDR_ADDR, GLB_OWNV_ADDR_READ, GLB_OWNV_INFO_MASTER, GLB_OWNV_INFO_QID, GLB_OWNV_INFO_VALID], g.key ≠ f.key) :
    (captureViolation w a read s).rd g = s.rd g := by
  simp only [List.forall_mem_cons] at h
  obtain ⟨addr, rd, master, qid, valid, -⟩ := h
  unfold captureViolation
  split
  · rfl
  · rw [State.set, rd_wr_ne _ _ valid, rd_wr_ne _ _ qid, rd_wr_ne _ _ master, rd_wr_ne _ _ rd, rd_wr_ne _ _ addr]

theorem rd_pushEvent_ne (s : State) {e : EventRec} {c : Nat} (cls : e.code / 4096 = c) {g : Machine.Field}
    (h : ∀ f ∈ [EVQ_STAT_QUEUED, EVQ_STAT_FOLDING, EVQ_FOLD c], g.key ≠ f.key) : (pushEvent s e).rd g = s.rd g := by
  simp only [List.forall_mem_cons] at h
  obtain ⟨queued, folding, fold, -⟩ := h
  simp only [pushEvent, cls]
  split
  · exact rd_wr_ne _ _ queued
  · rw [rd_inc_ne _ _ fold, State.set, rd_wr_ne _ _ folding]
    split <;> rfl

theorem rd_ownViol_ne (w : Writer) (a : Nat) (read : Bool) (s : State) {g : Machine.Field} (h : ∀ f ∈ violationFields, g.key ≠ f.key) :
    (ownViol w a read s).rd g = s.rd g := by
  simp only [violationFields, List.forall_mem_cons] at h
  obtain ⟨count, addr, rd, master, qid, valid, queued, folding, fold, -⟩ := h
  rw [ownViol_eq, post, postInj, rd_pushEvent_ne (c := 5) _ (by norm_num)
      (by simpa only [List.forall_mem_cons] using ⟨queued, folding, fold, by simp⟩),
    rd_captureViolation_ne _ _ _ _ (by simpa only [List.forall_mem_cons] using ⟨addr, rd, master, qid, valid, by simp⟩), rd_inc_ne _ _ count]

/-- None of the registers that record a violation holds a field that the seal locks. -/
theorem violationFields_unlocked : ∀ g ∈ violationFields, g.lsb < 32 ∧ (fieldsAt g.addr).any (·.acc == .RWL) = false := by decide +kernel

/-- A register that turns a write away for a sealed field keeps its fields while the denial is recorded. -/
theorem rd_ownViol_of_lockedOut {s : State} {m a : Nat} (locked : lockedOut s m a = true) {f : Machine.Field} (hf : f ∈ fieldsAt a) (w : Writer)
    (b : Nat) (read : Bool) (t : State) : (ownViol w b read t).rd f = t.rd f := by
  refine rd_ownViol_ne w b read t fun g hg same => ?_
  obtain ⟨word, noLock⟩ := violationFields_unlocked g hg
  rw [← addr_of_key_eq hf word same] at noLock
  simp [lockedOut, noLock] at locked

theorem rd_recordDenied_of_lockedOut {s : State} {m a : Nat} (locked : lockedOut s m a = true) {f : Machine.Field} (hf : f ∈ fieldsAt a)
    (w : Writer) (t : State) : (recordDenied w a t).rd f = t.rd f := by
  unfold recordDenied
  split
  · exact rd_ownViol_of_lockedOut locked hf w a false t
  · rfl

@[simp] theorem captureViolation_dram (w : Writer) (a : Nat) (read : Bool) (s : State) : (captureViolation w a read s).dram = s.dram := by
  unfold captureViolation; split <;> rfl

@[simp] theorem captureViolation_evlog (w : Writer) (a : Nat) (read : Bool) (s : State) : (captureViolation w a read s).evlog = s.evlog := by
  unfold captureViolation; split <;> rfl

theorem pushEvent_queue_of_room {s : State} (e : EventRec) (room : s.evlog.queue.length < 256) :
    (pushEvent s e).evlog.queue = s.evlog.queue ++ [e] := by simp [pushEvent, room]

theorem inc_answer (s : State) (f : Machine.Field) (n c d : Nat) : (s.answer c d).inc f n = (s.inc f n).answer c d := rfl

theorem captureViolation_answer (w : Writer) (a : Nat) (read : Bool) (s : State) (c d : Nat) :
    captureViolation w a read (s.answer c d) = (captureViolation w a read s).answer c d := by
  unfold captureViolation
  rw [rdb_answer]
  split <;> rfl

theorem answer_answer (s : State) (c d x y : Nat) : (s.answer c d).answer x y = s.answer x y := rfl

/-- The answer that stands before a violation is recorded does not matter to the record. -/
theorem ownViol_answer (w : Writer) (a : Nat) (read : Bool) (s : State) (c d x y : Nat) :
    (ownViol w a read (s.answer c d)).answer x y = (ownViol w a read s).answer x y := by
  have pushed (t : State) (e : EventRec) : (pushEvent (t.answer c d) e).answer x y = (pushEvent t e).answer x y := by
    by_cases room : t.evlog.queue.length < 256
    · simp only [pushEvent, answer_evlog, room, if_true]; rfl
    · cases h : t.rdb EVQ_STAT_FOLDING <;> simp only [pushEvent, answer_evlog, room, if_false, rdb_answer, h] <;> rfl
  rw [ownViol_eq, inc_answer, captureViolation_answer, ownViol_eq]
  exact pushed _ _

/-! ### The writes of a cycle at a plain register -/

/-- A write at the address goes to the register's fields and nowhere else. -/
structure FieldsOnly (a : Nat) : Prop where
  word : a % 4 = 0
  system : systemSpecial a = none
  special : Machine.special a = none
  perMaster : perMasterBits a = none
  noLo : isPairLo a = false
  noHi : isPairLo (a - 4) = false
  elsewhere : a < 0x42000 ∨ 0x4C000 ≤ a

theorem fieldsOnly_of_plain {a : Nat} (h : plainRegister a) : FieldsOnly a := by
  obtain ⟨word, system, special, perMaster, noLo, noHi, elsewhere, -, -⟩ := h
  exact ⟨word, system, special, perMaster, noLo, noHi, elsewhere⟩

/-- There the writes that stand settle on the fields. -/
theorem standingWrites_of_fieldsOnly {a : Nat} (plain : FieldsOnly a) {s : State} (there : inert s a = false) (ws : List (Writer × Nat)) :
    standingWrites a ws [] s = applyCycle a ws [] s := by
  obtain ⟨-, system, noSpecial, noMaster, noLo, noHi, elsewhere⟩ := plain
  have noQueue : ¬ (0x44000 ≤ a ∧ a < 0x4C000 ∧ (a - 0x44000) % 0x20 < 0x10 ∧ ws ≠ []) := fun ⟨low, high, _⟩ => by omega
  have noDoorbell : ¬ (0x42000 ≤ a ∧ a < 0x44000) := by omega
  simp [standingWrites, system, cycleWrite, noLo, noHi, deviceWrite, there, noSpecial, noMaster, noQueue, noDoorbell]

/-- Without a write nothing happens, whether the register is there or not. -/
theorem standingWrites_of_none {a : Nat} (plain : FieldsOnly a) (s : State) : standingWrites a [] [] s = s := by
  cases there : inert s a with
  | false => rw [standingWrites_of_fieldsOnly plain there, applyCycle_nil]
  | true =>
    obtain ⟨-, system, -, -, noLo, noHi, -⟩ := plain
    simp [standingWrites, system, cycleWrite, noLo, noHi, deviceWrite, there]

theorem inert_answer (s : State) (a c d : Nat) : inert (s.answer c d) a = inert s a := rfl

theorem goodWidth_four {a : Nat} (ha : a % 4 = 0) (w : Writer) : goodWidth w 4 a = true := by simp [goodWidth, ha]

/-- Writes of 4 bytes at a word address are the word's writes. -/
theorem registerWrite_of_words {a : Nat} (ha : a % 4 = 0) {l : List RegWrite} (ne : l ≠ []) (four : ∀ x ∈ l, x.width = 4) (s : State) :
    registerWrite a l [] s = wordWrites a (l.map fun x => (x.by_, x.value % 2 ^ 32)) [] s := by
  have good : (l.filter fun x => goodWidth x.by_ x.width a) = l :=
    List.filter_eq_self.2 fun x hx => by rw [four x hx]; exact goodWidth_four ha x.by_
  have bad : (l.filter fun x => !goodWidth x.by_ x.width a) = [] :=
    List.filter_eq_nil_iff.2 fun x hx => by rw [four x hx, goodWidth_four ha x.by_]; simp
  have high : (l.filter fun x => x.width == 8) = [] := List.filter_eq_nil_iff.2 fun x hx => by rw [four x hx]; simp
  simp [registerWrite, good, bad, high, ne]

/-- What the permitted writes of a cycle leave in the fields. -/
def settledWrites (a : Nat) (l : List (Writer × Nat)) (s : State) : State :=
  applyCycle a (sortRank (fun e => masterRank e.1) l) [] (s.answer 0 0)

/-- With the record of each write that a sealed field turns away. -/
def deniedWrites (a : Nat) (l : List (Writer × Nat)) (s : State) : State :=
  (l.filter fun e => lockedOut s e.1.master a).foldl (fun t e => recordDenied e.1 a t) (settledWrites a l s)

theorem refuseWrites_of_permitted {a : Nat} {l : List (Writer × Nat)} {s : State} (permits : ∀ e ∈ l, writeStatus s e.1.master a = 0)
    (t : State) :
    refuseWrites a (l.map fun e => (e, writeStatus s e.1.master a)) t = t := by
  unfold refuseWrites
  induction l generalizing t with
  | nil => rfl
  | cons e l ih =>
    obtain ⟨here, permits⟩ := List.forall_mem_cons.1 permits
    rw [List.map_cons, List.foldl_cons, if_pos here, ih permits]

/-- Permitted writes settle in the order of masters; the last one listed takes the answer. -/
theorem wordWrites_of_permitted {a : Nat} (plain : FieldsOnly a) {s : State} (there : inert s a = false) {l : List (Writer × Nat)}
    {e : Writer × Nat}
    (permits : ∀ x ∈ l ++ [e], writeStatus s x.1.master a = 0) :
    wordWrites a (l ++ [e]) [] s =
      if lockedOut s e.1.master a then (deniedWrites a (l ++ [e]) s).answer 0x07 0
      else { deniedWrites a (l ++ [e]) s with bus := (settledWrites a (l ++ [e]) s).bus } := by
  have stand : (((l ++ [e]).map fun e => (e, writeStatus s e.1.master a)).filter (·.2 == 0)).map (·.1) = l ++ [e] := by
    rw [List.filter_eq_self.2 (List.forall_mem_map.2 fun x hx => by simp [permits x hx]), List.map_map]
    exact List.map_id _
  have last : ((l ++ [e]).map fun e => (e, writeStatus s e.1.master a)).getLast? = some (e, 0) := by
    simp [permits e (by simp)]
  have settled : standingWrites a (sortRank (fun e => masterRank e.1) (l ++ [e])) [] (s.answer 0 0) = settledWrites a (l ++ [e]) s :=
    standingWrites_of_fieldsOnly plain ((inert_answer s a 0 0).trans there) _
  simp only [wordWrites, stand, last, refuseWrites_of_permitted permits, ite_self, settled]
  rfl

theorem exec_registerWrite_none (a : Nat) (l : List RegWrite) (hw : List HwUpdate) (s : State) :
    exec (.registerWrite a l hw none) s = .next (registerWrite a l hw s) := rfl

/-! ### One write of a plain register -/

/-- What a single permitted write leaves in a field of the register: the denial of a sealed field writes records elsewhere. -/
theorem exec_registerWrite_one {a : Nat} (plain : FieldsOnly a) {s : State} (there : inert s a = false) {w : Writer}
    (permits : writeStatus s w.master a = 0) (v : Nat) :
    ∃ t, exec (.registerWrite a [⟨w, 4, v⟩] [] none) s = .next t ∧
      (∀ f ∈ fieldsAt a, t.rd f = (applyCycle a [(w, v % 2 ^ 32)] [] (s.answer 0 0)).rd f) ∧
      (lockedOut s w.master a = true → t.bus = ⟨0x07, 0⟩) := by
  have run := wordWrites_of_permitted plain there (l := []) (e := (w, v % 2 ^ 32)) (by simpa using permits)
  refine ⟨_, rfl, ?_⟩
  rw [registerWrite_of_words plain.word (by simp) (by simp)]
  change _ ∧ (_ → (wordWrites a ([] ++ [(w, v % 2 ^ 32)]) [] s).bus = _)
  change (∀ f ∈ fieldsAt a, (wordWrites a ([] ++ [(w, v % 2 ^ 32)]) [] s).rd f = _) ∧ _
  rw [run]
  cases locked : lockedOut s w.master a with
  | false => exact ⟨fun f _ => by simp [deniedWrites, locked]; rfl, fun h => absurd h (by simp)⟩
  | true =>
    refine ⟨fun f hf => ?_, fun _ => rfl⟩
    have denied := rd_recordDenied_of_lockedOut locked hf w (settledWrites a [(w, v % 2 ^ 32)] s)
    simpa [deniedWrites, locked, settledWrites, sortRank, insertRank] using denied

/-- The bits of a written word that fall to a field fit it. -/
theorem bits_mod_width (v lo k : Nat) : bits v lo k % 2 ^ k = bits v lo k := Nat.mod_mod _ _

/-- Settles O43: each field takes what its access code makes of the written word. -/
theorem accessCodesOnAWrite : Obligations.AccessCodesOnAWrite := by
  intro s w a v plain there permits
  obtain ⟨t, run, fields, denied⟩ := exec_registerWrite_one (fieldsOnly_of_plain plain) there permits v
  have kept {f : Machine.Field} (hf : f ∈ fieldsAt a) (h : softValue (s.answer 0 0) f [(w, v % 2 ^ 32)] = none) : t.rd f = s.rd f :=
    (fields f hf).trans (rd_applyCycle_of_none plain _ _ hf h)
  have set {f : Machine.Field} (hf : f ∈ fieldsAt a) {x : Nat} (h : softValue (s.answer 0 0) f [(w, v % 2 ^ 32)] = some x)
      (noFlag : hkFlag f = none) : t.rd f = x % 2 ^ f.width :=
    (fields f hf).trans (rd_applyCycle_of_some plain _ _ hf h noFlag)
  refine ⟨t, run, ?rw, ?rwl, ?locked, ?readOnly, ?w1c⟩
  case rw =>
    intro f hf acc noFlag
    rw [set hf (x := bits (v % 2 ^ 32) f.lsb f.width) (by simp only [softValue, acc]; rfl) noFlag, bits_mod_width]
  case rwl =>
    intro f hf acc noFlag open_
    have takes : unlocked (s.answer 0 0) w.master = true := by simp [unlocked, open_]
    rw [set hf (x := bits (v % 2 ^ 32) f.lsb f.width)
      (by simp only [softValue, acc, takes, List.filter_cons_of_pos, List.filter_nil]; rfl) noFlag, bits_mod_width]
  case locked =>
    intro f hf acc sealed master
    have shut : unlocked s w.master = false := by simp [unlocked, sealed, master]
    have turned : lockedOut s w.master a = true := by
      rw [lockedOut, shut, Bool.not_false, Bool.true_and, List.any_eq_true]
      exact ⟨f, hf, by simp [acc]⟩
    have none : softValue (s.answer 0 0) f [(w, v % 2 ^ 32)] = none := by
      have shut : unlocked (s.answer 0 0) w.master = false := shut
      simp [softValue, acc, shut]
    exact ⟨kept hf none, denied turned⟩
  case readOnly =>
    rintro f hf (acc | acc)
    · exact kept hf (by simp [softValue, acc])
    · exact kept hf (by simp [softValue, acc])
  case w1c =>
    intro f hf acc noFlag ones
    exact set hf (by simpa [softValue, acc] using ones) noFlag

/-! ### Two writes of one cycle -/

theorem sortRank_pair {w x : Writer} (h : masterRank w < masterRank x) (v u : Nat) :
    sortRank (fun e : Writer × Nat => masterRank e.1) [(w, v), (x, u)] = [(w, v), (x, u)] ∧
      sortRank (fun e : Writer × Nat => masterRank e.1) [(x, u), (w, v)] = [(w, v), (x, u)] := by
  simp [sortRank, insertRank, h, Nat.not_lt_of_lt h]

/-- The host comes first in the order of masters, so that a denial of the later of two writes leaves no record. -/
theorem recordDenied_of_later {w x : Writer} (h : masterRank w < masterRank x) (a : Nat) (s : State) : recordDenied x a s = s := by
  have notHost : x.master ≠ 0x801 := by
    intro host
    simp [masterRank, isHost, host] at h
  exact if_neg notHost

/-- Whichever way two writes are listed, the fields settle alike and the same denials are recorded. -/
theorem deniedWrites_pair {w x : Writer} (h : masterRank w < masterRank x) (a v u : Nat) (s : State) :
    deniedWrites a [(x, u), (w, v)] s = deniedWrites a [(w, v), (x, u)] s ∧
      deniedWrites a [(w, v), (x, u)] s =
        if lockedOut s w.master a then recordDenied w a (settledWrites a [(w, v), (x, u)] s) else settledWrites a [(w, v), (x, u)] s := by
  have settled : settledWrites a [(x, u), (w, v)] s = settledWrites a [(w, v), (x, u)] s := by
    rw [settledWrites, settledWrites, (sortRank_pair h v u).1, (sortRank_pair h v u).2]
  cases hw : lockedOut s w.master a <;> cases hx : lockedOut s x.master a <;>
    simp [deniedWrites, hw, hx, settled, recordDenied_of_later h]

/-- Settles O44: the order of masters, not the order of the list, decides. -/
theorem sameCycleWritesKeepTheOrderOfMasters : Obligations.SameCycleWritesKeepTheOrderOfMasters := by
  intro s w x a v u plain there permitW permitX rank
  have settles := fieldsOnly_of_plain plain
  have words (l : List RegWrite) (ne : l ≠ []) (four : ∀ y ∈ l, y.width = 4) := registerWrite_of_words settles.word ne four s
  have run := wordWrites_of_permitted settles there (l := [(w, v % 2 ^ 32)]) (e := (x, u % 2 ^ 32)) (by simp [permitW, permitX])
  have swapped := wordWrites_of_permitted settles there (l := [(x, u % 2 ^ 32)]) (e := (w, v % 2 ^ 32)) (by simp [permitW, permitX])
  obtain ⟨same, denied⟩ := deniedWrites_pair rank a (v % 2 ^ 32) (u % 2 ^ 32) s
  have regs : (registerWrite a [⟨w, 4, v⟩, ⟨x, 4, u⟩] [] s).regs = (deniedWrites a [(w, v % 2 ^ 32), (x, u % 2 ^ 32)] s).regs := by
    rw [words _ (by simp) (by simp)]
    refine (congrArg State.regs run).trans ?_
    split <;> rfl
  have regsSwapped : (registerWrite a [⟨x, 4, u⟩, ⟨w, 4, v⟩] [] s).regs = (deniedWrites a [(w, v % 2 ^ 32), (x, u % 2 ^ 32)] s).regs := by
    rw [words _ (by simp) (by simp), ← same]
    refine (congrArg State.regs swapped).trans ?_
    split <;> rfl
  refine ⟨_, _, rfl, rfl, regs.trans regsSwapped.symm, fun f hf acc noFlag => ?_⟩
  have settled : (settledWrites a [(w, v % 2 ^ 32), (x, u % 2 ^ 32)] s).rd f = bits (u % 2 ^ 32) f.lsb f.width := by
    rw [settledWrites, (sortRank_pair rank _ _).1,
      rd_applyCycle_of_some plain _ _ hf (v := bits (u % 2 ^ 32) f.lsb f.width) (by simp only [softValue, acc]; rfl) noFlag, bits_mod_width]
  have field : (registerWrite a [⟨w, 4, v⟩, ⟨x, 4, u⟩] [] s).rd f = (deniedWrites a [(w, v % 2 ^ 32), (x, u % 2 ^ 32)] s).rd f :=
    congrArg (RegStore.rd · f) regs
  rw [field, denied]
  split
  · rename_i locked
    rw [rd_recordDenied_of_lockedOut locked hf, settled]
  · exact settled

/-! ### Forbidden accesses (R91 to R93) -/

/-- The table of R91. -/
theorem mayWrite_iff (s : State) (m p : Nat) : mayWrite s m p = true ↔
    (m < 0x400 ∧ (s.rd (PAGE_OWN_OWNER p) = m ∨ (m = 0 ∧ s.rdb (PAGE_OWN_CMDL0 p) = true))) ∨ m = 0x800 ∨
    (m = 0x801 ∧ (s.rd (PAGE_OWN_OWNER p) = 0x801 ∨ s.rdb (PAGE_OWN_HOST p) = true)) ∨
    (m = 0x802 ∧ (s.rd (PAGE_OWN_OWNER p) = 0x802 ∨ s.rdb (PAGE_OWN_STEWARD p) = true)) ∨
    (m = 0x803 ∧ s.rdb (PAGE_OWN_SAFETY p) = true) ∨
    (m = debugPort ∧ s.rd SEC_DBG_LEVEL = 2 ∧ (s.rd (PAGE_OWN_OWNER p) = 0x801 ∨ s.rdb (PAGE_OWN_HOST p) = true)) := by
  simp only [mayWrite, debugPort]
  split
  · have low : m ≠ 0x800 ∧ m ≠ 0x801 ∧ m ≠ 0x802 ∧ m ≠ 0x803 ∧ m ≠ 0x1801 := by omega
    simp [*]
  · split
    · subst_vars; simp
    · split
      · subst_vars; simp
      · split
        · subst_vars; simp
        · split
          · subst_vars; simp
          · by_cases debug : m = 0x1801
            · subst debug; simp
            · simp [*]

/-- The table of R92. -/
theorem mayRead_iff (s : State) {m : Nat} (p : Nat) (h : m ≠ debugPort) :
    mayRead s m p = true ↔ m = 0 ∨ 0x800 ≤ m ∨ s.rd (PAGE_OWN_OWNER p) = m ∨ s.rdb (PAGE_OWN_READALL p) = true := by
  by_cases free : m = 0 ∨ 0x800 ≤ m
  · simp [mayRead, h, free]; tauto
  · simp [mayRead, h, free]; tauto

theorem mayRead_debugPort_iff (s : State) (p : Nat) : mayRead s debugPort p = true ↔ s.rd SEC_DBG_LEVEL ≠ 0 := by simp [mayRead]

/-- Who may not read a page may not write it. -/
theorem mayWrite_of_not_mayRead {s : State} {m p : Nat} (h : mayRead s m p = false) : mayWrite s m p = false := by
  rw [← Bool.not_eq_true, mayWrite_iff]
  by_cases debug : m = debugPort
  · subst debug
    have level : s.rd SEC_DBG_LEVEL = 0 := by simpa [mayRead] using h
    simp [debugPort, level]
  · rw [← Bool.not_eq_true, mayRead_iff s p debug] at h
    omega

theorem absentBlock_of_islandStatus {s : State} {m a : Nat} {w : Bool} (h : islandStatus s m a w = none) : absentBlock s a = false := by
  by_contra absent
  simp only [Bool.not_eq_false] at absent
  simp only [islandStatus, absent, if_true] at h
  split at h <;> exact absurd h (by simp)

/-- A forbidden write is DENIED before it reaches its page. -/
theorem writeStatus_of_forbidden {s : State} {m a : Nat} (answers : islandStatus s m a true = none)
    (sealed : isHost m = false ∨ s.rdb BOOT_STATUS_SEALED = true) (awake : hostAsleep s m = false) (forbidden : mayWrite s m (a / 0x1000) = false) :
    writeStatus s m a = 0x07 := by
  have shut : writable s m a = false := by
    unfold writable
    split
    · rfl
    · split
      · rename_i early
        rcases sealed with host | sealed
        · exact absurd early.1 (by simp [host])
        · exact absurd early.2 (by simp [sealed])
      · exact forbidden
  simp [writeStatus, awake, answers, shut]

theorem isViolation_of_forbidden {s : State} {m a : Nat} {w : Bool} (answers : islandStatus s m a w = none)
    (forbidden : mayWrite s m (a / 0x1000) = false) : isViolation s m a = true := by
  simp [isViolation, absentBlock_of_islandStatus answers, forbidden]

theorem writeRefused_of_violation {s : State} {w : Writer} {a : Nat} (violation : isViolation s w.master a = true) :
    writeRefused w a 0x07 s = (ownViol w a false s).answer 0x07 0 := by
  simp [writeRefused, violation]

/-- A forbidden write of a register leaves its record and its answer alone. -/
theorem registerWrite_of_forbidden {a : Nat} (plain : FieldsOnly a) {s : State} {w : Writer} (denied : writeStatus s w.master a = 0x07)
    (violation : isViolation s w.master a = true) (v : Nat) :
    registerWrite a [⟨w, 4, v⟩] [] s = (ownViol w a false s).answer 0x07 0 := by
  have refused (x : Nat) (t : State) (h : isViolation t w.master a = true) :
      refuseWrites a [((w, x), 0x07)] t = (ownViol w a false t).answer 0x07 0 := by
    simp [refuseWrites, writeRefused_of_violation h]
  rw [registerWrite_of_words plain.word (by simp) (by simp)]
  simp only [List.map_cons, List.map_nil]
  generalize v % 2 ^ 32 = x
  have run : wordWrites a [(w, x)] [] s =
      (if recordsAfter a then refuseWrites a [((w, x), 0x07)] (s.answer 0 0)
        else (refuseWrites a [((w, x), 0x07)] s).answer 0 0).answer 0x07 0 := by
    have none (u : State) : standingWrites a (sortRank (fun e : Writer × Nat => masterRank e.1) []) [] u = u := standingWrites_of_none plain u
    cases after : recordsAfter a <;> simp [wordWrites, denied, after, none]
  rw [run, refused x s violation, refused x (s.answer 0 0) violation]
  split
  · rw [answer_answer]; exact ownViol_answer w a false s 0 0 0x07 0
  · simp only [answer_answer]

/-- A forbidden read answers 0 and leaves its record. -/
theorem readAccess_of_forbidden {a : Nat} (ha : a % 4 = 0) {s : State} {w : Writer} (answers : islandStatus s w.master a false = none)
    (forbidden : mayRead s w.master (a / 0x1000) = false) :
    hostRead w a (readAccess w 4 a s) = (ownViol w a true s).answer 0x07 0 := by
  have notHost : w.master ≠ 0x801 := by
    intro host
    rw [host] at forbidden
    simp [mayRead, debugPort] at forbidden
  have awake : hostAsleep s w.master = false := by simp [hostAsleep, notHost]
  have status : readStatus s w.master a = 0x07 := by simp [readStatus, awake, answers, forbidden]
  have violation := isViolation_of_forbidden answers (mayWrite_of_not_mayRead forbidden)
  simp [readAccess, goodWidth_four ha, readReg, ha, status, readRefused, violation, hostRead, notHost]

/-- A violation is counted. -/
theorem rd_ownViol_count (w : Writer) (a : Nat) (read : Bool) (s : State) :
    (ownViol w a read s).rd GLB_ERRCNT_OWNV = satAdd GLB_ERRCNT_OWNV.width (s.rd GLB_ERRCNT_OWNV) 1 % 2 ^ GLB_ERRCNT_OWNV.width := by
  rw [ownViol_eq, post, postInj, rd_pushEvent_ne (c := 5) _ (by norm_num) (by decide), rd_captureViolation_ne _ _ _ _ (by decide), rd_inc_self]

theorem ownViol_dram (w : Writer) (a : Nat) (read : Bool) (s : State) : (ownViol w a read s).dram = s.dram := by
  rw [ownViol_eq, post_dram, captureViolation_dram, inc_dram]

/-- A violation is posted. -/
theorem ownViol_queue_of_room {s : State} (room : s.evlog.queue.length < 256) (w : Writer) (a : Nat) (read : Bool) :
    (ownViol w a read s).evlog.queue.length = s.evlog.queue.length + 1 := by
  have room : (captureViolation w a read (s.inc GLB_ERRCNT_OWNV)).evlog.queue.length < 256 := by simpa using room
  rw [ownViol_eq, post, postInj, pushEvent_queue_of_room _ room]
  simp

/-- Settles O45: the tables, and the two refusals with what they record. -/
theorem forbiddenAccessesAreDenied : Obligations.ForbiddenAccessesAreDenied := by
  refine ⟨fun s m p => ⟨mayWrite_iff s m p, mayRead_iff s p, mayRead_debugPort_iff s p⟩, ?write, ?read,
    fun s w a r => ⟨rd_ownViol_count w a r s, ownViol_dram w a r s, fun room => ownViol_queue_of_room room w a r⟩⟩
  case write =>
    intro s w a v plain answers _ sealed awake forbidden
    exact congrArg Host.Outcome.next (registerWrite_of_forbidden (fieldsOnly_of_plain plain) (writeStatus_of_forbidden answers sealed awake forbidden)
      (isViolation_of_forbidden answers forbidden) v)
  case read =>
    intro s w a ha answers _ forbidden
    exact congrArg Host.Outcome.next (readAccess_of_forbidden ha answers forbidden)

end Sys2Proof.Machine.Proofs
end

section
/-! PROOFS. The doorbell of a submission queue (R373): what the permitted writes of one cycle add up to, and what the sum does to the tail. -/

namespace Sys2Proof.Machine.Proofs
open Sys2Proof Sys2Proof.Machine Sys2Proof.Machine.Reg Sys2Proof.Machine.Laws Sys2Proof.Safety

/-- A write after others that is permitted, and that no removal keeps out, adds its low 16 bits. -/
theorem doorbellSum_concat {a n v : Nat} {l : List (Writer × Nat)} {e : Writer × Nat} {s t : State} (before : doorbellSum a l s = ((n, v), t))
    (permits : writeStatus t e.1.master a = 0) (takes : e.1.master ≠ 0x801 ∨ draining t = false) :
    doorbellSum a (l ++ [e]) s = ((n + 1, v + e.2 % 65536), t.answer 0 0) := by
  have open_ : ¬ (e.1.master = 0x801 ∧ draining t = true) := fun ⟨host, drains⟩ => by
    rcases takes with other | still
    · exact other host
    · simp [still] at drains
  rw [doorbellSum] at before
  rw [doorbellSum, List.foldl_append, before, List.foldl_cons, List.foldl_nil]
  simp only [permits, ne_eq, not_true_eq_false, if_false, open_]

/-- The writes of a cycle that are permitted, and that no removal keeps out, add their low 16 bits; the cycle is answered OK. -/
theorem doorbellSum_of_permitted {a : Nat} {l : List (Writer × Nat)} {s : State}
    (permits : ∀ e ∈ l, writeStatus s e.1.master a = 0 ∧ (e.1.master ≠ 0x801 ∨ draining s = false)) :
    doorbellSum a l s = ((l.length, (l.map fun e => e.2 % 65536).sum), if l = [] then s else s.answer 0 0) := by
  induction l using List.reverseRecOn with
  | nil => rfl
  | append_singleton l e ih =>
    obtain ⟨status, takes⟩ := permits e (by simp)
    have before := ih fun x hx => permits x (by simp [hx])
    rw [doorbellSum_concat before (by split <;> exact status) (by split <;> exact takes)]
    split <;> simp
    rfl

theorem exec_sqDb {q : Nat} (hq : q < 1024) {l : List (Writer × Nat)} (ne : l ≠ []) {s : State}
    (permits : ∀ e ∈ l, writeStatus s e.1.master (sqDbAddr q) = 0 ∧ (e.1.master ≠ 0x801 ∨ draining s = false)) :
    exec (.sqDb q l) s = .next (advanceTail q l.length (l.map fun e => e.2 % 65536).sum (s.answer 0 0)) := by
  change execSqDb q l s = _
  rw [execSqDb, if_neg (by omega), doorbellSum_of_permitted permits, if_neg ne]

theorem advanceTail_of_unbound {q : Nat} {s : State} (h : bound s q = false) (n v : Nat) : advanceTail q n v s = s.inc DRV_DBERR n := by
  simp [advanceTail, h]

theorem advanceTail_of_more {q v : Nat} {s : State} (h : bound s q = true) (hv : 0 < v) (more : sqSize s q < (backlog s q + v) % 65536) (n : Nat) :
    advanceTail q n v s = (s.set (Q_STATE_DBOVF q)).inc DRV_DBERR := by
  simp [advanceTail, h, hv.ne', more]

theorem advanceTail_of_fits {q v : Nat} {s : State} (h : bound s q = true) (hv : 0 < v) (fits : (backlog s q + v) % 65536 ≤ sqSize s q) (n : Nat) :
    advanceTail q n v s = pump q (s.wr (Q_SQ_PTR_TAIL q) (s.rd (Q_SQ_PTR_TAIL q) + v)) := by
  simp [advanceTail, h, hv.ne', fits.not_gt]

/-- Settles O52: the sum of the cycle, in the three cases of R373. -/
theorem doorbellWritesAddTogether : Obligations.DoorbellWritesAddTogether := by
  intro s q l hq ne permits
  have run := exec_sqDb hq ne permits
  have same : bound (s.answer 0 0) q = bound s q := rfl
  refine ⟨fun isBound some fits => ?_, fun isBound more some => ?_, fun unbound => ?_⟩
  · rw [run, advanceTail_of_fits (same.trans isBound) some fits]
    rfl
  · rw [run, advanceTail_of_more (same.trans isBound) some more]
    rfl
  · rw [run, advanceTail_of_unbound (same.trans unbound)]

end Sys2Proof.Machine.Proofs
end

section
/-! PROOFS. What holds of every command and of the reset state, and three small operations: the ledger's word, the event queue, a raised vector. -/

namespace Sys2Proof.Machine.Proofs
open Sys2Proof Sys2Proof.Machine Sys2Proof.Machine.Reg Sys2Proof.Machine.Laws Sys2Proof.Safety

/-- Settles O40: every arm of the dispatch answers a next state, six of them in either branch of a case. -/
theorem everyCommandCompletes : Obligations.EveryCommandCompletes := by
  intro c s
  cases c
  case dcompare q => change ∃ t, execDcompare q s = .next t; unfold execDcompare; split <;> exact ⟨_, rfl⟩
  case dsafe q => change ∃ t, execDsafe q s = .next t; unfold execDsafe; split <;> exact ⟨_, rfl⟩
  case cantx q => change ∃ t, execCantx q s = .next t; unfold execCantx; split <;> exact ⟨_, rfl⟩
  case canrd q => change ∃ t, execCanrd q s = .next t; unfold execCanrd; split <;> exact ⟨_, rfl⟩
  case ethtx q => change ∃ t, execEthtx q s = .next t; unfold execEthtx; split <;> exact ⟨_, rfl⟩
  case safeOutputReadback a b m =>
    change ∃ t, execSafeOutputReadback a b m s = .next t
    simp only [execSafeOutputReadback]
    split
    · exact ⟨_, rfl⟩
    · split <;> exact ⟨_, rfl⟩
  all_goals exact ⟨_, rfl⟩

/-! ### The reset state -/

/-- A field that a reset does not store reads its reset value. -/
theorem rd_reset_of_ne {f : Machine.Field} (h : f.key ≠ RST_LAST_REQ.key) : State.reset.rd f = f.reset :=
  rd_wr_ne { State.reset with regs := [] } 1 h

/-- Settles O41. -/
theorem resetState : Obligations.ResetState := by
  refine ⟨rfl, fun _ h => rd_reset_of_ne h, rfl, rfl, rfl, rfl, rfl, rfl, rfl, rfl, rfl, fun a => ?_, rfl⟩
  exact BitVec.and_zero

/-! ### The ledger (R392) -/

/-- Settles O55: the fields lie side by side in the word, and a merge takes each field by its own rule. -/
theorem ledgersEncodeAndMerge : Obligations.LedgersEncodeAndMerge := by
  refine ⟨fun l stages kvErr selMass jlsErr pwlErr pqErr scanned probed => ?_, fun l => ?_, fun a b => ⟨rfl, rfl, rfl, rfl, rfl, rfl⟩,
    fun a b cutA cutB less => ?_⟩
  · simp only [Ledger.ofNat, Ledger.toNat, bits]
    congr 1 <;> omega
  · simp only [Ledger.toNat, bits]
    omega
  · have notMore := Nat.lt_asymm less
    simp [Ledger.merge, Ledger.cutPair, cutA, cutB, less, notMore]

/-! ### The event queue (R747) -/

theorem pushEvent_of_room {s : State} (e : EventRec) (room : s.evlog.queue.length < 256) : pushEvent s e =
    { s with evlog := { s.evlog with queue := s.evlog.queue ++ [e] } }.wr EVQ_STAT_QUEUED (s.evlog.queue.length + 1) := if_pos room

theorem foldField_ne (k : Nat) : (EVQ_FOLD k).key ≠ EVQ_STAT_FOLDING.key := by
  simp only [EVQ_FOLD, EVQ_STAT_FOLDING, Field.key]
  omega

/-- What an event that finds the queue full leaves of the log and of the count of its class. -/
theorem pushEvent_of_full {s : State} (e : EventRec) (full : 256 ≤ s.evlog.queue.length) :
    (pushEvent s e).evlog = { s.evlog with foldLast := e.time, foldFirst := if s.rdb EVQ_STAT_FOLDING then s.evlog.foldFirst else e.time } ∧
      (pushEvent s e).rd (EVQ_FOLD (e.code / 4096)) = satAdd 16 (s.rd (EVQ_FOLD (e.code / 4096))) 1 % 2 ^ 16 := by
  simp only [pushEvent, if_neg full.not_gt]
  constructor
  · cases s.rdb EVQ_STAT_FOLDING <;> rfl
  · rw [rd_inc_self, State.set, rd_wr_ne _ _ (foldField_ne _)]
    cases s.rdb EVQ_STAT_FOLDING <;> rfl

theorem pushEvent_queue_le {s : State} (e : EventRec) (h : s.evlog.queue.length ≤ 256) : (pushEvent s e).evlog.queue.length ≤ 256 := by
  rcases Nat.lt_or_ge s.evlog.queue.length 256 with room | full
  · simp [pushEvent_of_room e room]; omega
  · rw [(pushEvent_of_full e full).1]; exact h

theorem exec_eventPost (code src : Nat) (args : List Nat) {s : State} (vaon : s.power.vaon = true) :
    exec (.eventPost code src args) s = .next (post (code % 2 ^ 16) (src % 256) args s) := by
  change execEventPost code src args s = _
  rw [execEventPost, if_pos vaon]

/-- Settles O57: with room the event is queued, without it is folded. -/
theorem eventQueueHolds256 : Obligations.EventQueueHolds256 := by
  refine ⟨fun s e room => ?_, fun s e full _ => ?_, fun s code src args vaon room => ⟨_, exec_eventPost code src args vaon, ?_⟩⟩
  · rw [pushEvent_of_room e room]
    exact ⟨rfl, rd_wr_self _ _ _⟩
  · obtain ⟨log, count⟩ := pushEvent_of_full e full
    rw [log]
    exact ⟨rfl, rfl, fun folding => by simp [folding], fun folding => by simp [folding], count⟩
  · rw [post, postInj]
    exact pushEvent_queue_le _ room

/-! ### Vectors (R395, R722) -/

/-- Settles O59: the three ways of a vector after its pending bit is set. -/
theorem raisedVectorsPendOrGo : Obligations.RaisedVectorsPendOrGo := by
  refine ⟨fun s v off => ?_, fun s v on masked => ?_, fun s v on unmasked entry => ?_⟩
  · simp [raiseVector, off]
  · have pends : raiseVector v s =
        { s.wr (IRQ_PEND (v / 32)) (setBit (s.rd (IRQ_PEND (v / 32))) (v % 32) true) with
          hl := { s.hl with pend := if v ∈ s.hl.pend then s.hl.pend else v :: s.hl.pend } } := by
      simp [raiseVector, on, masked]
      rfl
    rw [pends]
    refine ⟨?_, rfl, rfl⟩
    change v ∈ (if v ∈ s.hl.pend then s.hl.pend else v :: s.hl.pend)
    split
    · assumption
    · exact List.mem_cons_self
  · simp [raiseVector, on, unmasked, entry]

end Sys2Proof.Machine.Proofs
end

section
/-! PROOFS. The commands complete (chapters 15 to 18): an engine's or a cluster's command that may start runs its own function, and the scrubbers report. -/

namespace Sys2Proof.Machine.Proofs
open Sys2Proof Sys2Proof.Machine Sys2Proof.Machine.Reg Sys2Proof.Machine.Laws Sys2Proof.Safety

/-- The scrub of an engine that is ready reports the words it read and counts a whole pass (R446). -/
theorem exec_pastureScrub {s : State} {e : Nat} (he : e < engines s) (ready : columnReady s e = true) {errs : List (Nat × Bool)}
    (inside : ∀ w ∈ errs, w.1 < 917504) (pass : Bool) :
    exec (.pastureScrub e errs pass) s = .next
      (if pass then (scrubWords e (PAST_CORR e) errs s).incWrap (PAST_SCRUB_PASSES e) else scrubWords e (PAST_CORR e) errs s) :=
  congrArg Host.Outcome.next (if_pos ⟨he, ready, List.all_eq_true.2 fun w hw => decide_eq_true (inside w hw)⟩)

/-- The scrub of a cluster that is ready (R527). -/
theorem exec_clusterScrub {s : State} {v : Nat} (hv : v < 4) (ready : columnReady s (8 + v) = true) {errs : List (Nat × Bool)}
    (inside : ∀ w ∈ errs, w.1 < 131072) (pass : Bool) :
    exec (.clusterScrub v errs pass) s = .next
      (if pass then (scrubWords (8 + v) (CLM_CORR v) errs s).incWrap (CLM_SCRUB_PASSES v) else scrubWords (8 + v) (CLM_CORR v) errs s) :=
  congrArg Host.Outcome.next (if_pos ⟨hv, ready, List.all_eq_true.2 fun w hw => decide_eq_true (inside w hw)⟩)

/-- Settles O21. -/
theorem engineCommandsComplete : Obligations.EngineCommandsComplete := by
  refine ⟨?gemm, ?conv, ?req, ?copy, ?fill, ?sigchk, ?act, ?glu, ?rowstat, ?lnorm, ?rmsnorm, ?softmax, ?attn, ?kvappend, ?kvtok, ?pass, ?word⟩
  case gemm => intro s q c x b h; simp only [exec, execGemm, h]
  case conv => intro s q c x b h; simp only [exec, execConv, h]
  case req => intro s q c x b h; simp only [exec, execReq, h]
  case copy => intro s q c x b h; simp only [exec, execCopy, h]
  case fill => intro s q c x b h; exact exec_fill_of_engineCmd h
  case sigchk => intro s q c x b h; simp only [exec, execSigchk, h]
  case act => intro s q c x b h; simp only [exec, execAct, h]
  case glu => intro s q c x b h; simp only [exec, execGlu, h]
  case rowstat => intro s q c x b h; simp only [exec, execRowstat, h]
  case lnorm => intro s q c x b h; simp only [exec, execLnorm, h]
  case rmsnorm => intro s q c x b h; simp only [exec, execRmsnorm, h]
  case softmax => intro s q c x b h; simp only [exec, execSoftmax, h]
  case attn => intro s q c x b h; simp only [exec, execAttn, h]
  case kvappend => intro s q c x b h; simp only [exec, execKvappend, h]
  case kvtok => intro s q c x b h; simp only [exec, execKvtok, h]
  case pass => intro s e he ready; exact exec_pastureScrub he ready (by simp) true
  case word => intro s e w he ready hw; exact exec_pastureScrub he ready (by simpa using hw) false

/-- A vector command that may start on its cluster runs there. -/
theorem vectorCommand_of_engineCmd {s : State} {op q c : Nat} {x : Ctx} {b : Bytes} (h : engineCmd s q c 2 op = some (x, b)) :
    vectorCommand op q c s = runVector op x b s := by
  simp only [vectorCommand, h]

/-- Settles O22. -/
theorem vectorCommandsComplete : Obligations.VectorCommandsComplete := by
  have runs {s : State} (op q c : Nat) {x : Ctx} {b : Bytes} (h : engineCmd s q c 2 op = some (x, b)) :
      (Host.Outcome.next (vectorCommand op q c s) : Out) = .next (runVector op x b s) := congrArg _ (vectorCommand_of_engineCmd h)
  refine ⟨fun s q c x b => runs 0x01 q c, fun s q c x b => runs 0x02 q c, fun s q c x b => runs 0x03 q c, fun s q c x b => runs 0x10 q c,
    fun s q c x b => runs 0x11 q c, fun s q c x b => runs 0x12 q c, fun s q c x b => runs 0x20 q c, fun s q c x b => runs 0x21 q c,
    fun s q c x b => runs 0x22 q c, fun s q c x b => runs 0x30 q c, fun s q c x b => runs 0x31 q c, fun s q c x b => runs 0x40 q c,
    fun s q c x b => runs 0x41 q c, fun s q c x b => runs 0x42 q c, fun s v w hv ready hw => ?_⟩
  exact exec_clusterScrub hv ready (by simpa using hw) true

end Sys2Proof.Machine.Proofs
end

section
/-! PROOFS. The commands complete (chapters 3, 10 and 13): register accesses, reads that clear, the control commands of a queue. -/

namespace Sys2Proof.Machine.Proofs
open Sys2Proof Sys2Proof.Machine Sys2Proof.Machine.Reg Sys2Proof.Machine.Laws Sys2Proof.Safety

/-! ### Register accesses -/

/-- A permitted write that no seal turns away settles on the register's fields. -/
theorem registerWrite_of_permitted {a : Nat} (plain : FieldsOnly a) {s : State} (there : inert s a = false) {w : Writer}
    (permits : writeStatus s w.master a = 0) (unlocked : lockedOut s w.master a = false) (v : Nat) :
    registerWrite a [⟨w, 4, v⟩] [] s = applyCycle a [(w, v % 2 ^ 32)] [] (s.answer 0 0) := by
  have run := wordWrites_of_permitted plain there (l := []) (e := (w, v % 2 ^ 32)) (by simpa using permits)
  rw [if_neg (by simp [unlocked])] at run
  rw [registerWrite_of_words plain.word (by simp) (by simp)]
  refine run.trans ?_
  have none : deniedWrites a ([] ++ [(w, v % 2 ^ 32)]) s = settledWrites a ([] ++ [(w, v % 2 ^ 32)]) s := by
    simp [deniedWrites, unlocked]
  rw [none]
  rfl

/-- A permitted read of a register that holds no shadow and has no effect of its own answers its word. -/
theorem readReg_of_pairLo {s : State} {w : Writer} {a : Nat} (ha : a % 4 = 0) (permits : readStatus s w.master a = 0) (there : inert s a = false)
    (noShadow : s.rdShadow.find (shadowKey w.master a) = none) (noEffect : readEffect w a s = none) (low : isPairLo a = true)
    (own : foreignResponse s w a = false) :
    readReg w a s = (latchRead w.master (a + 4) (liveWord s w (a + 4)) s).answer 0 (liveWord s w a) := by
  have same (v : Nat) : foreignResponse (latchRead w.master (a + 4) v s) w a = false := own
  simp [readReg, ha, permits, readWord, there, noShadow, noEffect, low, same]

/-- A register access of a word that answers OK brings no report to the host. -/
theorem hostRead_readAccess_of_ok {w : Writer} {a : Nat} (ha : a % 4 = 0) {s : State} (ok : (readReg w a s).bus.status = 0) :
    hostRead w a (readAccess w 4 a s) = readReg w a s := by
  simp [readAccess, goodWidth_four ha, hostRead, ok]

/-- Settles O7. -/
theorem registerCommandsComplete : Obligations.RegisterCommandsComplete := by
  refine ⟨?registerWrite, ?pairLoRead, ?regwr, ?regrd, ?regpoll, ?regpollAgain, ?regpollTimeout⟩
  case registerWrite =>
    intro s w a v ha permits unlocked there system noSpecial noMaster noLo noHi elsewhere
    exact congrArg Host.Outcome.next
      (registerWrite_of_permitted ⟨ha, system, noSpecial, noMaster, noLo, noHi, elsewhere⟩ there permits unlocked v)
  case pairLoRead =>
    intro s w a ha permits there noShadow noEffect low own
    have read := readReg_of_pairLo ha permits there noShadow noEffect low own
    have access := hostRead_readAccess_of_ok (s := s) ha (by rw [read]; rfl)
    simp only [exec, execPairLoRead, access, read, if_true]
  case regwr => intro s q c head whole; simp only [exec, execRegwr, head, maskedWrite, whole, if_true]
  case regrd => intro s q c head; simp only [exec, execRegrd, head]
  case regpoll => intro s q c noFlight head; simp only [exec, execRegpoll, noFlight, head]
  case regpollAgain => intro s q f flight; simp only [exec, execRegpoll, flight]
  case regpollTimeout =>
    intro s q f flight late
    simp only [exec, execRegpollTimeout, flight, if_neg late.not_gt]

/-! ### Reads that clear -/

/-- A permitted read of an RC field's register answers its word and clears the field. -/
theorem readClear_of_permitted {s : State} {w : Writer} {f : Machine.Field} (permits : readStatus s w.master f.addr = 0)
    (there : inert s f.addr = false) : readClear w f s = (s.wr f 0).answer 0 (storedWord s f.addr) :=
  guardedRead_of_permitted _ _ _ _ _ permits there

/-- Settles O8. -/
theorem readClearCommandsComplete : Obligations.ReadClearCommandsComplete := by
  refine ⟨?mcLatMax, ?fuErrmax, ?attSelmax, ?glLatMax, ?shpTaskMaxend, ?msyncSkewMax, ?tmCpm⟩
  case mcLatMax =>
    intro s w m hm permits
    have there : inert s (MC_LAT_MAX m).addr = false := by apply inert_of_elsewhere <;> simp only [MC_LAT_MAX] <;> omega
    rw [exec_mcLatMaxRead s w hm, readClear_of_permitted permits there]
  case fuErrmax =>
    intro s w e he permits there
    rw [exec_fuErrmaxRead s w he, readClear_of_permitted permits there]
  case attSelmax =>
    intro s w e he permits there
    rw [exec_attSelmaxRead s w he, readClear_of_permitted permits there]
  case glLatMax =>
    intro s w permits
    have there : inert s GL_LAT_MAX.addr = false := by apply inert_of_elsewhere <;> decide
    exact congrArg Host.Outcome.next (readClear_of_permitted permits there)
  case shpTaskMaxend =>
    intro s w q hq permits
    have there : inert s (SHP_TASK_MAXEND q).addr = false := by apply inert_of_elsewhere <;> simp only [SHP_TASK_MAXEND] <;> omega
    rw [exec_shpTaskMaxendRead s w hq, readClear_of_permitted permits there]
  case msyncSkewMax =>
    intro s w permits
    have there : inert s MSYNC_SKEW_MAX.addr = false := by apply inert_of_elsewhere <;> decide
    exact congrArg Host.Outcome.next (readClear_of_permitted permits there)
  case tmCpm =>
    intro s w r hr permits
    have there : inert s (TM_CPM_MARGIN r).addr = false := by apply inert_of_elsewhere <;> simp only [TM_CPM_MARGIN] <;> omega
    exact congrArg Host.Outcome.next ((if_neg (by omega)).trans (guardedRead_of_permitted _ _ _ _ _ permits there))

/-! ### The control commands of a queue -/

/-- Settles O18. -/
theorem controlCommandsComplete : Obligations.ControlCommandsComplete := by
  refine ⟨?nop, ?signal, ?evset, ?waitOver, ?waits, ?waitTimeout⟩
  case nop => intro s q c head; simp only [exec, execNop, head]
  case signal => intro s q c head; simp only [exec, execSignalEvent, head]
  case evset => intro s q c head; simp only [exec, execEvset, head]
  case waitOver => intro s q c head reached; simp only [exec, execWaitEvent, head, if_pos reached]
  case waits => intro s q c head short; simp only [exec, execWaitEvent, head, if_neg short.not_ge]
  case waitTimeout =>
    intro s q f flight limit late unsatisfied
    simp only [exec, execWaitTimeout, flight, limit, late.not_gt, unsatisfied, Bool.false_eq_true, or_self, if_false]

end Sys2Proof.Machine.Proofs
end

section
/-! PROOFS. The commands complete (chapters 14, 17 and 19): the rotation, serving work and flocks, the Gleaner. -/

namespace Sys2Proof.Machine.Proofs
open Sys2Proof Sys2Proof.Machine Sys2Proof.Machine.Reg Sys2Proof.Machine.Laws Sys2Proof.Safety

/-! ### The rotation -/

theorem markSeen_rd (e : Nat) (s : State) (f : Machine.Field) : (markSeen e s).rd f = s.rd f := rfl

/-- Settles O19. -/
theorem rotationCommandsComplete : Obligations.RotationCommandsComplete := by
  refine ⟨?start, ?major, ?fixed, ?headEmpty, ?head, ?chain, ?maint, ?claimEnd⟩
  case start =>
    intro s may alone
    simp only [exec, execRotationStart, may, alone, Bool.not_false, and_self, if_true]
  case major =>
    intro s x runs passed
    simp only [exec, execMajorBoundary, runs, passed.not_gt, Bool.not_true, Bool.false_eq_true, or_self, if_false]
  case fixed =>
    intro s e up kind
    simp only [exec, execFixedClaimStart, up, kind, and_self, if_true]
  case headEmpty =>
    intro s e up kind empty
    simp only [exec, execHeadFire, up, kind, and_self, if_true, markSeen_rd, empty]
  case head =>
    intro s e up kind some unarmed
    simp only [exec, execHeadFire, up, kind, and_self, if_true, markSeen_rd, some, if_false, unarmed, Bool.false_eq_true]
  case chain =>
    intro s e up kind armed
    simp only [exec, execChainClaimStart, up, kind, armed, and_self, if_true]
  case maint =>
    intro s e up kind
    simp only [exec, execMaintClaimStart, up, kind, and_self, if_true]
  case claimEnd =>
    intro s e k ends idle
    simp only [exec, execClaimEnd, ends, idle, Bool.false_eq_true, if_false]

/-! ### Serving work and flocks -/

/-- Settles O20. -/
theorem servingCommandsComplete : Obligations.ServingCommandsComplete := by
  refine ⟨?dispatch, ?overrun, ?stepStart, ?stepEnd, ?stepFailed, ?admitTimeout, ?flockreq⟩
  case dispatch =>
    intro s c q free duty choice queue
    simp only [exec, execServingDispatch, free, duty, choice, queue, Bool.not_true, Bool.false_eq_true, or_self, if_false, if_true]
  case overrun =>
    intro s c f flight column excess
    simp only [exec, execServingOverrun, flight, column.not_ge, excess.not_ge, or_self, if_false]
  case stepStart =>
    intro s f c free duty choice unpaused
    simp only [exec, execFlockStepStart, free, duty, choice, unpaused, Option.isNone_none, and_self, if_true]
  case stepEnd =>
    intro s c t step ok last
    simp only [exec, execFlockStepEnd, step, ok, ne_eq, not_true_eq_false, if_false, if_pos last]
  case stepFailed =>
    intro s c t step failed
    simp only [exec, execFlockStepEnd, step, if_pos failed]
  case admitTimeout =>
    intro s i r seq queued timed late
    simp only [exec, execFlockAdmitTimeout, seq, queued, timed, Bool.not_false, late, and_self, if_true]
  case flockreq =>
    intro s q c head fresh
    simp only [exec, execFlockreq, head, takeSequence, fresh, Bool.false_eq_true, if_false]

/-! ### The Gleaner -/

/-- Settles O23. -/
theorem gleanerCommandsComplete : Obligations.GleanerCommandsComplete := by
  refine ⟨?search, ?deadline, ?indexCheck, ?reloadVerify, ?load, ?swap⟩
  case search =>
    intro s q x b command ready
    simp only [exec, execGsearch, command, ready, if_true]
  case deadline =>
    intro s q n x b command ready deadline one short
    simp [exec, execGsearchDeadline, command, ready, deadline, one, short, short.le]
  case indexCheck =>
    intro s x k slot loading kind
    have isSlot : ¬ (x ≠ 1 ∧ x ≠ 2) := by omega
    simp only [exec, execIndexCheck, if_neg isSlot, loading, if_neg kind]
  case reloadVerify =>
    intro s x loading
    simp only [exec, execReloadVerifyDone, loading, if_true]
    rfl
  case load =>
    intro s w v permits go idle inactive unused slot
    have there : inert s 0x210028 = false := by apply inert_of_elsewhere <;> decide
    refine congrArg Host.Outcome.next ((guarded_of_permitted _ _ _ _ permits there).trans ?_)
    simp [slot, go, idle, inactive, unused]
    rfl
  case swap =>
    intro s w v permits go keep none target valid
    have there : inert s 0x21002c = false := by apply inert_of_elsewhere <;> decide
    refine congrArg Host.Outcome.next ((guarded_of_permitted _ _ _ _ permits there).trans ?_)
    simp [target, go, keep, none, valid]

end Sys2Proof.Machine.Proofs
end

section
/-! PROOFS. The commands complete (chapters 14, 21 and 22): the Shepherd, maintenance, groups of devices. -/

namespace Sys2Proof.Machine.Proofs
open Sys2Proof Sys2Proof.Machine Sys2Proof.Machine.Reg Sys2Proof.Machine.Laws Sys2Proof.Safety

/-! ### The Shepherd -/

/-- A violation of an instance is raised once. -/
theorem judge_of_new {s : State} {q code : Nat} {i : Instance} (inst : instAt s q = some i) (new : code ∉ i.raised) :
    judge q code s = raiseViolation (i.zero && code != 0x12) q code (setInst q { i with raised := code :: i.raised } s) := by
  simp only [judge, inst, if_neg new]

theorem raiseViolations_nil (q : Nat) (s : State) : raiseViolations q [] s = s := rfl

/-- A heartbeat of a task without a lower limit and without checkpoints notes its instant. -/
theorem heartbeat_of_plain {s : State} {q chk : Nat} {e : Bytes} (runs : supervising s = true) (noFirst : u32 e 20 = 0) (noCheck : u8 e 5 = 0) :
    heartbeat q chk e s =
      { s with shp := { s.shp with hbFrom := s.shp.hbFrom.insert q s.mono, hbLast := s.shp.hbLast.insert q s.mono } } := by
  cases last : s.shp.hbLast.find q with
  | none => simp [heartbeat, last, runs, noCheck, raiseViolations_nil]
  | some t => simp [heartbeat, last, runs, noFirst, noCheck, raiseViolations_nil]

/-- Settles O25. -/
theorem shepherdCommandsComplete : Obligations.ShepherdCommandsComplete := by
  refine ⟨?startLate, ?endLate, ?budget, ?heartbeat, ?hbLate, ?injectRaise, ?injectTask⟩
  case startLate =>
    intro s q i inst waits late new
    simp only [exec, execStartLate, inst, waits, Bool.not_false, late, and_self, if_true, judge_of_new inst new]
    simp
  case endLate =>
    intro s q i inst late new
    simp only [exec, execEndLate, inst, late, if_true, judge_of_new inst new]
    simp
  case budget =>
    intro s q i e inst entry limit spent new
    simp only [exec, execBudget, inst, entry, limit, spent, ne_eq, not_false_eq_true, and_self, if_true, judge_of_new inst new]
    simp
  case heartbeat =>
    intro s w v e permits task column runs noFirst noCheck
    have there : inert s 0x38010 = false := by apply inert_of_elsewhere <;> decide
    have task : taskOf (s.answer 0 0) w.qid 1 = some e := task
    refine congrArg Host.Outcome.next ((guarded_of_permitted _ _ _ _ permits there).trans ?_)
    simp only [task, column, if_true]
    exact heartbeat_of_plain (s := s.answer 0 0) runs noFirst noCheck
  case hbLate =>
    intro s q t e from_ task runs late
    simp only [exec, execHbLate, from_, task, runs, late, and_self, if_true]
  case injectRaise =>
    intro s w v permits raise key code
    have there : inert s 0x38034 = false := by apply inert_of_elsewhere <;> decide
    have key : injectable (s.answer 0 0) v = true := key
    simp only [exec, execInjectRaise, raise, Bool.false_eq_true, if_false, guarded_of_permitted _ _ _ _ permits there, key, code, Bool.and_self,
      if_true]
  case injectTask =>
    intro s w v permits kind key task new
    have there : inert s 0x38034 = false := by apply inert_of_elsewhere <;> decide
    have key : injectable (s.answer 0 0) v = true := key
    have task : (taskOf (s.answer 0 0) (bits v 8 10) 0).isSome = true := task
    simp only [exec, execInjectTask, kind, Bool.not_true, Bool.false_eq_true, if_false, guarded_of_permitted _ _ _ _ permits there, key, task,
      Bool.and_self, if_true]
    exact congrArg (fun l => Host.Outcome.next (State.inc { s.answer 0 0 with shp := { s.shp with inject := l } } SHP_INJ_COUNT_INJECTED))
      (if_neg new)

/-! ### Maintenance -/

/-- A maintenance command that finds room waits for its claim. -/
theorem requestMaint_of_room {s : State} {q opc : Nat} {c : Bytes} (head : headIs s q 6 opc = some c) (room : mntPending s < 64) :
    requestMaint q opc s = showPending (startHead q 14 4 c s) := by
  simp only [requestMaint, head, if_neg room.not_ge]

/-- Settles O26. -/
theorem maintenanceCommandsComplete : Obligations.MaintenanceCommandsComplete := by
  refine ⟨?lbist, ?mbist, ?retrain, ?expires, ?forces, ?forcedRun, ?done⟩
  case lbist => intro s q c head room; exact congrArg Host.Outcome.next (requestMaint_of_room head room)
  case mbist => intro s q c head room; exact congrArg Host.Outcome.next (requestMaint_of_room head room)
  case retrain => intro s q c head room; exact congrArg Host.Outcome.next (requestMaint_of_room head room)
  case expires =>
    intro s q f flight late free noForce
    simp only [exec, execMaintExpiry, flight, late.not_gt, free, noForce, Bool.false_eq_true, or_self, if_false]
    rfl
  case forces =>
    intro s q f flight late free force
    simp only [exec, execMaintExpiry, flight, late.not_gt, free, force, Bool.false_eq_true, or_self, if_false, if_true]
  case forcedRun =>
    intro s q m run column free
    simp only [exec, execForcedRun, run, if_neg column.not_gt, free, Bool.false_eq_true, if_false]
  case done =>
    intro s r g pass m f run queue column flight forced
    simp only [exec, execMaintRequestDone, run, if_neg queue.not_ge, column, if_true, clr_drv, flight, forced]
    rfl

/-! ### Groups of devices -/

/-- Settles O27. -/
theorem msyncCommandsComplete : Obligations.MsyncCommandsComplete := by
  refine ⟨?point, ?bellwether, ?follower, ?timeout, ?retry, ?send, ?receive, ?miss, ?glitch⟩
  case point =>
    intro s may group before alone
    simp only [exec, execBarrierPoint, may, group, before, alone, Bool.not_true, Bool.false_eq_true, or_self, if_false]
  case bellwether =>
    intro s group lead point state
    simp only [exec, execBellwetherRelease, group, lead, point, state, and_self, if_true]
  case follower =>
    intro s ago group follow point state reached
    simp only [exec, execFollowerRelease, group, follow, point, state, reached.not_gt, Bool.not_true, Bool.false_eq_true, or_self, if_false,
      and_self, if_true]
  case timeout =>
    intro s group point state late together
    simp only [exec, execBarrierTimeout, group, point, state, late, and_self, if_true]
    have together : ({ s with msync := { s.msync with atPoint := false } } : State).rdb MSYNC_CFG_ALONE = false := together
    simp only [together, Bool.false_eq_true, if_false]
  case retry =>
    intro s w v permits go state
    have there : inert s 0x3B0024 = false := by apply inert_of_elsewhere <;> decide
    refine congrArg Host.Outcome.next ((guarded_of_permitted _ _ _ _ permits there).trans ?_)
    exact if_pos ⟨go, state⟩
  case send =>
    intro s group lead state runs cycles some whole new
    simp only [exec, execMarkerSend, group, lead, state, runs, cycles, some, whole, new, ne_eq, not_false_eq_true, and_self, if_true]
  case receive =>
    intro s ago group follow state
    simp only [exec, execMarkerReceive, group, follow, state, Bool.not_true, Bool.false_eq_true, or_self, if_false]
    rfl
  case miss =>
    intro s group follow state runs cycles some unmarked late
    have last : s.drv.rot.passed - 1 ≠ 0 := by omega
    simp only [exec, execMarkerMiss, group, follow, state, runs, cycles, Nat.div_one, Nat.mul_one, last, unmarked, late, Bool.not_false, ne_eq,
      one_ne_zero, not_false_eq_true, and_self, if_true]
    rfl
  case glitch =>
    intro s group follow
    simp only [exec, execSyncInGlitch, group, follow, Bool.not_false, and_self, if_true]

end Sys2Proof.Machine.Proofs
end

section
/-! PROOFS. The commands complete (chapters 20, 27 and 28): the safety outputs, the Steward, the mailboxes and the event log, security. -/

namespace Sys2Proof.Machine.Proofs
open Sys2Proof Sys2Proof.Machine Sys2Proof.Machine.Reg Sys2Proof.Machine.Laws Sys2Proof.Safety

/-! ### The comparator and the safety outputs -/

/-- A single fault of a cycle is recorded and reacted to. -/
theorem raiseFaults_singleton (n x : Nat) (s : State) : raiseFaults [(n, x)] s =
    react (levelOf (recordFault false (levelOf s n) n x s) n) n (faultStream n x)
      (if n = 0x22 then emergencyReaction (recordFault false (levelOf s n) n x s) else recordFault false (levelOf s n) n x s) := by
  simp [raiseFaults]

/-- Settles O24. -/
theorem safetyCommandsComplete : Obligations.SafetyCommandsComplete := by
  refine ⟨?dcompare, ?dsafe, ?report, ?clear, ?toggle, ?agrees, ?fourth⟩
  case dcompare => intro s q c head; simp only [exec, execDcompare, head]
  case dsafe => intro s q c head; simp only [exec, execDsafe, head]
  case report => intro s n x; exact congrArg Host.Outcome.next (raiseFaults_singleton n x s)
  case clear =>
    intro s w permits
    have there : inert s 0x30008 = false := by apply inert_of_elsewhere <;> decide
    exact congrArg Host.Outcome.next (guarded_of_permitted _ _ _ _ permits there)
  case toggle =>
    intro s arms half missed differs
    simp only [exec, execSafeToggle, arms, half, missed, differs, and_self, if_true]
  case agrees =>
    intro s enabled far
    simp only [exec, execSafeOutputReadback, enabled, far, bne_self_eq_false, Bool.or_self, Bool.not_true, Bool.not_false, Bool.false_eq_true,
      or_self, if_false, if_true]
  case fourth =>
    intro s enabled far run
    have bad : (s.rdb SF_STATUS_SAFE_A != !s.rdb SF_STATUS_SAFE_A) = true := by cases s.rdb SF_STATUS_SAFE_A <;> rfl
    simp only [exec, execSafeOutputReadback, enabled, far, bad, Bool.true_or, Bool.not_true, Bool.false_eq_true, or_self, if_false, run,
      Nat.reduceAdd, if_true]

/-! ### The Steward -/

/-- Settles O34. -/
theorem stewardCommandsComplete : Obligations.StewardCommandsComplete := by
  refine ⟨?sensor, ?decide, ?trip, ?restart⟩
  case sensor =>
    intro s l on
    simp only [exec, execSensorUpdate, on, Bool.false_eq_true, if_false]
  case decide =>
    intro s u l on may margins free notHot notCool valid calm
    have still : (decide (2 ≤ ((List.range 24).filter fun i => !validT u i).length) ||
        ((List.range 24).any fun i => validT u i && decide (signed 16 (u16 (policy s) 4) ≤ tempOf u i)) || false || false) = false := by
      rw [calm, decide_eq_false valid.not_ge]
      rfl
    simp only [exec, execStewardDecide, on, may, margins, free, notHot, notCool, Bool.false_and, Bool.not_true, Bool.not_false,
      Bool.false_eq_true, or_self, if_false, if_true]
    have result := congrArg (fun b => (Host.Outcome.next (showPolicy (setEmergency b
      { u with stw := { u.stw with lowAtFloor := l, coolSince := none, hotSince := none } })) : Out)) still
    cases cool : u.stw.coolSince with
    | none => simp only [Bool.false_eq_true, if_false]; exact result
    | some t => simp only [Bool.false_eq_true, if_false]; exact result
  case trip =>
    intro s n sensor on untripped
    simp only [exec, execThermalTrip, on, sensor.not_ge, untripped, Bool.not_true, Bool.false_eq_true, or_self, if_false,
      State.set]
  case restart =>
    intro s waits
    simp only [exec, execThermtripRestart, waits, ne_eq, not_true_eq_false, if_false]

/-! ### The mailboxes and the event log -/

/-- The request of the mailbox next in turn is served and answered. -/
theorem mbxServe_of_next {s : State} {k opc : Nat} (next : mbxNext s = some k) (kind : u8 (mbxReq s k) 0 = opc)
    (f : Bytes → State → Nat × Bytes × State) :
    mbxServe k opc f s = mbxAnswer k (f (mbxReq s k) s).1 (f (mbxReq s k) s).2.1 (f (mbxReq s k) s).2.2 := by
  simp only [mbxServe, next, kind, ne_eq, not_true_eq_false, if_false, if_true]

/-- Settles O35. -/
theorem logCommandsComplete : Obligations.LogCommandsComplete := by
  refine ⟨?telem, ?logread, ?logreadNone, ?loginfo, ?capduty, ?postUser, ?eventPost, ?batchStart, ?batchDone, ?batchFailed, ?eraseFailed, ?erased⟩
  case telem => intro s k next kind; exact congrArg Host.Outcome.next (mbxServe_of_next next kind _)
  case logread =>
    intro s k r next kind found
    exact congrArg Host.Outcome.next ((mbxServe_of_next next kind _).trans (by simp only [found]))
  case logreadNone =>
    intro s k next kind missing
    exact congrArg Host.Outcome.next ((mbxServe_of_next next kind _).trans (by simp only [missing]))
  case loginfo => intro s k next kind; exact congrArg Host.Outcome.next (mbxServe_of_next next kind _)
  case capduty =>
    intro s k next kind column duty
    have steward : ¬ (s.rd (MBX_STAT_MASTER k) ≠ 0 ∧ s.rd (MBX_STAT_MASTER k) < 0x400) := fun h => h.1 column
    exact congrArg Host.Outcome.next ((mbxServe_of_next next kind _).trans (by simp only [if_neg steward, if_neg duty.not_gt]))
  case postUser => intro s k next kind; exact congrArg Host.Outcome.next (mbxServe_of_next next kind _)
  case eventPost => intro s c o l vaon; exact exec_eventPost c o l vaon
  case batchStart =>
    intro s isOpen none on stays
    simp only [exec, execLogBatchStart, isOpen, none, on, stays, ne_eq, not_true_eq_false, Bool.not_true, Bool.false_eq_true, or_self, if_false,
      if_true]
  case batchDone => intro s batch on; simp only [exec, execLogBatchDone, batch, on, Bool.false_eq_true, or_self, if_false, if_true]
  case batchFailed => intro s batch on; simp only [exec, execLogBatchDone, batch, on, Bool.false_eq_true, or_self, if_false]
  case eraseFailed =>
    intro s erasing on
    simp only [exec, execSectorEraseDone, erasing, on, Bool.not_true, Bool.false_eq_true, or_self, if_false]
  case erased =>
    intro s erasing on
    simp only [exec, execSectorEraseDone, erasing, on, Bool.not_true, Bool.false_eq_true, or_self, if_false, if_true]

/-! ### Security -/

/-- Settles O36. -/
theorem securityCommandsComplete : Obligations.SecurityCommandsComplete := by
  refine ⟨?revoke, ?programmed, ?challenge, ?response, ?refuseEnd, ?debugEnd⟩
  case revoke =>
    intro s w v permits go key sealing confirmed other
    have there : inert s 0x390014 = false := by apply inert_of_elsewhere <;> decide
    refine congrArg Host.Outcome.next ((guarded_of_permitted _ _ _ _ permits there).trans ?_)
    have confirmed : (s.answer 0 0).boot.confirmed = true := confirmed
    simp only [go, key, rdb_answer, sealing, confirmed, other, ne_eq, not_false_eq_true, and_self, Bool.not_true, Bool.false_eq_true, if_false,
      if_true]
  case programmed =>
    intro s o l runs progs
    simp only [exec, execOtpProgramDone, runs, progs]
  case challenge =>
    intro s on calm
    simp only [exec, execDebugChallenge, on, calm, Bool.false_eq_true, or_self, if_false]
  case response =>
    intro s lv k r g on
    simp only [exec, execDebugResponse, on, Bool.false_eq_true, if_false]
    rfl
  case refuseEnd =>
    intro s refusing late
    simp only [exec, execDebugRefuseEnd, refusing, late, and_self, if_true]
    rfl
  case debugEnd =>
    intro s w permits
    have there : inert s 0x390020 = false := by apply inert_of_elsewhere <;> decide
    exact congrArg Host.Outcome.next (guarded_of_permitted _ _ _ _ permits there)

end Sys2Proof.Machine.Proofs
end

section
/-! PROOFS. The commands complete (chapter 23): the receiving and the sending side of CAN. -/

namespace Sys2Proof.Machine.Proofs
open Sys2Proof Sys2Proof.Machine Sys2Proof.Machine.Reg Sys2Proof.Machine.Laws Sys2Proof.Safety

/-- The registers of a CAN controller are there on every grade. -/
theorem inert_canRegister (s : State) {a : Nat} (h : 0x340000 ≤ a) : inert s a = false := by
  apply inert_of_elsewhere <;> omega

/-- Settles O28. -/
theorem canReceiveCommandsComplete : Obligations.CanReceiveCommandsComplete := by
  refine ⟨?receive, ?rxError, ?shadowGo, ?shadowPop, ?cantx, ?canrd⟩
  case receive =>
    intro s n f joined
    simp only [exec, execCanReceive, canReceive, joined, if_true]
  case rxError =>
    intro s n k x joined notPx
    simp only [exec, execCanRxError, canRxError, joined, notPx, false_and, if_true, if_false]
  case shadowGo =>
    intro s w n o permits object
    have there : inert s (0x340400 + 0x1000 * n) = false := inert_canRegister s (by omega)
    refine congrArg Host.Outcome.next ((guarded_of_permitted _ _ _ _ permits there).trans ?_)
    simp only [shadowGo]
    exact if_pos object
  case shadowPop =>
    intro s w n permits some
    have there : inert s (0x340400 + 0x1000 * n) = false := inert_canRegister s (by omega)
    refine congrArg Host.Outcome.next ((guarded_of_permitted _ _ _ _ permits there).trans ?_)
    simp only [shadowPop, rd_answer, some, if_false]
  case cantx => intro s q c head free; simp only [exec, execCantx, head, free, Bool.false_eq_true, if_false]
  case canrd => intro s q c head; simp only [exec, execCanrd, head]

/-- Settles O29. -/
theorem canSendCommandsComplete : Obligations.CanSendCommandsComplete := by
  refine ⟨?attempt, ?done, ?arbitration, ?windowClose, ?recover, ?recovered, ?integrated, ?sleep, ?autowake⟩
  case attempt =>
    intro s n r may best plain
    simp only [exec, execCanTxAttempt, canAttempt, may, best, plain, if_true]
  case done =>
    intro s n w r wire request plain data
    refine congrArg Host.Outcome.next ?_
    simp only [canTxDone, wire]
    simp only [rd_mk, regs_rd]
    simp only [request, plain, if_neg data]
  case arbitration =>
    intro s n k w wire
    simp only [exec, execCanTxError, canTxError, wire, if_true]
  case windowClose =>
    intro s o c r request close late quiet
    simp only [exec, execCanTxWindowClose, canWindowClose, request, close, late, quiet, Option.any_none, Bool.not_false, and_self, if_true]
  case recover =>
    intro s w n permits off
    have there : inert s (0x340000 + 0x1000 * n) = false := inert_canRegister s (by omega)
    exact congrArg Host.Outcome.next ((guarded_of_permitted _ _ _ _ permits there).trans (if_pos off))
  case recovered => intro s n off; exact congrArg Host.Outcome.next (if_pos off)
  case integrated =>
    intro s n state enabled
    simp only [exec, execCanIntegrated, canIntegrated, state, enabled, and_self, if_true]
    rfl
  case sleep =>
    intro s n asked state quiet
    simp only [exec, execCanSleep, asked, state, quiet, Option.isNone_none, ne_eq, not_false_eq_true, and_self, if_true]
  case autowake => intro s n asleep auto; exact congrArg Host.Outcome.next (if_pos ⟨asleep, auto⟩)

end Sys2Proof.Machine.Proofs
end

section
/-! PROOFS. The commands complete (chapters 24 to 26): joints and motors, Ethernet, the host link. -/

namespace Sys2Proof.Machine.Proofs
open Sys2Proof Sys2Proof.Machine Sys2Proof.Machine.Reg Sys2Proof.Machine.Laws Sys2Proof.Safety

/-- The registers from 0x222300 on are there on every grade. -/
theorem inert_above (s : State) {a : Nat} (h : 0x222300 ≤ a) : inert s a = false := by
  apply inert_of_elsewhere <;> omega

/-! ### Joint encoders and motor overrides -/

/-- Settles O30. -/
theorem jointCommandsComplete : Obligations.JointCommandsComplete := by
  refine ⟨?start, ?frameEnd, ?stale, ?up, ?down, ?illegal, ?snap, ?index, ?override⟩
  case start =>
    intro s n untriggered mode runs none due
    simp only [exec, execJspFrameStart, jspStart, untriggered, mode, runs, none, due.not_gt, Option.isSome_none, Bool.not_true, Bool.false_eq_true,
      or_self, if_false]
  case frameEnd =>
    intro s n raw f runs frame mode good
    simp only at good
    refine congrArg Host.Outcome.next ?_
    simp only [jspFrameEnd, runs, frame, good, mode, if_true, false_and, if_false]
    rfl
  case stale => intro s n valid old; exact congrArg Host.Outcome.next (if_pos ⟨valid, by simp [old]⟩)
  case up =>
    intro s k enabled runs dir
    simp only [exec, execQeiCountChange, enabled, runs, dir, Bool.not_true, Bool.false_eq_true, or_self, if_false]
    rfl
  case down =>
    intro s k enabled runs dir
    simp only [exec, execQeiCountChange, enabled, runs, dir, Bool.not_true, Bool.false_eq_true, or_self, if_false]
    rfl
  case illegal =>
    intro s k x enabled runs
    simp only [exec, execQeiCountChange, enabled, runs, Bool.not_true, Bool.false_eq_true, or_self, if_false, if_true]
  case snap =>
    intro s w k permits
    exact congrArg Host.Outcome.next (guarded_of_permitted _ _ _ _ permits (inert_above s (by omega)))
  case index =>
    intro s k enabled runs
    simp only [exec, execQeiIndex, enabled, runs, Bool.not_true, Bool.false_eq_true, or_self, if_false]
  case override =>
    intro s w m e permits template arms enabled free open_
    refine congrArg Host.Outcome.next ((guarded_of_permitted _ _ _ _ permits (inert_above s (by omega))).trans ?_)
    have arms : armed (s.answer 0 0) = true := arms
    simp only [template, arms, rdb_answer, enabled, free, open_, Bool.not_true, Bool.false_eq_true, or_self, if_false]

/-! ### Ethernet -/

/-- Settles O31. -/
theorem ethernetFrameCommandsComplete : Obligations.EthernetFrameCommandsComplete := by
  refine ⟨?badFcs, ?receive, ?doorbell, ?ethtx, ?done, ?abandon⟩
  case badFcs =>
    intro s n b a up
    simp only [exec, execEthReceive, ethReceive, up, Bool.not_true, Bool.not_false, Bool.false_eq_true, if_false, if_true]
  case receive =>
    intro s n q b a up long short class_
    obtain ⟨plain, passes, ring⟩ := class_
    have fits : ¬ (b.length + 4 < 64 ∨ s.rd (ETH_CFG_MAXFRAME n) < b.length + 4) := by omega
    simp only [exec, execEthReceive, ethReceive, up, fits, plain, passes, ring, Bool.not_true, Bool.false_eq_true, if_false]
  case doorbell =>
    intro s w n q v permits
    exact congrArg Host.Outcome.next (guarded_of_permitted _ _ _ _ permits (inert_above s (by omega)))
  case ethtx => intro s q c head room; simp only [exec, execEthtx, head, room, if_true]
  case done =>
    intro s n a f up idle state best plain untimed
    simp only [exec, execEthTxDone, ethTxDone, up, idle, state, best, plain, untimed, Option.isNone_none, ne_eq, not_false_eq_true, and_self,
      if_true, Bool.false_eq_true, if_false]
  case abandon =>
    intro s h c f frame close late
    simp only [exec, execEthTxAbandon, frame, close, late, if_true]

/-- Settles O32. -/
theorem ethernetLinkCommandsComplete : Obligations.EthernetLinkCommandsComplete := by
  refine ⟨?train, ?up, ?timeout, ?down, ?restart⟩
  case train => intro s n state mode due may; exact congrArg Host.Outcome.next (if_pos ⟨state, mode, due, may⟩)
  case up => intro s n state due may; exact congrArg Host.Outcome.next (if_pos ⟨state, due, may⟩)
  case timeout => intro s n state late; exact congrArg Host.Outcome.next (if_pos ⟨state, late⟩)
  case down => intro s n k state; exact congrArg Host.Outcome.next (if_pos state)
  case restart =>
    intro s w n permits state
    exact congrArg Host.Outcome.next ((guarded_of_permitted _ _ _ _ permits (inert_above s (by omega))).trans (if_pos state))

/-! ### The host link -/

/-- Settles O33. -/
theorem hostCommandsComplete : Obligations.HostCommandsComplete := by
  refine ⟨?tail, ?head, ?readHead, ?apertureWrite, ?apertureRead, ?unmask, ?turnOff, ?trained⟩
  case tail =>
    intro s q v hq reaches awake enabled still
    have queue : ¬ 2048 ≤ q ∧ ¬ 1024 ≤ q := by omega
    simp only [exec, execHostDoorbell, queue, reaches, awake, enabled, still, Bool.not_true, Bool.false_eq_true, or_self, true_or, and_self,
      if_false, if_true]
  case head =>
    intro s q v hq reaches awake enabled still
    have queue : ¬ 2048 ≤ q ∧ ¬ 1024 ≤ q := by omega
    simp [exec, execHostDoorbell, queue, reaches, awake, enabled, still]
  case readHead =>
    intro s q v hq reaches awake enabled
    have queue : ¬ 2048 ≤ q ∧ ¬ 1024 ≤ q := by omega
    simp [exec, execHostDoorbell, queue, reaches, awake, enabled]
  case apertureWrite =>
    intro s a n b some page inside len reaches awake
    simp only [exec, execHostAperture, some.ne', page.not_gt, inside.not_gt, len, reaches, awake, ne_eq, not_true_eq_false, and_false, Bool.not_true,
      Bool.false_eq_true, or_self, if_false, if_true]
  case apertureRead =>
    intro s a n b some page inside reaches awake ok
    simp only [exec, execHostAperture, some.ne', page.not_gt, inside.not_gt, reaches, awake, ok, Bool.not_true, Bool.false_eq_true, false_and,
      or_self, if_false, if_true]
  case unmask =>
    intro s v a d m e f reaches awake hv
    simp only [exec, execMsixUnmask, reaches, awake, hv, Bool.not_true, Bool.not_false, Bool.false_eq_true, and_self, if_false, if_true]
  case turnOff =>
    intro s strap up
    simp only [exec, execPmeTurnOff, strap, up, Bool.and_self, if_true]
  case trained =>
    intro s strap on state down released
    simp [exec, execPcieLinkTrained, strap, on, state, down, released]

end Sys2Proof.Machine.Proofs
end

section
/-! PROOFS. The commands complete (chapters 10 to 13): memory controllers, the fabric, probes, queues. -/

namespace Sys2Proof.Machine.Proofs
open Sys2Proof Sys2Proof.Machine Sys2Proof.Machine.Reg Sys2Proof.Machine.Laws Sys2Proof.Safety

/-! ### Memory controllers -/

/-- Settles O14. -/
theorem memoryCommandsComplete : Obligations.MemoryCommandsComplete := by
  refine ⟨?read, ?write, ?refresh, ?shadow, ?retrain, ?retrainTimeout, ?patrol, ?patrolInline⟩
  case read => intro s p oc tid addr n rt dead errs; rfl
  case write => intro s p oc tid addr b rt dead errs; rfl
  case refresh =>
    intro s c hc runs cool
    simp [exec, execRefresh, hc.not_ge, runs, cool, ofBool]
  case shadow =>
    intro s m c d x hm hc runs inside new
    simp only [exec, execRefreshShadow, hm.not_ge, hc.not_ge, runs, inside.not_gt, new, Bool.not_true, Bool.false_eq_true, or_self, if_false]
  case retrain =>
    intro s w m v hm permits go
    have there : inert s (0x230044 + 0x10000 * m) = false := inert_above s (by omega)
    simp only [exec, execMcRetrainReq, hm.not_ge, if_false, guarded_of_permitted _ _ _ _ permits there, go, if_true]
  case retrainTimeout =>
    intro s m t hm pending late
    simp only [exec, execRetrainTimeout, pending, hm.not_ge, late.not_gt, or_self, if_false]
    rfl
  case patrol =>
    intro s m v hm runs units plain at_ more due
    have here : v % (4 * channelUnits s) = v := Nat.mod_eq_of_lt (by omega)
    have next : (v + 1) % (4 * channelUnits s) = v + 1 := Nat.mod_eq_of_lt more
    simp [exec, execPatrolScrub, hm.not_ge, runs, units, at_, here, due.not_gt, plain, next, more.ne]
  case patrolInline =>
    intro s m v kind hm runs units inline_ at_ more due
    have here : v % (4 * channelUnits s) = v := Nat.mod_eq_of_lt (by omega)
    have next : (v + 1) % (4 * channelUnits s) = v + 1 := Nat.mod_eq_of_lt more
    simp [exec, execPatrolScrub, hm.not_ge, runs, units, at_, here, due.not_gt, inline_, next, more.ne]

/-! ### The fabric -/

theorem timeoutCount_ne (p : Nat) : FAB_TO_CAP_VALID.key ≠ (FAB_INIT_TOCNT p).key := by
  simp only [FAB_TO_CAP_VALID, FAB_INIT_TOCNT, Field.key]
  omega

/-- A timeout after the first is counted and noted for its target; the capture stands (R328). -/
theorem noteTimeout_of_valid {s : State} (valid : s.rdb FAB_TO_CAP_VALID = true) {tgt : Nat} (target : tgt ≠ 127) (p tag addr : Nat) (sv : Bool) :
    noteTimeout p tgt tag addr sv s =
      { (s.inc FAB_TIMEOUTS).inc (FAB_INIT_TOCNT p) with fab := { s.fab with notes := s.fab.notes ++ [tgt] } } := by
  have valid : ((s.inc FAB_TIMEOUTS).inc (FAB_INIT_TOCNT p)).rdb FAB_TO_CAP_VALID = true := by
    rw [State.inc, rdb_wr_ne _ _ (timeoutCount_ne p), State.inc, rdb_wr_ne _ _ (by decide), valid]
  simp only [noteTimeout, valid, if_true, if_neg target]
  rfl

/-- Settles O15. -/
theorem fabricCommandsComplete : Obligations.FabricCommandsComplete := by
  refine ⟨?replay, ?timeout, ?tonote, ?fenceSet, ?fenceLift, ?targetAnswers, ?arrives, ?sync⟩
  case replay =>
    intro s n ring hn hring alive
    simp only [exec, execLinkReplay, hn.not_ge, hring.not_ge, alive, or_self, if_false, if_true]
  case timeout =>
    intro s p tag x found late valid target
    simp only [exec, execFabricTimeout, found, late.not_gt, if_false, noteTimeout_of_valid valid target]
    rfl
  case tonote =>
    intro s pid l notes fenceable manual
    have manual : (({ s with fab := { s.fab with notes := l } } : State).inc (FAB_TGT_STAT_CONSEC pid)).rdb (FAB_TGT_CFG_AUTO_FENCE pid) = false :=
      (rdb_wr_ne _ _ (by simp [FAB_TGT_STAT_CONSEC, FAB_TGT_CFG_AUTO_FENCE, Field.key])).trans manual
    simp only [exec, execTonote, notes, fenceable, manual, Bool.false_eq_true, false_and, if_false]
  case fenceSet =>
    intro s w k v hk permits
    have there : inert s (0x220050 + 4 * k) = false := by apply inert_of_elsewhere <;> omega
    simp only [exec, execFenceSet, hk.not_ge, if_false, guarded_of_permitted _ _ _ _ permits there]
  case fenceLift =>
    intro s w k v hk permits
    have there : inert s (0x220040 + 4 * k) = false := by apply inert_of_elsewhere <;> omega
    simp only [exec, execFenceLift, hk.not_ge, if_false, guarded_of_permitted _ _ _ _ permits there]
  case targetAnswers =>
    intro s p tag tgt used
    simp only [exec, execFabricResponse, List.contains_iff_mem.2 used, if_true]
  case arrives =>
    intro s p tag tgt
    simp only [exec, execFabricResponse, Bool.false_eq_true, if_false]
  case sync =>
    intro s p tgt oc typ t l free used target class_
    have reaches : (tgt == 127 || (usedPids s).contains tgt) = true := by simpa using target
    simp only [exec, execSyncRequest, free, List.contains_iff_mem.2 used, reaches, Bool.not_true, Bool.false_eq_true, or_self, if_false,
      Nat.mod_eq_of_lt class_]

/-! ### Probes -/

/-- Settles O16. -/
theorem probeCommandsComplete : Obligations.ProbeCommandsComplete := by
  refine ⟨?observe, ?windowTick, ?clear, ?sync, ?loss⟩
  case observe =>
    intro s n l hn
    simp only [exec, execProbeObserve, hn.not_ge, if_false, if_true]
  case windowTick =>
    intro s free len running passed
    have some : s.rd PRB_WIN_CFG_LEN_US * 1000 ≠ 0 := by omega
    simp only [exec, execWindowTick, free, some, passed, tick, len, running, Bool.false_eq_true, or_self, if_false]
  case clear =>
    intro s w permits
    have there : inert s 0x228000 = false := inert_above s (by decide)
    exact congrArg Host.Outcome.next (guarded_of_permitted _ _ _ _ permits there)
  case sync => intro s changed; exact congrArg Host.Outcome.next (if_neg changed)
  case loss =>
    intro s n some room
    simp only [exec, execTraceLoss, some, room.not_gt, or_self, if_false]

/-! ### Queues -/

theorem inert_qCtlAddr (s : State) {q : Nat} (hq : q < 1024) : inert s (qCtlAddr q) = false := by
  apply inert_of_elsewhere <;> simp only [qCtlAddr] <;> omega

theorem exec_cqDb {q : Nat} (hq : q < 1024) {l : List (Writer × Nat)} (ne : l ≠ []) {s : State}
    (permits : ∀ e ∈ l, writeStatus s e.1.master (cqDbAddr q) = 0 ∧ (e.1.master ≠ 0x801 ∨ draining s = false)) :
    exec (.cqDb q l) s = .next (advanceHead q l.length (l.map fun e => e.2 % 65536).sum (s.answer 0 0)) := by
  change execCqDb q l s = _
  rw [execCqDb, if_neg (by omega), doorbellSum_of_permitted permits, if_neg ne]

/-- Settles O17. -/
theorem queueCommandsComplete : Obligations.QueueCommandsComplete := by
  refine ⟨?bind, ?unbind, ?resume, ?sqDb, ?cqDb, ?fetchError, ?complete, ?irqTimer⟩
  case bind =>
    intro s w q hq permits sealing owner ok
    have free : ¬ (s.rd (PAGE_OWN_OWNER (qCtlAddr q / 0x1000)) ≠ 0x800 ∧ s.rd (PAGE_OWN_OWNER (qCtlAddr q / 0x1000)) ≠ 0x801) := by omega
    simp only [exec, execBind, hq.not_ge, if_false, guarded_of_permitted _ _ _ _ permits (inert_qCtlAddr s hq), rd_answer, rdb_answer, sealing,
      free, Bool.not_true, Bool.false_eq_true, or_self, bindQueue, ok, if_true]
  case unbind =>
    intro s w q hq permits unpinned isBound
    have isBound : bound (s.answer 0 0) q = true := isBound
    simp only [exec, execUnbind, hq.not_ge, if_false, guarded_of_permitted _ _ _ _ permits (inert_qCtlAddr s hq), rdb_answer, unpinned,
      isBound, Bool.false_eq_true, if_true]
  case resume =>
    intro s w q hq permits state written
    have written : ¬ q ∈ (s.answer 0 0).drv.cqFailed := written
    simp only [exec, execResume, hq.not_ge, if_false, guarded_of_permitted _ _ _ _ permits (inert_qCtlAddr s hq), rd_answer, state, ne_eq,
      not_true_eq_false, written, decide_false, Bool.false_eq_true]
    rfl
  case sqDb =>
    intro s w q v hq permits notHost some small isBound fits
    have sum : ([(w, v)].map fun e : Writer × Nat => e.2 % 65536).sum = v := by simp [Nat.mod_eq_of_lt small]
    have isBound : bound (s.answer 0 0) q = true := isBound
    have fits : (backlog (s.answer 0 0) q + v) % 65536 ≤ sqSize (s.answer 0 0) q := (Nat.mod_le _ _).trans fits
    rw [exec_sqDb hq (by simp) (by simp [permits, notHost]), sum, advanceTail_of_fits isBound some fits]
    rfl
  case cqDb =>
    intro s w q v hq permits notHost some small isBound fits
    have sum : ([(w, v)].map fun e : Writer × Nat => e.2 % 65536).sum = v := by simp [Nat.mod_eq_of_lt small]
    have isBound : bound (s.answer 0 0) q = true := isBound
    have fits : ¬ unread (s.answer 0 0) q < v := fits.not_gt
    rw [exec_cqDb hq (by simp) (by simp [permits, notHost]), sum]
    simp only [advanceHead, isBound, some.ne', fits, Bool.not_true, Bool.false_eq_true, if_false]
    rfl
  case fetchError =>
    intro s q state waits noHead still room clean stays
    simp only [exec, execFetchError, state, waits, noHead, still, room, clean, stays, Option.isNone_none, Bool.not_false, ne_eq,
      not_false_eq_true, and_self, if_true]
  case complete =>
    intro s q f next written
    simp only [exec, execCommandComplete, next, if_pos written]
  case irqTimer =>
    intro s q t oldest time late
    simp only [exec, execIrqTimer, oldest, time, late.not_gt, or_self, if_false]

end Sys2Proof.Machine.Proofs
end

section
/-! PROOFS. The commands complete (chapters 0 and 5): rails and presence, resets. -/

namespace Sys2Proof.Machine.Proofs
open Sys2Proof Sys2Proof.Machine Sys2Proof.Machine.Reg Sys2Proof.Machine.Laws Sys2Proof.Safety

/-! ### Rails and presence -/

/-- With the slot's power allowed and no rail up, power begins with the memory rail (R131). -/
theorem startPower_of_qualified {s : State} (state : s.rd PWR_STATE_STATE = 0) (off : s.power.penMem = false) (qualified : s.power.qualified = true)
    (seated : s.power.ejectLow = false) : startPower s = { s with power := { s.power with penMem := true, wait := 4 } } := by
  simp [startPower, state, off, qualified, seated]

/-- Settles O1. -/
theorem powerRailCommandsComplete : Obligations.PowerRailCommandsComplete := by
  refine ⟨?loss, ?aonGood, ?presence, ?memRise, ?mainRise, ?timeout, ?retry, ?mainFall, ?memFall⟩
  case loss => intro s; rfl
  case aonGood =>
    intro s off
    simp only [exec, execAonRailsGood, off, Bool.false_eq_true, if_false]
    rfl
  case presence =>
    intro s on off idle state
    refine congrArg Host.Outcome.next ((if_neg (by simp [on])).trans ?_)
    have idle (g : Power → Power) (keeps : ∀ p, (g p).penMem = p.penMem ∧ (g p).wait = p.wait) :
        ¬ ((setPower g s).power.penMem = true ∨ (setPower g s).power.wait ≠ 0 ∨ (setPower g s).rd PWR_STATE_STATE ≠ 0) := by
      simp [setPower, keeps, off, idle, state]
    exact (if_neg (idle _ fun _ => ⟨rfl, rfl⟩)).trans (startPower_of_qualified state off rfl rfl)
  case memRise =>
    intro s pen down waits
    simp only [exec, execPgoodMemRise, pen, down, waits, setPower, Bool.not_true, Bool.false_eq_true, or_self, if_false, if_true]
  case mainRise =>
    intro s pen down state
    simp only [exec, execPgoodMainRise, pen, down, state, setPower, Bool.not_true, Bool.false_eq_true, or_self, if_false]
  case timeout => intro s waits; exact congrArg Host.Outcome.next (if_pos waits)
  case retry => intro s waits; exact congrArg Host.Outcome.next (if_pos waits)
  case mainFall =>
    intro s good pen state
    simp only [exec, execPgoodMainFall, good, pen, state, Bool.not_true, Bool.false_eq_true, if_false]
  case memFall =>
    intro s good pen state
    have pen : (dramLost s).power.penMem = true := pen
    have trips : ¬ ((s.rd PWR_STATE_STATE = 4 ∧ (dramLost s).railsOff = true) ∨ s.rd PWR_STATE_STATE = 5) := by simp [state]
    exact congrArg Host.Outcome.next ((if_neg (by simp [good])).trans ((if_neg (by simp [pen])).trans (if_neg trips)))

/-! ### Resets -/

/-- A reset that nothing holds back and that no other is under way with is performed (R135, R137). -/
theorem requestReset_of_free {s : State} (on : s.power.vaon = true) (rails : s.railsOff = false) (stays : s.rd LIV_STATUS_STATE = 0)
    (none : s.power.resetNow = none) (cls : Nat) : requestReset cls s = performReset cls (requestedWith s ||| 2 ^ cls) s := by
  simp [requestReset, on, rails, stays, none]

/-- Settles O2. -/
theorem resetCommandsComplete : Obligations.ResetCommandsComplete := by
  refine ⟨?cold, ?pin, ?wdg, ?sys, ?release, ?island, ?reapplied, ?link⟩
  case cold =>
    intro s m c h t waits rails stays seated kept
    simp only [exec, execColdReset, waits, rails, stays, seated, kept, ne_eq, not_true_eq_false, Bool.false_eq_true, or_self, if_false]
  case pin =>
    intro s on rails stays none
    exact congrArg Host.Outcome.next (requestReset_of_free on rails stays none 1)
  case wdg =>
    intro s free due on rails stays none
    simp only [exec, execWdgReset, free, due, Bool.not_true, Bool.false_eq_true, or_self, if_false, requestReset_of_free on rails stays none 2]
    rfl
  case sys =>
    intro s w v permits go key
    have there : inert s 0x10 = false := by apply inert_of_elsewhere <;> decide
    exact congrArg Host.Outcome.next ((guarded_of_permitted _ _ _ _ permits there).trans (if_pos ⟨go, key⟩))
  case release =>
    intro s m c h t pin seated rails
    simp only [exec, execResetRelease, pin, seated, rails, one_ne_zero, Bool.false_eq_true, or_self, if_false, if_true]
  case island =>
    intro s w v permits go key keep may free noReset sealing
    have there : inert s 0x12010 = false := by apply inert_of_elsewhere <;> decide
    refine congrArg Host.Outcome.next ((guarded_of_permitted _ _ _ _ permits there).trans ?_)
    have target : ((s.answer 0 0).wrs [(RST_ISL_ISLAND, v), (RST_ISL_IGNORED, v / 2 ^ 24)]).rd RST_ISL_ISLAND = v % 256 :=
      (rd_wr_ne _ _ (by decide : RST_ISL_ISLAND.key ≠ RST_ISL_IGNORED.key)).trans (rd_wr_self _ _ _)
    have same {f : Machine.Field} (h : ∀ e ∈ [(RST_ISL_ISLAND, v), (RST_ISL_IGNORED, v / 2 ^ 24)], f.key ≠ e.1.key) :
        ((s.answer 0 0).wrs [(RST_ISL_ISLAND, v), (RST_ISL_IGNORED, v / 2 ^ 24)]).rdb f = s.rdb f := by
      rw [rdb_eq, rd_wrs_ne _ _ h, rd_answer, rdb_eq]
    have may : mayReset ((s.answer 0 0).wrs [(RST_ISL_ISLAND, v), (RST_ISL_IGNORED, v / 2 ^ 24)]) (v % 256) = true := may
    have noReset : ((s.answer 0 0).wrs [(RST_ISL_ISLAND, v), (RST_ISL_IGNORED, v / 2 ^ 24)]).power.resetNow = none := noReset
    simp only [keep, Bool.false_eq_true, if_false, target, go, key, Bool.not_true, ne_eq, not_true_eq_false, or_self, may, noReset,
      Option.isSome_none, same (f := RST_ISL_BUSY) (by simp; decide), free, same (f := BOOT_STATUS_SEALED) (by simp; decide), sealing, if_true]
  case reapplied =>
    intro s k l busy late done
    simp only [exec, execIslReapplyDone, busy, late.not_gt, if_false, done, ne_eq, not_true_eq_false]
  case link =>
    intro s kind rails strap noReset
    have same (t : State) (h : t = if kind = 2 then setPerst true s else s) :
        t.railsOff = false ∧ t.straps.hostlink = true ∧ t.power.resetNow = none := by
      subst h
      split
      · exact ⟨rails, strap, noReset⟩
      · exact ⟨rails, strap, noReset⟩
    obtain ⟨rails, strap, noReset⟩ := same _ rfl
    simp only [exec, execLnkReset, rails, strap, noReset, Option.isSome_none, Bool.not_true, Bool.false_eq_true, or_self, if_false]
    rfl

end Sys2Proof.Machine.Proofs
end

section
/-! PROOFS. The commands complete (chapters 5 and 6): power states, live insertion. -/

namespace Sys2Proof.Machine.Proofs
open Sys2Proof Sys2Proof.Machine Sys2Proof.Machine.Reg Sys2Proof.Machine.Laws Sys2Proof.Safety

/-! ### Power states -/

theorem setPower_eq (g : Power → Power) (s : State) : setPower g s = { s with power := g s.power } := rfl

/-- A permitted write of PWR_REQ asks for a power state (R143). -/
theorem guarded_requestPower {s : State} {w : Writer} (permits : writeStatus s w.master 0x12024 = 0) (r : Nat) :
    guarded w 0x12024 (requestPower r) s = requestPower r (s.answer 0 0) :=
  guarded_of_permitted _ _ _ _ permits (by apply inert_of_elsewhere <;> decide)

/-- In RUN a state that may be entered is noted as requested. -/
theorem requestPower_of_run {s : State} (noReset : s.power.resetNow = none) (run : s.rd PWR_STATE_STATE = 0) (idle : s.power.request = 0) {r : Nat}
    (low : r ≠ 0) (ok : requestOk s r = true) : requestPower r s = { s with power := { s.power with request := r } } := by
  simp only [requestPower, noReset, run, low, ok, idle, setPower, Option.isSome_none, Bool.false_eq_true, and_self, if_false, if_true]

/-- No wake source is an exit without the power-good retry. -/
theorem wakeSources_of_latched {s : State} {l : List Nat} (on : s.power.vaon = true) (noHost : 2 ∉ l) (waits : (latchWake l s).power.wait ≠ 2) :
    wakeSources l s = latchWake l s := by
  simp only [wakeSources, on, wakeNow, waits, noHost, Bool.not_true, Bool.false_eq_true, false_and, and_false, if_false]

theorem draining_of_seated {s : State} (h : s.rd LIV_STATUS_STATE = 0) : draining s = false := by simp [draining, h]

/-- Settles O3. -/
theorem powerStateCommandsComplete : Obligations.PowerStateCommandsComplete := by
  refine ⟨?run, ?doze, ?fold, ?off, ?transition, ?commit, ?latch, ?dominant, ?frame, ?dozeExit, ?foldExit⟩
  case run =>
    intro s w permits noReset doze
    refine congrArg Host.Outcome.next ((guarded_requestPower permits 0).trans ?_)
    simp [requestPower, noReset, doze, setPower]
  case doze =>
    intro s w permits noReset run seated allowed idle
    refine congrArg Host.Outcome.next ((guarded_requestPower permits 1).trans
      (requestPower_of_run (s := s.answer 0 0) (r := 1) noReset run idle (by decide) ?_))
    simp [requestOk, draining_of_seated (s := s.answer 0 0) seated, allowed]
  case fold =>
    intro s w permits noReset run seated allowed away idle
    have away : hostAway (s.answer 0 0) = true := away
    refine congrArg Host.Outcome.next ((guarded_requestPower permits 2).trans
      (requestPower_of_run (s := s.answer 0 0) (r := 2) noReset run idle (by decide) ?_))
    simp [requestOk, draining_of_seated (s := s.answer 0 0) seated, allowed, away]
  case off =>
    intro s w permits noReset run seated allowed idle
    refine congrArg Host.Outcome.next ((guarded_requestPower permits 3).trans
      (requestPower_of_run (s := s.answer 0 0) (r := 3) noReset run idle (by decide) ?_))
    simp [requestOk, draining_of_seated (s := s.answer 0 0) seated, allowed]
  case transition =>
    intro s on seated run asked free
    simp [exec, execPowerTransition, on, draining_of_seated seated, run, asked, free]
  case commit =>
    intro s fold free on idle
    simp only [exec, execFoldSnapshotCommit, fold, free, on, idle, ne_eq, not_true_eq_false, Bool.not_true, Bool.false_eq_true, or_self, if_false,
      setPower]
  case latch =>
    intro s l on noHost _ waits
    exact congrArg Host.Outcome.next (wakeSources_of_latched on noHost waits)
  case dominant =>
    intro s n hn on mode
    simp only [exec, execCanWakeDominant, hn.not_ge, on, mode, ne_eq, not_true_eq_false, Bool.not_true, Bool.false_eq_true, or_self, if_false]
    rfl
  case frame =>
    intro s n f hn on mode classic matched
    simp only [exec, execCanWakeFrame, hn.not_ge, on, mode, classic, matched, ne_eq, not_true_eq_false, Bool.not_true, Bool.false_eq_true, or_self,
      if_false, if_true]
    rfl
  case dozeExit =>
    intro s us exiting on
    simp only [exec, execDozeExit, exiting, on, ne_eq, not_true_eq_false, Bool.false_eq_true, or_self, if_false, setPower]
    rfl
  case foldExit =>
    intro s us exiting on clock right
    simp only [exec, execFoldExit, exiting, on, clock, right, ne_eq, not_true_eq_false, Bool.not_true, Bool.false_eq_true, or_self, and_self,
      if_false, if_true]

/-! ### Live insertion -/

theorem poweringUp_of_rails {s : State} (h : s.railsOff = false) : poweringUp s = false := by simp [poweringUp, h]

/-- Settles O4. -/
theorem liveInsertionCommandsComplete : Obligations.LiveInsertionCommandsComplete := by
  refine ⟨?eject, ?drained, ?release, ?surprise, ?idle, ?aged, ?pinned⟩
  case eject =>
    intro s on up seated run rails noReset
    have goes : ¬ (s.railsOff = true ∨ s.power.resetNow.isSome = true) := by simp [rails, noReset]
    have powered : ¬ (s.rd PWR_STATE_STATE = 4 ∨ s.rd PWR_STATE_STATE = 5 ∨ s.rd PWR_STATE_STATE = 6) := by omega
    refine congrArg Host.Outcome.next ((if_neg (by simp [on, up])).trans ((if_neg (not_not_intro seated)).trans
      ((if_neg powered).trans ((if_neg goes).trans ?_))))
    rfl
  case drained =>
    intro s us leaving on noReset
    have goes : ¬ ((s.rd LIV_STATUS_STATE ≠ 1 ∧ s.rd LIV_STATUS_STATE ≠ 3) ∨ s.railsOff = true) := by simp [on]; omega
    simp only [exec, execDrained, if_neg goes, noReset, Option.isSome_none, Bool.false_eq_true, if_false]
    rfl
  case release => intro s; rfl
  case surprise =>
    intro s on seated rails stays noReset
    have goes : ¬ (s.railsOff = true ∨ s.power.resetNow.isSome = true) := by simp [rails, noReset]
    have first (g : Power → Power) : decide ((setPower g s).rd LIV_STATUS_STATE = 0) = true := decide_eq_true stays
    refine congrArg Host.Outcome.next ((if_neg (by simp [on, seated])).trans ?_)
    simp only [first, if_true]
    refine (if_neg ?on).trans ((if_neg ?goes).trans ?_)
    case on => exact ne_true_of_eq_false (poweringUp_of_rails rails)
    case goes => exact fun h => h.elim (fun h => absurd h (by decide)) goes
    rfl
  case idle => intro s n enabled unpinned state late; exact congrArg Host.Outcome.next (if_pos ⟨enabled, by simp [unpinned], state, late⟩)
  case aged =>
    intro s n id x p peer unpinned late
    simp only [exec, execCanPeerAgeout, peer, late.not_gt, if_false, unpinned, Bool.not_false, if_true]
  case pinned =>
    intro s n id x p peer pinned present late
    simp only [exec, execCanPeerAgeout, peer, late.not_gt, if_false, pinned, present, Bool.not_true, Bool.false_eq_true]

end Sys2Proof.Machine.Proofs
end

section
/-! PROOFS. The commands complete (chapters 2 and 4): clocks, the boot block. -/

namespace Sys2Proof.Machine.Proofs
open Sys2Proof Sys2Proof.Machine Sys2Proof.Machine.Reg Sys2Proof.Machine.Laws Sys2Proof.Safety

/-! ### Clocks -/

theorem columnIsland_injective : ∀ c < 13, ∀ d < 13, columnIsland c = columnIsland d → c = d := by decide

/-- The island of a column leads back to the column. -/
theorem find?_regulators {s : State} {c : Nat} (hc : c < 13) (there : columnExists s c = true) :
    (regulators s).find? (fun d => columnIsland d == columnIsland c) = some c := by
  have mem : c ∈ regulators s := List.mem_filter.2 ⟨List.mem_range.2 hc, there⟩
  cases found : (regulators s).find? fun d => columnIsland d == columnIsland c with
  | none => exact absurd (List.find?_eq_none.1 found c mem) (by simp)
  | some d =>
    have same : columnIsland d = columnIsland c := by simpa using List.find?_some found
    have hd : d < 13 := List.mem_range.1 (List.mem_filter.1 (List.mem_of_find?_eq_some found)).1
    rw [columnIsland_injective d hd c hc same]

/-- A column between commands switches to the clock it was asked for (R118). -/
theorem switchColumn_of_ready {s : State} {c : Nat} (new : tgtOf s c ≠ s.rd (CLK_ISL_CUR (columnIsland c))) (ok : fcodeOk s c (tgtOf s c) = true)
    (runs : islandRuns s (columnIsland c) = true) (free : atBoundary (prepareSwitch c (tgtOf s c) s) c = true) :
    switchColumn c s = performSwitch c (tgtOf s c) (prepareSwitch c (tgtOf s c) s) := by
  simp only [switchColumn, new, ok, runs, free, Bool.not_true, Bool.false_eq_true, or_self, if_false, if_true]

/-- Settles O5. -/
theorem clockCommandsComplete : Obligations.ClockCommandsComplete := by
  refine ⟨?gateEnd, ?glitch, ?stop, ?cutoff, ?relock, ?noRelock, ?xtalFail, ?xtalRestore, ?trim, ?island, ?dvfs⟩
  case gateEnd =>
    intro s count runs valid low high posted
    have valid : (s.wr REFMON_DEV_COUNT_DELTA (unsigned 16 ((count : Int) - 25000))).rd CLK_STATUS_REFMON = 1 :=
      (rd_wr_ne _ _ (by decide)).trans valid
    simp [exec, execRefclkGateEnd, runs, valid, low, high, postLost, posted]
  case glitch =>
    intro s runs valid calm before
    have valid : (s.inc REFMON_GLITCH_COUNT).rd CLK_STATUS_REFMON = 1 := (rd_inc_ne _ _ (by decide)).trans valid
    simp [exec, execRefclkGlitch, runs, valid, calm, before]
  case stop =>
    intro s runs valid
    simp only [exec, execRefclkStop, runs, monitorFault, valid, Bool.not_true, Bool.false_eq_true, if_false, if_true]
  case cutoff =>
    intro s lost late
    simp only [exec, execLostCutoff, lost, late.not_gt, Bool.not_true, Bool.false_eq_true, if_false]
  case relock =>
    intro s relocking valid resume
    simp only [exec, execPllLock, relocking, valid, resume, Bool.not_true, Bool.false_eq_true, and_self, if_false, if_true]
  case noRelock =>
    intro s relocking invalid
    simp only [exec, execPllLock, relocking, invalid, Bool.not_true, Bool.false_eq_true, false_and, if_false]
  case xtalFail =>
    intro s on
    simp only [exec, execXtalFail, on, Bool.not_true, Bool.false_eq_true, if_false]
    rfl
  case xtalRestore => intro s; rfl
  case trim =>
    intro s x on crystal good
    simp only [exec, execBoscTrim, on, crystal, good, Bool.false_eq_true, or_self, if_false]
  case island =>
    intro s k runs valid present other there
    simp only [exec, execIslandClockFault, runs, valid, present, other, there, ne_eq, not_true_eq_false, Bool.not_true, Bool.false_eq_true, or_self,
      if_false]
  case dvfs =>
    intro s c runs valid there hc new ok island free
    simp only [exec, execDvfsSwitch, runs, valid, find?_regulators hc there, switchColumn_of_ready new ok island free, ne_eq, not_true_eq_false,
      Bool.not_true, Bool.false_eq_true, or_self, if_false]

/-! ### The boot block -/

/-- Settles O6. -/
theorem bootCommandsComplete : Obligations.BootCommandsComplete := by
  refine ⟨?path, ?slots, ?retrySame, ?retryNew, ?prefix_, ?imageBad, ?imageGood, ?pollOver, ?pollMet, ?sealing, ?hostgo, ?confirm, ?autoConfirm,
    ?retry, ?ptpGate, ?extpGo, ?extpHash, ?update, ?erased, ?programmed, ?verified⟩
  case path =>
    intro s a b loads mission phase
    simp only [exec, execSlotSelection, loads, mission, phase, Bool.not_true, Bool.false_eq_true, or_self, if_false, if_true]
  case slots =>
    intro s a b loads mission phase free
    simp only [exec, execSlotSelection, loads, mission, phase, free, one_ne_zero, Bool.not_true, Bool.not_false, Bool.false_eq_true, or_self,
      and_self, if_false, if_true]
  case retrySame =>
    intro s a c loads attempt hc phase at_ few
    have reads : ¬ (s.rd BOOT_STATUS_PHASE ≠ 2 ∧ s.rd BOOT_STATUS_PHASE ≠ 4) := by omega
    subst at_
    simp only [exec, execFlashReadTimeout, attempt, loads, hc.not_gt, reads, few, Bool.not_true, Bool.false_eq_true, or_self, if_false, if_true]
  case retryNew =>
    intro s a c loads attempt hc phase elsewhere
    have reads : ¬ (s.rd BOOT_STATUS_PHASE ≠ 2 ∧ s.rd BOOT_STATUS_PHASE ≠ 4) := by omega
    simp only [exec, execFlashReadTimeout, attempt, loads, hc.not_gt, reads, elsewhere, Bool.not_true, Bool.false_eq_true, or_self, if_false,
      Nat.zero_lt_succ, if_true]
  case prefix_ =>
    intro s c x loads attempt phase clock
    have clock (b : Boot) : refclkValid (({ s with boot := b } : State).wr BOOT_STATUS_PHASE 3) = true := by
      rw [refclkValid, rd_wr_ne _ _ (by decide : CLK_STATUS_REFMON.key ≠ BOOT_STATUS_PHASE.key)]
      exact clock
    simp only [exec, execPrefixVerified, attempt, loads, phase, clock, ne_eq, not_true_eq_false, Bool.not_true, Bool.false_eq_true, or_self, if_false,
      Bool.not_eq_eq_eq_not, if_true]
  case imageBad =>
    intro s c loads attempt phase t bad
    have bad : imageRecords (streamIn (streamedRecords s c (imageLen s.boot.header - 256) (recordCount s.boot.header) 0x200) s) c
        s.boot.header = none := bad
    simp only [exec, execImageVerified, attempt, loads, phase, bad, ne_eq, not_true_eq_false, Bool.not_true, Bool.false_eq_true,
      or_self, if_false]
    rfl
  case imageGood =>
    intro s c l loads attempt phase t good
    have good : imageRecords (streamIn (streamedRecords s c (imageLen s.boot.header - 256) (recordCount s.boot.header) 0x200) s) c
        s.boot.header = some l := good
    simp only [exec, execImageVerified, attempt, loads, phase, good, ne_eq, not_true_eq_false, Bool.not_true, Bool.false_eq_true,
      or_self, if_false, Bool.not_eq_eq_eq_not]
    rfl
  case pollOver =>
    intro s e loads phase expired unmet
    simp only [exec, execRegPollTimeout, loads, phase, expired, unmet, ne_eq, not_true_eq_false, Bool.not_true, Bool.false_eq_true, or_self, if_false]
  case pollMet =>
    intro s e loads phase expired met
    simp only [exec, execRegPollTimeout, loads, phase, expired, met, ne_eq, not_true_eq_false, Bool.not_true, Bool.false_eq_true, or_self, if_false,
      if_true]
  case sealing =>
    intro s c loads attempt phase waited still phase' todo progs
    simp only [exec, execSeal, attempt, loads, phase, waited.not_gt, still, phase', todo, progs, List.isEmpty_nil, ne_eq, not_true_eq_false,
      Bool.not_true, Bool.false_eq_true, or_self, and_self, if_false, if_true]
  case hostgo =>
    intro s w b permits loads phase
    refine congrArg Host.Outcome.next ((guarded_of_permitted _ _ _ _ permits (inert_above s (by decide))).trans ((if_neg ?_).trans (if_pos phase)))
    have loads : loading { s.answer 0 0 with hl := { s.hl with busMaster := b } } = true := loads
    simp only [loads, Bool.not_true, Bool.false_eq_true, not_false_eq_true, answer_hl]
  case confirm =>
    intro s w permits trial owner
    have owner : isHost w.master = true ∨ w.master = 0 := owner.imp_left fun h => by simp [isHost, h]
    exact congrArg Host.Outcome.next ((guarded_of_permitted _ _ _ _ permits (inert_above s (by decide))).trans (if_pos ⟨trial, owner⟩))
  case autoConfirm => intro s trial auto clean; exact congrArg Host.Outcome.next (if_pos ⟨trial, auto, clean⟩)
  case retry =>
    intro s w permits loads phase none
    have loads : loading (s.answer 0 0) = true := loads
    refine congrArg Host.Outcome.next ((guarded_of_permitted _ _ _ _ permits (inert_above s (by decide))).trans ?_)
    simp only [loads, rd_answer, phase, answer_rdPair, none, ne_eq, not_true_eq_false, Bool.not_true, Bool.false_eq_true, or_self, if_false]
  case ptpGate =>
    intro s t gate unlocked late
    simp only [exec, execPtpGateTimeout, gate, unlocked, late.not_gt, or_self, if_false]
  case extpGo =>
    intro s w v permits go free sealing inside new
    have index : ((s.answer 0 0).wr EXTP_CTL_INDEX v).rd EXTP_CTL_INDEX = v % 64 := rd_wr_self _ _ _
    have free : ((s.answer 0 0).wr EXTP_CTL_INDEX v).rdb EXTP_STATUS_HASHING = false := (rdb_wr_ne _ _ (by decide)).trans free
    have sealing : ((s.answer 0 0).wr EXTP_CTL_INDEX v).rdb BOOT_STATUS_SEALED = true := (rdb_wr_ne _ _ (by decide)).trans sealing
    refine congrArg Host.Outcome.next ((guarded_of_permitted _ _ _ _ permits (inert_above s (by decide))).trans ?_)
    simp only [index]
    refine (if_neg ?_).trans rfl
    simp [go, free, sealing, inside, new]
  case extpHash =>
    intro s i r hashing payload
    simp only [exec, execExtpHashDone, hashing, clr_img, payload]
    rfl
  case update =>
    intro s w v permits go key sealing idle ok
    have sealing : ((s.answer 0 0).wr HL_UPD_CTL_SLOT v).rdb BOOT_STATUS_SEALED = true := (rdb_wr_ne _ _ (by decide)).trans sealing
    have idle : ((s.answer 0 0).wr HL_UPD_CTL_SLOT v).rd HL_UPD_STAT_STATE = 0 := (rd_wr_ne _ _ (by decide)).trans idle
    refine congrArg Host.Outcome.next ((guarded_of_permitted _ _ _ _ permits (inert_above s (by decide))).trans ?_)
    refine (if_neg ?_).trans ((if_neg (not_not_intro ok)).trans rfl)
    simp [go, key, sealing, idle]
  case erased =>
    intro s x state
    simp only [exec, execUpdateStepDone, state, if_true]
  case programmed =>
    intro s state still up
    simp only [exec, execUpdateStepDone, state, still, up, OfNat.ofNat_ne_one, Bool.false_eq_true, and_self, if_false, if_true]
  case verified =>
    intro s x state still
    simp only [exec, execUpdateStepDone, state, still, OfNat.ofNat_ne_one, Bool.false_eq_true, if_false, if_true]
    rfl

end Sys2Proof.Machine.Proofs
end

section
/-! PROOFS. The commands complete (chapter 7): the servo, the Timekeeper's inputs and outputs, the calendar. -/

namespace Sys2Proof.Machine.Proofs
open Sys2Proof Sys2Proof.Machine Sys2Proof.Machine.Reg Sys2Proof.Machine.Laws Sys2Proof.Safety

/-- The registers of the Timekeeper are there on every grade. -/
theorem inert_timekeeper (s : State) {a : Nat} (low : 0x14000 ≤ a) (high : a < 0x100000) : inert s a = false := by
  apply inert_of_elsewhere <;> omega

/-! ### The servo -/

theorem stepAllowed_of_first {s : State} (h : s.tk.lastStep = none) : stepAllowed s = true := by simp only [stepAllowed, h]

theorem stepAllowed_of_some {s : State} {m : Nat} (h : s.tk.lastStep = some m) :
    stepAllowed s = decide (m + s.rd TK_STEP_CFG_GAP_MS * 1000000 ≤ s.mono) := by simp only [stepAllowed, h]

/-- A write of a mean delay leaves the profile. -/
theorem profile_of_meanDelay (s : State) (n v : Nat) : (s.wr (PTP_MEANDELAY_NS n) v).rd PTP_CFG_PROFILE = s.rd PTP_CFG_PROFILE := by
  refine rd_wr_ne _ _ ?_
  simp only [PTP_MEANDELAY_NS, PTP_CFG_PROFILE, Field.key]
  omega

/-- Settles O9. -/
theorem servoCommandsComplete : Obligations.ServoCommandsComplete := by
  refine ⟨?step, ?defers, ?deferred, ?sync, ?loss, ?announce, ?endToEnd, ?peerToPeer, ?ageout, ?neighbour, ?message⟩
  case step =>
    intro s w permits first
    have allowed : stepAllowed (s.answer 0 0) = true := stepAllowed_of_first first
    exact congrArg Host.Outcome.next ((guarded_of_permitted _ _ _ _ permits (inert_timekeeper s (by decide) (by decide))).trans (if_pos allowed))
  case defers =>
    intro s w m permits last early
    have waits : ¬ stepAllowed (s.answer 0 0) = true := by
      rw [stepAllowed_of_some (s := s.answer 0 0) last, decide_eq_true_iff]
      exact early.not_ge
    exact congrArg Host.Outcome.next ((guarded_of_permitted _ _ _ _ permits (inert_timekeeper s (by decide) (by decide))).trans (if_neg waits))
  case deferred =>
    intro s d m deferred last late
    have allowed : stepAllowed s = true := (stepAllowed_of_some last).trans (decide_eq_true late)
    simp only [exec, execDeferredStep, deferred, allowed, if_true]
  case sync =>
    intro s n origin corr ago mode port parent servo seen
    have takes : ¬ (s.rd PTP_CFG_MODE = 0 ∨ (!ptpPort s n) = true ∨ s.tk.parent ≠ some n) := by simp [mode, port, parent]
    have measured : n ∈ s.tk.delaySeen := by simp [seen]
    refine congrArg Host.Outcome.next ((if_neg takes).trans ((if_pos ?_).trans (if_pos measured)))
    exact (rd_wr_ne _ _ (by decide)).trans servo
  case loss =>
    intro s m last late servo
    simp only [exec, execSyncLoss, last, late, if_true, dropServo, servo, if_false]
  case announce =>
    intro s n x mode port profile domain none
    simp [exec, execPtpAnnounce, ptpAnnounce, mode, port, profile, domain, none]
  case endToEnd =>
    intro s n sender round turn mode port profile
    have takes : ¬ (s.rd PTP_CFG_MODE = 0 ∨ (!ptpPort s n) = true) := by simp [mode, port]
    refine congrArg Host.Outcome.next ((if_neg takes).trans ((if_neg ?_).trans ?_))
    · rw [profile_of_meanDelay]
      exact fun h => absurd (profile.symm.trans h) (by decide)
    · simp only [profile]
      rfl
  case peerToPeer =>
    intro s n sender round turn mode port profile
    have takes : ¬ (s.rd PTP_CFG_MODE = 0 ∨ (!ptpPort s n) = true) := by simp [mode, port]
    have peers : (s.rd PTP_CFG_PROFILE != 0) = true := bne_iff_ne.2 profile
    refine congrArg Host.Outcome.next ((if_neg takes).trans ?_)
    simp only [peers, if_true, profile_of_meanDelay]
    rfl
  case ageout => intro s n sender; rfl
  case neighbour => intro s n missed; exact congrArg Host.Outcome.next (if_pos missed)
  case message =>
    intro s n turn sends oneStep
    simp only [exec, execPtpMessageInterval, ptpMessage, sends, oneStep, Bool.not_true, Bool.false_eq_true, if_false, if_true, sendPtp]
    simp [ptpStamp]

/-! ### Inputs and outputs -/

/-- Settles O10. -/
theorem timekeeperIoCommandsComplete : Obligations.TimekeeperIoCommandsComplete := by
  refine ⟨?txts, ?time, ?arm, ?edge, ?rises, ?overflows, ?tcap, ?grid, ?instant⟩
  case txts =>
    intro s w n t l hn permits stamps
    refine congrArg Host.Outcome.next ((guardedRead_of_permitted _ _ _ _ _ permits (inert_timekeeper s (by omega) (by omega))).trans ?_)
    simp only [popTxts, stamps, List.tail_cons]
  case time =>
    intro s w permits
    exact congrArg Host.Outcome.next (guardedRead_of_permitted _ _ _ _ _ permits (inert_timekeeper s (by decide) (by decide)))
  case arm =>
    intro s w n v hn permits go idle ok
    have idle : toutDue (s.answer 0 0) n = false := idle
    simp only at ok
    refine congrArg Host.Outcome.next ((guarded_of_permitted _ _ _ _ permits (inert_timekeeper s (by omega) (by omega))).trans ?_)
    simp only [go, idle, Bool.false_eq_true, and_false, if_false, Bool.not_true, ok, if_true]
  case edge => intro s n due; exact congrArg Host.Outcome.next (if_pos due)
  case rises =>
    intro s n ago enabled rising filtered room
    simp only [exec, execTcapEdge, tcapEdge, enabled, rising, filtered.not_gt, room, Bool.not_true, Bool.false_eq_true, or_self, if_false, if_true]
  case overflows =>
    intro s n ago enabled falling filtered full
    simp only [exec, execTcapEdge, tcapEdge, enabled, falling, filtered.not_gt, full.not_gt, Bool.not_true, Bool.false_eq_true, or_self, if_false]
    rfl
  case tcap =>
    intro s w n c l hn permits captures
    refine congrArg Host.Outcome.next ((guardedRead_of_permitted _ _ _ _ _ permits (inert_timekeeper s (by omega) (by omega))).trans ?_)
    simp only [popTcap, captures, List.tail_cons]
  case grid =>
    intro s w g v hg permits go
    exact congrArg Host.Outcome.next
      ((guarded_of_permitted _ _ _ _ permits (inert_timekeeper s (by omega) (by omega))).trans (if_pos go))
  case instant =>
    intro s e booked due
    refine congrArg Host.Outcome.next ?_
    have stays : (unbookLaunch (fun x => x.at_ == e.at_ && x.kind != 2) s).tk.launch = if e.kind = 2 then [e] else [] := by
      by_cases kind : e.kind = 2 <;> simp [unbookLaunch, booked, kind]
    have launches : (unbookLaunch (fun x => x.at_ == e.at_ && x.kind != 2) s).tk.launch.contains e = true ∨ e.kind ≠ 2 := by
      rw [stays]
      by_cases kind : e.kind = 2
      · exact .inl (by simp [kind])
      · exact .inr kind
    simp only [launchInstantCmd, booked, List.filter_cons, due, decide_true, if_true, List.filter_nil, List.foldl_nil, beq_self_eq_true,
      List.foldl_cons, if_pos launches]

/-! ### The calendar -/

/-- Settles O11. -/
theorem calendarCommandsComplete : Obligations.CalendarCommandsComplete := by
  refine ⟨?schedule, ?inserted, ?deleted, ?set, ?date, ?realign, ?alarm⟩
  case schedule =>
    intro s w v permits ok
    refine congrArg Host.Outcome.next ((guarded_of_permitted _ _ _ _ permits (inert_timekeeper s (by decide) (by decide))).trans (if_neg ?_))
    rcases ok with none | ok
    · simp [none]
    · simp [ok]
  case inserted =>
    intro s pending insert late
    simp only [exec, execLeapSecond, leapSecond, pending, insert, late, Bool.not_true, Bool.false_eq_true, if_false, if_true]
    rfl
  case deleted =>
    intro s pending delete late
    simp only [exec, execLeapSecond, leapSecond, pending, delete, late, Bool.not_true, Bool.false_eq_true, if_false, if_true]
    rfl
  case set =>
    intro s w v permits go ok
    obtain ⟨valid, free⟩ := ok
    refine congrArg Host.Outcome.next ((guarded_of_permitted _ _ _ _ permits (inert_timekeeper s (by decide) (by decide))).trans ?_)
    simp only [go, valid, free, Bool.not_true, Bool.false_eq_true, if_false]
  case date =>
    intro s w permits
    exact congrArg Host.Outcome.next (guardedRead_of_permitted _ _ _ _ _ permits (inert_timekeeper s (by decide) (by decide)))
  case realign => intro s servo; exact congrArg Host.Outcome.next (if_pos servo)
  case alarm =>
    intro s enabled new reached
    exact congrArg Host.Outcome.next (if_pos ⟨enabled, new, reached⟩)

end Sys2Proof.Machine.Proofs
end

section
/-! PROOFS. The commands complete (chapters 8 and 9): what arrives at the Intake, samples, replay and exposure. -/

namespace Sys2Proof.Machine.Proofs
open Sys2Proof Sys2Proof.Machine Sys2Proof.Machine.Reg Sys2Proof.Machine.Laws Sys2Proof.Safety

/-! ### What arrives at the Intake -/

/-- A packet header without an error is taken up, and the lane shows its high-speed state. -/
theorem packetHeader_good (u : Nat) (s : State) : packetHeader u 0 s = (true, s.wr (UNIT_STATUS_HS u) 1) := rfl

/-- An open frame is closed where there is one. -/
theorem closeOpen_of_none {s : State} {ch : Nat} (h : s.intake.open_.find? (·.chan == ch) = none) (mark : Option Nat) (ended : Bool) (fe : Nat)
    (bad1 bad2 : Bool) : closeOpen ch mark ended fe bad1 bad2 s = s := by simp only [closeOpen, h]

theorem joinUnit_of_joined {s : State} {u : Nat} (h : u ∈ s.intake.csiJoined) (stop : Bool) : joinUnit u stop s = s := by simp [joinUnit, h]

/-- A packet of unit `u` and virtual channel `v` is taken up. -/
theorem packet_taken {s : State} {u v : Nat} (on : intakeOn s = true) (unit : unitOn s u = true) (hv : v < 16) :
    ¬ ((!intakeOn s) = true ∨ (!unitOn s u) = true ∨ 16 ≤ v) := by simp [on, unit, hv]

/-- Writing the lane's state, and what joined its unit, leaves the clock configuration of the unit. -/
theorem continuousClock_wr_lane (s : State) (u n : Nat) (c : Prop) [Decidable c] (i : Intake) :
    (if c then s.wr (UNIT_STATUS_HS u) n else { s.wr (UNIT_STATUS_HS u) n with intake := i }).rdb (UNIT_CFG_CONTCLK u) =
      s.rdb (UNIT_CFG_CONTCLK u) := by
  have kept : (s.wr (UNIT_STATUS_HS u) n).rdb (UNIT_CFG_CONTCLK u) = s.rdb (UNIT_CFG_CONTCLK u) :=
    rdb_wr_ne _ _ (by simp only [UNIT_STATUS_HS, UNIT_CFG_CONTCLK, Field.key]; omega)
  split <;> exact kept

/-- A unit that loses its clock lane leaves unless a frame is open on it; with a continuous clock its frames are closed. -/
theorem clockLaneLoss_eq (s : State) (u : Nat) (unit : unitOn s u = true) :
    exec (.clockLaneLoss u) s = .next
      (let t := s.wr (UNIT_STATUS_HS u) 0
       let r := if s.intake.open_.any (·.chan / 16 == u) then t
         else { t with intake := { t.intake with csiJoined := t.intake.csiJoined.erase u } }
       if s.rdb (UNIT_CFG_CONTCLK u) then truncateUnit u (fun _ => true) r else r) := by
  have config := continuousClock_wr_lane s u 0 (s.intake.open_.any (·.chan / 16 == u) = true)
    { s.intake with csiJoined := s.intake.csiJoined.erase u }
  refine congrArg Host.Outcome.next ((if_pos unit).trans ?_)
  exact if_congr (by rw [← config]; rfl) rfl rfl

/-- The packet in front of the queue, of the kind looked for, goes to the filter that takes it. -/
theorem gvTake_of_filter {s : State} {kind : GvHeader → Bool} {p : GvPacket} {l : List GvPacket} {f : Nat} (first : s.eth.gv = p :: l)
    (looked : kind (gvHeader p.payload) = true)
    (stays : intakeOn (freeCells (accountOf p.port 16) p.cells { s with eth := { s.eth with gv := l } }) = true)
    (filter : gvFilter (freeCells (accountOf p.port 16) p.cells { s with eth := { s.eth with gv := l } }) p = some f) (x y : Bool) :
    gvTake kind x y s = gvMatched f p (gvHeader p.payload) x y
      (freeCells (accountOf p.port 16) p.cells { s with eth := { s.eth with gv := l } }) := by
  simp only [gvTake, first, looked, stays, filter, Bool.not_true, Bool.false_eq_true, if_false]

/-- A leader goes to its stream; its filter has joined then. -/
theorem gvMatched_leader {s t : State} {f n : Nat} {p : GvPacket} {h : GvHeader} (format : h.format = 1)
    (stream : gvStream f p true (if f ∈ s.intake.gvJoined then s
      else { s with intake := { s.intake with gvJoined := f :: s.intake.gvJoined } }) = (some n, t)) (x y : Bool) :
    gvMatched f p h x y s = gvPacket f n p h x y t := by
  simp only [gvMatched, format, ne_eq, not_true_eq_false, false_and, if_false, beq_self_eq_true, stream]

/-- A packet other than a leader goes to the stream of its filter, which has joined. -/
theorem gvMatched_following {s t : State} {f n : Nat} {p : GvPacket} {h : GvHeader} (format : h.format ≠ 1) (joined : f ∈ s.intake.gvJoined)
    (stream : gvStream f p false s = (some n, t)) (x y : Bool) : gvMatched f p h x y s = gvPacket f n p h x y t := by
  simp only [gvMatched, joined, not_true_eq_false, and_false, if_false, if_true, beq_eq_false_iff_ne.mpr format, stream]

/-- Settles O12. -/
theorem intakeCommandsComplete : Obligations.IntakeCommandsComplete := by
  refine ⟨?frameStart, ?line, ?frameEnd, ?lineTimeout, ?laneLost, ?laneEnds, ?leader, ?payload, ?trailer, ?blockTimeout, ?jpeg⟩
  case frameStart =>
    intro s u v fn n x f t on unit hv joined closed stream begins
    simp only at begins
    have takes : ¬ ((!intakeOn s) = true ∨ (!unitOn s u) = true ∨ 16 ≤ v ∨ (!(x || s.intake.csiJoined.contains u)) = true) := by
      simp [on, unit, hv, joined]
    have closed : closeOpen (16 * u + v) (some 1) false (s.wr (UNIT_STATUS_HS u) 1).ts64 false false (s.wr (UNIT_STATUS_HS u) 1) =
        s.wr (UNIT_STATUS_HS u) 1 := closeOpen_of_none (s := s.wr (UNIT_STATUS_HS u) 1) closed _ _ _ _ _
    change Host.Outcome.next (frameStart u v fn 0 x s) = _
    simp only [frameStart, if_neg takes, joinUnit_of_joined joined, packetHeader_good, closed, stream, begins, Bool.not_true, Bool.false_eq_true,
      if_false]
  case line =>
    intro s u v f data on unit hv open_ more
    have open_ : (s.wr (UNIT_STATUS_HS u) 1).intake.open_.find? (·.chan == 16 * u + v) = some f := open_
    refine congrArg Host.Outcome.next ((if_neg (packet_taken on unit hv)).trans ?_)
    simp only [packetHeader_good, open_, ne_eq, not_true_eq_false, Bool.not_true, Bool.false_eq_true, if_false, if_true, if_pos more]
  case frameEnd =>
    intro s u v x y on unit hv open_
    have open_ : (s.wr (UNIT_STATUS_HS u) 1).intake.open_.any (·.chan == 16 * u + v) = true := open_
    refine congrArg Host.Outcome.next ((if_neg (packet_taken on unit hv)).trans ?_)
    simp only [packetHeader_good, open_, Bool.not_true, Bool.false_eq_true, if_false, if_true]
  case lineTimeout => intro s u v unit hv; exact congrArg Host.Outcome.next (if_pos ⟨unit, hv⟩)
  case laneLost => intro s u unit bursts; simp only [clockLaneLoss_eq s u unit, bursts, Bool.false_eq_true, if_false]
  case laneEnds => intro s u unit continuous; simp only [clockLaneLoss_eq s u unit, continuous, if_true]
  case leader =>
    intro s t p l f n first on format taken
    obtain ⟨stays, filter, stream⟩ := taken
    exact congrArg Host.Outcome.next ((gvTake_of_filter first (by simp [format]) stays filter _ _).trans (gvMatched_leader format stream _ _))
  case payload =>
    intro s t p l f n x y first on format taken
    obtain ⟨stays, filter, joined, stream⟩ := taken
    exact congrArg Host.Outcome.next ((gvTake_of_filter first (by simp [format]) stays filter _ _).trans
      (gvMatched_following (by omega) joined stream _ _))
  case trailer =>
    intro s t p l f n x y first on format taken
    obtain ⟨stays, filter, joined, stream⟩ := taken
    exact congrArg Host.Outcome.next ((gvTake_of_filter first (by simp [format]) stays filter _ _).trans
      (gvMatched_following (by omega) joined stream _ _))
  case blockTimeout => intro s n; rfl
  case jpeg =>
    intro s n x y f d next header dims gray color
    have fits : ¬ ((!dimsOk s n d.1 d.2.1) = true ∨ (d.2.2 = 1 ∧ f.fmt ≠ 0) ∨ (d.2.2 = 3 ∧ f.fmt ≠ 5)) := by
      simpa [dims] using ⟨gray, color⟩
    simp only [exec, execJpegDecodeDone, jpegDone, next, header, if_neg fits]
    cases Jpg.decode (f.scan.getD []) <;> rfl

/-! ### Samples, replay, the cache -/

/-- Settles O13. -/
theorem sampleCommandsComplete : Obligations.SampleCommandsComplete := by
  refine ⟨?ready, ?stale, ?replayGo, ?hit, ?miss, ?late, ?stored, ?cciGo, ?commit, ?off, ?inRange, ?limited⟩
  case ready =>
    intro s n f first noScan alone
    change Host.Outcome.next (sampleReady n s) = _
    simp only [sampleReady, first, noScan, alone, Option.isSome_none, Bool.false_eq_true, or_self, if_false]
  case stale => intro s n; rfl
  case replayGo =>
    intro s w v permits go room
    refine congrArg Host.Outcome.next ((guarded_of_permitted _ _ _ _ permits (by apply inert_of_elsewhere <;> decide)).trans ?_)
    exact (if_neg (by simp [go])).trans (if_pos room)
  case hit =>
    intro s r l e replays due found
    simp only [exec, execReplayReady, replayReady, replays, if_neg due.not_gt, found]
  case miss =>
    intro s r l replays due missing
    simp only [exec, execReplayReady, replayReady, replays, if_neg due.not_gt, missing]
  case late =>
    intro s f l frames
    simp only [exec, execCacheEncodeDone, cacheDone, frames, true_or, if_true]
  case stored =>
    intro s f l frames fits
    have stored : ¬ (false = true ∨ s.rd CACHE_CFG_MIB * 2 ^ 20 <
        (encodeFrame { s with intake := { s.intake with encoding := l } } f).code.length) := by
      simpa using fits
    simp only [exec, execCacheEncodeDone, cacheDone, frames]
    exact congrArg Host.Outcome.next (if_neg stored)
  case cciGo =>
    intro s w n v hn permits go
    refine congrArg Host.Outcome.next ((guarded_of_permitted _ _ _ _ permits (by apply inert_of_elsewhere <;> omega)).trans ?_)
    simp only [go, if_true]
  case commit =>
    intro s b fails release c script
    simp only [exec, execCciCommit, cciCommit, script]
    rfl
  case off =>
    intro s n r stats manual
    have config : ({ s with intake := { s.intake with stats := s.intake.stats.erase n } } : State).rdb (EXP_CFG_AE_EN n) = false := manual
    simp only [exec, execAutoExposure, autoExposure, stats, config, Bool.not_false, true_or, if_true]
  case inRange =>
    intro s n r stats auto t want qualified low high new
    have config : t.rdb (EXP_CFG_AE_EN n) = true := auto
    have inside : ¬ (want < max (t.rd (AE_ELIM_E_MIN n)) ((t.rd (AE_ECUR n) + 1) / 2) ∨
        min (t.rd (AE_ELIM_E_MAX n)) (2 * t.rd (AE_ECUR n)) < want) := not_or.mpr ⟨low.not_gt, high.not_gt⟩
    have runs : ¬ ((!t.rdb (EXP_CFG_AE_EN n)) = true ∨ (!qualifies t n r) = true) := by simp [config, qualified]
    simp only [exec, execAutoExposure, autoExposure, stats]
    refine congrArg Host.Outcome.next ((if_neg runs).trans ?_)
    rw [if_neg inside, if_neg low.not_gt, if_neg high.not_gt]
    exact if_neg new
  case limited =>
    intro s n r stats auto t e want lo hi new u qualified outside changed
    have config : t.rdb (EXP_CFG_AE_EN n) = true := auto
    have runs : ¬ ((!t.rdb (EXP_CFG_AE_EN n)) = true ∨ (!qualifies t n r) = true) := by simp [config, qualified]
    have limit : (if want < lo then lo else if hi < want then hi else want) = new := by
      by_cases low : want < lo
      · simp only [new, if_pos low]
      · simp only [new, if_neg low, if_pos (outside.resolve_left low)]
    simp only [exec, execAutoExposure, autoExposure, stats]
    refine congrArg Host.Outcome.next ((if_neg runs).trans ?_)
    rw [if_pos outside]
    exact (if_neg (limit.symm ▸ changed)).trans (by rw [limit]; rfl)

end Sys2Proof.Machine.Proofs
end
